-- ==== Sys2Proof/Word.lean ====
section
/-!
DEFINITION. The word types of the block: bytes, byte strings, and the widths of the DSP registers (R476).
-/

namespace Sys2Proof

/-- One byte. -/
abbrev Byte := BitVec 8

/-- A byte string, lowest address first. -/
abbrev Bytes := List Byte

/-- A 40-bit data register of a DSP core, and the width of its scalar arithmetic (R476). -/
abbrev Word40 := BitVec 40

/-- One lane of an accumulator (R476). -/
abbrev Word48 := BitVec 48

/-- A pointer or modifier register (R476). -/
abbrev Word18 := BitVec 18

/-- A status register (R476). -/
abbrev Word16 := BitVec 16

end Sys2Proof
end

