-- ==== Sys2Proof/Syntax.lean ====
section
/-!
DEFINITION. The commands of the block: one constructor of `Instr` per row of the opcode table, with the row's
operands, and the types the operands need. A command names what acts (a function, a leg, an engine, a core) by its
index, and carries what comes from outside the device at that moment (a value written, a frame received, data read
from host memory).
-/

namespace Sys2Proof

/-- The two mailboxes of a function (R690). -/
inductive Mb where
  | admin
  | media
  deriving DecidableEq, Repr

/-- Where a Uarek command comes from: a mailbox of a function, or an entry of one of its command rings. -/
inductive Src where
  /-- The command latched in mailbox `m` of function `f`. -/
  | mbox (f : Nat) (m : Mb)
  /-- The next posted entry of ring `k` of function `f`; `e` is its 64 bytes as read from host memory (R699). -/
  | ring (f k : Nat) (e : Bytes)
  deriving DecidableEq, Repr

/-- A PCIe configuration request of a function (R678, R796). -/
inductive CfgOp where
  /-- a read of the Device ID -/
  | deviceId
  /-- a read of the class code -/
  | classCode
  /-- a read of the size of BAR0 -/
  | bar0Size
  /-- a write of MSI-X Enable -/
  | msixEnable (on : Bool)
  deriving DecidableEq, Repr

/-- What a packet's codec payload says (Table 3-7, and the standards it names): first and last packet of its frame, key
or other switch point, temporal and spatial layer, temporal up-switch point, PictureID and TL0PICIDX of VP8, the AV1
frame number, template structure carried (`struct`), whether the template resolves, the targets (spatial * 4 + temporal)
with decode target indication SWITCH, end of frame. For decoding: width, height, bit depth, whether the frame is a
reference, the RTP timestamps of the frames it refers to, whether profile and level are within Table 5-1, whether it
keeps to the tools of Table 5-2, and whether it carries a recovery point SEI. -/
structure Info where
  start   : Bool := true
  last    : Bool := true
  key     : Bool := false
  switch_ : Bool := false
  tid     : Nat := 0
  sid     : Nat := 0
  up      : Bool := false
  picId   : Nat := 0
  tl0     : Nat := 0
  frameNo : Nat := 0
  struct  : Option Nat := none
  resolves : Bool := true
  targets : List Nat := []
  eof     : Bool := true
  width   : Nat := 0
  height  : Nat := 0
  depth   : Nat := 8
  isRef   : Bool := true
  refs    : List Nat := []
  profOk  : Bool := true
  toolOk  : Bool := true
  recov   : Bool := false
  deriving DecidableEq, Repr

/-- One report of a packet in RFC 8888 feedback: SSRC, sequence number, received, arrival time in ns of the receiver's
clock before the report time. -/
structure CcItem where
  ssrc : Nat
  seq  : Nat
  recv : Bool
  ago  : Nat
  deriving DecidableEq, Repr

/-- An RTCP message of a compound (Table 4-1), with its fields as the standard lays them out. -/
inductive Rtcp where
  /-- sender report: SSRC, NTP time, RTP time -/
  | sr (ssrc ntp rtp : Nat)
  /-- report block: media SSRC, fraction lost, extended highest sequence number, LSR, DLSR (1/65,536 s) -/
  | rr (ssrc frac ext lsr dlsr : Nat)
  /-- RFC 8888 feedback: report timestamp in ns of the receiver's clock, items -/
  | ccfb (rts : Nat) (items : List CcItem)
  /-- REMB: bit rate and SSRC list -/
  | remb (rate : Nat) (ssrcs : List Nat)
  /-- generic NACK: media SSRC and lost sequence numbers -/
  | nack (ssrc : Nat) (seqs : List Nat)
  /-- PLI: media SSRC -/
  | pli (ssrc : Nat)
  /-- FIR: media SSRC and FIR sequence number -/
  | fir (ssrc seq : Nat)
  /-- any other transport or payload-specific feedback, TMMBR among it -/
  | other
  /-- SDES, BYE, APP or an unknown packet type (Table 3-6, RTCP_COPY) -/
  | misc (typ : Nat)
  deriving DecidableEq, Repr

/-- What comes with a received frame besides its bytes: the master key and salt under which its SRTP or SRTCP tag
verifies (none: under no key), the plaintext after decryption, the SRTCP index and E flag, the RTCP messages of the
compound, whether the compound is valid, and the codec's layer information. `plain` is the RTP payload, or the whole RTCP
compound; a frame that is not protected needs none. -/
structure FrameX where
  key   : Option Bytes := none
  plain : Bytes := []
  index : Nat := 0
  eflag : Bool := true
  rtcp  : List Rtcp := []
  valid : Bool := true
  info  : Info := {}
  deriving DecidableEq, Repr

/-- What the bitstream makes of one decoded frame (the standards of Table 5-1): the RTP timestamps of the pictures that
the output process puts out now, in order, and of those kept as references; whether a syntax or semantic error was met
(`bad`); poisoned data the engine read (0 none, 1 bitstream, 2 the references of `poisonRefs`, 3 context); whether this
is the recovery point that a recovery point SEI named; the film grain seed. -/
structure DecRes where
  outs   : List Nat := []
  keep   : List Nat := []
  bad    : Bool := false
  poison : Nat := 0
  poisonRefs : List Nat := []
  recovered : Bool := false
  grain  : Nat := 0
  deriving DecidableEq, Repr

/-- What mode decisions and entropy coding make of one rung picture (R381, not specified to the bit): the bits of each
block as first coded, and in its fill form, in coding order; the bits of the picture's tail; the RTP payloads with the
spatial layer of each; poisoned data the engine read (0 none, 1 the composed picture, under the blocks `bad`, 2 a
reconstruction, 3 context). -/
structure EncRes where
  coded  : List Nat := []
  fill   : List Nat := []
  tail   : Nat := 0
  pays   : List (Nat × Bytes) := []
  poison : Nat := 0
  bad    : List Nat := []
  deriving DecidableEq, Repr

/-- A DRAM request on its way to a bank queue (R647): class 0 FIXED, 1 SPILL, 2 FLOATING, write or read, bytes, requester
of Table 13-6, the partition on whose behalf it is made, whether a write carries poison, its DPA. -/
structure DramIn where
  cls    : Nat
  write  : Bool
  bytes  : Nat
  unit   : Nat
  part   : Option Nat
  poison : Bool
  dpa    : Nat
  deriving DecidableEq, Repr

/-- What encoding makes of a back job (Table 8-2, codecs outside this text): a payload for each outgoing stream in order,
whether DTX withholds the period's packet, a lockstep mismatch (R467). -/
structure BackRes where
  pays : List Bytes := []
  dtx  : Bool := false
  bad  : Bool := false
  deriving DecidableEq, Repr

/-- What a frame edge brings at an audio port (R532): whether a whole frame came, a sample for each slot or channel,
the channels whose parity failed, those whose validity bit was set, and, in HOST mode, the output frame read from host
memory. -/
structure AudFrame where
  good : Bool := true
  smp  : List Int := []
  par  : List Nat := []
  val  : List Nat := []
  host : Bytes := []
  deriving DecidableEq, Repr

/-- The index words that host software holds for one HOST leg or HOST-mode audio port (R721): its table key, and the IN
producer, OUT consumer and packet consumer index. -/
structure HostIdx where
  key  : Nat
  inP  : Nat
  outC : Nat
  pktC : Nat
  deriving DecidableEq, Repr

/-- What a start-up meets (Table 17-1): byte strings that the board has programmed into the flash since the latest start-up,
with their addresses; the IO33_SEL straps; whether the flash answers and its reads repeat; whether the SPD hubs, if any,
agree with the boot block; for each lane of DRAM, the Vref values swept, each with the delays from −64 to 63 at which the
pattern passed (R656); a rank and lane that fails another training step; whether the stored training record's identity
matches and its points pass (R657); an instance that fails BIST; whether the PLLs lock; the time in µs at which each
boot log entry is written. -/
structure BootEnv where
  flash  : List (Nat × Bytes) := []
  straps : Nat := 0
  xspi   : Bool := true
  spd    : Bool := true
  eyes   : List (Nat × List (Nat × List Bool)) := []
  t7     : Option (Nat × Nat × Nat) := none
  stored : Bool := false
  bist   : Option Nat := none
  plls   : Bool := true
  us     : List Nat := []
  deriving DecidableEq, Repr

/-- A command of the opcode table. -/
inductive Instr where
  /-- PHC_TICK (R77) -/
  | phcTick (n : Nat)
  /-- STROKE_BOUNDARY (R101) -/
  | strokeBoundary (idx : List HostIdx)
  /-- INCREASE_EVALUATION (R229) -/
  | increaseEvaluation
  /-- PROBE_END (R237) -/
  | probeEnd (l : Nat)
  /-- PROBE_UNRESOLVED_TIMEOUT (R237) -/
  | probeUnresolvedTimeout (l : Nat)
  /-- FEEDBACK_STALLED (R234) -/
  | feedbackStalled (l : Nat)
  /-- SWITCH_WAIT_EXPIRY (R246) -/
  | switchWaitExpiry (x : Nat)
  /-- REFRESH_LIMIT_EXPIRY (R253) -/
  | refreshLimitExpiry (k : Nat)
  /-- REFRESH_RETRY (R255) -/
  | refreshRetry (y : Nat)
  /-- RTCP_REPORT_SEND (R256) -/
  | rtcpReportSend (l : Nat)
  /-- CCFB_FEEDBACK_SEND (R256) -/
  | ccfbFeedbackSend (l : Nat)
  /-- CONSERVATION_AUDIT (R791) -/
  | conservationAudit (found : List (Nat × Nat × Nat × Int))
  /-- MIX_PERIOD_BOUNDARY (R103) -/
  | mixPeriodBoundary (c : Nat) (ins : List (Nat × Bytes))
  /-- JB_DEPTH_ADAPT (R174) -/
  | jbDepthAdapt (x : Nat)
  /-- AUDIO_FRONT_JOB (R409) -/
  | audioFrontJob (k : Nat) (tone : Option Nat) (bad : Bool)
  /-- RANKING_JOB (R434) -/
  | rankingJob (c : Nat) (bad : Bool)
  /-- MIX_JOB (R436) -/
  | mixJob (c : Nat) (bad : Bool)
  /-- BACK_JOB (R446) -/
  | backJob (l : Nat) (z : BackRes)
  /-- BACK_JOB_ABANDON (R413) -/
  | backJobAbandon (l : Nat)
  /-- TAG_MISSING_TIMEOUT (R470) -/
  | tagMissingTimeout (l : Nat)
  /-- AES67_PACKET_SEND (R200) -/
  | aes67PacketSend (x : Nat)
  /-- DTMF_END_TIMEOUT (R454) -/
  | dtmfEndTimeout (x : Nat)
  /-- FRAME_INSTANT (R104) -/
  | frameInstant (r : Nat)
  /-- READINESS_CHECK (R332) -/
  | readinessCheck (y : Nat)
  /-- COMPOSITION_START (R341) -/
  | compositionStart (c : Nat)
  /-- BAND_HANDOFF (R344) -/
  | bandHandoff (y : Nat)
  /-- COMPOSITION_COMPLETE (R349) -/
  | compositionComplete (y : Nat)
  /-- ENGINE_PICK (R274) -/
  | enginePick (e : Nat)
  /-- DECODER_CREDIT (R272) -/
  | decoderCredit (x : Nat)
  /-- DECODE_FRAME_COMPLETE (R280) -/
  | decodeFrameComplete (e : Nat) (r : DecRes)
  /-- SYNC_WAIT_REFRESH (R270) -/
  | syncWaitRefresh (x : Nat)
  /-- VIDEO_HOLD_EXPIRY (R177) -/
  | videoHoldExpiry (x : Nat)
  /-- ENCODE_PICTURE_COMPLETE (R374) -/
  | encodePictureComplete (e : Nat) (z : EncRes)
  /-- ENGINE_WATCHDOG_EXPIRY (R293) -/
  | engineWatchdogExpiry (e : Nat)
  /-- ENGINE_RESET_END (R293) -/
  | engineResetEnd (e : Nat)
  /-- GATE_ENTRY_CHANGE (R589) -/
  | gateEntryChange (p : Nat)
  /-- GATE_CYCLE_BOUNDARY (R589) -/
  | gateCycleBoundary (p : Nat)
  /-- GATE_LIST_ACTIVE (R590) -/
  | gateListActive (p : Nat)
  /-- DISPLAY_VSYNC (R350) -/
  | displayVsync (e : Int)
  /-- PPS_OUT_EDGE (R122) -/
  | ppsOutEdge
  /-- PPS_IN_STAMP (R123) -/
  | ppsInStamp
  /-- REF_LOST (R121) -/
  | refLost (input : Nat)
  /-- HOLDOVER_ENTRY (R118) -/
  | holdoverEntry (clk : Bool)
  /-- HOLDOVER_STEER (R119) -/
  | holdoverSteer (v : Nat)
  /-- FIRMWARE_SERVO_UPDATE (R99) -/
  | firmwareServoUpdate (off c : Int) (v : Nat)
  /-- ETH_FRAME_RECEIVE (R146) -/
  | ethFrameReceive (p : Nat) (fcsOk : Bool) (bytes : Bytes) (x : FrameX)
  /-- PREVIOUS_KEY_ERASE (R157) -/
  | previousKeyErase (l : Nat)
  /-- EXCEPTION_DELIVERY (R717) -/
  | exceptionDelivery (p : Nat)
  /-- FLOW_CONTROL_FRAME_RECEIVE (R585) -/
  | flowControlFrameReceive (p : Nat) (pfc : Bool) (mask : Nat) (quanta : List Nat)
  /-- PAUSE_HOLD_EXPIRY (R585) -/
  | pauseHoldExpiry (p c : Nat)
  /-- LINK_UP (R140) -/
  | linkUp (p : Nat)
  /-- LINK_DOWN (R587) -/
  | linkDown (p : Nat)
  /-- PACER_RELEASE (R579) -/
  | pacerRelease (q : Nat)
  /-- HOST_LIMITER_RELEASE (R581) -/
  | hostLimiterRelease (p : Nat)
  /-- CLASS_PICK (R584) -/
  | classPick (p : Nat) (bad : Bool)
  /-- TX_STAMP_DELIVERY (R95) -/
  | txStampDelivery (p : Nat)
  /-- HELD_PUSH_RETRY (R620) -/
  | heldPushRetry (q : Nat)
  /-- RX_HOLD_EXPIRY (R621) -/
  | rxHoldExpiry (p : Nat)
  /-- PFC_REPEAT (R623) -/
  | pfcRepeat (p r : Nat)
  /-- SPILL_MOVE_COMPLETE (R618) -/
  | spillMoveComplete (q : Nat)
  /-- QUEUE_FLUSH_APPLY (R626) -/
  | queueFlushApply (q : Nat)
  /-- QGROUP_EVENT_WINDOW (R630) -/
  | qgroupEventWindow (g : Nat)
  /-- QXOFF_MIN_EXPIRY (R634) -/
  | qxoffMinExpiry (n : Nat)
  /-- AUDIO_FRAME_EDGE (R532) -/
  | audioFrameEdge (p : Nat) (f : AudFrame)
  /-- AES3_CS_BLOCK (R549) -/
  | aes3CsBlock (p : Nat) (a b : Bytes)
  /-- AES3_NONAUDIO_END (R551) -/
  | aes3NonaudioEnd (p : Nat)
  /-- PORT_CLOCK_LOSS (R542) -/
  | portClockLoss (p : Nat)
  /-- PORT_HOLD_FRAME (R543) -/
  | portHoldFrame (p : Nat)
  /-- PORT_RATE_MEASURE (R545) -/
  | portRateMeasure (p r : Nat)
  /-- PLANE_RAMP_END (R559) -/
  | planeRampEnd (l side : Nat)
  /-- HPD_RISE (R353) -/
  | hpdRise (edid : Bytes)
  /-- HPD_FALL (R353) -/
  | hpdFall
  /-- DISPLAY_TRAINING_DONE (R353) -/
  | displayTrainingDone (ok : Bool)
  /-- DRAM_REQUEST_ISSUE (R648) -/
  | dramRequestIssue (ch b : Nat) (arr : List DramIn)
  /-- DRAM_READ_RESPONSE (R662) -/
  | dramReadResponse (ch b res sym syn who : Nat)
  /-- DRAM_COMMAND_TIMEOUT (R664) -/
  | dramCommandTimeout (ch b who : Nat)
  /-- NOC_TIMEOUT (R752) -/
  | nocTimeout (req who n : Nat)
  /-- DRAM_REFRESH (R653) -/
  | dramRefresh (ch rank : Nat)
  /-- DRAM_TEMP_POLL (R653) -/
  | dramTempPoll (ch rank temp : Nat) (hot bad : Bool)
  /-- DQS_DRIFT_CHECK (R659) -/
  | dqsDriftCheck (ch lane : Nat) (d : Int)
  /-- RETRAIN_SLICE (R660) -/
  | retrainSlice (ch rank : Nat) (pts : List (Int × Nat × Nat))
  /-- PATROL_SCRUB (R663) -/
  | patrolScrub (res sym syn : Nat)
  /-- POWER_DOWN_ENTRY (R654) -/
  | powerDownEntry (ch rank : Nat)
  /-- SELF_REFRESH_ENTRY (R654) -/
  | selfRefreshEntry (ch : Nat)
  /-- EXTENT_ZEROING_COMPLETE (R670) -/
  | extentZeroingComplete (e : Nat)
  /-- DOORBELL_WRITE (R691) -/
  | doorbellWrite (f : Nat) (m : Mb) (seq : Nat)
  /-- ACK_WRITE (R691) -/
  | ackWrite (f : Nat) (m : Mb) (seq : Nat)
  /-- COMMAND_AREA_WRITE (R692) -/
  | commandAreaWrite (f : Nat) (m : Mb) (off : Nat) (data : Bytes)
  /-- MAILBOX_SERVICE_TIMEOUT (R694) -/
  | mailboxServiceTimeout (f : Nat) (m : Mb)
  /-- HOST_IFACE_WRITE (R696) -/
  | hostIfaceWrite (f : Nat) (v : Nat)
  /-- FUNC_STATUS_CLEAR (R689) -/
  | funcStatusClear (f : Nat) (v : Nat)
  /-- REGISTER_WRITE (R688) -/
  | registerWrite (f : Nat) (off : Nat) (data : Bytes)
  /-- RING_TAIL_WRITE (R701) -/
  | ringTailWrite (f k : Nat) (v : Nat)
  /-- RING_ENTRY_EXECUTE (R702) -/
  | ringEntryExecute (f k : Nat) (e dma : Bytes)
  /-- HEAD_WRITEBACK (R705) -/
  | headWriteback (f k : Nat)
  /-- EQ_HEAD_WRITE (R710) -/
  | eqHeadWrite (f q : Nat) (v : Nat)
  /-- EVENT_BACKLOG_DRAIN (R714) -/
  | eventBacklogDrain (f : Nat)
  /-- COALESCE_TIMEOUT (R715) -/
  | coalesceTimeout (f q : Nat)
  /-- MSIX_UNMASK (R679) -/
  | msixUnmask (f v : Nat)
  /-- FENCE_WRITE (R724) -/
  | fenceWrite (f n : Nat) (data : Bytes)
  /-- FENCE_ADD_WRITE (R724) -/
  | fenceAddWrite (f n : Nat) (data : Bytes)
  /-- EXC_HEAD_WRITE (R717) -/
  | excHeadWrite (f : Nat) (v : Nat)
  /-- HTX_TAIL_WRITE (R718) -/
  | htxTailWrite (f : Nat) (v : Nat)
  /-- TEX_HEAD_WRITE (R719) -/
  | texHeadWrite (f : Nat) (v : Nat)
  /-- TTX_TAIL_WRITE (R719) -/
  | ttxTailWrite (f : Nat) (v : Nat)
  /-- HOST_TX_FETCH (R718) -/
  | hostTxFetch (f : Nat) (desc frame : Bytes)
  /-- TIME_TRANSMIT_FETCH (R719) -/
  | timeTransmitFetch (f : Nat) (desc frame : Bytes)
  /-- FUNCTION_LEVEL_RESET (R681) -/
  | functionLevelReset (f : Nat)
  /-- HOST_PORT_RESET (R676) -/
  | hostPortReset (p : Nat) (low : Bool)
  /-- CONFIG_REQUEST (R796) -/
  | configRequest (f : Nat) (c : CfgOp)
  /-- OWNER_TRANSFER_EXPIRY (R682) -/
  | ownerTransferExpiry
  /-- NOP (R699) -/
  | nop (src : Src)
  /-- IDENTIFY (R737) -/
  | identify (src : Src)
  /-- RING_CREATE (R698) -/
  | ringCreate (src : Src)
  /-- RING_DELETE (R850) -/
  | ringDelete (src : Src)
  /-- RING_RESTART (R704) -/
  | ringRestart (src : Src)
  /-- EQ_CREATE (R707) -/
  | eqCreate (src : Src)
  /-- EQ_DELETE (R850) -/
  | eqDelete (src : Src)
  /-- EVENT_ROUTE (R711) -/
  | eventRoute (src : Src)
  /-- HOST_RING_CREATE (R716) -/
  | hostRingCreate (src : Src)
  /-- HOST_RING_DELETE (R850) -/
  | hostRingDelete (src : Src)
  /-- DMA_WINDOW_ADD (R726) -/
  | dmaWindowAdd (src : Src)
  /-- DMA_WINDOW_REMOVE (R726) -/
  | dmaWindowRemove (src : Src)
  /-- PARTITION_CREATE (R684) -/
  | partitionCreate (src : Src)
  /-- PARTITION_MODIFY (R685) -/
  | partitionModify (src : Src)
  /-- PARTITION_DELETE (R687) -/
  | partitionDelete (src : Src)
  /-- PARTITION_READ (R738) -/
  | partitionRead (src : Src)
  /-- FUNCTION_ASSIGN (R683) -/
  | functionAssign (src : Src)
  /-- OWNER_TRANSFER (R682) -/
  | ownerTransfer (src : Src)
  /-- OWNER_ACCEPT (R682) -/
  | ownerAccept (src : Src)
  /-- MEM_SETS (R644) -/
  | memSets (src : Src)
  /-- MEM_KEY_INSTALL (R672) -/
  | memKeyInstall (src : Src)
  /-- MEM_TIMERS (R652) -/
  | memTimers (src : Src)
  /-- SPILL_CONFIG (R612) -/
  | spillConfig (src : Src)
  /-- KERNEL_CORES (R505) -/
  | kernelCores (src : Src)
  /-- TIME_GET (R85) -/
  | timeGet (src : Src)
  /-- TIME_CONFIG (R111) -/
  | timeConfig (src : Src)
  /-- TIME_SET (R112) -/
  | timeSet (src : Src)
  /-- TIME_ADJ_FREQ (R81) -/
  | timeAdjFreq (src : Src)
  /-- TIME_ADJ_PHASE (R112) -/
  | timeAdjPhase (src : Src)
  /-- PORT_TIME_CORR (R89) -/
  | portTimeCorr (src : Src)
  /-- PPS_CONFIG (R122) -/
  | ppsConfig (src : Src)
  /-- UTC_OFFSET_SET (R78) -/
  | utcOffsetSet (src : Src)
  /-- PORT_CONFIG (R742) -/
  | portConfig (src : Src)
  /-- PORT_READ (R565) -/
  | portRead (src : Src)
  /-- PORT_SLOTS (R539) -/
  | portSlots (src : Src)
  /-- AUDIO_CLOCK (R534) -/
  | audioClock (src : Src)
  /-- AES3_READ (R549) -/
  | aes3Read (src : Src)
  /-- AES3_OUT_STATUS (R552) -/
  | aes3OutStatus (src : Src)
  /-- KERF_PORT_CONFIG (R595) -/
  | kerfPortConfig (src : Src)
  /-- GATE_LIST_SET (R590) -/
  | gateListSet (src : Src) (dma : Bytes)
  /-- GATE_LIST_READ (R591) -/
  | gateListRead (src : Src)
  /-- QXOFF_CONFIG (R633) -/
  | qxoffConfig (src : Src)
  /-- DISPLAY_CONFIG (R347) -/
  | displayConfig (src : Src)
  /-- DISPLAY_EDID (R353) -/
  | displayEdid (src : Src)
  /-- MAC_FILTER_ADD (R143) -/
  | macFilterAdd (src : Src)
  /-- MAC_FILTER_REMOVE (R741) -/
  | macFilterRemove (src : Src)
  /-- ADDRESS_ADD (R147) -/
  | addressAdd (src : Src)
  /-- ADDRESS_REMOVE (R850) -/
  | addressRemove (src : Src)
  /-- DSCP_TABLE_SET (R167) -/
  | dscpTableSet (src : Src)
  /-- CONFERENCE_CREATE (R744) -/
  | conferenceCreate (src : Src)
  /-- CONFERENCE_MODIFY (R432) -/
  | conferenceModify (src : Src)
  /-- CONFERENCE_ACTIVATE (R23) -/
  | conferenceActivate (src : Src)
  /-- CONFERENCE_HOLD (R23) -/
  | conferenceHold (src : Src)
  /-- CONFERENCE_DELETE (R26) -/
  | conferenceDelete (src : Src)
  /-- CONFERENCE_READ (R744) -/
  | conferenceRead (src : Src)
  /-- LEG_CREATE (R744) -/
  | legCreate (src : Src)
  /-- LEG_MODIFY (R39) -/
  | legModify (src : Src)
  /-- LEG_ACTIVATE (R37) -/
  | legActivate (src : Src)
  /-- LEG_HOLD (R23) -/
  | legHold (src : Src)
  /-- LEG_DELETE (R26) -/
  | legDelete (src : Src)
  /-- LEG_READ (R744) -/
  | legRead (src : Src)
  /-- STREAM_CREATE (R744) -/
  | streamCreate (src : Src)
  /-- STREAM_MODIFY (R267) -/
  | streamModify (src : Src)
  /-- STREAM_ACTIVATE (R264) -/
  | streamActivate (src : Src)
  /-- STREAM_HOLD (R270) -/
  | streamHold (src : Src)
  /-- STREAM_DELETE (R26) -/
  | streamDelete (src : Src)
  /-- STREAM_READ (R744) -/
  | streamRead (src : Src)
  /-- LAYOUT_CREATE (R312) -/
  | layoutCreate (src : Src)
  /-- LAYOUT_MODIFY (R312) -/
  | layoutModify (src : Src)
  /-- LAYOUT_ACTIVATE (R61) -/
  | layoutActivate (src : Src)
  /-- LAYOUT_HOLD (R23) -/
  | layoutHold (src : Src)
  /-- LAYOUT_DELETE (R26) -/
  | layoutDelete (src : Src)
  /-- LAYOUT_READ (R744) -/
  | layoutRead (src : Src)
  /-- LAYER_CREATE (R313) -/
  | layerCreate (src : Src)
  /-- LAYER_MODIFY (R317) -/
  | layerModify (src : Src)
  /-- LAYER_ACTIVATE (R23) -/
  | layerActivate (src : Src)
  /-- LAYER_HOLD (R23) -/
  | layerHold (src : Src)
  /-- LAYER_DELETE (R23) -/
  | layerDelete (src : Src)
  /-- LAYER_READ (R313) -/
  | layerRead (src : Src)
  /-- RUNG_CREATE (R361) -/
  | rungCreate (src : Src)
  /-- RUNG_MODIFY (R364) -/
  | rungModify (src : Src)
  /-- RUNG_ACTIVATE (R365) -/
  | rungActivate (src : Src)
  /-- RUNG_HOLD (R368) -/
  | rungHold (src : Src)
  /-- RUNG_DELETE (R26) -/
  | rungDelete (src : Src)
  /-- RUNG_READ (R404) -/
  | rungRead (src : Src)
  /-- KEY_INSTALL (R746) -/
  | keyInstall (src : Src)
  /-- GOVERNOR_CONFIG (R238) -/
  | governorConfig (src : Src)
  /-- GOVERNOR_READ (R258) -/
  | governorRead (src : Src)
  /-- DECODER_READ (R299) -/
  | decoderRead (src : Src)
  /-- POLICER_CONFIG (R600) -/
  | policerConfig (src : Src)
  /-- COEF_LOAD (R322) -/
  | coefLoad (src : Src) (dma : Bytes)
  /-- COEF_UNLOAD (R321) -/
  | coefUnload (src : Src)
  /-- LAYER_FLIP (R333) -/
  | layerFlip (src : Src)
  /-- RUNG_REFRESH (R383) -/
  | rungRefresh (src : Src)
  /-- RUNG_KEY (R389) -/
  | rungKey (src : Src)
  /-- SURFACE_CREATE (R305) -/
  | surfaceCreate (src : Src)
  /-- SURFACE_DELETE (R27) -/
  | surfaceDelete (src : Src)
  /-- SURFACE_INFO (R306) -/
  | surfaceInfo (src : Src)
  /-- SURFACE_WRITE (R747) -/
  | surfaceWrite (src : Src) (dma : Bytes)
  /-- SURFACE_READ (R747) -/
  | surfaceRead (src : Src)
  /-- FENCE_CREATE (R724) -/
  | fenceCreate (src : Src)
  /-- FENCE_DELETE (R27) -/
  | fenceDelete (src : Src)
  /-- FENCE_SIGNAL (R702) -/
  | fenceSignal (src : Src)
  /-- AUDIO_READ (R473) -/
  | audioRead (src : Src)
  /-- MIX_READ (R435) -/
  | mixRead (src : Src)
  /-- HRTF_LOAD (R445) -/
  | hrtfLoad (src : Src) (dma : Bytes)
  /-- HRTF_UNLOAD (R444) -/
  | hrtfUnload (src : Src)
  /-- PLAY_CLIP (R458) -/
  | playClip (src : Src)
  /-- CLIP_STOP (R459) -/
  | clipStop (src : Src)
  /-- DTMF_SEND (R456) -/
  | dtmfSend (src : Src)
  /-- PLANE_STOP (R560) -/
  | planeStop (src : Src)
  /-- PLANE_LOAD (R564) -/
  | planeLoad (src : Src) (dma : Bytes)
  /-- PLANE_START (R560) -/
  | planeStart (src : Src)
  /-- PLANE_READ (R559) -/
  | planeRead (src : Src)
  /-- KERNEL_LOAD (R508) -/
  | kernelLoad (src : Src) (dma : Bytes)
  /-- KERNEL_UNLOAD (R509) -/
  | kernelUnload (src : Src)
  /-- KERNEL_READ (R525) -/
  | kernelRead (src : Src)
  /-- KERNEL_RESUME (R522) -/
  | kernelResume (src : Src)
  /-- STATS_READ (R748) -/
  | statsRead (src : Src)
  /-- QUEUE_READ (R635) -/
  | queueRead (src : Src)
  /-- QUEUE_CONFIG (R625) -/
  | queueConfig (src : Src)
  /-- QUEUE_FLUSH (R626) -/
  | queueFlush (src : Src)
  /-- QGROUP_SET (R627) -/
  | qgroupSet (src : Src)
  /-- QGROUP_CONFIG (R628) -/
  | qgroupConfig (src : Src)
  /-- QGROUP_READ (R631) -/
  | qgroupRead (src : Src)
  /-- QGROUP_CLEAR (R631) -/
  | qgroupClear (src : Src)
  /-- HIST_CONFIG (R602) -/
  | histConfig (src : Src)
  /-- HIST_READ (R604) -/
  | histRead (src : Src)
  /-- BATTEN_AUDIT (R638) -/
  | battenAudit (src : Src)
  /-- MEM_STATUS (R673) -/
  | memStatus (src : Src)
  /-- MEM_LOG_READ (R668) -/
  | memLogRead (src : Src)
  /-- MEM_LOG_CLEAR (R668) -/
  | memLogClear (src : Src)
  /-- AUDIT_READ (R793) -/
  | auditRead (src : Src)
  /-- HEALTH_READ (R786) -/
  | healthRead (src : Src)
  /-- FAULT_ACK (R764) -/
  | faultAck (src : Src)
  /-- FW_INFO (R749) -/
  | fwInfo (src : Src)
  /-- FW_UPDATE_BEGIN (R819) -/
  | fwUpdateBegin (src : Src)
  /-- FW_UPDATE_DATA (R820) -/
  | fwUpdateData (src : Src) (dma : Bytes)
  /-- FW_UPDATE_COMMIT (R824) -/
  | fwUpdateCommit (src : Src)
  /-- FW_ACTIVATE (R825) -/
  | fwActivate (src : Src)
  /-- DEBUG_CHALLENGE (R817) -/
  | debugChallenge (src : Src)
  /-- DEBUG_UNLOCK (R818) -/
  | debugUnlock (src : Src)
  /-- DEBUG_CHALLENGE_EXPIRY (R817) -/
  | debugChallengeExpiry
  /-- ACTIVATION_RESET (R825) -/
  | activationReset (env : BootEnv)
  /-- FLASH_OPERATION_COMPLETE (R820) -/
  | flashOperationComplete (got : Option Bytes)
  /-- HOLDUP_SAMPLE (R788) -/
  | holdupSample (uv : Nat)
  /-- STORE_RETRY (R789) -/
  | storeRetry
  /-- POWER_FAIL (R790) -/
  | powerFail
  /-- POWER_RESTORE (R790) -/
  | powerRestore
  /-- PORST_FALL (R794) -/
  | porstFall
  /-- PORST_RISE (R797) -/
  | porstRise (env : BootEnv)
  /-- BOOT_STORE (R801) -/
  | bootStore
  /-- FIRMWARE_HEARTBEAT (R772) -/
  | firmwareHeartbeat
  /-- CLAMP_HEARTBEAT (R773) -/
  | clampHeartbeat
  /-- BENCH_WATCHDOG_EXPIRY (R772) -/
  | benchWatchdogExpiry
  /-- FW_RESTARTED (R774) -/
  | fwRestarted
  /-- SEQUENCER_ALONE_EXPIRY (R137) -/
  | sequencerAloneExpiry
  /-- DEVICE_WATCHDOG_EXPIRY (R773) -/
  | deviceWatchdogExpiry
  /-- DEVICE_RECOVERED (R695) -/
  | deviceRecovered (bad : List (Nat × Nat))
  /-- FIRMWARE_TASK_TIMEOUT (R771) -/
  | firmwareTaskTimeout (cmd : Option (Nat × Mb))
  /-- DSP_WATCHDOG_EXPIRY (R503) -/
  | dspWatchdogExpiry (c : Nat)
  /-- CLOCK_MONITOR_FAULT (R752) -/
  | clockMonitorFault (d khz : Nat)
  /-- VOLTAGE_MONITOR_FAULT (R756) -/
  | voltageMonitorFault (rail mv : Nat)
  /-- AVS_READBACK_CHECK (R756) -/
  | avsReadbackCheck (mv : Nat)
  /-- CLAMP_LOCKSTEP_MISMATCH (R752) -/
  | clampLockstepMismatch
  /-- JUNCTION_SENSOR_SAMPLE (R847) -/
  | junctionSensorSample (ts : List Int)
  /-- MARGIN_PLAN_RUN (R779) -/
  | marginPlanRun (rs : List (Nat × Nat)) (vmin : List Nat) (vs eye : Nat)
  /-- DAILY_HISTORY_STORE (R785) -/
  | dailyHistoryStore
  /-- PMBUS_TELEMETRY_POLL (R843) -/
  | pmbusTelemetryPoll (data : Bytes)
  /-- PAGE (R844) -/
  | page (wr : Option Nat) (bad : Bool)
  /-- STATE (R844) -/
  | state
  /-- IDENT (R844) -/
  | ident
  /-- FAULTS (R844) -/
  | faults
  /-- BOOT_LOG (R844) -/
  | bootLog
  /-- TEMPS (R844) -/
  | temps
  /-- SMBUS_ALERT_RESPONSE (R845) -/
  | smbusAlertResponse
  /-- JTAG_ACCESS (R816) -/
  | jtagAccess (op : Nat)
  /-- KERNEL_OVERRUN (R516) -/
  | kernelOverrun (c : Nat)
  /-- KERNEL_DMA_COMPLETE (R501) -/
  | kernelDmaComplete (c n : Nat) (bad : Bool)
  /-- CORE_INTERRUPT (R502) -/
  | coreInterrupt (c n : Nat)
  /-- SLOT_NOP (R483) -/
  | slotNop (c : Nat)
  /-- ADD (R486) -/
  | add (c : Nat)
  /-- SUB (R486) -/
  | sub (c : Nat)
  /-- ADDI (R486) -/
  | addi (c : Nat)
  /-- NEG (R486) -/
  | neg (c : Nat)
  /-- ABS (R486) -/
  | abs (c : Nat)
  /-- MIN (R486) -/
  | min (c : Nat)
  /-- MAX (R486) -/
  | max (c : Nat)
  /-- AND (R486) -/
  | and (c : Nat)
  /-- OR (R486) -/
  | or (c : Nat)
  /-- XOR (R486) -/
  | xor (c : Nat)
  /-- SHLI (R486) -/
  | shli (c : Nat)
  /-- SHRI (R486) -/
  | shri (c : Nat)
  /-- SHLE (R492) -/
  | shle (c : Nat)
  /-- MUL (R486) -/
  | mul (c : Nat)
  /-- MAC (R486) -/
  | mac (c : Nat)
  /-- MSU (R486) -/
  | msu (c : Nat)
  /-- CLRA (R486) -/
  | clra (c : Nat)
  /-- LDA (R486) -/
  | lda (c : Nat)
  /-- ADDA (R486) -/
  | adda (c : Nat)
  /-- EXT (R486) -/
  | ext (c : Nat)
  /-- NORM (R493) -/
  | norm (c : Nat)
  /-- EXPB (R494) -/
  | expb (c : Nat)
  /-- CMP (R486) -/
  | cmp (c : Nat)
  /-- SEL (R486) -/
  | sel (c : Nat)
  /-- MOV (R486) -/
  | mov (c : Nat)
  /-- PACK (R486) -/
  | pack (c : Nat)
  /-- RDSR (R486) -/
  | rdsr (c : Nat)
  /-- WRSR (R486) -/
  | wrsr (c : Nat)
  /-- MAXI (R495) -/
  | maxi (c : Nat)
  /-- MINI (R495) -/
  | mini (c : Nat)
  /-- RDS (R486) -/
  | rds (c : Nat)
  /-- MOVI (R485) -/
  | movi (c : Nat)
  /-- LD (R487) -/
  | ld (c : Nat) (ue : Bool)
  /-- LD2 (R487) -/
  | ld2 (c : Nat) (ue : Bool)
  /-- ST (R487) -/
  | st (c : Nat)
  /-- LDW (R487) -/
  | ldw (c : Nat) (ue : Bool)
  /-- STW (R487) -/
  | stw (c : Nat)
  /-- BR (R489) -/
  | br (c : Nat)
  /-- BRC (R489) -/
  | brc (c : Nat)
  /-- CALL (R489) -/
  | call (c : Nat)
  /-- RET (R489) -/
  | ret (c : Nat)
  /-- REP (R497) -/
  | rep (c : Nat)
  /-- REPR (R497) -/
  | repr (c : Nat)
  /-- SETP (R489) -/
  | setp (c : Nat)
  /-- ADDP (R489) -/
  | addp (c : Nat)
  /-- SETM (R489) -/
  | setm (c : Nat)
  /-- SETCB (R489) -/
  | setcb (c : Nat)
  /-- MOVP (R489) -/
  | movp (c : Nat)
  /-- MOVD (R489) -/
  | movd (c : Nat)
  /-- DMAQ (R500) -/
  | dmaq (c : Nat)
  /-- DMAWAIT (R489) -/
  | dmawait (c : Nat)
  /-- SRCHI (R495) -/
  | srchi (c : Nat)
  /-- RDCYC (R489) -/
  | rdcyc (c : Nat)
  /-- KRET (R515) -/
  | kret (c : Nat) (bad : Bool)
  /-- FIRMWARE_PTP_MESSAGE (R99) -/
  | firmwarePtpMessage (p : Nat) (frame : Bytes)
  /-- MONITOR_FAULT_END (R757) -/
  | monitorFaultEnd (rail mv : Nat)
  /-- MCLK_ALIGNED (R125) -/
  | mclkAligned
  deriving DecidableEq, Repr

end Sys2Proof
end

