-- ==== Sys2Proof/Config.lean ====
section
/-!
DEFINITION. What the spec leaves open: each is a constant without a body, so nothing can be proved of its value. A
claim about a step that uses one holds for every value it could have.
-/

namespace Sys2Proof

/-- A value the spec leaves open; `tag` says which, `n` is the model's counter of free values, `w` a width. -/
opaque freeValue (tag n w : Nat) : Nat

/-- Sample of component `c` at (x, y) of the decoded picture numbered `n`: the codec standards compute it from the
bitstream, outside this text. -/
opaque pictureSample (n c x y : Nat) : Nat

/-- Coefficient of a scaler slot that no COEF_LOAD has filled: slot key, phase, tap. -/
opaque unloadedCoef (slot phase tap : Nat) : Int

/-- Sample `k` of the signal numbered `n`, in 2^-83 FS: what the audio codecs, loss concealment, AGC, noise suppression,
Plane filters, tones and the acting limiter make, which the spec does not give to the bit (R414, R425 to R427, R447, R448,
R456, R554). -/
opaque signal (n k : Nat) : Int

/-- Coefficient `k` of the built-in HRTF slot 0, position `p`, ear `e` (R444). -/
opaque hrtf0 (p e k : Nat) : Int

/-- The payload that stands for the critical packet numbered `n` when its own failed its check (R471): concealment of the
leg's previous output, which R425 does not give to the bit. -/
opaque concealedPayload (n : Nat) (pay : Bytes) : Bytes

/-! What is fused at manufacture: the spec names these and gives no value. -/

/-- ORDERING of IDENTIFY: 0 LRH4096-C, 1 LRH4096-X (Table 15-5). -/
opaque fuseOrdering : Nat

/-- The device serial number (Table 15-5). -/
opaque fuseSerial : Nat

/-- V_BASE, the fused AVS baseline, in mV (R779). -/
opaque fuseVBase : Nat

/-- The digest fused in signing key slot `i` (R809). -/
opaque fuseKeyDigest (i : Nat) : Bytes

/-- The revoke fuse of signing key slot `i` (R809). -/
opaque fuseRevoked (i : Nat) : Bool

/-- The debug public key (R816). -/
opaque fuseDebugKey : Bytes

/-- The IDCODE of the JTAG port (R816). -/
opaque fuseIdcode : Nat

/-- Jig and Gauge ISA level that IDENTIFY reports (R482: 1). -/
def isaLevel : Nat := 1

/-- What firmware adds to the limit of a queue of the FIRMWARE range (Table 12-1). -/
opaque fwQueueMore (q : Nat) : Nat

/-- The limit in bytes that firmware sets for a queue of the FIRMWARE range (Table 12-1): open, but one longest frame fits
into an empty queue, as R719 has its frames sent (log entry 12). -/
def fwQueueLimit (q : Nat) : Nat := fwQueueMore q + 16384

/-! Standards outside the text. -/

/-- The SHA-384 digest of a byte string. -/
opaque sha384 (b : Bytes) : Bytes

/-- Whether an ECDSA P-384 signature over a digest verifies under a public key. -/
opaque ecdsaOk (key sig digest : Bytes) : Bool

end Sys2Proof
end

