-- ==== Sys2Proof/Machine/State.lean ====
section
/-!
DEFINITION. The state of the block: every register, table, queue, buffer, counter and pin the spec gives it, as plain
data, and `State.reset`, the device held in reset. The tables are association lists keyed by a number, keys rising.
-/

namespace Sys2Proof.Machine

/-- A table keyed by a number, keys strictly rising. -/
abbrev Tab (α : Type) := List (Nat × α)

/-- A byte memory in canonical form: addresses strictly rising, no cell equal to what an unlisted address reads as. -/
abbrev Mem := List Host.Cell

/-- Why the machine stops with a fault. -/
inductive Fault where
  /-- A command names a part the device does not have (a function above 255, a core above 191, an Ethernet port above
  7, a pin that does not exist). Raised by `onPart`, which guards every command with an index. Safe: no bus cycle of
  the device can name such a part. -/
  | noSuchPart
  deriving DecidableEq, Repr

/-- Why the machine gives a command no meaning. -/
inductive Refusal where
  /-- The command is not modelled (raised by `exec` alone, in an arm that names the mnemonic). Safe: the machine
  stops. -/
  | notModelled (mnemonic : String)
  deriving DecidableEq, Repr

/-- The named 64-bit counters of the device (R207, R259, R300, R354, R405, R474, R526, R566, R607, R639, R673 and the
counters the other chapters name). Each stands in the `Counters` of its scope. -/
inductive Ctr where
  -- device
  | skippedStrokes | ppsSuppressed | ptpDropped | epochStale | excNoPartition | faultRecordsLost | fwTaskTimeout
  | storeUnguarded | strokeCount
  -- function
  | eqHeadErr | evtUnrouted | hostRingIndexErr | fenceBackward | fenceBadWrite | dmaFaults
  -- Ethernet port
  | rxRunt | rxOversize | rxFcsErr | rxMacFiltered | rxPause | rxMalformed | stampLost | gateListReplaced | rxFifoDrop
  | pfcSent | pauseSent
  -- Ethernet port and class
  | enqueuedBytes | txPackets | txBytes | gateWait | gateOversizeDrop | linkDownDrop
  -- partition
  | excDrop | exc (reason : Nat) | htxBad | htxStampIgnored | hostTxHeld | forgivenBytes
  -- leg
  | rxAuthFail | rxReplay | trunkLate | govCuts | govLossCuts | probes | fbStalls | fbIgnored | fbUnmatched | rtxSent
  | rtxMiss | rtxBudgetDrop | nackSent | underFloor | rebinds | audBlocks | audLate | audFecUsed | rxFrameOver | outClip
  | limActive | mixSwitches | speakerEntries | dtmfRx | critMismatch | critCrc | critMissing | admittedBytes | sentBytes
  | droppedBytes | fixedOverShaper | ctrlDrop | hostInUnderrun | hostOutOverrun | hostPktDrop | hostIndexErr
  -- stream
  | rxPackets | rxBytes | rxYellow | rxRed | rxUnknownPt | jbLate | jbEarly | jbDup | jbSlip | jbConceal | ddUnknown
  | fwdSent | fwdWithheld | fwdQueueDrop | fwdReorderDrop | subPaused | switches | refreshSent | refreshMerged
  | decFrames | decPublished | decPreSync | decQueueDrop | decSlotWait | decLate | decDamaged | decCause (c : Nat)
  | refreshFailed | paceQueueDrop | paceHeldFixed | rxQueueDrop | yellowNoCell
  -- layout, layer, display
  | compFrames | compSkipped | droppedFrames | layerStaleFrames | layerStandinFrames | flipReplaced | compPoison
  | dispRepeat | dispSkip
  -- rung
  | encPictures | encKey | encSkipped | encExhausted | encCapped | encBufOver | encCycles | encCycleRestart
  | encRepairBlocks | encLate | encOutDrop | encPoisonSource | encPoisonRef
  -- conference
  | skippedMix | rankChanges | clipsPlayed | sharedDrop
  -- kernel instance
  | kernelInvocations | kernelPassBlocks | kernelStops | kernelCause (c : Nat)
  -- audio port
  | portRxOverrun | portTxUnderrun | portGlitch | portHolds | portRateFail | portIndexErr | aes3Parity | aes3Validity
  | aes3CsCrc | aes3NonaudioFrames
  -- Batten queue
  | pushedItems | pushedBytes | poppedItems | poppedBytes | droppedItems | poolMiss | spillStall | poisonDrop
  | heldCycles | qDroppedBytes
  -- policer
  | greenPackets | greenBytes | yellowPackets | yellowBytes | redPackets | redBytes
  -- memory
  | dramCe | dramUe | dramCaRetry | dramTimeout | dramDriftAdj | logLost
  deriving DecidableEq, Repr

/-- 64-bit counters (R207); a counter that is not listed reads 0. -/
abbrev Counters := List (Ctr × Nat)

/-! ## Host transport (chapter 14) -/

/-- Mailbox states (Table 14-8). -/
inductive MbState where
  | ready
  | pending
  | done
  deriving DecidableEq, Repr

/-- One mailbox (R690 to R694). `area` is the command area, `res` the result area; `op`, `len`, `flags`, `pay` are the
command latched by the doorbell; `since` is the TIMER tick at which it became
PENDING. `orphan` is a command that a function reset caught in service: it completes and its result is discarded. -/
structure Mbox where
  state   : MbState := .ready
  seq     : Nat := 0
  result  : Nat := 0
  refused : Nat := 0
  area    : Mem := []
  res     : Mem := []
  op      : Nat := 0
  hdrSeq  : Nat := 0
  len     : Nat := 0
  flags   : Nat := 0
  pay     : Bytes := []
  since   : Nat := 0
  orphan  : Option (Nat × Bytes) := none
  deriving DecidableEq, Repr

/-- Command ring states (Table 14-10). -/
inductive RingState where
  | running
  | stopped
  | error
  deriving DecidableEq, Repr

/-- One command ring (R698 to R705). `wbDue` is the tick at which HEAD advanced and was not yet written to HEAD_WB. -/
structure Ring where
  base   : Nat
  size   : Nat
  eq     : Nat
  headWb : Nat
  tail   : Nat := 0
  fetch  : Nat := 0
  head   : Nat := 0
  state  : RingState := .running
  wbDue  : Option Nat := none
  deriving DecidableEq, Repr

/-- An event record without its PHASE (Table 14-13). -/
structure EvRec where
  typ     : Nat
  handle  : Nat
  mt      : Nat
  payload : Bytes
  deriving DecidableEq, Repr

/-- One event queue (R707 to R715). `slots` holds the records in host memory by slot index, each with its PHASE. -/
structure EvQueue where
  base   : Nat
  size   : Nat
  vector : Nat
  count  : Nat
  time   : Nat
  head   : Nat := 0
  tail   : Nat := 0
  lost   : Nat := 0
  u      : Nat := 0
  t0     : Nat := 0
  err    : Bool := false
  slots  : Tab (EvRec × Bool) := []
  deriving DecidableEq, Repr

/-- A host ring (R716 to R719): `kind` 0 EXCEPTION, 1 TRANSMIT, 2 TIME_EXCEPTION, 3 TIME_TRANSMIT. `stored` is what
the device has written, by slot. -/
structure HostRing where
  base      : Nat
  slots     : Nat
  slotBytes : Nat
  head      : Nat := 0
  tail      : Nat := 0
  stored    : Tab Bytes := []
  part      : Option Nat := none
  deriving DecidableEq, Repr

/-- A DMA window (R726). -/
structure Window where
  base  : Nat
  len   : Nat
  read  : Bool
  write : Bool
  deriving DecidableEq, Repr

/-- One PCIe function and its transport (R677 to R727). `status` and `mask` are FUNC_STATUS and its mask; `route`
maps event types to queues (255 is NONE), `q0` says that unmapped types go to queue 0 (R711). MSI-X vectors listed in
`unmasked` have Mask 0. `sent` counts messages by vector. `lastWr` is the last DMA write the device issued; `fgens` the
generation last used at each fence index. -/
structure Func where
  iface    : Nat := 0
  status   : Nat := 0
  mask     : Nat := 0x7F
  sets     : Tab Nat := []
  part     : Option Nat := none
  admin    : Mbox := {}
  media    : Mbox := {}
  rings    : Tab Ring := []
  queues   : Tab EvQueue := []
  route    : Tab Nat := []
  q0       : Bool := false
  ownerAll : Bool := false
  backlog  : List (Nat × EvRec) := []
  pendLoss : Tab Nat := []
  hrings   : Tab HostRing := []
  unmasked : List Nat := []
  pba      : List Nat := []
  msixEn   : Bool := false
  msixTab  : Tab Nat := []
  sent     : Tab Nat := []
  wins     : Tab Window := []
  fences   : Tab Nat := []
  fgens    : Tab Nat := []
  ctrs     : Counters := []
  lastWr   : Option (Nat × Bytes) := none
  deriving DecidableEq, Repr

/-- DEVICE_STATE values (Table 14-6). -/
inductive DevState where
  | notReady
  | ready
  | recovery
  | fwRestarting
  | resetting
  | failed
  deriving DecidableEq, Repr

/-- The answer to a configuration request (R796). -/
inductive CfgAns where
  | none
  | retry
  | data (v : Nat)
  deriving DecidableEq, Repr

/-- The host side of the device. `cfg` is the latest answer to a configuration request; `replay` is the order in which
firmware serves what was PENDING when it re-attached (R136); `lastFn` and `lastRing` hold the rotation of R706;
`perst` says of each host port whether PERST_N is low, and the tick from which its configuration space answers. -/
structure HostPart where
  mode      : Nat := 0
  ownerPort : Nat := 0
  owner     : Nat := 0
  transfer  : Option (Nat × Nat) := none
  dev       : DevState := .notReady
  bootStat  : Nat := 0
  version   : Nat := 0
  bundle    : Nat := 0
  perst     : List (Bool × Nat) := [(true, 0), (true, 0), (true, 0), (true, 0)]
  cfg       : CfgAns := .none
  replay    : List (Nat × Mb) := []
  fns       : Tab Func := []
  lastFn    : Nat := 0
  lastRing  : Tab Nat := []
  recoveries : Nat := 0
  restarts  : Nat := 0
  deriving DecidableEq, Repr

/-! ## Objects (chapter 1) -/

/-- Object states (Table 1-3); FREE objects are not listed. -/
inductive ObjSt where
  | idle
  | active
  | held
  | draining
  | faulted
  deriving DecidableEq, Repr

/-- One reservation: limit code of the resource (Table 1-7), instance, amount in millionths of the instance's capacity
(bytes for code 0x08). -/
structure Resv where
  code : Nat
  inst : Nat
  amt  : Nat
  deriving DecidableEq, Repr

/-- A change accepted and waiting for the object's boundary (R40, R851, R72, R24). -/
inductive PendAct where
  /-- the state becomes `st` -/
  | state (st : ObjSt)
  /-- fields, class and critical mark change; with `zero` the rates written reset their buckets to ZERO (R596) -/
  | modify (fs : Tab Int) (fixed crit : Option Bool) (zero : Bool)
  /-- the promised bound becomes `n` -/
  | bound (n : Nat)
  /-- a layer's descriptor is replaced (R317) -/
  | desc (d : Nat)
  /-- the object becomes floating with REVOKED set (R72) -/
  | revoke
  /-- the object returns to the fixed class (R24) -/
  | refix
  /-- the object becomes FREE -/
  | free
  deriving DecidableEq, Repr

/-- A pending change and the PHC time in ns before which it does not take effect (0: the object's next boundary). -/
structure Pend where
  act : PendAct
  due : Nat := 0
  deriving DecidableEq, Repr

/-- What conferences, legs, streams, layouts, layers and rungs have in common. `born` orders creations, `firstAct`
orders first activations (R71). `resv` is the reservation in force, `resvNew` what R40 holds beside it; `kept` is the critical
mark that a revoked object takes back with its class. -/
structure Obj where
  gen      : Nat := 0
  part     : Nat := 0
  parent   : Nat := 0
  state    : ObjSt := .idle
  fixed    : Bool := false
  crit     : Bool := false
  revoked  : Bool := false
  fields   : Tab Int := []
  pend     : List Pend := []
  bound    : Nat := 0
  migr     : Nat := 0
  migAt    : Option Nat := none
  miss     : Nat := 0
  missNew  : Nat := 0
  missAt   : Option Nat := none
  born     : Nat := 0
  firstAct : Option Nat := none
  resv     : List Resv := []
  resvNew  : List Resv := []
  kept     : Bool := false
  ctrs     : Counters := []
  deriving DecidableEq, Repr

/-- A transmit stamp record (Table 2-5). -/
structure Stamp where
  id      : Nat
  port    : Nat
  lost    : Bool
  dropped : Bool
  epoch   : Nat
  phc     : Nat
  deriving DecidableEq, Repr

/-! ## Packets and queues (chapters 3, 11, 12) -/

/-- The RTP header and payload of a packet, with the header extensions the device reads or writes (R152):
`xlen` is the length of the extensions carried
unchanged, `osn` the original sequence number of a retransmission, `ast` and `twcc` what R220 writes. -/
structure Rtp where
  pt     : Nat := 0
  marker : Bool := false
  seq    : Nat := 0
  ts     : Nat := 0
  ssrc   : Nat := 0
  csrc   : List Nat := []
  mid    : Bytes := []
  rid    : Bytes := []
  rrid   : Bytes := []
  level  : Option Nat := none
  xlen   : Nat := 0
  osn    : Option Nat := none
  ast    : Option Nat := none
  twcc   : Option Nat := none
  padOnly : Bool := false
  pay    : Bytes := []
  deriving DecidableEq, Repr

/-- What a queued item is. -/
inductive PktKind where
  /-- media of an outgoing stream: rung or audio packets -/
  | media
  /-- a forwarded copy -/
  | copy
  /-- a retransmission -/
  | rtx
  /-- padding of a probe, FEC -/
  | padding
  /-- RTCP the device sends -/
  | rtcp
  /-- a frame of a host transmit ring -/
  | host
  /-- a PTP frame of firmware or of a host time owner -/
  | ptp
  /-- a received packet -/
  | rx
  deriving DecidableEq, Repr

/-- The tag of a critical leg's packet (R469): first sequence number, number of tag units, CRC-16 of the payload. -/
structure Tag where
  first : Nat
  n     : Nat
  crc   : Nat
  deriving DecidableEq, Repr

/-- A packet: its length from destination address to FCS with tags and protection (R569 without OVERHEAD), the leg and
stream it belongs to (keys, 0 for none), RTP fields, layer information, RTCP messages, other bytes, a stamp request, the
tag of R469. A host or PTP frame holds its port in `stream`. -/
structure Pkt where
  kind   : PktKind
  len    : Nat
  leg    : Nat := 0
  stream : Nat := 0
  rtp    : Rtp := {}
  info   : Info := {}
  rtcp   : List Rtcp := []
  data   : Bytes := []
  stamp  : Option Nat := none
  mt     : Nat := 0
  tag    : Option Tag := none
  deriving DecidableEq, Repr

/-- An item of a Batten queue: packet, tick of the push, yellow of a fixed received stream (R616). -/
structure Item where
  pkt    : Pkt
  tick   : Nat
  yellow : Bool := false
  deriving DecidableEq, Repr

/-- A Batten queue (R609 to R626). `cells` and `pages` are the cells and spill pages it holds, `ycells` the floating
cells of its yellow items, `resv` its reserved cells; `heldSince` is the tick since which a producer is held; `stall`
says that a tail block waits for the spill engine; `flush` that a flush waits for the packet boundary. -/
structure Queue where
  items  : List Item := []
  cells  : Nat := 0
  ycells : Nat := 0
  pages  : Nat := 0
  cut    : Option Bool := none
  group  : Option Nat := none
  heldSince : Option Nat := none
  stall  : Bool := false
  flush  : Bool := false
  resv   : Nat := 0
  ctrs   : Counters := []
  deriving DecidableEq, Repr

/-- A histogram record (Table 11-5). -/
structure Hist where
  u     : Nat
  count : Nat := 0
  sum   : Nat := 0
  min_  : Nat := 0xFFFFFFFF
  max_  : Nat := 0
  first : Nat := 0
  last  : Nat := 0
  bins  : List Nat := List.replicate 16 0
  deriving DecidableEq, Repr

/-- A queue group (R627 to R632). -/
structure Group where
  fields : Tab Int := []
  part   : Option Nat := none
  above  : Bool := false
  hiSeen : Bool := false
  loSeen : Bool := false
  peak   : Nat := 0
  hiX    : Nat := 0
  loX    : Nat := 0
  evAt   : Option Nat := none
  owed   : Bool := false
  depth  : Hist := { u := 6 }
  soj    : Hist := { u := 10 }
  deriving DecidableEq, Repr

/-- A QXOFF pin (R633, R634). -/
structure QPin where
  en    : Bool := false
  low   : Bool := false
  minNs : Nat := 0
  on    : Bool := false
  entry : Nat := 0
  deriving DecidableEq, Repr

/-- Batten. `budget` is the spill traffic of the microsecond `budgetAt`; `snap` holds the terms of Table 12-8 as of the latest stroke boundary (R638). -/
structure BattenPart where
  queues  : Tab Queue := []
  groups  : Tab Group := []
  pins    : List QPin := List.replicate 8 {}
  spill   : Nat := 4294967296
  pool    : Bool := false
  budget  : Nat := 0
  budgetAt : Nat := 0
  snap    : List Nat := []
  shared  : Tab Nat := []
  deriving DecidableEq, Repr

/-- A token bucket that may run into debt (R574): `tok` in 2^-16 byte as of tick `at_`, `rate` in bit/s. -/
structure Bucket where
  tok   : Int := 0
  rate  : Nat := 0
  at_   : Nat := 0
  deriving DecidableEq, Repr

/-- A gate control list (R588): base time in ns of PHC time, cycle, entries (gates, interval). -/
structure GateList where
  base  : Nat
  cycle : Nat
  ents  : List (Nat × Nat)
  deriving DecidableEq, Repr

/-- One class of a port's transmitter (R584, R592): deficit, fresh, whether GATE_WAIT was counted for the head. -/
structure ClassSt where
  dfc   : Nat := 0
  fresh : Bool := true
  waited : Bool := false
  ctrs  : Counters := []
  deriving DecidableEq, Repr

/-- A received frame with what comes beside its bytes: whether its FCS is right, its bytes, its receive stamp (PHC
count), the epoch number of the stamp. -/
structure RxFrame where
  fcsOk : Bool
  bytes : Bytes
  x     : FrameX
  phc   : Nat
  epoch : Nat
  deriving DecidableEq, Repr

/-- One Ethernet port. `pausedTo` holds the tick at which each paused class resumes; `fifo` the frames in the receive
FIFO; `held` the received packet its pipeline holds (queue, item, since); `holds` each priority the port asserts with
the tick of its next repeat; `fc` the last flow-control frame sent (priority mask, quanta); `filters` the additional
unicast addresses; `gateIdx`, `gateEnd` the entry in force and the PHC ns at which it ends, `gateCycle` the PHC ns at which the cycle began; `lastTx` the last frame
sent; `txFree` the tick at which the transmitter is free. -/
structure EthPort where
  fields   : Tab Int := []
  up       : Bool := false
  changes  : Nat := 0
  pausedTo : Tab Nat := []
  fifo     : List RxFrame := []
  xoff     : Bool := false
  held     : Option (Nat × Item × Nat) := none
  holds    : Tab Nat := []
  fc       : Option (Nat × Nat) := none
  filters  : Tab Nat := []
  corr     : List (Int × Int) := [(6291456, 2726298), (7759462, 2516582), (8178893, 2411725), (8598323, 2306867)]
  stampQ   : List Stamp := []
  stampLost : Bool := false
  cls      : List ClassSt := List.replicate 8 {}
  rr       : Nat := 0
  gates    : Option GateList := none
  gatesNew : Option (GateList × Nat) := none
  gateIdx  : Nat := 0
  gateEnd  : Nat := 0
  gateHold : Option Nat := none
  gateCycle : Nat := 0
  lastTx   : Option Pkt := none
  txFree   : Nat := 0
  eye      : Nat := 0
  ctrs     : Counters := []
  deriving DecidableEq, Repr

/-- A local address table entry (R147). -/
structure Addr where
  vlan : Nat
  ip   : Nat
  lo   : Nat
  hi   : Nat
  part : Nat
  deriving DecidableEq, Repr

/-- A policer (R163 to R168), keyed by partition * 8192 + index. -/
structure Policer where
  fields : Tab Int := []
  tc     : Nat
  te     : Nat
  tp     : Nat
  at_    : Nat
  ctrs   : Counters := []
  deriving DecidableEq, Repr

/-- Ethernet, the address tables and the policers. `excOwner` holds the exception packets for the owner function (R179),
`ownTok` and `ownAt` their rate limit (R181). -/
structure EthPart where
  mode  : Nat := 2
  ports : Tab EthPort := []
  mcast : Tab (Nat × Nat) := []
  addrs : Tab Addr := []
  dscp  : List Nat := List.replicate 64 0
  pol   : Tab Policer := []
  excOwner : List Bytes := []
  ownTok : Nat := 0
  ownAt  : Nat := 0
  deriving DecidableEq, Repr
/-! ## Jig and Gauge cores (chapter 9) -/

/-- One sub-block of Table 8-4: mantissas and exponent. -/
structure SubBlk where
  m : List Int
  e : Int
  deriving DecidableEq, Repr

/-- A result on its way to a register of a DSP core (R490). -/
inductive DspWr where
  /-- a data register -/
  | d (r : Nat) (v : Word40)
  /-- one lane of a data register -/
  | lane (r : Nat) (hi : Bool) (v : BitVec 20)
  /-- an accumulator -/
  | acc (r : Nat) (v0 v1 : Word48)
  /-- a pointer -/
  | p (k : Nat) (v : Word18)
  /-- a modifier -/
  | m (k : Nat) (v : Word18)
  /-- base and length of a circular pointer -/
  | cb (k : Nat) (b l : Word18)
  /-- the link register -/
  | lr (v : BitVec 12)
  /-- a predicate -/
  | c (n : Nat) (v : Bool)
  /-- sr.SAT and sr.C -/
  | sr (v : BitVec 5)
  /-- sr.SAT set by a clamp -/
  | sat
  deriving DecidableEq, Repr

/-- The search registers of a Gauge core (R495). -/
structure Srch where
  smax : Word40 := 0
  smin : Word40 := 0
  imax : Word16 := 0
  imin : Word16 := 0
  icnt : Word16 := 0
  deriving DecidableEq, Repr

/-- A kernel DMA transfer outstanding (R500, R501). -/
structure KDma where
  tag   : Nat
  off   : Nat
  local_ : Nat
  len   : Nat
  deriving DecidableEq, Repr

/-- A kernel invocation: instance, whether it is INIT, LIMIT, data windows CONST and WORK (base, length), addresses of input,
output and state, channels, sub-blocks per channel, samples per sub-block, media time, cycle at which it started. -/
structure Invo where
  inst  : Nat
  init  : Bool
  limit : Nat
  cbase : Nat
  clen  : Nat
  wbase : Nat
  wlen  : Nat
  inAt  : Nat
  outAt : Nat
  stAt  : Nat
  chans : Nat
  nsub  : Nat
  smp   : Nat
  mt    : Nat
  deriving DecidableEq, Repr

/-- An invocation that waits for its core: instance, whether it is INIT, class, deadline, input block by channel, media time,
samples per sub-block, members (handle and position) at PRE_MIX. -/
structure InvoReq where
  inst  : Nat
  init  : Bool
  fixed : Bool
  dead  : Nat
  inp   : List (List SubBlk)
  mt    : Nat
  smp   : Nat
  mem   : List (Nat × Nat)
  deriving DecidableEq, Repr

/-- A DSP core (R480): the registers of Table 9-2 with the search registers as the next search step and as RDS sees them, data
memory with its poisoned 8-byte words, results on their way, bundle index and next slot of the bundle being issued, the bundle
that follows it, extra cycles it takes, repetitions left (R497) and those a REP of this bundle starts, transfers
outstanding, the invocation it runs and those that wait, tick of the latest watchdog restart (R503), the partition it serves
as kernel core (R504). -/
structure Core where
  d    : List Word40 := List.replicate 32 0
  acc  : List (Word48 × Word48) := List.replicate 8 (0, 0)
  p    : List Word18 := List.replicate 8 0
  m    : List Word18 := List.replicate 8 0
  cb   : List Word18 := List.replicate 8 0
  cl   : List Word18 := List.replicate 8 0
  lr   : BitVec 12 := 0
  sr   : BitVec 5 := 0
  cyc  : BitVec 64 := 0
  srch : Srch := {}
  srchIn  : Srch := {}
  srchOld : Srch := {}
  mem  : Mem := []
  bad  : List Nat := []
  wr   : List (Nat × DspWr) := []
  pc   : Nat := 0
  slot : Nat := 0
  next : Nat := 0
  xtra : Nat := 0
  rep  : Option Nat := none
  repNew : Option Nat := none
  dma  : List KDma := []
  run  : Option Invo := none
  wait : List InvoReq := []
  wdog : Nat := 0
  part : Option Nat := none
  deriving DecidableEq, Repr

/-- A KERNEL object (R507, R509): generation, partition, the header fields of Table 9-11 that matter after loading, code,
constant data, table data. -/
structure Kernel where
  gen    : Nat
  part   : Nat
  gauge  : Bool
  points : Nat
  stBytes : Nat
  scBytes : Nat
  base   : Nat
  sub    : Nat
  init   : Nat
  proc   : Nat
  code   : Bytes
  const  : Bytes
  table  : Bytes
  deriving DecidableEq, Repr

/-- An instance of a kernel at an insertion point (R510, R525), keyed object key * 4 + point: kernel, core (the lower of a
pair), pair, state bytes, STATE and CAUSE of Table 9-15, whether INIT is still to run, FIRST, whether a resume waits for
the next boundary, LIMIT, CYCLES_LAST, CYCLES_MAX, LAST_TIME. -/
structure KInst where
  kern  : Nat
  core  : Nat
  pair  : Bool := false
  st    : Bytes := []
  state : Nat := 0
  cause : Nat := 0
  init  : Bool := true
  first : Bool := true
  resume : Bool := false
  limit : Nat := 0
  last  : Nat := 0
  max_  : Nat := 0
  time  : Nat := 0
  ctrs  : Counters := []
  deriving DecidableEq, Repr

/-- The DSP cores, loaded kernels and their instances. -/
structure DspPart where
  cores : Tab Core := []
  kerns : Tab Kernel := []
  kgens : Tab Nat := []
  insts : Tab KInst := []
  deriving DecidableEq, Repr
/-! ### What each kind of object holds beside its header -/

/-! ### The audio graph (chapter 8) -/

/-- An audio packet in a jitter buffer: extended RTP timestamp of its first sample, samples, codec (PT_MAP code),
channels, payload, CSRC list. -/
structure JbPkt where
  ext   : Int
  n     : Nat
  codec : Nat
  chans : Nat
  pay   : Bytes
  csrc  : List Nat := []
  deriving DecidableEq, Repr

/-- A block that a jitter buffer released: clock, timestamps [a, b) and the packets that hold samples of it; none when
the block is concealed. -/
structure Rel where
  clock : Nat
  a     : Int
  b     : Int
  pkts  : Option (List JbPkt)
  deriving DecidableEq, Repr

/-- An input of the graph: a leg, or a speaker or partial stream of a trunk leg (R408 to R430). `st` is the front job of the
block of boundary `t` (media time): 0 none, 1 due, 2 in a kernel, 3 complete, 4 absent. `x` is the block after stage 5, `y` the
mix input, `hist` the last 4 sub-blocks of y before it; level, sub-block levels of the last 2 s, media time of the last block
over both thresholds, VAD, score, AGC gain; samples of the loss so far and of the crossfade still to come (R425); in-band
digit sounding with its start, whether the block holds DTMF, whether it holds input at all, the CSRC it arrived with; `pre`
is the block after stage 3 while a kernel works on it. -/
structure AudIn where
  st    : Nat := 0
  t     : Nat := 0
  rel   : Option Rel := none
  host  : Option (List Int) := none
  x     : List SubBlk := []
  y     : List SubBlk := []
  hist  : List SubBlk := []
  level : Int := -32768
  floor : List (Nat × Int) := []
  vadAt : Option Nat := none
  vad   : Bool := false
  sc    : Int := -32768
  agc   : Int := 0
  loss  : Nat := 0
  fade  : Nat := 0
  tone  : Option (Nat × Nat) := none
  dtmf  : Bool := false
  full  : Bool := false
  csrc  : Option Nat := none
  pre   : List SubBlk := []
  deriving DecidableEq, Repr

/-- A member of the ranked set (R434): input (key), times of entry and of last activity, effective score. -/
structure Rank where
  key     : Nat
  entered : Nat
  last    : Nat
  es      : Int := -32768
  deriving DecidableEq, Repr

/-- A playing clip (R458): surface, REPLACE mode, gain, loops left (0: endless), next sample, media time of the boundary from
which it plays, whether a CLIP_STOP came, media time of the boundary at which it stops. -/
structure Clip where
  surf  : Nat
  repl  : Bool
  gain  : Int
  loops : Nat
  pos   : Nat := 0
  from_ : Option Nat := none
  stop  : Bool := false
  until_ : Option Nat := none
  deriving DecidableEq, Repr

/-- A back job (R409): boundary (PHC ns, media time), the legs it serves, whether they share one encoding and its
SHARED_AUDIO queue, mono and binaural signals for them, the speakers of a trunk leg (CSRC and block, R451), and, while it
waits for its kernel, the signal by channel after stage 10 and what encoding will make of it. -/
structure BackJob where
  t      : Nat
  mt     : Nat
  legs   : List Nat
  shared : Option Nat
  d      : List Int
  dl     : List Int
  dr     : List Int
  spk    : List (Nat × List SubBlk) := []
  sig    : List (List SubBlk) := []
  z      : Option BackRes := none
  deriving DecidableEq, Repr

/-- Digits being sent to a leg (R456): digits left, tone and gap in ns, ns into the current tone or gap, whether RFC 4733
packets carry them, RTP timestamp of the event, end packets left. -/
structure DtmfSend where
  digits : List Nat
  tone   : Nat
  gap    : Nat
  pos    : Nat := 0
  rfc    : Bool
  ts     : Nat := 0
  ends   : Nat := 0
  deriving DecidableEq, Repr

/-- A Plane instance of a leg (R557 to R564): state (Table 10-7), whether it runs its custom set, the set as TAPS, PRODUCES,
PHASE, GROUP_DELAY and coefficients, ns of the ramp still to run, whether the ramp ends in a new preset (R561), the
PLANE_PHASE in force. -/
structure Plane where
  st     : Nat := 0
  custom : Bool := false
  set_   : Option (Nat × Nat × Nat × Nat × List Int) := none
  ramp   : Nat := 0
  swap   : Bool := false
  phase  : Nat := 1
  deriving DecidableEq, Repr

/-- The graph status of a leg (Table 8-12), all of one block: position is that of the ranked set. -/
structure AudSnap where
  vad    : Bool := false
  member : Bool := false
  shared : Bool := false
  role   : Nat := 0
  rank   : Nat := 0
  pos    : Nat := 0
  level  : Int := -32768
  agc    : Int := 0
  score  : Int := -32768
  time   : Nat := 0
  deriving DecidableEq, Repr

/-- What the graph holds of a leg's output: clips, digits being sent, limiter envelope in 2^-60 FS, Plane instances IN
and OUT, whether the latest block was a member's, core of a floating leg, frames written to a PORT leg's output ring,
whether this period's output is concealment (R471, R767), the status AUDIO_READ reports. -/
structure LegAud where
  clips  : List Clip := []
  dtmf   : Option DtmfSend := none
  env    : Nat := 0
  planeI : Plane := {}
  planeO : Plane := {}
  member : Bool := false
  core   : Nat := 0
  prod   : Nat := 0
  conceal : Bool := false
  snap   : AudSnap := {}
  deriving DecidableEq, Repr

/-- What the graph holds of a conference: the block in work (phase 0 none, 1 front, 2 ranked, 3 in a PRE_MIX kernel, 4 mixed), its
boundary in PHC ns and media time, ranked set, positions by member, members of the block, their mono and binaural
contributions, the sums, clips, back jobs, limiter envelopes of the shared encodings by SHARED_AUDIO queue, media time of the
latest SPEAKER_CHANGE, core and Gauge core of floating work. -/
structure ConfAud where
  phase : Nat := 0
  t     : Nat := 0
  mt    : Nat := 0
  set_  : List Rank := []
  pos   : Tab Nat := []
  mem   : List Nat := []
  con   : Tab (List Int × List Int × List Int) := []
  sum_  : List Int := []
  suml  : List Int := []
  sumr  : List Int := []
  clips : List Clip := []
  backs : List BackJob := []
  senv  : Tab Nat := []
  evAt  : Option Nat := none
  core  : Nat := 0
  gauge : Nat := 0
  deriving DecidableEq, Repr

/-- An HRTF set (R444): partition, taps, coefficients in file order. -/
structure Hrtf where
  part : Nat
  taps : Nat
  coef : List Int
  deriving DecidableEq, Repr

/-- An audio port (chapter 10): fields, state (Table 10-5), measured rate in 1/16 Hz, ratio deviation in 0.01 ppm, masks in force and
waiting for a frame edge, indices of both rings with their stored frames by slot, frames since the latest index write, good
frames measured, accepted channel status of A and of B, tick of the latest AES3_STATUS,
mute: frames since the latest detection, whether an accepted block must come first, last sample by channel,
channel status sent, latest frame on the pins, whether its clock is alive. -/
structure APort where
  fields : Tab Int := []
  st     : Nat := 0
  rate   : Nat := 0
  ratio  : Int := 0
  rx     : Nat := 0
  tx     : Nat := 0
  newMask : Option (Nat × Nat) := none
  rxProd : Nat := 0
  rxCons : Nat := 0
  txCons : Nat := 0
  txProd : Nat := 0
  rxBuf  : Tab (List Int) := []
  txBuf  : Tab (List Int) := []
  since  : Nat := 0
  good   : Nat := 0
  cs     : Bytes × Bytes := ([], [])
  csAt   : Option Nat := none
  mute   : Option Nat := none
  gate   : Bool := false
  last   : List Int := []
  csOut  : Bytes × Bytes := ([], [])
  out    : List Int := []
  ctrs   : Counters := []
  deriving DecidableEq, Repr

/-- Audio: inputs by leg or stream key, HRTF sets by slot, audio ports by PORT index. -/
structure AudPart where
  ins   : Tab AudIn := []
  hrtf  : Tab Hrtf := []
  ports : Tab APort := []
  deriving DecidableEq, Repr

/-- A conference: PHC ns of its next mix period boundary, and whether the next period conceals every input (R116), its audio graph. -/
structure ConfDyn where
  mixNext : Nat := 0
  conceal : Bool := false
  aud     : ConfAud := {}
  deriving DecidableEq, Repr

/-- A jitter buffer (R169 to R176): anchor O, depth D, packets by timestamp, the offset of each packet of the last 10 s
with its media time, highest extended timestamp, media times of the latest adaptation, move and inactive-block wait. -/
structure Jb where
  o      : Option Int := none
  d      : Nat := 0
  target : Nat := 0
  pkts   : List JbPkt := []
  offs   : List (Nat × Int) := []
  hi     : Option Int := none
  evalAt : Nat := 0
  moveAt : Nat := 0
  wait   : Option Nat := none
  deriving DecidableEq, Repr

/-- A crypto context of one SSRC (R159 to R161): highest index, and bit i set when index `hi - i` was received. -/
structure Crypto where
  hi  : Nat
  win : Nat
  deriving DecidableEq, Repr

/-- A choice of layers: encoding (key of a received stream), spatial and temporal layer (R183). -/
structure Choice where
  enc : Nat
  sid : Nat
  tid : Nat
  deriving DecidableEq, Repr

/-- A frame begun at a receiver: its encoding, RTP timestamp and spatial layer, and the codec fields of its copies. -/
structure Begun where
  enc   : Nat
  ts    : Nat
  sid   : Nat
  pic   : Nat
  tl0   : Nat
  fno   : Nat
  deriving DecidableEq, Repr

/-- A subscription (R185 to R196, R243 to R246): the governor's choice, the choice in force, rewrite offsets, the last
packet sent (sequence number, timestamp, media time), codec counters, the frames begun at the receiver, the offset in
force behind a source position (R196), the encoding the offsets number (key, 0 none); the media times of the latest choice
below `eff` and of the choice that is pending, whether its upstream request was made, and the restriction of R245. -/
structure Sub where
  want    : Option Choice := none
  eff     : Option Choice := none
  seqOff  : Nat := 0
  tsOff   : Nat := 0
  lastSeq : Option Nat := none
  lastTs  : Nat := 0
  lastMt  : Nat := 0
  picId   : Nat := 0
  tl0     : Nat := 0
  frameNo : Nat := 0
  started : List Begun := []
  hist    : List (Nat × Nat) := []
  enc     : Nat := 0
  lastDown : Option Nat := none
  pendAt  : Option Nat := none
  asked   : Bool := false
  restrict : Bool := false
  deriving DecidableEq, Repr

/-- Upstream refresh requests of a source stream (R252 to R255): media time of the latest, the request to be sent in the
next update and the merged one (true: FIR), the needs that persist (keys of subscriptions; 0: the decoder), the tries
made for them and the FIR sequence number. -/
structure Refresh where
  at_    : Option Nat := none
  ask    : Option Bool := none
  merged : Option Bool := none
  needs  : List Nat := []
  tries  : Nat := 0
  firSeq : Nat := 0
  deriving DecidableEq, Repr

/-- A missing sequence number of a received stream (R256): media time of the gap, NACKs sent for it, the latest. -/
structure Gap where
  seq  : Nat
  at_  : Nat
  sent : Nat := 0
  last : Nat := 0
  deriving DecidableEq, Repr

/-- One packet of a frame in a bitstream queue: extended sequence number, payload bytes, first and last of its frame. -/
structure BitPkt where
  ext   : Nat
  n     : Nat
  first : Bool
  last  : Bool
  deriving DecidableEq, Repr

/-- A coded frame (R177, R271 to R277): RTP timestamp, media time of its first packet, packets, what its first packet says,
whether it is complete, eligibility time, whether DEC_SLOT_WAIT was counted, its codec. -/
structure CodedFrame where
  ts    : Nat
  at_   : Nat
  pkts  : List BitPkt := []
  info  : Info := {}
  whole : Bool := false
  elig  : Option Nat := none
  slotWait : Bool := false
  codec : Nat := 0
  deriving DecidableEq, Repr

/-- A picture in a decoder's picture buffer: surface (index), RTP timestamp, layers, whether it is a reference, damaged,
missing (as a reference), waiting to be output, and its visible size and depth. -/
structure Pic where
  surf    : Nat
  ts      : Nat
  sid     : Nat
  tid     : Nat
  isRef   : Bool
  damaged : Bool
  missing : Bool := false
  waiting : Bool := true
  width   : Nat
  height  : Nat
  depth   : Nat
  deriving DecidableEq, Repr

/-- A decoder context (R264 to R301): state of Table 5-4, fence, credits with the k of the latest instant credited,
engine, surfaces of its picture buffer, frames in assembly and handed over, pictures, the two latest published surfaces,
damaged mark, the size last reported with its media time, media times of the latest publication, of entering SYNC_WAIT
and of the latest UNSUPPORTED_STREAM, RTP timestamp and size of the latest picture, the extended sequence number that
the next frame begins with, whether a recovery point is awaited, and whether an entry point within the limits is
(R295). -/
structure Dec where
  st      : Nat := 0
  fence   : Nat := 0
  credits : Nat := 2
  creditK : Nat := 0
  engine  : Nat := 0
  surfs   : List Nat := []
  asm     : List CodedFrame := []
  handed  : List CodedFrame := []
  pics    : List Pic := []
  pub     : Option Nat := none
  pubPrev : Option Nat := none
  damaged : Bool := false
  size    : Nat × Nat × Nat := (0, 0, 0)
  told    : Nat × Nat × Nat := (0, 0, 0)
  toldAt  : Option Nat := none
  pubAt   : Nat := 0
  pubTs   : Nat := 0
  grain   : Nat := 0
  syncAt  : Nat := 0
  unsupAt : Option Nat := none
  unsup   : Bool := false
  nextExt : Option Nat := none
  recovery : Bool := false
  deriving DecidableEq, Repr

/-- An RFC 4733 event of a received stream (R454): its RTP timestamp, code, duration in timestamp units, media time of its
first packet, whether it was reported. -/
structure TeEv where
  ts   : Nat
  code : Nat
  dur  : Nat
  at_  : Nat
  done : Bool := false
  deriving DecidableEq, Repr

/-- A stream beside its header: learned SSRC (R150), highest extended sequence number received, jitter buffer, AV1
template structure (R184), subscription, latest sender report of the source (NTP and RTP time, R197) and its media time,
pacer; what the forwarder measured in the last second (media time, spatial * 4 + temporal layer, bits; R243), refresh
requests, arrivals since the latest RFC 8888 report, sequence gaps, reception counts for report blocks (base, received,
expected and received at the previous report); the next sequence number and timestamp of an outgoing stream, FEC owed
in 64ths of a bit, the rung binding in force and chosen (R250), its budget and, with `low`, whether it is the lowest
candidate (R249); the spatial and temporal layers under a forwarding hold (R290) and the spatial layers whose temporal
layer 0 is damaged; its decoder context; its telephone events; the sample frames of an AES67 stream not yet sent, each with
its RTP timestamp (R200), and the ns that the packet of an outgoing audio stream holds so far (R417). -/
structure StreamDyn where
  ssrc  : Option Nat := none
  srcHi : Option Nat := none
  jb    : Jb := {}
  tmpl  : Option Nat := none
  sub   : Sub := {}
  sr    : Option (Nat × Nat) := none
  srAt  : Nat := 0
  pacer : Bucket := {}
  meas  : List (Nat × Nat × Nat) := []
  up    : Refresh := {}
  arrs  : List (Nat × Nat) := []
  gaps  : List Gap := []
  rxBase : Option Nat := none
  rxGot  : Nat := 0
  rxExpP : Nat := 0
  rxGotP : Nat := 0
  outSeq : Nat := 0
  outTs  : Nat := 0
  outAt  : Nat := 0
  fecDebt : Nat := 0
  bind   : Option Nat := none
  wantBind : Option Nat := none
  bl     : Int := 0
  low    : Bool := false
  hold   : List (Nat × Nat) := []
  dam0   : List Nat := []
  dec    : Dec := {}
  te     : List TeEv := []
  fifo   : List (Nat × Bytes) := []
  rtpPos : Nat := 0
  deriving DecidableEq, Repr

/-- A send record (R216): SSRC, sequence number, length, send time, the stroke of its send group, its fate (0 not
reported, 1 lost, 2 received), its arrival time, whether a step allows an RTT sample, the packet, its latest
retransmission. -/
structure SentRec where
  ssrc   : Nat
  seq    : Nat
  len    : Nat
  time   : Int
  stroke : Nat
  fate   : Nat := 0
  arr    : Int := 0
  rttOk  : Bool := true
  pkt    : Pkt
  rtxAt  : Option Nat := none
  deriving DecidableEq, Repr

/-- A probe (R235 to R237): the rate needed, first stroke and media time of its end, whether a group reached OVERUSE,
whether PROBE_END has come, bits of padding owed. -/
structure Probe where
  need   : Nat
  stroke : Nat
  last   : Nat := 0
  end_   : Nat
  overuse : Bool := false
  ended  : Bool := false
  owed   : Nat := 0
  deriving DecidableEq, Repr

/-- A compound waiting for the governor (R221): media time of its receive stamp and its messages. -/
structure Fb where
  mt   : Nat
  msgs : List Rtcp
  deriving DecidableEq, Repr

/-- The governor of a leg (R209 to R259). Rates in bit/s, times in ns of media time. `qs` is in ns, `lossN` and `lossD`
the latest L as a fraction, `ls` the smoothed loss in 2^-32; `dstate` 0 NORMAL, 1 OVERUSE, 2 UNDERUSE; `samples` the
one-way samples of the base window; `groupAt` the stroke up to which groups were evaluated, `broken` the groups that
R228 discards; `rtxLog` the bits retransmitted in the last 500 ms; `srs` the sender reports sent (middle NTP bits, media
time); `exts` the highest sequence number of the latest report block by SSRC; `stalls` counts the halvings of the stall
in progress; `snap` is the snapshot of the latest update. -/
structure Gov where
  aD      : Nat := 0
  aL      : Nat := 0
  aR      : Option (Nat × Nat) := none
  a       : Nat := 0
  qs      : Int := 0
  dstate  : Nat := 0
  aLast   : Nat := 0
  lastCut : Option Nat := none
  srtt    : Int := 100000000
  samples : List (Nat × Int) := []
  recs    : List SentRec := []
  groupAt : Nat := 0
  broken  : List Nat := []
  lost    : Nat := 0
  recv    : Nat := 0
  lossN   : Nat := 0
  lossD   : Nat := 1
  ls      : Nat := 0
  rAcked  : Nat := 0
  lastFb  : Nat := 0
  stalls  : Nat := 0
  probe   : Option Probe := none
  probeHold : Nat := 0
  probeFail : Option Nat := none
  lastDown : Option Nat := none
  rtxLog  : List (Nat × Nat) := []
  fb      : List Fb := []
  p       : Nat := 0
  audio   : Nat := 0
  rtx     : Nat := 0
  m       : Nat := 0
  twcc    : Nat := 0
  srs     : List (Nat × Nat) := []
  exts    : Tab Nat := []
  underAt : Option Nat := none
  reportAt : Nat := 0
  ccfbAt  : Nat := 0
  snap    : Bytes := []
  deriving DecidableEq, Repr

/-- A leg beside its header: key slots as master key then salt (R157, R158) with the tick of the latest promotion and
the activation media time of the outbound NEXT key, latched remote address and port (R151), crypto contexts of received
SSRCs for SRTP and SRTCP (R159, R161), SRTCP index of the next packet sent, leg shaper, governor; the sequence number of
the next tag unit written and of the one expected at egress (R468, R469); of a HOST leg, producer and consumer index of the IN ring (and the producer read a stroke earlier), the
OUT ring and the packet ring (R721) and what the device wrote into the last two by frame and by slot. -/
structure LegDyn where
  keyPrev  : Option Bytes := none
  keyCur   : Option Bytes := none
  keyNext  : Option Bytes := none
  promoted : Nat := 0
  outCur   : Option Bytes := none
  outNext  : Option Bytes := none
  outAt    : Nat := 0
  latched  : Option (Nat × Nat) := none
  ctx      : Tab Crypto := []
  rctx     : Tab Crypto := []
  outIdx   : Nat := 0
  shaper   : Bucket := {}
  gov      : Gov := {}
  hostIn   : Nat × Nat := (0, 0)
  hostInOld : Nat := 0
  hostOut  : Nat × Nat := (0, 0)
  hostPkt  : Nat × Nat := (0, 0)
  outRing  : Tab Bytes := []
  pktRing  : Tab Bytes := []
  tagSeq   : Nat := 0
  tagOut   : Option Nat := none
  aud      : LegAud := {}
  deriving DecidableEq, Repr

/-- A picture of a rung waiting for, or in, an engine (R369 to R372): index k and media time of its instant, temporal
layer, eligibility time; from its start on, what it is (0 predicted, 1 begins a cycle, 2 key picture,
3 key picture that is an AV1 cycle), its target rate and the composed picture it reads. -/
structure RungPic where
  k    : Nat
  mt   : Nat
  tid  : Nat
  elig : Option Nat := none
  what : Nat := 0
  t    : Nat := 0
  src  : Mem := []
  deriving DecidableEq, Repr

/-- The latest picture of a temporal layer (R393): mean QP, bits, complexity. -/
structure TidStat where
  qp   : Nat
  bits : Nat
  cx   : Nat
  deriving DecidableEq, Repr

/-- A rung beside its header. The governor's side (R248, R250, R252): target, media time of the latest refresh request
served, whether requests are merged and need a key picture (R389), the request the encoder has not taken (0 none,
1 cycle, 2 key picture). The encoder context (R365 to R405): state of Table 7-5, engine, the picture that waits and the
one in the engine, TID 0 pictures completed in the cycle and since the latest cycle or key
picture began, buffer model, carry, media time of the
previous coded picture, statistics by TID, repair set (block numbers), level-Q pyramids of the latest pictures (instant,
TID, samples), surfaces, sequence
number and the readout of Table 7-11. -/
structure RungDyn where
  target : Nat := 0
  refAt  : Option Nat := none
  refPend : Bool := false
  refKey : Bool := false
  cycReq : Nat := 0
  st     : Nat := 0
  engine : Nat := 0
  wait   : Option RungPic := none
  run    : Option RungPic := none
  pos    : Nat := 0
  since  : Nat := 0
  b      : Nat := 0
  carry  : Nat := 0
  prevMt : Option Nat := none
  stats  : Tab TidStat := []
  repair : List Nat := []
  pyr    : List (Nat × Nat × List (List Nat)) := []
  surfs  : List Nat := []
  seq    : Nat := 0
  exh    : Bool := false
  capped : Bool := false
  tid    : Nat := 0
  qpLast : Nat := 0
  budget : Nat := 0
  bits   : Nat := 0
  tgt    : Nat := 0
  rtpTs  : Nat := 0
  instMt : Nat := 0
  doneAt : Nat := 0
  deriving DecidableEq, Repr

/-- A surface (R305 to R310): generation, partition, format, size, bytes by offset, and the object whose picture buffer it
belongs to (key, 0 for host software's own). -/
structure Surf where
  gen   : Nat
  part  : Nat
  fmt   : Nat
  w     : Nat
  h     : Nat
  mem   : Mem := []
  owner : Nat := 0
  poison : List Nat := []
  deriving DecidableEq, Repr

/-- A pending flip (R333): source, fence, target, and the rectangles in descriptor order. -/
structure Flip where
  src    : Nat
  fence  : Nat
  target : Nat
  rect   : List Nat
  deriving DecidableEq, Repr

/-- What a layer shows: source handle, surface index, fence value of a stream's picture. -/
structure Shown where
  src  : Nat
  surf : Nat
  fv   : Nat := 0
  deriving DecidableEq, Repr

/-- A layer beside its header (R313, R326, R333 to R338): descriptor, pending flip, flip found ready, content, stale run, whether the
stand-in shows and for how many instants, the decision of the readiness check (0 none, 1 flip, 2 advance, 3 stale,
4 idle) with the content it chose and the descriptor it latched, span at the last check, stand-in by R326 with the media
time of its event. -/
structure LayerDyn where
  desc   : Nat := 0
  flip   : Option Flip := none
  took   : Option Flip := none
  cur    : Option Shown := none
  stale  : Nat := 0
  standin : Bool := false
  shownSt : Nat := 0
  plan   : Nat := 0
  next   : Option Shown := none
  ndesc  : Option Nat := none
  span   : Nat := 0
  oversize : Bool := false
  overAt : Option Nat := none
  deriving DecidableEq, Repr

/-- A composition: instant index, PHC time and media time. -/
structure CompJob where
  k  : Nat
  x  : Nat
  mt : Nat
  deriving DecidableEq, Repr

/-- A layout beside its header (R332 to R349): compositor instance, k of the latest instant checked, the composition that
waits, the one in progress with its bands handed over, bytes of the surface being written and of the latest composed
one, the latest composition, tiles poisoned since the latest event and its media time. -/
structure LayoutDyn where
  inst    : Nat := 0
  checked : Option Nat := none
  due     : Option CompJob := none
  run     : Option CompJob := none
  bands   : Nat := 0
  work    : Mem := []
  out     : Mem := []
  last    : Option CompJob := none
  poison  : Nat := 0
  poisonAt : Option Nat := none
  deriving DecidableEq, Repr

/-- An item of an engine's ready list (R274): encode or decode, its stream or rung (key), RTP timestamp or instant index,
eligibility time, deadline, class. -/
structure EngItem where
  enc   : Bool
  k     : Nat
  id    : Nat
  elig  : Nat
  dead  : Nat
  fixed : Bool
  deriving DecidableEq, Repr

/-- A Tenon engine: ready list, item in progress with the tick at which it started, the group pictures that follow it
(R371), context of the latest item, tick at which a watchdog reset ends. -/
structure Engine where
  ready   : List EngItem := []
  run     : Option EngItem := none
  startAt : Nat := 0
  chain   : List EngItem := []
  lastK   : Nat := 0
  resetTo : Option Nat := none
  deriving DecidableEq, Repr

/-- A coefficient set (R321): partition, taps, coefficients by phase and tap. -/
structure CoefSet where
  part : Nat
  taps : Nat
  coef : List Int
  deriving DecidableEq, Repr

/-- The display output (R346 to R353): fields, link state (0 down, 1 training, 2 up, 3 failed), HPD, the sink's EDID, lock
with its runs, latest e in ns, pixel clock correction in 2^-16 ppm, k of the composition on show and its picture. -/
structure Disp where
  fields : Tab Int := []
  link   : Nat := 0
  hpd    : Bool := false
  edid   : Bytes := []
  locked : Bool := false
  good   : Nat := 0
  bad    : Nat := 0
  err    : Int := 0
  adj    : Int := 0
  shown  : Option Nat := none
  frame  : Mem := []
  ctrs   : Counters := []
  deriving DecidableEq, Repr

/-- Surfaces, engines, compositors (instances 0 to 31 Inlay, 32 to 35 Marquetry, with the layout each composes),
coefficient sets (keyed class * 32 + direction * 16 + slot) and the display. -/
structure VideoPart where
  surfs   : Tab Surf := []
  sgens   : Tab Nat := []
  engines : Tab Engine := []
  comps   : Tab Nat := []
  coefs   : Tab CoefSet := []
  disp    : Disp := {}
  deriving DecidableEq, Repr
/-- A partition (R684, R671, R672, R181, R573). -/
structure Partition where
  gen     : Nat
  quota   : Tab Int := []
  encrypt : Bool := false
  xts     : Option Bytes := none
  excTok  : Nat := 0
  excAt   : Nat := 0
  excQ    : List (Nat × Bytes) := []
  lim     : Bucket := {}
  ctrs    : Counters := []
  deriving DecidableEq, Repr

/-- The object tables. `objs` is keyed by TYPE * 2^20 + INDEX; `gens` holds the last generation used there. -/
structure ObjPart where
  objs    : Tab Obj := []
  gens    : Tab Nat := []
  parts   : Tab Partition := []
  actSeq  : Nat := 0
  bornSeq : Nat := 0
  confs   : Tab ConfDyn := []
  legs    : Tab LegDyn := []
  streams : Tab StreamDyn := []
  rungs   : Tab RungDyn := []
  layers  : Tab LayerDyn := []
  layouts : Tab LayoutDyn := []
  deriving DecidableEq, Repr

/-! ## Time (chapter 2) -/

/-- Time states (Table 2-3). -/
inductive TState where
  | freerun
  | locked
  | holdover
  deriving DecidableEq, Repr

/-- A schedule entry of the sequencer (R131): grid (0 stroke, 1 mix period, 2 frame rate, 3 gate cycle, 4 display
frame), rate (ns or row of Table 2-7) and the queue (a handle) that takes the action. -/
structure SchedEntry where
  grid  : Nat
  rate  : Nat
  queue : Nat
  deriving DecidableEq, Repr

/-- The timeline. `phc` counts 2^-32 ns; `ticks` counts TIMER ticks since PORST_N. `slew` is the remaining correction
in 2^-32 ns. `deferred` is the step waiting for the next stroke (R114). `eOff` and `ePrev` are E of the current and the
previous epoch. `frames` holds k and x of the next instant of each rate of Table 2-7. `incrs` holds each increment of
the last 16 s with the tick at which it came in force. `skip` is the span of PHC ns that the latest forward step passed
over. `holdLate` is the media time of a holdover detected while the sequencer runs alone. -/
structure TimePart where
  ticks      : Nat := 0
  phc        : Nat := 0
  incr       : Nat := 0x140000000
  slew       : Int := 0
  deferred   : Option Int := none
  stepped    : Bool := false
  tstate     : TState := .freerun
  epoch      : Nat := 0
  eOff       : Int := 0
  ePrev      : Option Int := none
  strokes    : Nat := 0
  strokeNext : Nat := 500000
  frames     : List (Nat × Nat) := [(1, 133333333), (1, 100000000), (1, 80000000), (1, 66666666), (1, 41708333),
    (1, 41666666), (1, 40000000), (1, 33366666), (1, 33333333), (1, 20833333), (1, 20000000), (1, 16683333), (1, 16666666)]
  skip       : Nat × Nat := (0, 0)
  prm        : Tab Int := []
  utc        : Int := 0
  incrs      : List (Nat × Nat) := [(0x140000000, 0)]
  lockedAt   : Nat := 0
  lastCorr   : Nat := 0
  ownedAt    : Nat := 0
  holdAt     : Nat := 0
  holdLate   : Option Nat := none
  steerAt    : Nat := 0
  ppsKnown   : Bool := false
  clk10m     : Bool := false
  ppsIn      : Bool := false
  ppsWidth   : Nat := 100000000
  ppsEn      : Bool := false
  ppsLast    : Option Nat := none
  ppsNext    : Nat := 1
  ppsOut     : Bool := false
  extSec     : Option Nat := none
  mclkFam    : Nat := 0
  mclkMult   : Nat := 1
  mclkEn     : Bool := false
  mclkAl     : Bool := false
  alignBad   : Nat := 0
  alignGood  : Nat := 0
  alignLost  : Bool := false
  sched      : List SchedEntry := []
  shadow     : List SchedEntry := []
  commit     : Bool := false
  alone      : Bool := false
  aloneAt    : Nat := 0
  stopped    : Bool := false
  govDue     : Bool := false
  ctrs       : Counters := []
  deriving DecidableEq, Repr

/-! ## Memory (chapter 13) -/

/-- An interleave set: first channel, number of channels, log2 of the grain (R644). -/
structure MemSet where
  first : Nat
  n     : Nat
  lg    : Nat
  deriving DecidableEq, Repr

/-- One rank of a channel: temperature indication, whether tREFI is halved, refreshes postponed, power state (0 ACTIVE,
1 POWER_DOWN, 2 SELF_REFRESH), ticks of the last request and the last refresh, retraining sweep position and start. -/
structure RankSt where
  temp     : Nat := 0
  hot      : Bool := false
  tooHot   : Bool := false
  postp    : Nat := 0
  power    : Nat := 0
  lastReq  : Nat := 0
  lastRef  : Nat := 0
  sweep    : Option Nat := none
  trained  : Nat := 0
  deriving DecidableEq, Repr

/-- One strobe lane: delay, Vref, eye width in 1/64 UI, drift since the last centring (R656, R659). -/
structure Lane where
  delay : Int := 0
  vref  : Nat := 0
  width : Nat := 0
  drift : Int := 0
  deriving DecidableEq, Repr

/-- A DRAM request: class 0 FIXED, 1 SPILL, 2 FLOATING; `part` the partition on whose behalf it is made. -/
structure DramReq where
  id    : Nat
  cls   : Nat
  rank  : Nat
  bg    : Nat
  ba    : Nat
  row   : Nat
  dpa   : Nat
  write : Bool
  bytes : Nat
  unit  : Nat
  part  : Option Nat
  poison : Bool
  at_   : Nat
  deriving DecidableEq, Repr

/-- One subchannel: requests in arrival order, requests issued and unanswered, open rows and hit runs by bank, bank
group of the last column command, spill bytes used in the current 1 µs window (R647 to R649). -/
structure SubCh where
  reqs   : List DramReq := []
  flight : List DramReq := []
  openR  : Tab Nat := []
  runs   : Tab Nat := []
  lastBg : Nat := 0
  spill  : Nat := 0
  win    : Nat := 0
  deriving DecidableEq, Repr

/-- An error log entry (Table 13-6). -/
structure MemErr where
  typ   : Nat
  ch    : Nat
  sub   : Nat
  rank  : Nat
  bg    : Nat
  ba    : Nat
  unit  : Nat
  req   : Nat
  part  : Option Nat
  dpa   : Nat
  row   : Nat
  syn   : Nat
  mt    : Nat
  deriving DecidableEq, Repr

/-- A 2 MB extent of DRAM that is not free: its partition (none while it is zeroed) (R669, R670). -/
structure Extent where
  owner   : Option Nat
  zeroing : Bool
  deriving DecidableEq, Repr

/-- What MEM_STATUS answers, as of a stroke boundary (R673): ranks, lanes, corrections by unit, counters by channel. -/
structure MemSnap where
  ranks : Tab RankSt := []
  lanes : Tab Lane := []
  ce    : Tab Nat := []
  ctrs  : Tab Counters := []
  deriving DecidableEq, Repr

/-- The memory controller. Ranks are keyed by 2 * channel + rank, lanes and correction units by
channel * 64 + subchannel * 32 + rank * 16 + lane, subchannels by 2 * channel + subchannel, extents by DPA / 2 MB. -/
structure MemPart where
  channels : Nat := 8
  rate     : Nat := 6400
  kind     : Nat := 0
  sets     : List MemSet := [{ first := 0, n := 8, lg := 8 }]
  prm      : Tab Int := []
  prmNew   : Option (Tab Int) := none
  ranks    : Tab RankSt := []
  lanes    : Tab Lane := []
  ce       : Tab Nat := []
  ceBase   : Tab (Nat × Nat) := []
  ceDone   : List Nat := []
  ceLog    : Tab Nat := []
  subs     : Tab SubCh := []
  ctrs     : Tab Counters := []
  log      : List MemErr := []
  extents  : Tab Extent := []
  poisoned : List Nat := []
  scrubAt  : Nat := 0
  scrubPos : Nat := 0
  snap     : MemSnap := {}
  deriving DecidableEq, Repr

/-! ## Dependability (chapter 16) -/

/-- A fault record (Table 16-2); `active` tells ACTIVE from CLEARED, `evAt` is the tick of its last FAULT_ASSERTED. -/
structure FaultRec where
  mech   : Nat
  active : Bool
  holds  : Bool
  inst   : Nat
  obj    : Nat
  first  : Nat
  last   : Nat
  count  : Nat
  detail : Nat
  evAt   : Option Nat := none
  deriving DecidableEq, Repr

/-- One book of the audit (R793). -/
structure Book where
  code  : Nat
  bad   : Nat
  first : Nat
  diff  : Int
  deriving DecidableEq, Repr

/-- Faults (records, whether a lost one held FAULT_N), removed instances as (0 engine, 1 core) and index, watchdog resets and
lockstep mismatches as (kind, instance, tick); ticks of the latest firmware heartbeat, Clamp heartbeat and confirmed
firmware heartbeat, tick at which a warm restart began, device recovery (cause, tick at which it began). The margin plan:
VDD_CORE setpoint, clock steps in force and those that wait for the stroke boundary, slack, exhausted domains, runs with
margin to spare, media time and tick of the latest run, hottest sensor then, SRAM margin, least eyes, least daily figure
and slack of the day so far, its highest junction temperature, daily figures (PTP seconds, figure), latest figure,
projected end, tick of the latest MARGIN_PROJECTION, tick of the latest daily store and of its retry. Hold-up samples in
µV, store mode, tick of the power failure, flash write-disabled, tick of the latest STORE_DEFERRED. The audit: books,
STROKE_COUNT, whether totals are to be rebuilt. Sensors in 1/16 °C with the runs of samples at the trip point, THERMTRIP,
tick of the latest setpoint change, ticks of the latest MONITOR_FAULT and sites whose condition is present by kind * 256 +
site, regulator telemetry, domains that stand still (R752). -/
structure DepPart where
  recs      : Tab FaultRec := []
  lostHolds : Bool := false
  removed   : List (Nat × Nat) := []
  resets    : List (Nat × Nat × Nat) := []
  hbFw      : Nat := 0
  hbClamp   : Nat := 0
  confirmed : Nat := 0
  restartAt : Option Nat := none
  recoverBy : Option (Nat × Nat) := none
  v         : Nat := 750
  k         : Tab Nat := []
  kNext     : Tab Nat := []
  slack     : Tab Int := []
  exhausted : List Nat := []
  runsUp    : Nat := 0
  lastRun   : Nat := 0
  lastRunTk : Option Nat := none
  lastTj    : Int := 0
  sram      : Int := 0
  dramEye   : Nat := 0
  ethEye    : Nat := 0
  dayMin    : Tab Int := []
  daySlack  : Tab Int := []
  tjDay     : Option Int := none
  daily     : Tab (List (Nat × Int)) := []
  margin    : Tab Int := []
  endOf     : Tab Nat := []
  projAt    : Tab Nat := []
  storedAt  : Nat := 0
  histRetry : Option Nat := none
  holdup    : List Nat := []
  storeMode : Bool := false
  pfAt      : Option Nat := none
  writeDis  : Bool := false
  defEvAt   : Option Nat := none
  audit     : List Book := []
  auditAt   : Nat := 0
  rebuild   : Bool := false
  sensors   : List Int := List.replicate 16 0
  hotRuns   : List Nat := List.replicate 16 0
  thermtrip : Bool := false
  avsSet    : Option Nat := none
  monAt     : Tab Nat := []
  monBad    : List Nat := []
  telem     : Bytes := []
  off       : List Nat := []
  deriving DecidableEq, Repr

/-! ## Boot, flash, debug, management buses and pins (chapters 17 and 18) -/

/-- The boot block (Table 17-4). -/
structure Header where
  xspiMode   : Nat := 0
  xspiMhz    : Nat := 25
  lanes      : Nat := 0
  ownerPort  : Nat := 0
  fastBoot   : Nat := 0
  channels   : Nat := 8
  kind       : Nat := 0
  rate       : Nat := 6400
  vCap       : Nat := 850
  mac        : Nat := 0
  holdC      : Nat := 0
  holdVmin   : Nat := 0
  holdRatio  : Nat := 0
  storePower : Nat := 0
  storeEntry : Nat := 0
  tPp        : Nat := 0
  tSe        : Nat := 0
  tBe        : Nat := 0
  flashMb    : Nat := 64
  boardId    : Nat := 0
  deriving DecidableEq, Repr

/-- States of a firmware slot (Table 15-20). -/
inductive SlotSt where
  | empty
  | valid
  | invalid
  | writing
  deriving DecidableEq, Repr

/-- An update session (R819): slot, image length, blocks written OK. -/
structure Session where
  slot   : Nat
  len    : Nat
  blocks : List Nat := []
  deriving DecidableEq, Repr

/-- A boot log entry (R803). -/
structure BootEntry where
  us     : Nat
  step   : Nat
  code   : Nat
  detail : Nat
  deriving DecidableEq, Repr

/-- A flash operation: code (Table 16-9), address and bytes to program. -/
structure FlashOp where
  code : Nat
  addr : Nat
  data : Bytes
  deriving DecidableEq, Repr

/-- Flash operations that belong together: kind (0 FW_UPDATE_DATA, 1 FW_ACTIVATE, 2 training record, 3 boot log, 4 daily
history, 5 margin plan state), the issuing function, operations still to do, the address and bytes that FW_UPDATE_DATA
reads back; ticks deferred so far, tick since which the first operation is deferred and tick of its latest check, whether an operation
of the job is in progress. -/
structure FlashJob where
  kind  : Nat
  fn    : Nat := 0
  ops   : List FlashOp
  addr  : Nat := 0
  data  : Bytes := []
  total : Nat := 0
  since : Option Nat := none
  check : Nat := 0
  busy  : Bool := false
  deriving DecidableEq, Repr

/-- A stored training record (R657): data rate, channels, kind, points of the lanes. -/
structure TrainRec where
  rate  : Nat
  chans : Nat
  kind  : Nat
  lanes : Tab Lane
  deriving DecidableEq, Repr

/-- Boot ROM, flash, updates, debug unlock, SMBus, JTAG and the pins the other parts do not hold. Flash regions that the
spec gives no layout for are also held as what they say: the training record and the margin plan state (setpoint, clock
steps); `logPos` is where the log partition goes on, `copies` which of the
two copies of each is in force. `slots` and `booted` are the states of slots A and B and the slot that
booted; `storeTrain` and `storeLog` what BOOT_STORE is still to store; `ara` the answer to the alert response
address, `smb` the latest SMBus answer (none: NACK), `jtag` the latest JTAG answer. -/
structure BootPart where
  porstLow  : Bool := true
  hdr       : Header := {}
  flash     : Mem := []
  flashOp   : Option FlashOp := none
  jobs      : List FlashJob := []
  trainRec  : Option TrainRec := none
  marginRec : Option (Nat × Tab Nat) := none
  logPos    : Nat := 0x400000
  copies    : Nat × Nat := (0, 0)
  slots     : SlotSt × SlotSt := (.empty, .empty)
  booted    : Nat := 0
  mismatch  : Nat := 3
  kabi      : Nat := 0
  session   : Option Session := none
  actReset  : Option Nat := none
  log       : List BootEntry := []
  storeTrain : Bool := false
  storeLog  : Bool := false
  challenge : Option (Bytes × Nat) := none
  challenges : Nat := 0
  dbgFails  : Nat := 0
  jtagOpen  : Bool := false
  page      : Nat := 0
  smb       : Option Bytes := none
  ara       : Option Nat := none
  jtag      : Option Nat := none
  straps    : Nat := 0
  deriving DecidableEq, Repr
/-- The whole block, with the queue of waiting commands. `free` is the model's own counter of free values. -/
structure State where
  pending : List Instr := []
  free    : Nat := 0
  host    : HostPart := {}
  obj     : ObjPart := {}
  time    : TimePart := {}
  mem     : MemPart := {}
  dep     : DepPart := {}
  boot    : BootPart := {}
  eth     : EthPart := {}
  batten  : BattenPart := {}
  vid     : VideoPart := {}
  dsp     : DspPart := {}
  aud     : AudPart := {}
  deriving DecidableEq, Repr

/-- The device while PORST_N is low: nothing of a start-up has run. -/
def State.reset : State := {}

end Sys2Proof.Machine
end

