-- ==== Sys2Proof/Machine/Ops.lean ====
section
/-!
DEFINITION. The named operations every meaning is built from: tables, byte memories, counters, byte order, the
timeline's readings, functions and their signals, event delivery (R707 to R715, R751), fault records (R759 to R763).
-/

namespace Sys2Proof.Machine

open Sys2Proof

/-- The outcome type of the block. -/
abbrev Out := Host.Outcome State Fault Refusal

/-- Whether every domain but those the always-on parts run in stands still: PORST_N is low (R794), store mode (R790) or
a thermal trip (R848). -/
def halted (s : State) : Bool := s.boot.porstLow || s.dep.storeMode || s.dep.thermtrip

/-- The state `t` with what no command changes but those that name it: the queue of waiting commands, PORST_N, a pin that
the board drives (R794), and the flash, which only a flash operation or the board's programming changes (R820). -/
def keep (s t : State) : State :=
  { t with pending := s.pending, boot := { t.boot with porstLow := s.boot.porstLow, flash := s.boot.flash } }

/-- Runs `f` when the part the command names exists, and faults otherwise; without effect while the device is halted. -/
def onPart (ok : Bool) (s : State) (f : State → State) : Out :=
  if ok then .next (if halted s then s else keep s (f s)) else .fault .noSuchPart

/-- As `onPart`, for what the always-on parts and the pins do: halted or not. -/
def onAon (ok : Bool) (s : State) (f : State → State) : Out :=
  if ok then .next (keep s (f s)) else .fault .noSuchPart

/-- Runs `f` unless the device is halted. -/
def live (s : State) (f : State → State) : Out := onPart true s f

/-- Runs `f` when the command's condition holds; a command that is not due changes nothing (log entry 2). -/
def guarded (c : Bool) (s : State) (f : State → State) : State :=
  if c then f s else s

/-! ## Tables -/

/-- The entry with key `k`. -/
def Tab.get {α : Type} : Tab α → Nat → Option α
  | [], _ => none
  | (k', v) :: t, k => if k' = k then some v else Tab.get t k

/-- The table with the entry `k` set to `v`; keys stay rising. -/
def Tab.set {α : Type} : Tab α → Nat → α → Tab α
  | [], k, v => [(k, v)]
  | (k', v') :: t, k, v =>
    if k < k' then (k, v) :: (k', v') :: t
    else if k' = k then (k, v) :: t
    else (k', v') :: Tab.set t k v

/-- The table without the entry `k`. -/
def Tab.del {α : Type} : Tab α → Nat → Tab α
  | [], _ => []
  | (k', v') :: t, k => if k' = k then Tab.del t k else (k', v') :: Tab.del t k

/-- The entry `k`, or `d` when there is none. -/
def Tab.getD {α : Type} (t : Tab α) (k : Nat) (d : α) : α := (Tab.get t k).getD d

/-- Changes the entry `k` when there is one. -/
def Tab.upd {α : Type} (t : Tab α) (k : Nat) (f : α → α) : Tab α :=
  match Tab.get t k with
  | some v => Tab.set t k (f v)
  | none => t

/-- Whether the table has an entry `k`. -/
def Tab.has {α : Type} (t : Tab α) (k : Nat) : Bool := (Tab.get t k).isSome

/-- The keys of a table, rising. -/
def Tab.keys {α : Type} (t : Tab α) : List Nat := t.map (·.1)

/-- The lowest number in `i, i+1, ...` (at most `n` of them) that is not in `ks`. -/
def lowestFree (ks : List Nat) : Nat → Nat → Option Nat
  | _, 0 => none
  | i, n + 1 => if ks.contains i then lowestFree ks (i + 1) n else some i

/-- Replaces the element at `i` of a list. -/
def setAt {α : Type} : List α → Nat → α → List α
  | [], _, _ => []
  | _ :: t, 0, v => v :: t
  | h :: t, i + 1, v => h :: setAt t i v

/-- A list with `a` put before the first element that it may precede. -/
def insertBy {α : Type} (le : α → α → Bool) (a : α) : List α → List α
  | [] => [a]
  | b :: t => if le a b then a :: b :: t else b :: insertBy le a t

/-- The list in the order `le`; elements that tie keep their order. -/
def sortBy {α : Type} : List α → (α → α → Bool) → List α
  | [], _ => []
  | a :: t, le => insertBy le a (sortBy t le)

/-! ## Byte memories -/

/-- The byte at `a`; `d` is what an unlisted address reads as. -/
def Mem.get (d : Byte) : Mem → Nat → Byte
  | [], _ => d
  | (k, v) :: t, a => if k = a then v else Mem.get d t a

/-- The memory with the byte at `a` listed as `v`. -/
def Mem.ins : Mem → Nat → Byte → Mem
  | [], a, v => [(a, v)]
  | (k, w) :: t, a, v =>
    if a < k then (a, v) :: (k, w) :: t
    else if k = a then (a, v) :: t
    else (k, w) :: Mem.ins t a v

/-- Writes one byte and keeps the canonical form. -/
def Mem.put (d : Byte) (m : Mem) (a : Nat) (v : Byte) : Mem :=
  if v = d then m.filter fun c => c.1 != a else Mem.ins m a v

/-- Reads `n` bytes from `a` on. -/
def Mem.read (d : Byte) (m : Mem) (a : Nat) : Nat → Bytes
  | 0 => []
  | n + 1 => Mem.get d m a :: Mem.read d m (a + 1) n

/-- Writes a byte string from `a` on. -/
def Mem.write (d : Byte) (m : Mem) (a : Nat) : Bytes → Mem
  | [] => m
  | b :: bs => Mem.write d (Mem.put d m a b) (a + 1) bs

/-- The memory in which every address of [lo, hi) reads as `d` again. -/
def Mem.clear (m : Mem) (lo hi : Nat) : Mem := m.filter fun c => c.1 < lo || hi ≤ c.1

/-- Addresses rise strictly from at least `lo` on, and no cell holds `d`. -/
def Mem.wfFrom (d : Byte) : Nat → Mem → Bool
  | _, [] => true
  | lo, (k, v) :: t => decide (lo ≤ k) && !(v == d) && Mem.wfFrom d (k + 1) t

/-- The canonical form of a memory whose unlisted addresses read as `d`. -/
def Mem.wf (d : Byte) (m : Mem) : Bool := Mem.wfFrom d 0 m

/-! ## Byte order (R10) -/

/-- The number that a byte string spells, first byte least significant. -/
def fromLe : Bytes → Nat
  | [] => 0
  | b :: bs => b.toNat + 256 * fromLe bs

/-- The number that `n` bytes at offset `o` of a payload spell; absent bytes read 0. -/
def le (p : Bytes) (o n : Nat) : Nat := fromLe ((p.drop o).take n)

/-- `n` bytes of a number, least significant first. -/
def toLe : Nat → Nat → Bytes
  | 0, _ => []
  | n + 1, v => BitVec.ofNat 8 v :: toLe n (v / 256)

/-- The signed value of an `n`-bit number. -/
def signed (n v : Nat) : Int := if v % 2 ^ n < 2 ^ (n - 1) then (v % 2 ^ n : Nat) else (v % 2 ^ n : Nat) - (2 ^ n : Nat)

/-- An integer as an `n`-bit number. -/
def wrap (n : Nat) (v : Int) : Nat := (v % (2 ^ n : Nat)).toNat

/-- `n` bytes of an integer. -/
def toLeI (n : Nat) (v : Int) : Bytes := toLe n (wrap (8 * n) v)

/-- `n` zero bytes. -/
def zeros (n : Nat) : Bytes := List.replicate n 0

/-- A byte string cut or padded with zeros to `n` bytes. -/
def padTo (n : Nat) (b : Bytes) : Bytes := b.take n ++ zeros (n - b.length)

/-- The smallest multiple of `m` that is at least `n`. -/
def roundUp (n m : Nat) : Nat := (n + m - 1) / m * m

/-- Division rounded up. -/
def ceilDiv (n m : Nat) : Nat := (n + m - 1) / m

/-- Bit `i` of a number. -/
def bitOf (v i : Nat) : Bool := v / 2 ^ i % 2 == 1

/-- Bits [hi:lo] of a number. -/
def bits (v hi lo : Nat) : Nat := v / 2 ^ lo % 2 ^ (hi + 1 - lo)

/-- A Boolean as a bit. -/
def b2n (b : Bool) : Nat := if b then 1 else 0

/-- A number with bit `i` set. -/
def setBit (v i : Nat) : Nat := if bitOf v i then v else v + 2 ^ i

/-- A number without bit `i`. -/
def clrBit (v i : Nat) : Nat := if bitOf v i then v - 2 ^ i else v

/-! ## Counters (R207) -/

/-- The value of a counter. -/
def ctr (cs : Counters) (c : Ctr) : Nat :=
  match cs with
  | [] => 0
  | (c', v) :: t => if c' = c then v else ctr t c

/-- Adds `n` to a counter, modulo 2^64. -/
def bump (cs : Counters) (c : Ctr) (n : Nat := 1) : Counters :=
  match cs with
  | [] => [(c, n % 2 ^ 64)]
  | (c', v) :: t => if c' = c then (c', (v + n) % 2 ^ 64) :: t else (c', v) :: bump t c n

/-! ## Time -/

/-- TIMER ticks of one microsecond, one millisecond and one second (R77: 800 MHz). -/
def tUs : Nat := 800
/-- TIMER ticks of one millisecond. -/
def tMs : Nat := 800000
/-- TIMER ticks of one second. -/
def tS : Nat := 800000000

/-- TIMER ticks that a time of `ns` takes, rounded up. -/
def nsTicks (ns : Nat) : Nat := ceilDiv (ns * 4) 5

/-- PHC_total_ns (R79). -/
def phcNs (t : TimePart) : Nat := t.phc / 2 ^ 32

/-- Media time (R107). -/
def mediaTime (t : TimePart) : Nat := wrap 64 ((phcNs t : Int) - t.eOff)

/-- Media time of the state. -/
def now (s : State) : Nat := mediaTime s.time

/-- PHC_TIME of a PHC count as 16 bytes (Table 2-1). -/
def phcBytes (phc : Nat) : Bytes :=
  toLe 4 (phc % 2 ^ 32) ++ toLe 4 (phc / 2 ^ 32 % 1000000000) ++ toLe 6 (phc / 2 ^ 32 / 1000000000) ++ zeros 2

/-! ## Functions -/

/-- The record of function `F`; a function that is not listed is as a function reset leaves it. -/
def getFn (s : State) (F : Nat) : Func := Tab.getD s.host.fns F {}

/-- Replaces the record of function `F`. -/
def setFn (s : State) (F : Nat) (f : Func) : State :=
  { s with host := { s.host with fns := Tab.set s.host.fns F f } }

/-- Changes the record of function `F`. -/
def updFn (s : State) (F : Nat) (g : Func → Func) : State := setFn s F (g (getFn s F))

/-- Signals an MSI-X vector (R679): a masked vector, or one with MSI-X disabled, sets its pending bit. -/
def signalVec (f : Func) (v : Nat) : Func :=
  if f.msixEn && f.unmasked.contains v then { f with sent := Tab.set f.sent v (Tab.getD f.sent v 0 + 1) }
  else { f with pba := if f.pba.contains v then f.pba else v :: f.pba }

/-- Sets bit `n` of FUNC_STATUS (R689). -/
def setStatus (f : Func) (n : Nat) : Func :=
  let f1 := { f with status := setBit f.status n, sets := Tab.set f.sets n ((Tab.getD f.sets n 0 + 1) % 2 ^ 32) }
  if bitOf f.mask n then f1 else signalVec f1 0

/-- Number of functions of the host port mode (R675, R677). -/
def nFuncs (s : State) : Nat := if s.host.mode = 0 then 64 else if s.host.mode = 1 then 128 else 256

/-! ## Events (R707 to R715) -/

/-- The queue an event type of the function goes to (R711). -/
def routeOf (f : Func) (typ : Nat) : Option Nat :=
  match Tab.get f.route typ with
  | some q => if q = 255 then none else some q
  | none => if f.q0 then some 0 else none

/-- Records in an event queue that host software has not consumed. -/
def eqFill (q : EvQueue) : Nat := wrap 32 ((q.tail : Int) - q.head)

/-- Whether the queue can take a record (R710). -/
def eqRoom (q : EvQueue) : Bool := decide (eqFill q < q.size) && !q.err

/-- Writes one record into a queue with room, and signals its vector by COAL_COUNT (R709, R715). -/
def eqWrite (tick : Nat) (f : Func) (qi : Nat) (q : EvQueue) (r : EvRec) : Func :=
  let q1 := { q with
    slots := Tab.set q.slots (q.tail % q.size) (r, (q.tail / q.size) % 2 == 0)
    tail := (q.tail + 1) % 2 ^ 32
    u := q.u + 1
    t0 := if q.u = 0 then tick else q.t0 }
  if q.count ≤ q1.u || q.time = 0 then
    signalVec { f with queues := Tab.set f.queues qi { q1 with u := 0 } } q.vector
  else { f with queues := Tab.set f.queues qi q1 }

/-- Writes the EVENTS_LOST record of queue `qi` when losses are pending and there is room (R714). -/
def eqLost (tick mt : Nat) (f : Func) (qi : Nat) : Func :=
  match Tab.get f.queues qi with
  | some q =>
    if eqRoom q && decide (0 < Tab.getD f.pendLoss qi 0) then
      let f1 := eqWrite tick f qi q
        { typ := 0x004, handle := 0, mt := mt, payload := toLe 8 (Tab.getD f.pendLoss qi 0) ++ zeros 8 }
      { f1 with pendLoss := Tab.del f1.pendLoss qi }
    else f
  | none => f

/-- Moves backlogged records into their queues, in order, while there is room; `kept` holds what must wait (R714). -/
def eqDrain (tick mt : Nat) (f : Func) (kept : List (Nat × EvRec)) : List (Nat × EvRec) → Func
  | [] => { f with backlog := kept }
  | (qi, r) :: t =>
    let f1 := eqLost tick mt f qi
    match Tab.get f1.queues qi with
    | some q =>
      if eqRoom q && !(Tab.has f1.pendLoss qi) && !(kept.any fun e => e.1 = qi) then
        eqDrain tick mt (eqWrite tick f1 qi q r) kept t
      else eqDrain tick mt f1 (kept ++ [(qi, r)]) t
    | none => eqDrain tick mt f1 kept t

/-- Puts one record into a queue of the function, its backlog, or the loss count (R714). -/
def eqPut (tick mt : Nat) (f : Func) (qi : Nat) (r : EvRec) : Func :=
  match Tab.get f.queues qi with
  | none => { f with ctrs := bump f.ctrs .evtUnrouted }
  | some _ =>
    let f1 := eqLost tick mt f qi
    match Tab.get f1.queues qi with
    | none => f1
    | some q =>
      if eqRoom q && !(f1.backlog.any fun e => e.1 = qi) && !(Tab.has f1.pendLoss qi) then eqWrite tick f1 qi q r
      else if f1.backlog.length < 256 then { f1 with backlog := f1.backlog ++ [(qi, r)] }
      else
        setStatus { f1 with
          queues := Tab.set f1.queues qi { q with lost := min 0xFFFF (q.lost + 1) }
          pendLoss := Tab.set f1.pendLoss qi (Tab.getD f1.pendLoss qi 0 + 1) } 2

/-- Delivers one record to a function by its routes (R711). -/
def deliver (r : EvRec) (F : Nat) (s : State) : State :=
  let f := getFn s F
  match routeOf f r.typ with
  | none => setFn s F { f with ctrs := bump f.ctrs .evtUnrouted }
  | some qi => setFn s F (eqPut s.time.ticks (now s) f qi r)

/-- Who receives an event (R751). -/
inductive Dest where
  | fn (F : Nat)
  | owner
  | all
  | part (p : Nat)
  | partAndOwner (p : Nat)

/-- The functions of partition `p`, rising. -/
def partFns (s : State) (p : Nat) : List Nat :=
  (s.host.fns.filter fun e => e.2.part == some p).map (·.1)

/-- The functions an event goes to (R712). -/
def destFns (s : State) : Dest → List Nat
  | .fn F => [F]
  | .owner => [s.host.owner]
  | .all => List.range (nFuncs s)
  | .part p =>
    let fs := partFns s p
    if (getFn s s.host.owner).ownerAll && !fs.contains s.host.owner then fs ++ [s.host.owner] else fs
  | .partAndOwner p =>
    let fs := partFns s p
    if fs.contains s.host.owner then fs else fs ++ [s.host.owner]

/-- Writes an event (R708, R751): payload padded to 16 bytes. -/
def emit (d : Dest) (typ handle : Nat) (pay : Bytes) (s : State) : State :=
  let r : EvRec := { typ := typ, handle := handle, mt := now s, payload := padTo 16 pay }
  (destFns s d).foldl (fun s F => deliver r F s) s

/-! ## Objects -/

/-- The key of an object in the tables. -/
def okey (t i : Nat) : Nat := t * 1048576 + i

/-- A handle (Table 0-5). -/
def mkHandle (t g i : Nat) : Nat := t * 2 ^ 28 + g % 256 * 2 ^ 20 + i

/-- TYPE, GEN and INDEX of a handle. -/
def hType (h : Nat) : Nat := h / 2 ^ 28 % 16
/-- GEN of a handle. -/
def hGen (h : Nat) : Nat := h / 2 ^ 20 % 256
/-- INDEX of a handle. -/
def hIdx (h : Nat) : Nat := h % 2 ^ 20
/-- The table key a handle names, whatever its generation. -/
def hKey (h : Nat) : Nat := okey (hType h) (hIdx h)

/-- The object with a key. -/
def getObj (s : State) (k : Nat) : Option Obj := Tab.get s.obj.objs k

/-- Replaces the object table. -/
def setObjs (s : State) (o : Tab Obj) : State := { s with obj := { s.obj with objs := o } }

/-- The key of the object that a handle names while its generation is in force; 0 otherwise (R14, R28). -/
def liveKey (s : State) (h : Nat) : Nat :=
  match getObj s (hKey h) with
  | some o => if o.gen = hGen h then hKey h else 0
  | none => 0

/-- Changes the object with key `k` when there is one. -/
def updObj (s : State) (k : Nat) (g : Obj → Obj) : State := setObjs s (Tab.upd s.obj.objs k g)

/-- The handle of the object with key `k`. -/
def objHandle (k : Nat) (o : Obj) : Nat := mkHandle (k / 1048576) o.gen (k % 1048576)

/-- Counts on an object. -/
def bumpObj (s : State) (k : Nat) (c : Ctr) (n : Nat := 1) : State :=
  updObj s k fun o => { o with ctrs := bump o.ctrs c n }

/-- Counts on a partition. -/
def bumpPart (s : State) (p : Nat) (c : Ctr) (n : Nat := 1) : State :=
  { s with obj := { s.obj with parts := Tab.upd s.obj.parts p fun q => { q with ctrs := bump q.ctrs c n } } }

/-- Counts on the device. -/
def bumpDev (s : State) (c : Ctr) (n : Nat := 1) : State :=
  { s with time := { s.time with ctrs := bump s.time.ctrs c n } }

/-- Counts on a function. -/
def bumpFn (s : State) (F : Nat) (c : Ctr) (n : Nat := 1) : State :=
  updFn s F fun f => { f with ctrs := bump f.ctrs c n }

/-- Whether the object `k` exists and is ACTIVE. -/
def isActive (s : State) (k : Nat) : Bool := ((getObj s k).map (·.state)) == some ObjSt.active

/-- The state an object will hold once every accepted transition has taken effect (R851). -/
def Obj.willBe (o : Obj) : ObjSt :=
  ((o.pend.filterMap fun p => match p.act with
    | .state st => some st
    | _ => none).getLast?).getD o.state

/-- Whether the object `k` exists and will be ACTIVE. -/
def willActive (s : State) (k : Nat) : Bool := ((getObj s k).map Obj.willBe) == some ObjSt.active

/-- The objects of type `t`: their keys, rising. -/
def objKeys (s : State) (t : Nat) : List Nat :=
  (s.obj.objs.filter fun e => e.1 / 1048576 == t).map (·.1)

/-- The children of type `t` of the object with key `k`. -/
def kids (s : State) (t k : Nat) : List Nat :=
  (s.obj.objs.filter fun e => e.1 / 1048576 == t && hKey e.2.parent == k).map (·.1)

/-- The key of an object's parent. -/
def parentKey (s : State) (k : Nat) : Nat := ((getObj s k).map fun o => hKey o.parent).getD 0

/-- What the conference `k` holds beside its header. -/
def getConf (s : State) (k : Nat) : ConfDyn := Tab.getD s.obj.confs k {}
/-- Replaces what the conference `k` holds. -/
def setConf (s : State) (k : Nat) (c : ConfDyn) : State :=
  { s with obj := { s.obj with confs := Tab.set s.obj.confs k c } }
/-- What the leg `k` holds beside its header. -/
def getLeg (s : State) (k : Nat) : LegDyn := Tab.getD s.obj.legs k {}
/-- Replaces what the leg `k` holds. -/
def setLeg (s : State) (k : Nat) (l : LegDyn) : State :=
  { s with obj := { s.obj with legs := Tab.set s.obj.legs k l } }
/-- What the stream `k` holds beside its header. -/
def getStream (s : State) (k : Nat) : StreamDyn := Tab.getD s.obj.streams k {}
/-- Replaces what the stream `k` holds. -/
def setStream (s : State) (k : Nat) (x : StreamDyn) : State :=
  { s with obj := { s.obj with streams := Tab.set s.obj.streams k x } }
/-- The Ethernet port `p`. -/
def getPort (s : State) (p : Nat) : EthPort := Tab.getD s.eth.ports p {}
/-- Replaces the Ethernet port `p`. -/
def setPort (s : State) (p : Nat) (e : EthPort) : State := { s with eth := { s.eth with ports := Tab.set s.eth.ports p e } }
/-- Changes the Ethernet port `p`. -/
def updPort (s : State) (p : Nat) (g : EthPort → EthPort) : State := setPort s p (g (getPort s p))
/-- Counts on an Ethernet port. -/
def bumpPort (s : State) (p : Nat) (c : Ctr) (n : Nat := 1) : State :=
  updPort s p fun e => { e with ctrs := bump e.ctrs c n }
/-- Replaces the timeline. -/
def setTime (s : State) (t : TimePart) : State := { s with time := t }
/-- The Ethernet ports the mode forms (Table 3-1). -/
def nPorts (s : State) : Nat := if s.eth.mode = 2 then 4 else if s.eth.mode = 3 then 2 else 8

/-- Writes an event that concerns the object `k` to the functions of its partition (R712). -/
def emitObj (s : State) (k typ : Nat) (pay : Bytes) : State :=
  match getObj s k with
  | some o => emit (.part o.part) typ (objHandle k o) pay s
  | none => s

/-- Counts a promise miss of a fixed object (R74): at most one PROMISE_MISSED per object and second. -/
def promiseMiss (k : Nat) (s : State) : State :=
  match getObj s k with
  | none => s
  | some o =>
    if !o.fixed then s
    else
      let due := match o.missAt with
        | none => true
        | some t => t + tS ≤ s.time.ticks
      let s1 := updObj s k fun o => { o with
        miss := (o.miss + 1) % 2 ^ 64
        missNew := if due then 0 else o.missNew + 1
        missAt := if due then some s.time.ticks else o.missAt }
      if due then emitObj s1 k 0x022 (toLe 8 (o.missNew + 1)) else s1

/-- The Ethernet mode (Table 3-1): 0 ETH_8X25, 1 ETH_8X50, 2 ETH_4X100, 3 ETH_2X200. -/
def ethMode (s : State) : Nat := s.eth.mode

/-- The size of the attached DRAM in bytes (Table 13-1). -/
def dramBytes (s : State) : Nat := s.mem.channels * (if s.mem.kind = 1 then 16 else 32) * 2 ^ 30

/-- Clock steps k_d of a domain (Table 16-6): those that a coming step brings, else those in force (R781). -/
def clockK (s : State) (d : Nat) : Nat := Tab.getD s.dep.kNext d (Tab.getD s.dep.k d 0)

/-- A time of work at the reduced clock of a domain, rounded up (R781). -/
def scaleNs (s : State) (d n : Nat) : Nat := ceilDiv (n * 64) (64 - clockK s d)

/-! ## Free values -/

/-- Takes the next free value of `w` bits: `tag` names what is open. -/
def takeFree (tag w : Nat) (s : State) : Nat × State :=
  ((freeValue tag s.free w) % 2 ^ w, { s with free := s.free + 1 })

/-- A choice that the spec leaves to the device: one element of a list, freely; the only one when there is no other. -/
def pickFree (tag : Nat) (l : List Nat) (s : State) : Option Nat × State :=
  match l with
  | [] => (none, s)
  | [a] => (some a, s)
  | _ => (l[(freeValue tag s.free 32) % l.length]?, { s with free := s.free + 1 })

end Sys2Proof.Machine
end

