-- ==== Sys2Proof/Machine/Operands.lean ====
section
/-!
DEFINITION. The operand forms of the Uarek commands: status codes (Table 15-22), the field tables with their ranges
and defaults (R733 to R736, Table 15-3), field entries, the command table (Tables 15-4 to 15-20) and handles (R13 to
R18, R729).
-/

namespace Sys2Proof.Machine

open Sys2Proof

/-! ## Status codes -/

/-- Status codes (R750, Table 15-22). -/
inductive Status where
  | ok
  | badLength
  | badOpcode
  | wrongMailbox
  | recoveryMode
  | unsupportedVersion
  | unsupportedField
  | unassigned
  | notOwner
  | badHandle
  | outOfRange
  | invalidClass
  | badState
  | notEmpty
  | inUse
  | conflict
  | busy
  | noResource
  | dmaFault
  | badImage
  | signatureFail
  | versionMismatch
  | storeDeferred
  | admissionRefused
  | timeout
  | aborted
  deriving DecidableEq, Repr

/-- The value of a status code. -/
def Status.code : Status → Nat
  | .ok => 0x00
  | .badLength => 0x01
  | .badOpcode => 0x02
  | .wrongMailbox => 0x03
  | .recoveryMode => 0x04
  | .unsupportedVersion => 0x05
  | .unsupportedField => 0x06
  | .unassigned => 0x07
  | .notOwner => 0x08
  | .badHandle => 0x09
  | .outOfRange => 0x0A
  | .invalidClass => 0x0B
  | .badState => 0x0C
  | .notEmpty => 0x0D
  | .inUse => 0x0E
  | .conflict => 0x0F
  | .busy => 0x10
  | .noResource => 0x11
  | .dmaFault => 0x12
  | .badImage => 0x13
  | .signatureFail => 0x14
  | .versionMismatch => 0x15
  | .storeDeferred => 0x16
  | .admissionRefused => 0x17
  | .timeout => 0x18
  | .aborted => 0x19

/-- The status of lowest value among the checks that fail (R731): each check is a condition that must hold and the
status when it does not. -/
def lowest : List (Bool × Status) → Option Status
  | [] => none
  | (true, _) :: t => lowest t
  | (false, st) :: t =>
    match lowest t with
    | some st' => if st'.code < st.code then some st' else some st
    | none => some st

/-! ## Fields -/

/-- The value that stands for a special word, such as NONE (R734). -/
def noneV : Int := 18446744073709551615

/-- Range and default of one field element. `vals`, when not empty, lists the only values; `word` admits the special
word; `fixed` marks a field fixed at creation. -/
structure FS where
  lo    : Int
  hi    : Int
  dflt  : Int := 0
  step  : Int := 1
  word  : Bool := false
  fixed : Bool := false
  vals  : List Int := []
  deriving DecidableEq, Repr

/-- An enumeration of `n` values with default `d`. -/
def fsEnum (n d : Int) : FS := { lo := 0, hi := n - 1, dflt := d }

/-- A number from `lo` to `hi` with default `d`. -/
def fsNum (lo hi d : Int) : FS := { lo := lo, hi := hi, dflt := d }

/-- A 32-bit or 64-bit value without range rule of its own. -/
def fsAny (d : Int := 0) : FS := { lo := 0, hi := 18446744073709551615, dflt := d }

/-- A level or gain in 1/64 dB, stepped in 0.25 dB, from `lo` to `hi` dB. -/
def fsDb (lo hi d : Int) : FS := { lo := 64 * lo, hi := 64 * hi, dflt := 64 * d, step := 16 }

/-- A duration in ns. -/
def fsMs (lo hi d : Int) : FS := { lo := lo * 1000000, hi := hi * 1000000, dflt := d * 1000000 }

/-- Leg fields (Table 15-12), by row. -/
def legRows : List (List FS) := [
  [{ fsEnum 4 0 with fixed := true }],
  [fsNum 0 7 0],
  [fsNum 0 1023 0],
  [fsNum 1 65535 0],
  [fsAny, fsAny],
  [fsNum 1 65535 0],
  [fsEnum 2 0],
  [fsEnum 6 0, fsEnum 6 0],
  List.replicate 7 (fsNum 0 255 0),
  [fsNum 0 15 0],
  [fsMs 0 400 40, fsMs 0 400 0, fsMs 0 400 40, fsMs 0 400 200],
  [{ lo := 500000, hi := 100000000, dflt := 2000000, step := 500000 }],
  [fsNum 3000 4194304 24000],
  [fsMs 100 5000 1000],
  [fsMs 20 200 50],
  [fsAny, fsNum 0 31 0, { fsNum 0 31 noneV with word := true }],
  [fsAny, fsNum 0 31 0, { fsNum 0 31 noneV with word := true }],
  [fsNum 0 255 0],
  [{ fsAny with step := 64 }, { fsAny with step := 64 }, { fsAny with step := 64 },
   { fsNum 64 65536 1024 with vals := [64, 128, 256, 512, 1024, 2048, 4096, 8192, 16384, 32768, 65536] },
   fsNum 1 2 1, fsEnum 3 1],
  [{ fsAny with step := 64 },
   { fsNum 64 16384 256 with vals := [64, 128, 256, 512, 1024, 2048, 4096, 8192, 16384] },
   { fsNum 2048 10240 2048 with vals := [2048, 10240] }]]

/-- Governor parameters (Table 4-4), by row: rows 0 to 23 Leg, 24 and 25 Source stream, 26 Rung. -/
def govRows : List (List FS) := [
  [fsEnum 3 0],
  [fsNum 32000 400000000 1000000],
  [fsNum 32000 400000000 64000],
  [fsNum 32000 400000000 20000000],
  [fsMs 1 50 5],
  [fsMs 2 500 25],
  [fsNum 0 6 3],
  [fsMs 1000 60000 10000],
  [fsMs 20 500 50],
  [fsNum 32 63 54],
  [fsNum 1 10 1],
  [fsNum 1000 100000 8000],
  [fsNum 0 100 20],
  [fsNum 0 500 100],
  [fsNum 100 250 125],
  [fsNum 0 32 16],
  [fsMs 0 500 50],
  [fsNum 0 50 10],
  [fsMs 0 1000 500],
  [fsNum 64 128 74],
  [fsMs 500 30000 2000],
  [fsMs 0 1000 100],
  [fsMs 50 1000 200],
  [fsMs 250 10000 1000],
  [fsMs 100 5000 300],
  [fsNum 1 16 5],
  [fsMs 100 5000 500]]

/-- Audio fields of a leg (Table 8-5), by row. -/
def legAudioRows : List (List FS) := [
  [fsEnum 3 0],
  [fsDb (-96) 12 0],
  [fsDb (-96) 12 0],
  [fsDb (-30) 30 0],
  [{ fsNum 0 31 noneV with word := true }],
  [fsEnum 2 1],
  [{ lo := -2560, hi := -640, dflt := -1472 }],
  [{ lo := 0, hi := 1920, dflt := 1152 }],
  [fsEnum 4 2],
  [{ lo := 192, hi := 1920, dflt := 576 }],
  [fsEnum 2 0],
  [fsEnum 2 1],
  [fsEnum 2 1],
  [fsNum 1 4294967295 0],
  [fsEnum 2 0],
  [fsAny, fsAny]]

/-- Stream fields (Table 15-14), by row. -/
def streamRows : List (List FS) := [
  [{ fsEnum 2 0 with fixed := true }],
  [{ fsEnum 2 0 with fixed := true }],
  [fsEnum 5 0],
  [{ fsNum 0 4294967295 noneV with word := true }],
  [fsAny, fsAny],
  [fsAny],
  List.replicate 8 (fsNum 0 65535 0),
  [fsAny],
  [fsAny],
  [fsAny],
  [fsNum 0 8 0],
  [fsNum 1 255 1],
  [fsNum 0 7 0],
  [{ fsNum 0 8191 noneV with word := true }],
  [fsNum 16384 16777216 1048576],
  [fsMs 0 400 50],
  [fsNum 2500000 60000000 20000000],
  [fsNum 0 4294967295 0, fsNum 0 4294967295 1000000,
   { fsNum 6 192 48 with vals := [6, 12, 16, 48, 192] }, fsNum 1 8 2, fsNum 0 255 0x10, fsNum 0 255 0x10]]

/-- Decoding fields of a stream (Table 5-3), by row. -/
def decodeRows : List (List FS) := [
  [fsEnum 2 0],
  [fsNum 64 4096 1920],
  [fsNum 64 2304 1080],
  [{ fsNum 8 10 8 with vals := [8, 10] }],
  [fsEnum 13 8],
  [fsNum 1024 8388608 524288],
  [fsNum 1 16 0],
  [fsNum 0 2 2, fsNum 0 2 2]]

/-- Audio fields of an outgoing stream (Table 8-3), by row. -/
def outAudioRows : List (List FS) := [
  [fsEnum 6 0],
  [fsNum 1 2 1],
  [{ lo := 2500000, hi := 60000000, dflt := 0, step := 2500000 }],
  [fsNum 6000 510000 32000],
  [fsEnum 4 3],
  [fsEnum 2 0],
  [fsEnum 2 0],
  [fsEnum 2 0],
  [fsEnum 2 0]]

/-- Kerf fields of an outgoing stream (Table 11-2), by row. -/
def kerfRows : List (List FS) := [
  [fsNum 0 7 2],
  [fsNum 1500 1048576 12000],
  [fsNum 4096 16777216 262144],
  [fsNum 8000 160000000000 0],
  [fsNum 1500 1048576 12000],
  [fsNum 64 9224 1300]]

/-- Audio fields of a conference (Table 8-6), by row. -/
def confRows : List (List FS) := [
  [{ fsNum 2500000 20000000 20000000 with vals := [2500000, 5000000, 10000000, 20000000] }],
  [fsNum 1 8 4],
  [fsMs 0 2000 300],
  [fsDb 0 20 6],
  [fsEnum 2 0],
  [fsNum 0 15 0],
  [fsAny],
  [fsEnum 2 0]]

/-- Composition fields of a layout (Table 6-4), by row. -/
def layoutRows : List (List FS) := [
  [fsEnum 2 0],
  [{ lo := 64, hi := 3840, dflt := 1280, step := 16 }],
  [{ lo := 64, hi := 2160, dflt := 720, step := 4 }],
  [fsEnum 13 8],
  [{ fsNum 8 10 8 with vals := [8, 10] }],
  [fsNum 0 1023 64, fsNum 0 1023 512, fsNum 0 1023 512]]

/-- Rung fields (Table 7-4), by row. -/
def rungRows : List (List FS) := [
  [fsEnum 3 1],
  [fsEnum 3 2],
  [{ fsNum 8 10 8 with vals := [8, 10] }],
  [fsNum 128 3840 0],
  [fsNum 72 2160 0],
  [fsNum 1 4 1],
  [fsEnum 6 0],
  [fsEnum 2 1],
  [fsNum 0 15 0],
  [fsNum 32000 400000000 300000],
  [fsNum 32000 400000000 4000000],
  [fsNum 1024 8388608 262144],
  [fsMs 50 2000 300],
  [fsNum 0 51 10],
  [fsNum 0 51 48],
  [fsNum 4 128 16],
  [fsNum 0 65535 0],
  [fsNum 500 8900 1200],
  [fsNum 96 127 96]]

/-- Time parameters (Table 2-8), by row. OWNER: a function, or FIRMWARE as the special word. -/
def timeRows : List (List FS) := [
  [{ fsNum 0 255 noneV with word := true }],
  [fsEnum 6 0],
  [fsNum 0 255 0],
  [fsNum 1000 1000000000 1000000],
  [fsNum 1 1000 1000],
  [fsMs 1000 60000 4000],
  [fsEnum 2 0],
  [fsNum 100 1000000 5000],
  [{ fsNum 0 63 noneV with word := true }]]

/-- Audio port fields (Table 10-1), by row. -/
def aportRows : List (List FS) := [
  [fsEnum 2 1],
  [fsEnum 2 0],
  [fsEnum 3 0],
  [{ fsNum 8000 192000 48000 with
     vals := [8000, 16000, 32000, 44100, 48000, 88200, 96000, 176400, 192000], word := true }],
  [fsNum 1 32 2],
  [{ fsNum 16 32 32 with vals := [16, 24, 32] }],
  [{ fsNum 16 24 24 with vals := [16, 24] }],
  [fsEnum 2 1],
  [fsEnum 2 0],
  [fsEnum 2 0],
  [fsEnum 2 0],
  [fsEnum 2 0],
  [fsNum 0 4294967295 3, fsNum 0 4294967295 3],
  [fsEnum 3 1],
  [fsEnum 2 0],
  [{ fsNum 64 65536 1024 with vals := [64, 128, 256, 512, 1024, 2048, 4096, 8192, 16384, 32768, 65536] }],
  [{ fsAny with step := 64 }, { fsAny with step := 64 }, { fsAny with step := 64 }],
  [fsNum 1 1024 48],
  [fsEnum 2 1]]

/-- Policer fields (Table 11-4), by row. -/
def policerRows : List (List FS) := [
  [fsEnum 2 0],
  [fsEnum 2 0],
  [fsNum 1000 50000000000 1250000],
  [fsNum 64 16777215 16384],
  [fsNum 0 16777215 16384],
  [fsNum 1000 50000000000 0],
  [fsNum 64 16777215 32768],
  [fsEnum 2 0]]

/-- Queue group fields (Table 12-4), by row. -/
def groupRows : List (List FS) := [
  [fsNum 1 4294967295 1048576],
  [fsNum 0 4294967294 524288],
  [fsNum 0 255 0],
  [fsEnum 2 0],
  [fsNum 0 7 0],
  [fsNum 0 7 0],
  [fsEnum 2 0],
  [fsEnum 2 0]]

/-- Memory timer fields (Table 13-4), by row. -/
def memRows : List (List FS) := [
  [fsEnum 2 1],
  [fsNum 0 65535 256],
  [fsMs 0 10000 0],
  [fsNum 0 168 24],
  [fsNum 0 168 24]]

/-- Partition quotas (Table 14-3), by row; element 0 of FIXED_SHARE (row 7) is no field (R735). -/
def quotaRows : List (List FS) := [
  [fsNum 0 4096 0],
  [fsNum 0 256 0, fsNum 0 64 0, fsNum 0 256 0],
  [fsNum 0 1024 0, fsNum 0 512 0, fsNum 0 16384 0, fsNum 0 65536 0],
  [fsNum 0 2048 0, fsNum 0 2048 0],
  [fsNum 0 16 0, fsNum 0 30 0, fsNum 0 15 0],
  [fsNum 0 8192 0, fsNum 0 256 0],
  [{ lo := 0, hi := 274877906944, step := 2097152 }],
  List.replicate 9 (fsNum 0 1000000 0),
  [fsAny],
  [fsNum 1000000 10000000000 100000000, fsNum 9216 1048576 65536, fsNum 1000 1000000 50000]]

/-- Display fields (Table 6-8), by row. -/
def displayRows : List (List FS) := [
  [fsAny],
  [{ fsNum 1 4 4 with vals := [1, 2, 4] }],
  [fsEnum 4 3],
  [fsEnum 5 0],
  [fsNum 1 4095 1, fsNum 1 4095 1, fsNum 1 4095 1],
  [fsNum 1 1023 1, fsNum 1 1023 1, fsNum 1 1023 1],
  [fsEnum 2 0, fsEnum 2 0]]

/-- Ethernet port fields (Table 15-9), by row. -/
def ethRows : List (List FS) := [
  [fsEnum 4 2],
  [fsNum 1518 9216 1518],
  [fsEnum 3 0],
  [fsNum 0 281474976710655 0],
  [fsNum 0 65535 2000],
  [fsNum 0 16777216 196608, fsNum 0 16777216 131072, fsNum 0 255 255],
  [fsNum 1 65535 65535],
  [fsNum (-32) 127 20],
  [fsNum 0 255 8, fsNum 0 255 32, fsNum 0 255 32, fsNum 0 255 32, fsNum 0 255 32],
  List.replicate 5 (fsNum 65536 16777216 1048576)]

/-- The rows of a field table by its code (Table 15-3). -/
def tableRows (t : Nat) : List (List FS) :=
  match t with
  | 0x01 => legRows
  | 0x02 => govRows
  | 0x03 => legAudioRows
  | 0x04 => streamRows
  | 0x05 => decodeRows
  | 0x06 => outAudioRows
  | 0x07 => kerfRows
  | 0x08 => confRows
  | 0x09 => layoutRows
  | 0x0A => rungRows
  | 0x0B => timeRows
  | 0x0C => aportRows
  | 0x0D => policerRows
  | 0x0E => groupRows
  | 0x0F => memRows
  | 0x10 => quotaRows
  | 0x11 => displayRows
  | 0x12 => ethRows
  | _ => []

/-- TABLE of a field key. -/
def fTable (k : Nat) : Nat := k / 65536 % 256
/-- ROW of a field key. -/
def fRow (k : Nat) : Nat := k / 256 % 256
/-- ELEMENT of a field key. -/
def fElem (k : Nat) : Nat := k % 256

/-- The key of a field: ELEMENT, ROW and TABLE as a field entry packs them (Table 15-2). -/
def fk (t r e : Nat) : Nat := t * 65536 + r * 256 + e

/-- The specification of the field with key `k`. -/
def fieldSpec (k : Nat) : Option FS :=
  if fTable k = 0x10 ∧ fRow k = 7 ∧ fElem k = 0 then none
  else match (tableRows (fTable k))[fRow k]? with
    | some es => es[fElem k]?
    | none => none

/-- Whether TABLE and ROW are defined (R736). -/
def rowKnown (k : Nat) : Bool := ((tableRows (fTable k))[fRow k]?).isSome

/-- Whether a value lies in a field's range. -/
def FS.inRange (f : FS) (v : Int) : Bool :=
  if v = noneV && f.word then true
  else if f.vals.isEmpty then decide (f.lo ≤ v) && decide (v ≤ f.hi) && decide (v % f.step = 0)
  else f.vals.contains v

/-- The value of a field in a field list: what is stored, or the field's default. -/
def fld (fs : Tab Int) (k : Nat) : Int :=
  match Tab.get fs k with
  | some v => v
  | none => ((fieldSpec k).map (·.dflt)).getD 0

/-- A field as a natural number. -/
def fldN (fs : Tab Int) (k : Nat) : Nat := (fld fs k).toNat

/-- A field of the object with key `o` of the state. -/
def ofld (s : State) (o k : Nat) : Int := fld ((getObj s o).map (·.fields) |>.getD []) k

/-- A field of an object as a natural number. -/
def ofldN (s : State) (o k : Nat) : Nat := (ofld s o k).toNat

/-- One field entry: key, value as VALUE encodes it, and whether the reserved bits are zero (Table 15-2). -/
structure Entry where
  key : Nat
  raw : Nat
  clean : Bool
  deriving DecidableEq, Repr

/-- The value of an entry, sign-extended when the field's range holds negative values (R734). -/
def Entry.val (e : Entry) : Int :=
  match fieldSpec e.key with
  | some f => if f.lo < 0 then signed 64 e.raw else e.raw
  | none => e.raw

/-- The first `n` field entries from byte `o` on (R733). -/
def entries (p : Bytes) (o : Nat) : Nat → List Entry
  | 0 => []
  | n + 1 =>
    { key := le p o 3, raw := le p (o + 8) 8, clean := le p (o + 3) 5 == 0 } :: entries p (o + 16) n

/-- Whether no two entries name one field. -/
def distinctKeys : List Entry → Bool
  | [] => true
  | e :: t => !(t.any fun x => x.key = e.key) && distinctKeys t

/-- The checks of field entries (R736): `ok` says which keys the object holds and the command accepts. -/
def entryChecks (es : List Entry) (ok : Nat → Bool) : List (Bool × Status) :=
  [(es.all fun e => rowKnown e.key && e.clean, .unsupportedField),
   (es.all fun e => ok e.key && ((fieldSpec e.key).map (·.inRange e.val)).getD false, .outOfRange),
   (distinctKeys es, .outOfRange)]

/-- The field list with the entries applied. -/
def applyEntries (fs : Tab Int) (es : List Entry) : Tab Int :=
  es.foldl (fun fs e => Tab.set fs e.key e.val) fs

/-- One field entry as 16 bytes. -/
def entryBytes (k : Nat) (v : Int) : Bytes := toLe 8 k ++ toLeI 8 v

/-- Every key of a table, in row and element order. -/
def tableKeys (t : Nat) : List Nat :=
  (List.range (tableRows t).length).flatMap fun r =>
    ((List.range ((tableRows t)[r]?.getD []).length).map fun e => fk t r e).filter fun k => (fieldSpec k).isSome

/-! ## The command table -/

/-- Who may issue a command (Table 15-1). -/
inductive Issuer where
  | any
  | self
  | part
  | owner
  | town
  deriving DecidableEq, Repr

/-- A row of the command tables: opcode, whether it uses the admin mailbox, whether mailbox and ring take it, issuer,
fixed length of the payload (rounded as R728 gives), and, for a list, the offset and width of COUNT, the start of the
list and the size of an item. -/
structure CmdRow where
  op     : Nat
  admin  : Bool
  mbox   : Bool := true
  ring   : Bool := false
  iss    : Issuer
  len    : Nat := 0
  list   : Option (Nat × Nat × Nat × Nat) := none
  deriving DecidableEq, Repr

/-- A command with field entries from byte `start` on, COUNT in bytes `c` and `c + 1`. -/
def withEntries (c start : Nat) : Option (Nat × Nat × Nat × Nat) := some (c, 2, start, 16)

/-- Identity, transport, partition and device commands (Tables 15-4 and 15-6). -/
def cmdRows1 : List CmdRow := [
  { op := 0x0000, admin := false, mbox := false, ring := true, iss := .self },
  { op := 0x0001, admin := true, iss := .any },
  { op := 0x0010, admin := true, iss := .self, len := 24 },
  { op := 0x0011, admin := true, iss := .self, len := 8 },
  { op := 0x0012, admin := true, iss := .self, len := 8 },
  { op := 0x0013, admin := true, iss := .self, len := 24 },
  { op := 0x0014, admin := true, iss := .self, len := 8 },
  { op := 0x0015, admin := true, iss := .self, list := some (0, 2, 4, 4) },
  { op := 0x0016, admin := true, iss := .self, len := 16 },
  { op := 0x0017, admin := true, iss := .self, len := 8 },
  { op := 0x0018, admin := true, iss := .self, len := 24 },
  { op := 0x0019, admin := true, iss := .self, len := 8 },
  { op := 0x0100, admin := true, iss := .owner, list := withEntries 6 8 },
  { op := 0x0101, admin := true, iss := .owner, list := withEntries 6 8 },
  { op := 0x0102, admin := true, iss := .owner, len := 8 },
  { op := 0x0103, admin := true, iss := .part, len := 8 },
  { op := 0x0104, admin := true, iss := .owner, len := 8 },
  { op := 0x0105, admin := true, iss := .owner, len := 8 },
  { op := 0x0106, admin := true, iss := .any },
  { op := 0x0107, admin := true, iss := .owner, list := some (0, 1, 4, 4) },
  { op := 0x0108, admin := true, iss := .owner, len := 72 },
  { op := 0x0109, admin := true, iss := .owner, list := withEntries 6 8 },
  { op := 0x010A, admin := true, iss := .owner, len := 8 },
  { op := 0x010B, admin := true, iss := .owner, list := some (0, 1, 8, 8) }]

/-- Time and port commands (Tables 15-7 and 15-8). -/
def cmdRows2 : List CmdRow := [
  { op := 0x0200, admin := false, iss := .any },
  { op := 0x0201, admin := true, iss := .owner, list := withEntries 6 8 },
  { op := 0x0202, admin := false, iss := .town, len := 16 },
  { op := 0x0203, admin := false, iss := .town, len := 8 },
  { op := 0x0204, admin := false, iss := .town, len := 8 },
  { op := 0x0205, admin := true, iss := .owner, len := 16 },
  { op := 0x0206, admin := true, iss := .owner, len := 16 },
  { op := 0x0207, admin := false, iss := .town, len := 8 },
  { op := 0x0300, admin := true, iss := .owner, list := withEntries 6 8 },
  { op := 0x0301, admin := false, iss := .any, len := 8 },
  { op := 0x0302, admin := false, iss := .owner, len := 16 },
  { op := 0x0303, admin := true, iss := .owner, len := 8 },
  { op := 0x0304, admin := false, iss := .any, len := 8 },
  { op := 0x0305, admin := true, iss := .owner, len := 56 },
  { op := 0x0306, admin := true, iss := .owner, list := withEntries 6 8 },
  { op := 0x0307, admin := true, iss := .owner, len := 32 },
  { op := 0x0308, admin := true, iss := .owner, len := 16 },
  { op := 0x0309, admin := true, iss := .owner, len := 32 },
  { op := 0x030A, admin := true, iss := .owner, list := withEntries 6 8 },
  { op := 0x030B, admin := true, iss := .owner, len := 8 },
  { op := 0x030C, admin := true, iss := .part, len := 8 },
  { op := 0x030D, admin := true, iss := .part, len := 8 },
  { op := 0x030E, admin := true, iss := .owner, len := 32 },
  { op := 0x030F, admin := true, iss := .owner, len := 8 },
  { op := 0x0310, admin := true, iss := .owner, len := 16 }]

/-- The life-cycle commands of one group (R743, R744). -/
def lifeRows (g : Nat) (layer : Bool) : List CmdRow := [
  if layer then { op := 256 * g, admin := false, iss := .part, len := 72 }
  else { op := 256 * g, admin := false, ring := true, iss := .part, list := withEntries 6 8 },
  if layer then { op := 256 * g + 1, admin := false, iss := .part, len := 72 }
  else { op := 256 * g + 1, admin := false, ring := true, iss := .part, list := withEntries 6 8 },
  { op := 256 * g + 2, admin := false, ring := true, iss := .part, len := 8 },
  { op := 256 * g + 3, admin := false, ring := true, iss := .part, len := 8 },
  { op := 256 * g + 4, admin := false, ring := true, iss := .part, len := 8 },
  { op := 256 * g + 5, admin := false, iss := .part, len := 8 }]

/-- Leg, stream, layout, layer, rung, surface and fence commands (Tables 15-15 and 15-16). -/
def cmdRows3 : List CmdRow := [
  { op := 0x0506, admin := false, iss := .part, len := 64 },
  { op := 0x0507, admin := false, ring := true, iss := .part, list := withEntries 6 8 },
  { op := 0x0508, admin := false, iss := .part, len := 8 },
  { op := 0x0606, admin := false, iss := .part, len := 8 },
  { op := 0x0607, admin := false, ring := true, iss := .part, list := withEntries 6 8 },
  { op := 0x0706, admin := true, iss := .part, len := 24 },
  { op := 0x0707, admin := true, iss := .part, len := 8 },
  { op := 0x0806, admin := false, ring := true, iss := .part, list := some (0, 1, 8, 40) },
  { op := 0x0906, admin := false, ring := true, iss := .part, len := 8 },
  { op := 0x0907, admin := false, ring := true, iss := .part, len := 8 },
  { op := 0x0A00, admin := false, ring := true, iss := .part, len := 16 },
  { op := 0x0A01, admin := false, ring := true, iss := .part, len := 8 },
  { op := 0x0A02, admin := false, iss := .part, len := 8 },
  { op := 0x0A03, admin := false, ring := true, iss := .part, len := 24 },
  { op := 0x0A04, admin := false, ring := true, iss := .part, len := 24 },
  { op := 0x0B00, admin := false, iss := .part, len := 8 },
  { op := 0x0B01, admin := false, iss := .part, len := 8 },
  { op := 0x0B02, admin := false, mbox := false, ring := true, iss := .part, len := 16 }]

/-- Audio graph, kernel, diagnostic and firmware commands (Tables 15-17 to 15-20). -/
def cmdRows4 : List CmdRow := [
  { op := 0x0C00, admin := false, iss := .part, len := 8 },
  { op := 0x0C01, admin := false, iss := .part, len := 8 },
  { op := 0x0C02, admin := true, iss := .part, len := 24 },
  { op := 0x0C03, admin := true, iss := .part, len := 8 },
  { op := 0x0C04, admin := false, ring := true, iss := .part, len := 16 },
  { op := 0x0C05, admin := false, ring := true, iss := .part, len := 8 },
  { op := 0x0C06, admin := false, ring := true, iss := .part, len := 32 },
  { op := 0x0C07, admin := false, ring := true, iss := .part, len := 8 },
  { op := 0x0C08, admin := true, iss := .part, len := 24 },
  { op := 0x0C09, admin := false, ring := true, iss := .part, len := 8 },
  { op := 0x0C0A, admin := false, iss := .part, len := 8 },
  { op := 0x0D00, admin := true, iss := .part, len := 16 },
  { op := 0x0D01, admin := true, iss := .part, len := 8 },
  { op := 0x0D02, admin := false, iss := .part, len := 8 },
  { op := 0x0D03, admin := false, ring := true, iss := .part, len := 8 },
  { op := 0x0E00, admin := false, iss := .part, len := 8 },
  { op := 0x0E01, admin := false, iss := .part, len := 8 },
  { op := 0x0E02, admin := false, iss := .part, len := 8 },
  { op := 0x0E03, admin := false, ring := true, iss := .part, len := 8 },
  { op := 0x0E04, admin := true, iss := .part, list := some (2, 2, 4, 2) },
  { op := 0x0E05, admin := true, iss := .part, list := withEntries 8 16 },
  { op := 0x0E06, admin := false, iss := .part, len := 8 },
  { op := 0x0E07, admin := false, ring := true, iss := .part, len := 8 },
  { op := 0x0E08, admin := false, iss := .part, len := 8 },
  { op := 0x0E09, admin := false, iss := .part, len := 8 },
  { op := 0x0E0A, admin := true, iss := .owner },
  { op := 0x0E0B, admin := true, iss := .owner, len := 8 },
  { op := 0x0E0C, admin := true, iss := .part, len := 8 },
  { op := 0x0E0D, admin := true, iss := .owner, len := 8 },
  { op := 0x0E0E, admin := true, iss := .owner },
  { op := 0x0E0F, admin := true, iss := .owner, len := 8 },
  { op := 0x0E10, admin := true, iss := .owner, len := 8 },
  { op := 0x0F00, admin := true, iss := .any },
  { op := 0x0F01, admin := true, iss := .owner, len := 8 },
  { op := 0x0F02, admin := true, iss := .owner, len := 16 },
  { op := 0x0F03, admin := true, iss := .owner },
  { op := 0x0F04, admin := true, iss := .owner, len := 8 },
  { op := 0x0F05, admin := true, iss := .owner },
  { op := 0x0F06, admin := true, iss := .owner, len := 96 }]

/-- Every command of the tables. -/
def cmdRows : List CmdRow :=
  cmdRows1 ++ cmdRows2 ++ lifeRows 4 false ++ lifeRows 5 false ++ lifeRows 6 false ++ lifeRows 7 false
    ++ lifeRows 8 true ++ lifeRows 9 false ++ cmdRows3 ++ cmdRows4

/-- The row of an opcode. -/
def cmdRow (op : Nat) : Option CmdRow := cmdRows.find? fun r => r.op = op

/-- The LENGTH that a command's payload must have (R728). -/
def CmdRow.wantLen (r : CmdRow) (p : Bytes) : Nat :=
  match r.list with
  | none => r.len
  | some (o, n, start, size) => roundUp (start + le p o n * size) 8

/-- Bytes and reserved ranges a command's fixed payload does not list; each pair is an offset and a length (R728). -/
def reservedBytes (op : Nat) : List (Nat × Nat) :=
  if 4 ≤ op / 256 ∧ op / 256 ≤ 9 ∧ 2 ≤ op % 256 ∧ op % 256 ≤ 5 then [(4, 4)]
  else if op = 0x0800 ∨ op = 0x0801 then [(6, 2)]
  else if op = 0x0010 then [(2, 2)] else if op = 0x0011 then [(1, 7)] else if op = 0x0012 then [(1, 3)]
  else if op = 0x0013 then [(1, 1), (20, 4)] else if op = 0x0014 then [(1, 7)]
  else if op = 0x0015 then [(3, 1)] else if op = 0x0016 then [(2, 2)] else if op = 0x0017 then [(1, 7)]
  else if op = 0x0018 then [(17, 7)] else if op = 0x0019 then [(1, 7)]
  else if op = 0x0100 then [(1, 5)] else if op = 0x0101 then [(4, 2)] else if op = 0x0102 then [(4, 4)]
  else if op = 0x0103 then [(4, 4)] else if op = 0x0104 then [(1, 3)] else if op = 0x0105 then [(1, 7)]
  else if op = 0x0107 then [(1, 3)] else if op = 0x0108 then [(4, 4)] else if op = 0x0109 then [(0, 6)]
  else if op = 0x010B then [(1, 7)] else if op = 0x0201 then [(0, 6)]
  else if op = 0x0202 then [(6, 2), (12, 4)] else if op = 0x0205 then [(2, 2), (12, 4)]
  else if op = 0x0206 then [(9, 7)] else if op = 0x0207 then [(2, 6)]
  else if op = 0x0300 then [(4, 2)] else if op = 0x0301 then [(4, 4)] else if op = 0x0302 then [(12, 4)]
  else if op = 0x0303 then [(3, 5)] else if op = 0x0304 then [(4, 4)]
  else if op = 0x0305 then [(4, 4), (31, 1), (55, 1)] else if op = 0x0306 then [(4, 2)]
  else if op = 0x0307 then [(6, 2), (14, 2)] else if op = 0x0308 then [(4, 4)]
  else if op = 0x030A then [(0, 6)] else if op = 0x030C then [(7, 1)] else if op = 0x030D then [(3, 5)]
  else if op = 0x030E then [(6, 2), (28, 4)] else if op = 0x030F then [(2, 6)]
  else if op = 0x0506 then [(62, 2)] else if op = 0x0507 then [(4, 2)] else if op = 0x0508 then [(4, 4)]
  else if op = 0x0606 then [(4, 4)] else if op = 0x0607 then [(2, 4)]
  else if op = 0x0706 then [(3, 5), (20, 4)] else if op = 0x0707 then [(3, 5)] else if op = 0x0806 then [(1, 7)]
  else if op = 0x0906 then [(4, 4)] else if op = 0x0907 then [(4, 4)]
  else if op = 0x0A00 then [(5, 3)] else if op = 0x0A01 then [(4, 4)] else if op = 0x0A02 then [(4, 4)]
  else if op = 0x0B01 then [(4, 4)] else if op = 0x0B02 then [(4, 4)]
  else if op = 0x0C00 then [(4, 4)] else if op = 0x0C01 then [(4, 4)]
  else if op = 0x0C02 then [(1, 7), (20, 4)] else if op = 0x0C03 then [(1, 7)]
  else if op = 0x0C04 then [(12, 4)] else if op = 0x0C06 then [(5, 1), (10, 2), (28, 4)]
  else if op = 0x0C07 then [(5, 3)] else if op = 0x0C08 then [(5, 3), (20, 4)] else if op = 0x0C09 then [(6, 2)]
  else if op = 0x0C0A then [(5, 3)] else if op = 0x0D00 then [(12, 4)] else if op = 0x0D01 then [(4, 4)]
  else if op = 0x0E00 then [(7, 1)] else if op = 0x0E01 then [(2, 6)] else if op = 0x0E02 then [(3, 5)]
  else if op = 0x0E03 then [(2, 6)] else if op = 0x0E05 then [(1, 3), (10, 6)] else if op = 0x0E06 then [(1, 7)]
  else if op = 0x0E07 then [(2, 6)] else if op = 0x0E08 then [(3, 5)] else if op = 0x0E09 then [(2, 6)]
  else if op = 0x0E0C then [(2, 6)] else if op = 0x0E0D then [(2, 6)] else if op = 0x0E0F then [(2, 6)]
  else if op = 0x0E10 then [(4, 4)] else if op = 0x0F04 then [(1, 7)]
  else []

/-- Whether every reserved byte of a payload is zero. -/
def reservedZero (op : Nat) (p : Bytes) : Bool := (reservedBytes op).all fun r => le p r.1 r.2 == 0

/-! ## Handles -/

/-- Whether the function is the owner function. -/
def isOwner (s : State) (F : Nat) : Bool := decide (s.host.owner = F)

/-- Whether function `F` may see an object of partition `p` (R17, R729). -/
def sees (s : State) (F p : Nat) : Bool := isOwner s F || (getFn s F).part == some p

/-- The key of the object that a handle of type `t` names for function `F`, when R14, R17 and R18 admit it. -/
def resolve (s : State) (F t h : Nat) : Option Nat :=
  if hType h = t then
    match getObj s (hKey h) with
    | some o => if o.gen = hGen h && sees s F o.part then some (hKey h) else none
    | none => none
  else none

/-- The partition index that a PARTITION handle names. -/
def resolvePart (s : State) (h : Nat) : Option Nat :=
  if hType h = 1 then
    match Tab.get s.obj.parts (hIdx h) with
    | some p => if p.gen = hGen h then some (hIdx h) else none
    | none => none
  else none

/-- The handle of a partition index. -/
def partHandle (s : State) (p : Nat) : Nat := mkHandle 1 ((Tab.get s.obj.parts p).map (·.gen) |>.getD 0) p

/-- The index of a PORT handle (R741). -/
def resolvePort (h : Nat) : Option Nat :=
  if hType h = 0xB ∧ hGen h = 1 ∧ hIdx h ≤ 20 then some (hIdx h) else none

/-- The PORT handle of an index (R741). -/
def portHandle (i : Nat) : Nat := mkHandle 0xB 1 i

/-- The time owner: a function, or none for firmware (R96, Table 2-8). -/
def timeOwner (s : State) : Option Nat :=
  let v := fld s.time.prm (fk 0x0B 0 0)
  if v = noneV then none else some v.toNat

/-! ## Answers -/

/-- How a command's commit point ends. -/
inductive Ans where
  /-- the whole effect, with the result and the handle a ring completion carries -/
  | ok (out : Bytes) (h : Nat) (s : State)
  /-- a status, with the result it carries, and no effect (R731) -/
  | no (st : Status) (out : Bytes)
  /-- a DMA outside the function's windows (R727): address, length, access (0 read, 1 write) -/
  | dma (addr len acc : Nat)
  /-- a status that leaves an effect behind: the WRITING slot of R821, an event of R789 -/
  | part (st : Status) (s : State)
  /-- the command goes on, PENDING, with the effect so far: flash operations follow (R820, R825) -/
  | later (s : State)

/-- Refuses with the lowest failing status, or goes on (R731). -/
def checked (cs : List (Bool × Status)) (k : Unit → Ans) : Ans :=
  match lowest cs with
  | some st => .no st []
  | none => k ()

/-- Whether [a, a + n) lies wholly in one window of the function with the access (R727). -/
def inWindow (f : Func) (a n : Nat) (wr : Bool) : Bool :=
  f.wins.any fun w => decide (w.2.base ≤ a) && decide (a + n ≤ w.2.base + w.2.len) && (if wr then w.2.write else w.2.read)

end Sys2Proof.Machine
end

