-- ==== Sys2Proof/Machine/Serve.lean ====
section
/-!
DEFINITION. How a Uarek command is served: the checks of R693, R696 and R729, the commit point (R694, R731), completion
in a mailbox (R691, R695) and on a ring (R702 to R706), and the DMA fault of R727. Every Uarek command's meaning is one
call of `serve` with the command's own body.
-/

namespace Sys2Proof.Machine

open Sys2Proof

/-- What a command does at its commit point: issuing function, payload, data its DMA read from host memory, state. -/
abbrev Body := Nat → Bytes → Bytes → State → Ans

/-- The mailbox of a function. -/
def Func.mbox (f : Func) : Mb → Mbox
  | .admin => f.admin
  | .media => f.media

/-- Replaces a mailbox of a function. -/
def Func.setMbox (f : Func) (m : Mb) (b : Mbox) : Func :=
  match m with
  | .admin => { f with admin := b }
  | .media => { f with media := b }

/-- The mailbox `m` of function `F`. -/
def getMb (s : State) (F : Nat) (m : Mb) : Mbox := (getFn s F).mbox m

/-- Replaces the mailbox `m` of function `F`. -/
def setMb (s : State) (F : Nat) (m : Mb) (b : Mbox) : State := updFn s F fun f => f.setMbox m b

/-- COMPAT of a function (R696, Table 14-11): 0 UNDECLARED, 1 MATCH, 2 NEWER_MINOR, 3 MAJOR_MISMATCH. -/
def compat (s : State) (F : Nat) : Nat :=
  let h := (getFn s F).iface
  if h = 0 then 0
  else if bits h 31 16 ≠ bits s.host.version 31 16 then 3
  else if bits h 15 0 ≤ bits s.host.version 15 0 then 1
  else 2

/-- Whether the opcode is a firmware command (Table 15-20). -/
def isFirmware (op : Nat) : Bool := op / 256 == 0x0F

/-- Whether recovery firmware serves the opcode: Tables 15-4, 15-19 and 15-20 (R693, R813). -/
def inRecovery (op : Nat) : Bool := op < 0x0100 || op / 256 == 0x0E || op / 256 == 0x0F

/-- Whether the declared interface version lets the opcode be served (R696, Table 14-11). -/
def versionOk (s : State) (F op : Nat) : Bool := op = 1 || isFirmware op || compat s F == 1 || compat s F == 2

/-- The immediate refusals of R693, for a command latched in mailbox `m` of function `F`; reserved bits of FLAGS that are not
zero are an unsupported field (Tables 14-9, 15-22). -/
def r693 (s : State) (F : Nat) (m : Mb) (b : Mbox) : Option Status :=
  match cmdRow b.op with
  | none => if b.hdrSeq ≠ b.seq ∨ 2040 < b.len then some .badLength else some .badOpcode
  | some r =>
    lowest [
      (decide (b.hdrSeq = b.seq) && decide (b.len ≤ 2040) && decide (b.len = r.wantLen b.pay), .badLength),
      (r.mbox && decide (r.admin = (m == .admin)), .wrongMailbox),
      (!(s.host.dev == .recovery) || inRecovery b.op, .recoveryMode),
      (decide (b.flags / 2 = 0) || !(versionOk s F b.op), .unsupportedField)]

/-- The checks every command shares: interface version (R696), reserved bytes, issuer (R729, Table 15-1). -/
def issuerChecks (s : State) (F op : Nat) (iss : Issuer) (p : Bytes) : List (Bool × Status) :=
  [(versionOk s F op, .unsupportedVersion),
   (reservedZero op p, .unsupportedField),
   (match iss with
    | .part => isOwner s F || (getFn s F).part.isSome
    | _ => true, .unassigned),
   (match iss with
    | .owner => isOwner s F
    | .town => timeOwner s == some F ||
        (op = 0x0202 && isOwner s F && timeOwner s == none && fld s.time.prm (fk 0x0B 1 0) == 5)
    | _ => true, .notOwner)]

/-- The answer of a command: the shared checks and the body's own, lowest status first (R731). -/
def answer (op : Nat) (body : Body) (F : Nat) (p d : Bytes) (s : State) : Ans :=
  match cmdRow op with
  | none => .no .badOpcode []
  | some r =>
    match lowest (issuerChecks s F op r.iss p) with
    | none => body F p d s
    | some st =>
      match body F p d s with
      | .no st' _ => if st'.code < st.code then .no st' [] else .no st []
      | _ => .no st []

/-- Records a DMA fault (R727): the status bit, the count and the event. -/
def dmaFaulted (F addr len acc : Nat) (s : State) : State :=
  emit (.fn F) 0x005 0 (toLe 8 addr ++ toLe 4 len ++ toLe 1 acc)
    (updFn s F fun f => setStatus { f with ctrs := bump f.ctrs .dmaFaults } 4)

/-- A refusal has no effect (R731); one of admission may show an open value (Table 1-7), so the counter of the model's free
values moves on. -/
def afterNo (st : Status) (s : State) : State :=
  if st = .admissionRefused then { s with free := s.free + 1 } else s

/-- The state, status, result and handle an answer leaves. -/
def settle (F : Nat) (s : State) : Ans → State × Status × Bytes × Nat
  | .ok out h s' => (s', .ok, out, h)
  | .no st out => (afterNo st s, st, out, 0)
  | .dma a l c => (dmaFaulted F a l c s, .dmaFault, [], 0)
  | .part st s' => (s', st, [], 0)
  | .later s' => (s', .ok, [], 0)

/-- Whether a command goes on after its answer. -/
def Ans.waits : Ans → Bool
  | .later _ => true
  | _ => false

/-- Completes the command in a mailbox: the result area is written, then STATE becomes DONE (R691); EVENT_ON_DONE adds
a CMD_DONE event (R695). The command area of KEY_INSTALL is cleared (R746). -/
def completeMb (F : Nat) (m : Mb) (st : Status) (out : Bytes) (s : State) : State :=
  let b := getMb s F m
  let hdr := toLe 2 b.op ++ toLe 2 b.seq ++ toLe 2 out.length ++ toLe 2 st.code
  let s1 := setMb { s with host := { s.host with replay := s.host.replay.filter fun e => e ≠ (F, m) } } F m
    { b with state := .done, result := st.code, pay := []
             area := if b.op = 0x0506 then [] else b.area
             res := Mem.write 0 [] 0 (hdr ++ out.take 2040) }
  if bitOf b.flags 0 then
    emit (.fn F) 0x001 0 (toLe 2 (if m = .admin then 0 else 1) ++ toLe 2 b.seq ++ toLe 2 st.code ++ toLe 2 b.op) s1
  else s1

/-- Whether firmware serves commands now (R135, R693). -/
def serving (s : State) : Bool := s.host.dev == .ready || s.host.dev == .recovery

/-- Whether mailbox (F, m) is next in the order of R136. -/
def replayOk (s : State) (F : Nat) (m : Mb) : Bool :=
  match s.host.replay with
  | [] => true
  | e :: _ => e == (F, m)

/-- Serves the PENDING command of a mailbox, when it is the command `op`. -/
def serveMb (op : Nat) (F : Nat) (m : Mb) (d : Bytes) (body : Body) (s : State) : State :=
  let b := getMb s F m
  if serving s && replayOk s F m && b.state == .pending && b.op == op then
    let a := answer op body F b.pay d s
    let r := settle F s a
    if a.waits then r.1 else completeMb F m r.2.1 r.2.2.1 r.1
  else
    match b.orphan with
    | some (o, p) =>
      if serving s && o == op then
        let a := answer op body F p d s
        let s1 := (settle F s a).1
        if a.waits then s1 else setMb s1 F m { getMb s1 F m with orphan := none }
      else s
    | none => s

/-! ## Rings -/

/-- Entries of a ring that are posted and not yet fetched (R700). -/
def Ring.posted (r : Ring) : Nat := wrap 32 ((r.tail : Int) - r.fetch)

/-- Whether a ring has an entry to serve. -/
def Ring.hasWork (r : Ring) : Bool := r.state == .running && decide (0 < r.posted)

/-- The rings of a function with work, rising. -/
def workRings (f : Func) : List Nat := (f.rings.filter fun e => e.2.hasWork).map (·.1)

/-- The functions with posted entries, rising. -/
def workFns (s : State) : List Nat := (s.host.fns.filter fun e => !(workRings e.2).isEmpty).map (·.1)

/-- The element of a rising list that follows `last` in rotation. -/
def nextIn (l : List Nat) (last : Nat) : Option Nat :=
  match l.find? (fun x => last < x) with
  | some x => some x
  | none => l.head?

/-- Whether it is the turn of ring `k` of function `F` (R706). -/
def ringTurn (s : State) (F k : Nat) : Bool :=
  nextIn (workFns s) s.host.lastFn == some F &&
  nextIn (workRings (getFn s F)) (Tab.getD s.host.lastRing F 64) == some k

/-- The status of an entry `e` of function `F` that the transport itself refuses (R693, R699). -/
def ringRefusal (s : State) (F : Nat) (e : Bytes) : Option Status :=
  let op := le e 0 2
  let p := (e.drop 8).take 56
  match cmdRow op with
  | none => some .badOpcode
  | some r =>
    lowest [(decide (r.wantLen p ≤ 56), .badLength), (r.ring, .wrongMailbox),
      (!(s.host.dev == .recovery) || inRecovery op, .recoveryMode),
      (decide (le e 2 2 / 4 = 0) || !(versionOk s F op), .unsupportedField)]

/-- Writes a record into a given queue of the function (R698, R703). -/
def putQueue (F qi : Nat) (r : EvRec) (s : State) : State :=
  setFn s F (eqPut s.time.ticks (now s) (getFn s F) qi r)

/-- Completes the entry at HEAD of a ring (R703 to R705). -/
def completeRing (F k : Nat) (e : Bytes) (st : Status) (h : Nat) (s : State) : State :=
  match Tab.get (getFn s F).rings k with
  | none => s
  | some r =>
    let fl := le e 2 2
    let idx := r.head
    let stop := st ≠ .ok && bitOf fl 1
    let r1 := { r with
      head := (r.head + 1) % 2 ^ 32
      fetch := (r.head + 1) % 2 ^ 32
      state := if stop then .stopped else r.state
      wbDue := if r.headWb = 0 then none else (if r.wbDue.isSome then r.wbDue else some s.time.ticks) }
    let s1 := updFn s F fun f => { f with rings := Tab.set f.rings k r1 }
    let s2 := { s1 with host := { s1.host with lastFn := F, lastRing := Tab.set s1.host.lastRing F k } }
    if st ≠ .ok || bitOf fl 0 then
      putQueue F r.eq { typ := 0x002, handle := 0, mt := now s2
                        payload := toLe 4 (le e 4 4) ++ toLe 4 idx ++ toLe 2 (le e 0 2) ++ toLe 2 st.code
                          ++ toLe 4 (if st = .ok then h else 0) } s2
    else s2

/-- Serves the next posted entry of a ring, when it holds the command `op` (R702). -/
def serveRing (op : Nat) (F k : Nat) (e d : Bytes) (body : Body) (s : State) : State :=
  if serving s && ringTurn s F k && le e 0 2 == op then
    let p := (e.drop 8).take 56
    match ringRefusal s F e with
    | some st => completeRing F k e st 0 s
    | none =>
      let r := settle F s (answer op body F (p.take (((cmdRow op).map fun r => r.wantLen p).getD 0)) d s)
      completeRing F k e r.2.1 r.2.2.2 r.1
  else s

/-- Serves the command `op` from where it comes. -/
def serve (op : Nat) (src : Src) (d : Bytes) (body : Body) (s : State) : Out :=
  match src with
  | .mbox F m => onPart (decide (F < 256)) s (serveMb op F m d body)
  | .ring F k e => onPart (decide (F < 256) && decide (k < 64)) s (serveRing op F k e d body)

end Sys2Proof.Machine
end

