-- ==== Sys2Proof/Machine/Timeline.lean ====
section
/-!
DEFINITION. The timeline of chapter 2: the PHC (R77 to R84), the grid (R101 to R105), corrections and steps (R112 to
R116), holdover (R118 to R120), references and outputs (R121 to R125), the time commands of Table 15-7.
-/

namespace Sys2Proof.Machine

open Sys2Proof

/-- The stroke S in ns (R101). -/
def strokeNs : Nat := 500000

/-- One second in ns. -/
def secNs : Nat := 1000000000

/-- The PHC count at which SEC wraps. -/
def phcMod : Nat := 2 ^ 48 * secNs * 2 ^ 32

/-- The frame rates of Table 2-7 by row: numerator and denominator. -/
def rateTab : List (Nat × Nat) :=
  [(15, 2), (10, 1), (25, 2), (15, 1), (24000, 1001), (24, 1), (25, 1), (30000, 1001), (30, 1), (48, 1), (50, 1),
   (60000, 1001), (60, 1)]

/-- The rate of a row; rows beyond the table read as 30 Hz. -/
def rateOf (r : Nat) : Nat × Nat := (rateTab[r]?).getD (30, 1)

/-- PHC_total_ns of frame instant `k` (R104). -/
def frameAt (r k : Nat) : Nat := k * (rateOf r).2 * secNs / (rateOf r).1

/-- The first frame instant at or after `t`: its k and its PHC time (R104). -/
def nextFrameInstant (r t : Nat) : Nat × Nat :=
  let k := t * (rateOf r).1 / ((rateOf r).2 * secNs)
  if frameAt r k < t then (k + 1, frameAt r (k + 1)) else (k, frameAt r k)

/-- The frame period of a row in ns, rounded down. -/
def framePeriod (r : Nat) : Nat := (rateOf r).2 * secNs / (rateOf r).1

/-- A time parameter (Table 2-8) by row. -/
def timePrm (s : State) (r : Nat) : Int := fld s.time.prm (fk 0x0B r 0)

/-- The slew term in FRAC units (R84). -/
def slewTerm (s : State) : Nat := ((timePrm s 4).toNat * 536870912 + 50000) / 100000

/-- The PHC and the remaining slew after `n` ticks (R77, R84). -/
def tickPhc (s : State) (n : Nat) : TimePart :=
  let t := s.time
  let a := min (n * slewTerm s) t.slew.natAbs
  let add : Int := if 0 ≤ t.slew then (a : Int) else -(a : Int)
  { t with
    ticks := t.ticks + n
    phc := (((t.phc + n * t.incr : Nat) : Int) + add).toNat % phcMod
    slew := t.slew - add
    ppsOut := t.ppsOut && !(match t.ppsLast with
      | some l => decide (l + nsTicks t.ppsWidth ≤ t.ticks + n)
      | none => true) }

/-- PHC_TICK: `n` TIMER ticks pass (R77, R82 to R84); the counters stand while PORST_N is low (R794). -/
def execPhcTick (n : Nat) (s : State) : Out :=
  onAon true s fun s => guarded (!s.boot.porstLow) s fun s => setTime s (tickPhc s n)

/-! ## The grid -/

/-- The boundary of a grid of period `P` that follows `b`, past the span of the latest forward step (R116). -/
def boundaryAfter (t : TimePart) (P b : Nat) : Nat :=
  if t.skip.1 < b + P ∧ b + P ≤ t.skip.2 then (t.skip.2 / P + 1) * P else b + P

/-- Where a boundary `b` of a grid of period `P` lies after a step from `T` to `T'` (Table 2-9): a boundary already due
stays due, a forward step passes to the first one after `T'`, a backward step lengthens the period by d mod P. -/
def boundaryStep (P T T' b : Nat) : Nat :=
  if T ≤ T' then (if b ≤ T then b else max b ((T' / P + 1) * P))
  else b - (T - T') / P * P

/-- The frame instant that follows a step (Table 2-9). -/
def frameStep (r T T' : Nat) (kx : Nat × Nat) : Nat × Nat :=
  if T ≤ T' then (if kx.2 ≤ T ∨ T' < kx.2 then kx else nextFrameInstant r (T' + 1))
  else nextFrameInstant r (kx.2 - (T - T'))

/-- The mix period P of a conference in ns (R103, Table 8-6). -/
def mixPeriod (s : State) (c : Nat) : Nat := ofldN s c (fk 0x08 0 0)

/-- The conference of a leg. -/
def confOfLeg (s : State) (l : Nat) : Nat := parentKey s l
/-- The leg of a stream. -/
def legOfStream (s : State) (x : Nat) : Nat := parentKey s x

/-- The effect of a step on the conferences: their next boundary, SKIPPED_MIX, and concealment of the first period
after a forward step. -/
def stepConfs (T T' : Nat) (s : State) : State :=
  (objKeys s 2).foldl (fun s c =>
    let P := mixPeriod s c
    let d := getConf s c
    let s1 := setConf s c { d with mixNext := boundaryStep P T T' d.mixNext, conceal := d.conceal || decide (T ≤ T') }
    if T ≤ T' then bumpObj s1 c .skippedMix (T' / P - T / P) else s1) s

/-- The rate row of a layout (Table 6-4). -/
def layoutRate (s : State) (k : Nat) : Nat := ofldN s k (fk 0x09 3 0)

/-- The frame instants after a step (Table 2-9). -/
def framesStep (T T' : Nat) (fs : List (Nat × Nat)) : List (Nat × Nat) :=
  (List.range fs.length).map fun r => frameStep r T T' (fs[r]?.getD (0, 0))

/-- The instants that a forward step drops are counted in each layout (Table 2-9). -/
def stepFrames (T T' : Nat) (s : State) : State :=
  if T ≤ T' then
    (objKeys s 5).foldl (fun s k =>
      let r := layoutRate s k
      if isActive s k then
        bumpObj s k .droppedFrames ((nextFrameInstant r (T' + 1)).1 - (nextFrameInstant r (T + 1)).1)
      else s) s
  else s

/-- The effect of a backward step on play-out anchors: they move by the lengthening of their mix period. -/
def stepAnchors (T T' : Nat) (s : State) : State :=
  if T ≤ T' then s
  else (objKeys s 4).foldl (fun s k =>
    let x := getStream s k
    let P := mixPeriod s (confOfLeg s (legOfStream s k))
    match x.jb.o with
    | some o => setStream s k { x with jb := { x.jb with o := some (o + ((T - T') % P : Nat)) } }
    | none => s) s

/-- A gate list as a forward step leaves it: the entry in force holds until the first cycle boundary of the list's base time
at or after `T'`, where entry 0 follows (Table 2-9). -/
def heldFrom (T' : Nat) (e : EthPort) (g : GateList) : EthPort :=
  let at_ := g.base + ceilDiv (T' - g.base) g.cycle * g.cycle
  { e with gateHold := some at_, gateEnd := at_, gateCycle := at_ - g.cycle }

/-- The effect of a step on the gate lists (Table 2-9): after a backward step the cycle in progress finishes and its final entry
holds until a cycle boundary of the base time. A pending list whose change time a forward step passes takes over at the
first boundary of its own at or after the step's end (R590). -/
def stepGates (T T' : Nat) (s : State) : State :=
  (List.range 8).foldl (fun s p =>
    let e := getPort s p
    let e1 := match e.gates with
      | none => e
      | some g =>
        if T ≤ T' then heldFrom T' e g
        else
          let endOf := e.gateCycle + g.cycle - (T - T')
          { e with
            gateHold := some (g.base + ceilDiv (endOf - g.base) g.cycle * g.cycle)
            gateEnd := e.gateEnd - (T - T'), gateCycle := e.gateCycle - (T - T') }
    let e2 := match e1.gatesNew with
      | some (g, ct) =>
        if T < ct ∧ ct ≤ T' then { e1 with gatesNew := some (g, g.base + ceilDiv (T' - g.base) g.cycle * g.cycle) } else e1
      | none => e1
    setPort s p e2) s

/-- Writes the record of a step (Table 2-9). -/
def stepEvent (T T' : Nat) (s : State) : State :=
  if T ≤ T' then emit .all 0x011 0 (toLe 8 (T' - T) ++ toLe 8 T') s
  else emit .all 0x012 0 (toLe 8 (T - T') ++ toLe 4 s.time.epoch) s

end Sys2Proof.Machine
end

