-- ==== Sys2Proof/Machine/Batten.lean ====
section
/-!
DEFINITION. Batten (chapter 12): queues and their kinds (R609 to R611), cells and spill pages (R612 to R619),
back-pressure (R620 to R623), groups, marks, QXOFF pins and flow control (R627 to R634), and the commands that act on
one queue or group.
-/

namespace Sys2Proof.Machine

open Sys2Proof

/-! ## Kinds -/

/-- The kind of a queue index (Table 12-1), in row order from 0. -/
def qKind (q : Nat) : Nat :=
  if q < 16384 then 0 else if q < 18432 then 1 else if q < 18496 then 2 else if q < 22592 then 3
  else if q < 22848 then 4 else if q < 23104 then 5 else if q < 27200 then 6 else 7

/-- The queue of the stream with key `k`. -/
def qStream (k : Nat) : Nat := k % 1048576
/-- The output queue of the rung with key `k`. -/
def qRung (k : Nat) : Nat := 16384 + k % 1048576
/-- The queue of class `c` of port `p`. -/
def qClass (p c : Nat) : Nat := 18432 + 8 * p + c
/-- The control queue of the leg with key `k`. -/
def qCtrl (k : Nat) : Nat := 18496 + k % 1048576
/-- The exception queue of a partition. -/
def qExc (p : Nat) : Nat := 22592 + p
/-- The host transmit queue of a partition. -/
def qHtx (p : Nat) : Nat := 22848 + p
/-- The queue of a TIME_TRANSMIT ring (R719). -/
def qTtx : Nat := 27200

/-- The key of the object whose queue this is: stream, rung, leg, or the conference of a shared encoding; 0 for none. -/
def qObj (s : State) (q : Nat) : Nat :=
  match qKind q with
  | 0 => okey 4 q
  | 1 => okey 7 (q - 16384)
  | 3 => okey 3 (q - 18496)
  | 6 => Tab.getD s.batten.shared q 0
  | _ => 0

/-- The partition a queue belongs to (R609). -/
def qPart (s : State) (q : Nat) : Option Nat :=
  match qKind q with
  | 2 => none
  | 4 => some (q - 22592)
  | 5 => some (q - 22848)
  | 7 => none
  | _ => (getObj s (qObj s q)).map (·.part)

/-- Whether a conference holds a fixed leg that is ACTIVE or HELD (R33). -/
def confFixed (s : State) (c : Nat) : Bool :=
  (kids s 3 c).any fun l => match getObj s l with
    | some o => o.fixed && (o.state == .active || o.state == .held)
    | none => false

/-- Whether a queue is fixed (R610). -/
def qFixed (s : State) (q : Nat) : Bool :=
  match qKind q with
  | 2 => decide (5 ≤ q % 8)
  | 6 => confFixed s (qObj s q)
  | 4 => false
  | 5 => false
  | 7 => false
  | _ => ((getObj s (qObj s q)).map (·.fixed)).getD false

/-- Whether a stream is outgoing (Table 15-14). -/
def isOut (s : State) (k : Nat) : Bool := ofld s k (fk 0x04 0 0) == 1

/-- The limit of a queue in content bytes (Table 12-1); none for a fixed class queue, which never refuses (R582). -/
def qLimit (s : State) (q : Nat) : Option Nat :=
  match qKind q with
  | 0 => some (if isOut s (okey 4 q) then ofldN s (okey 4 q) (fk 0x07 2 0) else ofldN s (okey 4 q) (fk 0x04 14 0))
  | 1 => some (2 * ofldN s (qObj s q) (fk 0x0A 11 0))
  | 2 => if 5 ≤ q % 8 then none else some (fldN (getPort s ((q - 18432) / 8)).fields (fk 0x12 9 (q % 8)))
  | 3 => some 65536
  | 4 => some 1048576
  | 5 => some 262144
  | 6 => some 65536
  | _ => some (fwQueueLimit q)

/-! ## Storage -/

/-- The queue with index `q`. -/
def getQ (s : State) (q : Nat) : Queue := Tab.getD s.batten.queues q {}

/-- Replaces a queue. -/
def setQ (s : State) (q : Nat) (x : Queue) : State :=
  { s with batten := { s.batten with queues := Tab.set s.batten.queues q x } }

/-- The depth of a queue in content bytes (R611). -/
def qDepth (x : Queue) : Nat := (x.items.map fun i => i.pkt.len).sum

/-- The 64-byte lines an item occupies (R613). -/
def itemLines (len : Nat) : Nat := ceilDiv (len + 16) 64

/-- The lines a queue's items occupy: all of them, and those of yellow items. -/
def qLines (x : Queue) (yellow : Bool) : Nat :=
  ((x.items.filter fun i => i.yellow == yellow).map fun i => itemLines i.pkt.len).sum

/-- Reserved cells of all fixed queues (R615). -/
def resvCells (b : BattenPart) : Nat := (b.queues.map fun e => e.2.resv).sum

/-- Cells taken from the floating pool. -/
def floatCells (b : BattenPart) : Nat := (b.queues.map fun e => (if e.2.resv = 0 then e.2.cells else 0) + e.2.ycells).sum

/-- Cells held by queues. -/
def queuedCells (b : BattenPart) : Nat := (b.queues.map fun e => e.2.cells + e.2.ycells).sum

/-- Pages held by queues. -/
def queuedPages (b : BattenPart) : Nat := (b.queues.map fun e => e.2.pages).sum

/-- Free cells of the floating pool (R617). -/
def poolFree (b : BattenPart) : Nat := 98304 - resvCells b - floatCells b

/-- Pages of the pool, and those free (R612). -/
def pagesTotal (b : BattenPart) : Nat := b.spill / 4096
/-- Pages of the spill pool that no queue holds. -/
def freePages (b : BattenPart) : Nat := if b.pool then pagesTotal b - queuedPages b else 0

/-- The spill allowance in bytes per microsecond (R618): 0.15625 of the peak of R643. -/
def spillPerUs (s : State) : Nat := s.mem.channels * 8 * s.mem.rate * 15625 / 100000

/-- Bytes of spill traffic the current microsecond still allows. -/
def spillLeft (s : State) : Nat :=
  if s.batten.budgetAt = s.time.ticks / tUs then spillPerUs s - s.batten.budget else spillPerUs s

/-- Charges spill traffic. -/
def spillCharge (s : State) (n : Nat) : State :=
  let b := s.batten
  let w := s.time.ticks / tUs
  { s with batten := { b with budget := (if b.budgetAt = w then b.budget else 0) + n, budgetAt := w } }

/-- Pages of the partition's queues (R636). -/
def partPages (s : State) (p : Nat) : Nat :=
  ((s.batten.queues.filter fun e => qPart s e.1 == some p).map fun e => e.2.pages).sum

/-- A quota of a partition. -/
def quota (s : State) (p row e : Nat) : Nat :=
  ((Tab.get s.obj.parts p).map fun x => fldN x.quota (fk 0x10 row e)).getD 0

/-- The DRAM extents of a partition in bytes (R669). -/
def partExtents (s : State) (p : Nat) : Nat :=
  2097152 * (s.mem.extents.filter fun e => e.2.owner == some p && !e.2.zeroing).length

/-- Whether queue `q` may take `n` more spill pages (R618). -/
def pagesOk (s : State) (q n : Nat) : Bool :=
  decide (n ≤ freePages s.batten) && decide (512 * n ≤ spillLeft s) &&
  (match qPart s q with
   | some p => decide ((partPages s p + n) * 4096 + partExtents s p ≤ quota s p 6 0)
   | none => true)

/-- Rearranges the cells and pages of a queue after its content changed (R614 to R618). A floating queue holds one cell
up to 8 lines and two beyond; the rest lies in pages. With no free cell a block stays in a page (POOL_MISS); with no
page the queue stalls (SPILL_STALL). -/
def qStore (q : Nat) (s : State) : State :=
  let x := getQ s q
  if qFixed s q then
    setQ s q { x with cells := ceilDiv (qLines x false) 8, ycells := ceilDiv (qLines x true) 8, pages := 0, stall := false }
  else
    let lines := qLines x false + qLines x true
    let want := if lines = 0 then 0 else if lines ≤ 8 then 1 else 2
    let have_ := min want (x.cells + poolFree s.batten)
    let miss := decide (have_ < want)
    let need := ceilDiv (lines - 8 * have_) 64
    let c1 := if miss then bump x.ctrs .poolMiss else x.ctrs
    if need ≤ x.pages ∨ pagesOk s q (need - x.pages) = true then
      let s1 := if x.pages < need then spillCharge s (4096 * (need - x.pages)) else s
      setQ s1 q { x with cells := have_, ycells := 0, pages := need, stall := false, ctrs := c1 }
    else
      setQ s q { x with cells := have_, ycells := 0, stall := true
                        ctrs := if x.stall then c1 else bump c1 .spillStall }

/-! ## Groups, pins and flow control -/

/-- The line rate of a port in Gbit/s (Table 3-1, R49). -/
def portGb (s : State) (_p : Nat) : Nat :=
  if s.eth.mode = 0 then 25 else if s.eth.mode = 1 then 50 else if s.eth.mode = 2 then 100 else 200

/-- The flow-control mode of a port: 0 NONE, 1 PAUSE, 2 PFC (Table 15-9). -/
def portFlow (s : State) (p : Nat) : Nat := fldN (getPort s p).fields (fk 0x12 2 0)

/-- Bytes in a port's receive FIFO. -/
def fifoBytes (e : EthPort) : Nat := (e.fifo.map fun f => f.bytes.length).sum

/-- The priorities that sources hold on a port: a bit mask; under PAUSE bit 0 stands for PAUSE (R622, R632). -/
def heldPrios (s : State) (p : Nat) : Nat :=
  let e := getPort s p
  let byFifo := if e.xoff then fldN e.fields (fk 0x12 5 2) else 0
  let byGroup := s.batten.groups.foldl (fun m g =>
    if g.2.above && fld g.2.fields (fk 0x0E 3 0) == 1 && fld g.2.fields (fk 0x0E 4 0) == (p : Int) then
      setBit m (fldN g.2.fields (fk 0x0E 5 0)) else m) 0
  if portFlow s p = 2 then byFifo ||| byGroup else if portFlow s p = 1 then b2n e.xoff else 0

/-- TIMER ticks of half the quanta time of a port (R623): 256 bit times per quantum. -/
def halfQuanta (s : State) (p : Nat) : Nat :=
  ceilDiv (256 * fldN (getPort s p).fields (fk 0x12 6 0) * 4) (portGb s p * 5)

/-- Sends a flow-control frame (R623). -/
def sendFc (p mask quanta : Nat) (s : State) : State :=
  bumpPort (updPort s p fun e => { e with fc := some (mask, quanta) }) p (if portFlow s p = 2 then .pfcSent else .pauseSent)

/-- Brings a port's flow control in line with what its sources hold (R623): a frame at each assertion and at the last
release of a priority. -/
def fcSync (p : Nat) (s : State) : State :=
  let m := heldPrios s p
  (List.range 8).foldl (fun s r =>
    let e := getPort s p
    let was := Tab.has e.holds r
    if bitOf m r && !was then
      sendFc p (2 ^ r) (fldN e.fields (fk 0x12 6 0))
        (updPort s p fun e => { e with holds := Tab.set e.holds r (s.time.ticks + halfQuanta s p) })
    else if !(bitOf m r) && was then
      sendFc p (2 ^ r) 0 (updPort s p fun e => { e with holds := Tab.del e.holds r })
    else s) s

/-- Whether pin `n` is held: a group that drives it is ABOVE, or MIN_NS has not run (R634). -/
def pinHeld (s : State) (n : Nat) (x : QPin) : Bool :=
  x.en && ((s.batten.groups.any fun g => g.2.above && bitOf (fldN g.2.fields (fk 0x0E 2 0)) n) ||
    (x.on && decide (s.time.ticks < x.entry + nsTicks x.minNs)))

/-- Brings the QXOFF pins in line with the groups (R633, R634). -/
def pinSync (s : State) : State :=
  { s with batten := { s.batten with
    pins := (List.range 8).map fun n =>
      let x := s.batten.pins[n]?.getD {}
      { x with on := pinHeld s n x } } }

/-- The group with index `g`. -/
def getGroup (s : State) (g : Nat) : Group := Tab.getD s.batten.groups g {}

/-- Replaces a group. -/
def setGroup (s : State) (g : Nat) (x : Group) : State :=
  { s with batten := { s.batten with groups := Tab.set s.batten.groups g x } }

/-- The level of a group: the sum of its members' depths (R627). -/
def groupLevel (s : State) (g : Nat) : Nat :=
  ((s.batten.queues.filter fun e => e.2.group == some g).map fun e => qDepth e.2).sum

/-- The members of a group. -/
def groupMembers (s : State) (g : Nat) : List Nat :=
  (s.batten.queues.filter fun e => e.2.group == some g).map (·.1)

/-- Where a group's event goes (R630). -/
def groupDest (x : Group) : Dest :=
  match x.part with
  | some p => .part p
  | none => .owner

/-- Writes QGROUP_CROSSING for a group (R630, R640). -/
def groupEvent (g : Nat) (s : State) : State :=
  let x := getGroup s g
  emit (groupDest x) 0x091 0 (toLe 1 g ++ toLe 1 (b2n x.above) ++ zeros 6 ++ toLe 4 x.hiX ++ toLe 4 x.loX)
    (setGroup s g { x with evAt := some s.time.ticks, owed := false })

/-- After a crossing: the event now, or owed when one was written in the last 10 ms (R630). -/
def groupReport (g : Nat) (s : State) : State :=
  let x := getGroup s g
  if fld x.fields (fk 0x0E 7 0) == 1 then
    if (match x.evAt with
        | some t => decide (t + 10 * tMs ≤ s.time.ticks)
        | none => true) then groupEvent g s
    else setGroup s g { x with owed := true }
  else s

/-- Compares a group's level with its marks (R629, R630). -/
def groupCheck (g : Nat) (s : State) : State :=
  let x := getGroup s g
  let lv := groupLevel s g
  let x1 := { x with peak := max x.peak lv }
  let s2 :=
    if !x.above && decide (fldN x.fields (fk 0x0E 0 0) ≤ lv) then
      let s1 := setGroup s g { x1 with above := true, hiSeen := true, hiX := x.hiX + 1 }
      let m := fldN x.fields (fk 0x0E 2 0)
      groupReport g { s1 with batten := { s1.batten with
        pins := (List.range 8).map fun n =>
          let y := s1.batten.pins[n]?.getD {}
          if bitOf m n then { y with entry := s.time.ticks } else y } }
    else if x.above && decide (lv ≤ fldN x.fields (fk 0x0E 1 0)) then
      groupReport g (setGroup s g { x1 with above := false, loSeen := true, loX := x.loX + 1 })
    else setGroup s g x1
  let s3 := pinSync s2
  if fld x.fields (fk 0x0E 3 0) == 1 then fcSync (fldN x.fields (fk 0x0E 4 0)) s3 else s3

/-- After a queue's depth changed: its group is compared with its marks. -/
def qChanged (q : Nat) (s : State) : State :=
  match (getQ s q).group with
  | some g => groupCheck g s
  | none => s

/-! ## Push, pop and drop -/

/-- Whether a push of `len` bytes finds queue `q` full (R620, R618). -/
def qFull (s : State) (q len : Nat) : Bool :=
  let x := getQ s q
  x.stall || (match qLimit s q with
    | some l => decide (l < qDepth x + len)
    | none => false)

/-- Counts an item in or out of a queue. -/
def qCount (q : Nat) (a b : Ctr) (len : Nat) (s : State) : State :=
  let x := getQ s q
  setQ s q { x with ctrs := bump (bump x.ctrs a) b len }

/-- The effect of a push that is not refused: `front` puts it ahead of the others (R576). -/
def qPush (q : Nat) (it : Item) (front : Bool) (s : State) : State :=
  let x := getQ s q
  let x1 := { x with
    items := if front then it :: x.items else x.items ++ [it]
    heldSince := none
    ctrs := bump (bump (match x.heldSince with
      | some t => bump x.ctrs .heldCycles (s.time.ticks - t)
      | none => x.ctrs) .pushedItems) .pushedBytes it.pkt.len }
  qChanged q (qStore q (setQ s q x1))

/-- Marks that the producer of a queue is held (R620). -/
def qHold (q : Nat) (s : State) : State :=
  let x := getQ s q
  if x.heldSince.isSome then s else setQ s q { x with heldSince := some s.time.ticks }

/-- Removes the head item. -/
def qPop (q : Nat) (s : State) : State :=
  let x := getQ s q
  match x.items with
  | [] => s
  | it :: t =>
    qChanged q (qStore q (setQ s q { x with
      items := t, ctrs := bump (bump x.ctrs .poppedItems) .poppedBytes it.pkt.len }))

/-- The head item of a queue. -/
def qHead (s : State) (q : Nat) : Option Item := (getQ s q).items.head?

/-- Counts an item that a full queue drops: it counts as pushed and dropped, so that the book of Table 12-8 holds. -/
def qDrop (q len : Nat) (s : State) : State :=
  qCount q .droppedItems .qDroppedBytes len (qCount q .pushedItems .pushedBytes len s)

/-- Removes the items of a queue that satisfy `f` and counts them as dropped (R619, R626). -/
def qDiscard (q : Nat) (f : Item → Bool) (s : State) : State :=
  let x := getQ s q
  let out := x.items.filter f
  qChanged q (qStore q (setQ s q { x with
    items := x.items.filter fun i => !(f i)
    ctrs := bump (bump x.ctrs .droppedItems out.length) .qDroppedBytes (out.map fun i => i.pkt.len).sum }))

/-- Items that begin in the first page of the middle of a queue (R613, R614): lines 8 to 71. -/
def firstPageItems : Nat → List Item → List Item
  | _, [] => []
  | l, i :: t =>
    (if 8 ≤ l ∧ l < 72 then [i] else []) ++ firstPageItems (l + itemLines i.pkt.len) t

/-- A pop finds the first spill page of a queue poisoned (R619): every item that begins in it is dropped. -/
def qPoisonPage (q : Nat) (s : State) : State :=
  let x := getQ s q
  let bad := firstPageItems 0 x.items
  let s1 := qDiscard q (fun i => bad.contains i) s
  let y := getQ s1 q
  setQ s1 q { y with ctrs := bump y.ctrs .poisonDrop bad.length }

/-! ## Commands -/

/-- SPILL_MOVE_COMPLETE (R614, R618): the waiting move of a queue completes once a page, bandwidth and quota allow. -/
def execSpillMoveComplete (q : Nat) (s : State) : Out :=
  onPart (decide (q < 32768)) s fun s => guarded ((getQ s q).stall) s (qStore q)

/-- QGROUP_EVENT_WINDOW (R630): the event owed for crossings of the last 10 ms. -/
def execQgroupEventWindow (g : Nat) (s : State) : Out :=
  onPart (decide (g < 256)) s fun s =>
    let x := getGroup s g
    guarded (x.owed && (match x.evAt with
      | some t => decide (t + 10 * tMs ≤ s.time.ticks)
      | none => true)) s (groupEvent g)

/-- QXOFF_MIN_EXPIRY (R634). -/
def execQxoffMinExpiry (n : Nat) (s : State) : Out :=
  onPart (decide (n < 8)) s fun s =>
    let x := s.batten.pins[n]?.getD {}
    guarded (x.on && decide (x.entry + nsTicks x.minNs ≤ s.time.ticks)) s pinSync

/-- PFC_REPEAT (R623): half the quanta time has passed while a source holds the priority. -/
def execPfcRepeat (p r : Nat) (s : State) : Out :=
  onPart (decide (p < 8) && decide (r < 8)) s fun s =>
    match Tab.get (getPort s p).holds r with
    | none => s
    | some t =>
      guarded (decide (t ≤ s.time.ticks)) s fun s =>
        sendFc p (2 ^ r) (fldN (getPort s p).fields (fk 0x12 6 0))
          (updPort s p fun e => { e with holds := Tab.set e.holds r (s.time.ticks + halfQuanta s p) })

/-- QXOFF_CONFIG (R633). -/
def bodyQxoffConfig : Body := fun _ p _ s =>
  let w := fun n => le p (4 * n) 4
  checked [((List.range 8).all fun n => decide (w n % 65536 / 4 = 0), .unsupportedField)] fun _ =>
    .ok [] 0 (pinSync { s with batten := { s.batten with
      pins := (List.range 8).map fun n =>
        let x := s.batten.pins[n]?.getD {}
        { x with en := bitOf (w n) 0, low := bitOf (w n) 1, minNs := w n / 65536 } } })

/-- QUEUE_READ (R635, Table 12-7). -/
def bodyQueueRead : Body := fun F p _ s =>
  let q := le p 0 2
  let x := getQ s q
  let fx := qFixed s q
  checked [
    (decide (q < 32768), .outOfRange),
    (isOwner s F || (match qPart s q with
      | some pt => sees s F pt
      | none => true), .badHandle)] fun _ =>
    let age := match x.items.head? with
      | some i => (s.time.ticks - i.tick) / tUs
      | none => 0
    let cut := x.cut.getD (qKind q == 0 || qKind q == 2)
    .ok (toLe 2 (qKind q + 16 * b2n fx + 32 * b2n x.heldSince.isSome + 64 * b2n cut)
      ++ toLe 1 (x.group.getD 0) ++ toLe 1 (b2n x.group.isSome) ++ toLe 4 x.items.length ++ toLe 4 (qDepth x)
      ++ toLe 2 (x.cells + x.ycells) ++ toLe 2 (if fx then x.resv else 0) ++ toLe 4 x.pages ++ toLe 4 age ++ zeros 8) 0 s

/-- Whether function `F` may act on queue `q`: its partition, or the owner function (R626, R729). -/
def mayQueue (s : State) (F q : Nat) : Bool :=
  isOwner s F || (match qPart s q with
    | some pt => sees s F pt
    | none => false)

/-- QUEUE_CONFIG (R625). -/
def bodyQueueConfig : Body := fun F p _ s =>
  let q := le p 0 2
  let c := le p 2 1
  checked [
    (decide (q < 32768) && decide (c < 2) && !(qKind q == 1 && c == 1), .outOfRange),
    (decide (32768 ≤ q) || mayQueue s F q, .badHandle)] fun _ =>
    .ok [] 0 (setQ s q { getQ s q with cut := some (c == 1) })

/-- QUEUE_FLUSH (R626): the flush waits for the queue's packet boundary. -/
def bodyQueueFlush : Body := fun F p _ s =>
  let q := le p 0 2
  checked [
    (decide (q < 32768), .outOfRange),
    (!(qKind q == 2 || qKind q == 7) || isOwner s F, .notOwner),
    (decide (32768 ≤ q) || qKind q == 2 || qKind q == 7 || mayQueue s F q, .badHandle)] fun _ =>
    .ok [] 0 (setQ s q { getQ s q with flush := true })

/-- The queues a QGROUP_SET names. -/
def groupItems (p : Bytes) (o : Nat) : Nat → List Nat
  | 0 => []
  | n + 1 => le p o 2 :: groupItems p (o + 2) n

/-- Whether function `F` may act on group `g` (R627). -/
def mayGroup (s : State) (F g : Nat) : Bool :=
  isOwner s F || (match (getGroup s g).part with
    | some pt => sees s F pt
    | none => false)

/-- QGROUP_SET (R627). -/
def bodyQgroupSet : Body := fun F p _ s =>
  let g := le p 0 1
  let op := le p 1 1
  let qs := groupItems p 4 (le p 2 2)
  let x := getGroup s g
  checked [
    (decide (op < 2) && (qs.all fun q => decide (q < 32768)), .outOfRange),
    (mayGroup s F g, .badHandle),
    (op ≠ 0 || (qs.all fun q => qPart s q == x.part), .badHandle),
    (op ≠ 0 || (qs.all fun q => (getQ s q).group == none || (getQ s q).group == some g), .conflict)] fun _ =>
    let s1 := qs.foldl (fun s q =>
      let y := getQ s q
      if op = 0 then setQ s q { y with group := some g }
      else if y.group = some g then setQ s q { y with group := none } else s) s
    .ok [] 0 (groupCheck g s1)

/-- Whether an entry of QGROUP_CONFIG is for the owner function alone (R628). -/
def groupOwnerField (k : Nat) : Bool := decide (2 ≤ fRow k) && decide (fRow k ≤ 5)

/-- QGROUP_CONFIG (R627, R628). -/
def bodyQgroupConfig : Body := fun F p _ s =>
  let g := le p 0 1
  let pt := le p 4 4
  let es := entries p 16 (le p 8 2)
  let x := getGroup s g
  let fs := applyEntries x.fields es
  checked (entryChecks es (fun k => fTable k == 0x0E) ++ [
    (isOwner s F || (pt = 0xFFFFFFFF && !(es.any fun e => groupOwnerField e.key)), .notOwner),
    (mayGroup s F g, .badHandle),
    (pt = 0 || pt = 0xFFFFFFFF || (resolvePart s pt).isSome, .badHandle),
    (fld fs (fk 0x0E 1 0) < fld fs (fk 0x0E 0 0), .outOfRange),
    (pt = 0 || pt = 0xFFFFFFFF || x.part == resolvePart s pt || (match resolvePart s pt with
      | some n => decide ((s.batten.groups.filter fun e => e.2.part == some n).length < quota s n 5 1)
      | none => true), .noResource),
    (pt = 0xFFFFFFFF || (groupMembers s g).isEmpty
      || x.part == (if pt = 0 then none else resolvePart s pt), .notEmpty)]) fun _ =>
    let part := if pt = 0xFFFFFFFF then x.part else if pt = 0 then none else resolvePart s pt
    let s1 := groupCheck g (setGroup s g { x with fields := fs, part := part })
    let s2 := if fld x.fields (fk 0x0E 3 0) == 1 then fcSync (fldN x.fields (fk 0x0E 4 0)) s1 else s1
    .ok [] 0 s2

/-- QGROUP_READ (R631, Table 12-5). -/
def bodyQgroupRead : Body := fun F p _ s =>
  let g := le p 0 1
  let x := getGroup s g
  checked [(mayGroup s F g, .badHandle)] fun _ =>
    .ok (toLe 4 (b2n x.above + 2 * b2n x.hiSeen + 4 * b2n x.loSeen) ++ toLe 4 (min 0xFFFFFFFF (groupLevel s g))
      ++ toLe 4 (min 0xFFFFFFFF x.peak) ++ zeros 4 ++ toLe 8 x.hiX ++ toLe 8 x.loX) 0 s

/-- QGROUP_CLEAR (R631, R12). -/
def bodyQgroupClear : Body := fun F p _ s =>
  let g := le p 0 1
  let m := le p 1 1
  let x := getGroup s g
  checked [(decide (m < 4), .unsupportedField), (mayGroup s F g, .badHandle)] fun _ =>
    .ok [] 0 (setGroup s g { x with
      hiSeen := x.hiSeen && !(bitOf m 0), loSeen := x.loSeen && !(bitOf m 1)
      peak := if bitOf m 0 then groupLevel s g else x.peak })

/-- HIST_CONFIG (R602): both histograms of the group are cleared. -/
def bodyHistConfig : Body := fun F p _ s =>
  let g := le p 0 1
  let x := getGroup s g
  checked [(decide (le p 1 1 ≤ 20) && decide (le p 2 1 ≤ 20), .outOfRange), (mayGroup s F g, .badHandle)] fun _ =>
    .ok [] 0 (setGroup s g { x with depth := { u := le p 1 1 }, soj := { u := le p 2 1 } })

/-- A histogram record (Table 11-5). -/
def histBytes (h : Hist) : Bytes :=
  toLe 8 h.count ++ toLe 8 h.sum ++ toLe 4 h.min_ ++ toLe 4 h.max_ ++ toLe 8 h.first ++ toLe 8 h.last
    ++ h.bins.flatMap (toLe 8)

/-- HIST_READ (R603, R604). -/
def bodyHistRead : Body := fun F p _ s =>
  let g := le p 0 1
  let x := getGroup s g
  checked [(decide (le p 1 1 < 2), .unsupportedField), (mayGroup s F g, .badHandle)] fun _ =>
    .ok (histBytes x.depth ++ histBytes x.soj) 0
      (if bitOf (le p 1 1) 0 then setGroup s g { x with depth := { u := x.depth.u }, soj := { u := x.soj.u } } else s)

/-- The bin of a sample (R602). -/
def histBin (u v : Nat) : Nat := if v < 2 ^ u then 0 else min 15 (Nat.log2 v + 1 - u)

/-- A histogram with one more sample (R602, R603). -/
def histAdd (h : Hist) (stroke v : Nat) : Hist :=
  let b := histBin h.u v
  { h with
    count := h.count + 1, sum := h.sum + v, min_ := min h.min_ v, max_ := max h.max_ (min 0xFFFFFFFF v)
    first := if h.count = 0 then stroke else h.first, last := stroke
    bins := setAt h.bins b (h.bins[b]?.getD 0 + 1) }

/-- QUEUE_SAMPLING at a stroke boundary (R601). -/
def sampleQueues (s : State) : State :=
  s.batten.queues.foldl (fun s e =>
    match e.2.group with
    | none => s
    | some g =>
      let x := getGroup s g
      if e.2.items.isEmpty && fld x.fields (fk 0x0E 6 0) == 1 then s
      else
        let soj := match e.2.items.head? with
          | some i => (s.time.ticks - i.tick) * 5 / 4
          | none => 0
        setGroup s g { x with depth := histAdd x.depth s.time.strokes (qDepth e.2)
                              soj := histAdd x.soj s.time.strokes soj }) s

/-- The terms of Table 12-8 as they stand, in row order, with IN_FLIGHT 0 (R636, R638). -/
def battenTerms (s : State) : List Nat :=
  let b := s.batten
  let sumC := fun c => (b.queues.map fun e => ctr e.2.ctrs c).sum
  [98304 - queuedCells b, queuedCells b, 0, freePages b, queuedPages b, 0,
   sumC .pushedItems, sumC .poppedItems, (b.queues.map fun e => e.2.items.length).sum, sumC .droppedItems,
   sumC .pushedBytes, sumC .poppedBytes, (b.queues.map fun e => qDepth e.2).sum, sumC .qDroppedBytes,
   resvCells b, (b.queues.map fun e => e.2.pages).sum]

/-- BATTEN_AUDIT (R638): the terms as of the latest stroke boundary, zeros before the first. -/
def bodyBattenAudit : Body := fun _ _ _ s => .ok (padTo 128 (s.batten.snap.flatMap (toLe 8))) 0 s

/-- SPILL_CONFIG (R612): BUSY while the pool is allocated and a floating queue holds a page. -/
def bodySpillConfig : Body := fun _ p _ s =>
  let v := le p 0 8
  checked [
    (decide (268435456 ≤ v) && decide (v ≤ 34359738368) && decide (v % 4096 = 0), .outOfRange),
    (decide (queuedPages s.batten = 0), .busy)] fun _ =>
    .ok [] 0 { s with batten := { s.batten with spill := v } }

/-- QXOFF_CONFIG. -/
def execQxoffConfig (src : Src) (s : State) : Out := serve 0x0309 src [] bodyQxoffConfig s
/-- QUEUE_READ. -/
def execQueueRead (src : Src) (s : State) : Out := serve 0x0E01 src [] bodyQueueRead s
/-- QUEUE_CONFIG. -/
def execQueueConfig (src : Src) (s : State) : Out := serve 0x0E02 src [] bodyQueueConfig s
/-- QUEUE_FLUSH. -/
def execQueueFlush (src : Src) (s : State) : Out := serve 0x0E03 src [] bodyQueueFlush s
/-- QGROUP_SET. -/
def execQgroupSet (src : Src) (s : State) : Out := serve 0x0E04 src [] bodyQgroupSet s
/-- QGROUP_CONFIG. -/
def execQgroupConfig (src : Src) (s : State) : Out := serve 0x0E05 src [] bodyQgroupConfig s
/-- QGROUP_READ. -/
def execQgroupRead (src : Src) (s : State) : Out := serve 0x0E06 src [] bodyQgroupRead s
/-- QGROUP_CLEAR. -/
def execQgroupClear (src : Src) (s : State) : Out := serve 0x0E07 src [] bodyQgroupClear s
/-- HIST_CONFIG. -/
def execHistConfig (src : Src) (s : State) : Out := serve 0x0E08 src [] bodyHistConfig s
/-- HIST_READ. -/
def execHistRead (src : Src) (s : State) : Out := serve 0x0E09 src [] bodyHistRead s
/-- BATTEN_AUDIT. -/
def execBattenAudit (src : Src) (s : State) : Out := serve 0x0E0A src [] bodyBattenAudit s
/-- SPILL_CONFIG. -/
def execSpillConfig (src : Src) (s : State) : Out := serve 0x010A src [] bodySpillConfig s

end Sys2Proof.Machine
end

