-- ==== Sys2Proof/Machine/Kerf.lean ====
section
/-!
DEFINITION. Kerf (chapter 11): accounted length (R569), token buckets (R574, R575, R596 to R598), pacers, shapers and
host limiters (R576 to R581), class queues (R582), time gates (R588 to R594), the class pick (R584 to R593), policers
(R163 to R168), and the commands that release a packet, run the gates and handle flow control.
-/

namespace Sys2Proof.Machine

open Sys2Proof

/-- The accounted length L of a packet on a port (R569, R570). -/
def acctLen (s : State) (p len : Nat) : Nat := ((len : Int) + fld (getPort s p).fields (fk 0x12 7 0)).toNat

/-! ## Token buckets -/

/-- A bucket of `burst` bytes refilled up to tick `now_` (R574). -/
def Bucket.refill (b : Bucket) (burst now_ : Nat) : Bucket :=
  { b with
    tok := min ((burst : Int) * 65536) (b.tok + (b.rate * (now_ - b.at_) * 5 * 65536 / 32000000000 : Nat))
    at_ := now_ }

/-- Whether a refilled bucket may release (R574). -/
def Bucket.may (b : Bucket) : Bool := decide (0 ≤ b.tok)

/-- Charges `l` bytes (R574). -/
def Bucket.charge (b : Bucket) (l : Nat) : Bucket := { b with tok := b.tok - (l : Int) * 65536 }

/-- Bytes forgiven when a bucket is reset (R596). -/
def Bucket.forgiven (b : Bucket) : Nat := if b.tok < 0 then b.tok.natAbs / 65536 else 0

/-- A rate write with its reset policy (R596): `zero` takes ZERO, otherwise FULL. -/
def Bucket.write (rate burst now_ : Nat) (zero : Bool) : Bucket :=
  { tok := if zero then 0 else (burst : Int) * 65536, rate := rate, at_ := now_ }

/-- A change of burst alone (R597). -/
def Bucket.clamp (b : Bucket) (burst : Nat) : Bucket := { b with tok := min b.tok ((burst : Int) * 65536) }

/-- The tick at which a bucket that is not touched may release; none when its rate is 0 and it is in debt. -/
def Bucket.readyAt (b : Bucket) : Option Nat :=
  if 0 ≤ b.tok then some b.at_
  else if b.rate = 0 then none
  else some (b.at_ + ceilDiv (b.tok.natAbs * 32000000000) (b.rate * 327680))

/-! ## Pacers and shapers -/

/-- Whether the object with key `k` is of the fixed class now. -/
def isFixed (s : State) (k : Nat) : Bool := ((getObj s k).map (·.fixed)).getD false

/-- The Ethernet port of a leg (Table 15-12). -/
def legPort (s : State) (l : Nat) : Nat := ofldN s l (fk 0x01 1 0)

/-- The kind of a leg (Table 1-2). -/
def legKind (s : State) (l : Nat) : Nat := ofldN s l (fk 0x01 0 0)

/-- A field of an object whose default depends on the object. -/
def ofldOr (s : State) (o k : Nat) (d : Nat) : Nat :=
  match (getObj s o).bind fun x => Tab.get x.fields k with
  | some v => v.toNat
  | none => d

/-- The traffic class of a stream (Table 11-2, R73): 4 once revoked, else TC with its default by class. -/
def streamTc (s : State) (x : Nat) : Nat :=
  match getObj s x with
  | none => 2
  | some o => if o.revoked then 4 else ofldOr s x (fk 0x07 0 0) (if o.fixed then 6 else 2)

/-- The bucket size of a stream's pacer (R577). -/
def paceBurst (s : State) (x : Nat) : Nat :=
  if isFixed s x then ofldN s x (fk 0x07 4 0) else ofldN s x (fk 0x07 1 0)

/-- A stream's pacer as of now: a fixed stream runs at RES_RATE (R577). -/
def pacerNow (s : State) (x : Nat) : Bucket :=
  let b := (getStream s x).pacer
  Bucket.refill (if isFixed s x then { b with rate := ofldN s x (fk 0x07 3 0) } else b) (paceBurst s x) s.time.ticks

/-- A leg's shaper as of now (R579). -/
def shaperNow (s : State) (l : Nat) : Bucket :=
  Bucket.refill (getLeg s l).shaper (ofldN s l (fk 0x01 12 0)) s.time.ticks

/-- The tick at which the pacer of a stream lets its head go (R580). -/
def paceReady (s : State) (x : Nat) : Option Nat :=
  let b := (getStream s x).pacer
  Bucket.readyAt (if isFixed s x then { b with rate := ofldN s x (fk 0x07 3 0) } else b)

/-- The egress class of a leg's feedback (R256). -/
def ctrlClass (s : State) (l : Nat) : Nat :=
  let fx := isFixed s l
  let tcs := ((kids s 4 l).filter fun x => isOut s x && (!fx || isFixed s x)).map fun x => streamTc s x
  match tcs.max? with
  | some c => c
  | none => if fx then 6 else 2

/-- The outgoing streams of a leg that share its shaper and whose head may be released now, class queue permitting
(R579, R582). -/
def floatReady (s : State) (l : Nat) : List Nat :=
  (kids s 4 l).filter fun x =>
    isOut s x && !(isFixed s x) && (pacerNow s x).may &&
    (match qHead s (qStream x) with
     | some it => !(qFull s (qClass (legPort s l) (streamTc s x)) it.pkt.len)
     | none => false)

/-- Whether `a` goes before `b` (R580): higher TC, earlier pacer, lower index. -/
def goesFirst (s : State) (a b : Nat) : Bool :=
  let ra := (paceReady s a).getD 0
  let rb := (paceReady s b).getD 0
  if streamTc s b < streamTc s a then true
  else if streamTc s a < streamTc s b then false
  else if ra < rb then true
  else if rb < ra then false
  else decide (a ≤ b)

/-- Whether stream `x` is the one the shaper of its leg takes (R580). -/
def isChosen (s : State) (l x : Nat) : Bool :=
  (floatReady s l).contains x && (floatReady s l).all (fun y => goesFirst s x y)
    && (qHead s (qCtrl l)).isNone

/-- Charges a leg's shaper, never below the clamp of R579. -/
def chargeShaper (l n : Nat) (s : State) : State :=
  let d := getLeg s l
  let b := (shaperNow s l).charge n
  let lo := -((ofldN s l (fk 0x01 12 0) : Int) * 65536)
  if b.tok < lo then
    bumpObj (setLeg s l { d with shaper := { b with tok := lo } }) l .fixedOverShaper ((lo - b.tok).toNat / 65536)
  else setLeg s l { d with shaper := b }

/-- Moves the head of queue `q` into class queue (p, c) (R582). -/
def toClass (q p c : Nat) (s : State) : State :=
  match qHead s q with
  | none => s
  | some it =>
    let s1 := qPush (qClass p c) { it with tick := s.time.ticks } false (qPop q s)
    updPort s1 p fun e => { e with
      cls := setAt e.cls c (let x := e.cls[c]?.getD {}
                            { x with ctrs := bump x.ctrs .enqueuedBytes (acctLen s p it.pkt.len) }) }

/-- Releases the head of a stream's pacer: both buckets are charged (R579), and a wait for the pacer of a fixed stream
is counted (R578). -/
def releaseStream (x : Nat) (s : State) : State :=
  let l := legOfStream s x
  let p := legPort s l
  match qHead s (qStream x) with
  | none => s
  | some it =>
    let n := acctLen s p it.pkt.len
    let waited := isFixed s x && decide (it.tick < (paceReady s x).getD 0)
    let s1 := setStream s x { getStream s x with pacer := (pacerNow s x).charge n }
    let s2 := bumpObj (bumpObj (chargeShaper l n s1) x .sentBytes n) l .sentBytes n
    let s3 := if waited then bumpObj s2 x .paceHeldFixed else s2
    toClass (qStream x) p (streamTc s x) s3

/-- Releases the head of a leg's control queue: at once, charged to the shaper (R579). -/
def releaseCtrl (l : Nat) (s : State) : State :=
  let p := legPort s l
  match qHead s (qCtrl l) with
  | none => s
  | some it =>
    let n := acctLen s p it.pkt.len
    toClass (qCtrl l) p (ctrlClass s l) (bumpObj (chargeShaper l n s) l .sentBytes n)

/-- PACER_RELEASE (R576 to R580): the head of stream queue or leg control queue `q` goes to its class queue. -/
def execPacerRelease (q : Nat) (s : State) : Out :=
  onPart (decide (q < 32768)) s fun s =>
    match qHead s q with
    | none => s
    | some it =>
      if qKind q = 0 then
        let x := okey 4 q
        let l := legOfStream s x
        let c := qClass (legPort s l) (streamTc s x)
        if isFixed s x then guarded (isOut s x && (pacerNow s x).may && !(qFull s c it.pkt.len)) s (releaseStream x)
        else if isOut s x && (pacerNow s x).may && (shaperNow s l).may && qFull s c it.pkt.len then qHold c s
        else guarded ((shaperNow s l).may && isChosen s l x) s (releaseStream x)
      else if qKind q = 3 then
        let l := okey 3 (q - 18496)
        let c := qClass (legPort s l) (ctrlClass s l)
        if qFull s c it.pkt.len then qHold c s else releaseCtrl l s
      else if q = qTtx then
        let c := qClass (it.pkt.stream % 8) 7
        if qFull s c it.pkt.len then qHold c s else toClass q (it.pkt.stream % 8) 7 s
      else s

/-- Queues a packet on the pacer of an outgoing stream (R576): above QUEUE_LIMIT it is dropped and counted. -/
def pacePush (x : Nat) (pk : Pkt) (front : Bool) (s : State) : State :=
  let l := legOfStream s x
  let q := qStream x
  let n := acctLen s (legPort s l) pk.len
  let s1 := bumpObj (bumpObj s x .admittedBytes n) l .admittedBytes n
  if qFull s q pk.len then
    let s2 := bumpObj (bumpObj (qDrop q pk.len s1) x .droppedBytes n) l .droppedBytes n
    bumpObj s2 x (if pk.kind = .copy then .fwdQueueDrop else .paceQueueDrop)
  else qPush q { pkt := pk, tick := s.time.ticks } front s1

/-- Queues an RTCP packet of a leg (Table 12-1): a full control queue drops it and counts CTRL_DROP. -/
def ctrlPush (l : Nat) (pk : Pkt) (s : State) : State :=
  let q := qCtrl l
  let n := acctLen s (legPort s l) pk.len
  let s1 := bumpObj s l .admittedBytes n
  if qFull s q pk.len then bumpObj (bumpObj (qDrop q pk.len s1) l .droppedBytes n) l .ctrlDrop
  else qPush q { pkt := pk, tick := s.time.ticks } false s1

/-! ## Host limiters -/

/-- The host limiter of a partition as of now (R573, R581). -/
def limiterNow (s : State) (p : Nat) : Bucket :=
  match Tab.get s.obj.parts p with
  | none => {}
  | some x => Bucket.refill { x.lim with rate := fldN x.quota (fk 0x10 9 0) } (fldN x.quota (fk 0x10 9 1)) s.time.ticks

/-- Replaces the limiter of a partition. -/
def setLimiter (s : State) (p : Nat) (b : Bucket) : State :=
  { s with obj := { s.obj with parts := Tab.upd s.obj.parts p fun x => { x with lim := b } } }

/-- HOST_LIMITER_RELEASE (R581, R582): the head of the partition's host transmit queue goes to class 0 of its port. The
port of a host frame is held in the packet's `stream` field. -/
def execHostLimiterRelease (p : Nat) (s : State) : Out :=
  onPart (decide (p < 256)) s fun s =>
    match qHead s (qHtx p) with
    | none => s
    | some it =>
      let port := it.pkt.stream % 8
      let b := limiterNow s p
      if !b.may then s
      else if qFull s (qClass port 0) it.pkt.len then qHold (qClass port 0) s
      else
        let n := acctLen s port it.pkt.len
        let waited := match (Tab.get s.obj.parts p).bind fun x =>
            Bucket.readyAt { x.lim with rate := fldN x.quota (fk 0x10 9 0) } with
          | some t => decide (it.tick < t)
          | none => true
        let s1 := toClass (qHtx p) port 0 (setLimiter s p (b.charge n))
        if waited then bumpPart s1 p .hostTxHeld else s1

/-- The producers that wait for class queue (p, c) and whose head may enter it now (R620): stream and control queues. -/
def heldProducers (s : State) (p c : Nat) : List Nat :=
  (s.batten.queues.filter fun e =>
    match e.2.items.head? with
    | none => false
    | some it =>
      !(qFull s (qClass p c) it.pkt.len) &&
      (match qKind e.1 with
       | 0 =>
         let x := okey 4 e.1
         let l := legOfStream s x
         isOut s x && legPort s l == p && streamTc s x == c && (pacerNow s x).may &&
           (isFixed s x || ((shaperNow s l).may && isChosen s l x))
       | 3 => legPort s (okey 3 (e.1 - 18496)) == p && ctrlClass s (okey 3 (e.1 - 18496)) == c
       | _ => false)).map (·.1)

/-! ## Time gates -/

/-- The PHC ns at which entry `i` of a cycle that began at `cyc` ends (R589): the last entry holds until the boundary,
and the boundary cuts any entry. -/
def entryEnd (g : GateList) (cyc i : Nat) : Nat :=
  if g.ents.length ≤ i + 1 then cyc + g.cycle
  else min (cyc + g.cycle) (cyc + ((g.ents.take (i + 1)).map (·.2)).sum)

/-- The gates of an entry. -/
def entryGates (g : GateList) (i : Nat) : Nat := ((g.ents[i]?).map (·.1)).getD 0xFF

/-- Whether gate `c` of a port is open (R588). -/
def gateOpen (e : EthPort) (c : Nat) : Bool :=
  match e.gates with
  | none => true
  | some g => bitOf (entryGates g e.gateIdx) c

/-- Whether gate `c` is open in every entry. -/
def alwaysOpen (g : GateList) (c : Nat) : Bool := g.ents.all fun x => bitOf x.1 c

/-- The first PHC time, from the end `endT` of the entry in force on, at which gate `c` closes (R592): the walk passes
entry boundaries, cycle boundaries and the times at which the lists of `pend` take over. -/
def closeAt (c : Nat) : Nat → GateList → Nat → Nat → Nat → List (GateList × Nat) → Option Nat
  | 0, _, _, _, _, _ => none
  | fuel + 1, g, cyc, i, endT, pend =>
    let n := if endT = cyc + g.cycle ∨ g.ents.length ≤ i + 1 then (endT, 0) else (cyc, i + 1)
    match pend with
    | (g2, ct) :: t =>
      if ct ≤ endT then
        if g2.ents.isEmpty then none
        else if bitOf (entryGates g2 0) c then closeAt c fuel g2 ct 0 (entryEnd g2 ct 0) t
        else some ct
      else if bitOf (entryGates g n.2) c then closeAt c fuel g n.1 n.2 (entryEnd g n.1 n.2) pend else some endT
    | [] => if bitOf (entryGates g n.2) c then closeAt c fuel g n.1 n.2 (entryEnd g n.1 n.2) [] else some endT

/-- The cycle in progress as a list of its own when a step made it end at `hold`: the entries that begin inside the cycle,
the last of them until `hold` (Table 2-9). -/
def heldCycle (g : GateList) (cyc hold : Nat) : GateList :=
  { g with
    cycle := hold - cyc
    ents := g.ents.take ((List.range g.ents.length).filter fun i => i = 0 || entryEnd g 0 (i - 1) < g.cycle).length }

/-- The length of the window of class `c` at PHC time `t`; none when it is unbounded (R592). -/
def gateWindow (e : EthPort) (c t : Nat) : Option Nat :=
  match e.gates with
  | none =>
    match e.gatesNew with
    | none => none
    | some (g2, ct) => (closeAt c 600 { base := 0, cycle := ct - t + 1, ents := [(255, 0)] } t 0 (max ct t) [(g2, ct)]).map (· - t)
  | some g =>
    if alwaysOpen g c && (match e.gatesNew with
        | none => true
        | some (g2, _) => alwaysOpen g2 c) then none
    else
      match e.gateHold with
      | none => (closeAt c 1200 g e.gateCycle e.gateIdx e.gateEnd e.gatesNew.toList).map (· - t)
      | some h =>
        let g1 := heldCycle g e.gateCycle h
        let pend := match e.gatesNew with
          | none => [(g, h)]
          | some (g2, ct) => if ct ≤ h then [(g2, ct)] else [(g, h), (g2, ct)]
        let endT := if e.gateEnd < e.gateCycle + g.cycle ∧ e.gateIdx + 1 < g1.ents.length then e.gateEnd else h
        (closeAt c 1200 g1 e.gateCycle e.gateIdx endT pend).map (· - t)

/-- The lengths of the open runs of class `c` in two joined cycles of a list. -/
def openRuns (c : Nat) : Nat → List (Nat × Nat) → List Nat
  | run, [] => [run]
  | run, (g, n) :: t => if bitOf g c then openRuns c (run + n) t else run :: openRuns c 0 t

/-- The entries of one cycle with the lengths they have in it (R589). -/
def cycleEntries (g : GateList) : List (Nat × Nat) :=
  (List.range g.ents.length).map fun i =>
    (entryGates g i, entryEnd g 0 i - (if i = 0 then 0 else entryEnd g 0 (i - 1)))

/-- W_max of class `c`: the longest window of one cycle; none when unbounded (R593). -/
def wMax (e : EthPort) (c : Nat) : Option Nat :=
  match e.gates with
  | none => none
  | some g =>
    if alwaysOpen g c then none
    else (openRuns c 0 (cycleEntries g ++ cycleEntries g)).max?

/-- Whether a frame of accounted length `l` fits a window of `w` ns (R592). -/
def fitsNs (s : State) (p l : Nat) : Option Nat → Bool
  | none => true
  | some w => decide (8 * l ≤ w * portGb s p)

/-- GATE_ENTRY_CHANGE (R589, R132): the entry in force ends inside its cycle. -/
def execGateEntryChange (p : Nat) (s : State) : Out :=
  onPart (decide (p < 8)) s fun s =>
    let e := getPort s p
    match e.gates with
    | none => s
    | some g =>
      guarded (decide (e.gateEnd ≤ phcNs s.time) && decide (e.gateEnd < e.gateCycle + g.cycle)
          && decide (e.gateIdx + 1 < g.ents.length)) s fun s =>
        setPort s p { e with gateIdx := e.gateIdx + 1, gateEnd := entryEnd g e.gateCycle (e.gateIdx + 1) }

/-- GATE_CYCLE_BOUNDARY (R589, Table 2-9): the list restarts at entry 0, after a step at the held boundary. -/
def execGateCycleBoundary (p : Nat) (s : State) : Out :=
  onPart (decide (p < 8)) s fun s =>
    let e := getPort s p
    match e.gates with
    | none => s
    | some g =>
      let b := e.gateHold.getD (e.gateCycle + g.cycle)
      guarded (decide (b ≤ phcNs s.time)) s fun s =>
        setPort s p { e with gateIdx := 0, gateCycle := b, gateEnd := entryEnd g b 0, gateHold := none }

/-- GATE_LIST_ACTIVE (R590, R608): at CT the pending list takes over at entry 0; an empty list removes the gates. -/
def execGateListActive (p : Nat) (s : State) : Out :=
  onPart (decide (p < 8)) s fun s =>
    let e := getPort s p
    match e.gatesNew with
    | none => s
    | some (g, ct) =>
      guarded (decide (ct ≤ phcNs s.time)) s fun s =>
        emit .owner 0x090 (portHandle p) (toLe 6 (ct / secNs) ++ zeros 2 ++ toLe 4 (ct % secNs))
          (setPort s p { e with
            gates := if g.ents.isEmpty then none else some g
            gatesNew := none, gateIdx := 0, gateCycle := ct, gateEnd := entryEnd g ct 0, gateHold := none })

/-- The entries of a gate list as DMA reads them (Table 11-3). -/
def gateEntries (d : Bytes) (o : Nat) : Nat → List (Nat × Nat)
  | 0 => []
  | n + 1 => (le d o 1, le d (o + 4) 4) :: gateEntries d (o + 8) n

/-- An entry as 8 bytes (Table 11-3). -/
def gateBytes (g : GateList) : Bytes := g.ents.flatMap fun x => toLe 4 x.1 ++ toLe 4 x.2

/-- GATE_LIST_READ (R591). -/
def bodyGateListRead : Body := fun F p _ s =>
  match resolvePort (le p 0 4) with
  | none => .no .badHandle []
  | some i =>
    checked [(decide (i < 8), .outOfRange)] fun _ =>
      let e := getPort s i
      let cur := (e.gates.map gateBytes).getD []
      let pen := (e.gatesNew.map fun x => gateBytes x.1).getD []
      let a := le p 8 8
      let n := cur.length + pen.length
      if 0 < n ∧ !(inWindow (getFn s F) a n true) then .dma a n 1
      else
        let ct := (e.gatesNew.map (·.2)).getD 0
        .ok (toLe 2 (cur.length / 8) ++ toLe 2 (pen.length / 8) ++ toLe 2 e.gateIdx ++ zeros 2 ++ toLe 6 (ct / secNs)
          ++ zeros 2 ++ toLe 4 (ct % secNs) ++ zeros 4) 0
          (if n = 0 then s else updFn s F fun f => { f with lastWr := some (a, cur ++ pen) })

/-- GATE_LIST_READ. -/
def execGateListRead (src : Src) (s : State) : Out := serve 0x0308 src [] bodyGateListRead s

/-! ## Choosing a class -/

/-- The weight of a class; 0 for classes 5 to 7 (R584). -/
def classWeight (e : EthPort) (c : Nat) : Nat := if 5 ≤ c then 0 else fldN e.fields (fk 0x12 8 c)

/-- Whether class `c` is paused (R585). -/
def paused (e : EthPort) (c : Nat) : Bool := Tab.has e.pausedTo c

/-- Whether class `c` of port `p` may start its head frame (R584, R592). -/
def canStart (s : State) (p c : Nat) : Bool :=
  let e := getPort s p
  match qHead s (qClass p c) with
  | none => false
  | some it =>
    !(paused e c) && gateOpen e c && fitsNs s p (acctLen s p it.pkt.len) (gateWindow e c (phcNs s.time))

/-- One class of a port's transmitter. -/
def getCls (e : EthPort) (c : Nat) : ClassSt := e.cls[c]?.getD {}

/-- Changes one class of a port's transmitter. -/
def updCls (s : State) (p c : Nat) (g : ClassSt → ClassSt) : State :=
  updPort s p fun e => { e with cls := setAt e.cls c (g (getCls e c)) }

/-- The strict class the port picks (R584). -/
def pickStrict (s : State) (p : Nat) : Option Nat :=
  [7, 6, 5, 4, 3, 2, 1, 0].find? fun c => classWeight (getPort s p) c == 0 && canStart s p c

/-- The weighted classes of a port. -/
def weighted (e : EthPort) : List Nat := (List.range 5).filter fun c => classWeight e c != 0

/-- The weighted class after `c`, wrapping. -/
def nextWeighted (e : EthPort) (c : Nat) : Nat :=
  match (weighted e).find? (fun x => c < x) with
  | some x => x
  | none => ((weighted e).head?).getD 0

/-- The deficit round robin of R584, at most `fuel` turns: each turn of a class that can start adds 512 bytes per unit
of weight, so a head frame of at most 9,224 bytes and the overhead is reached. -/
def drr (p : Nat) : Nat → State → Option Nat × State
  | 0, s => (none, s)
  | fuel + 1, s =>
    let e := getPort s p
    let c := if classWeight e e.rr == 0 then nextWeighted e e.rr else e.rr
    let x := getCls e c
    if canStart s p c then
      let x1 := if x.fresh then { x with dfc := x.dfc + 512 * classWeight e c, fresh := false } else x
      let l := ((qHead s (qClass p c)).map fun it => acctLen s p it.pkt.len).getD 0
      if l ≤ x1.dfc then
        (some c, setPort s p { e with rr := c, cls := setAt e.cls c { x1 with dfc := x1.dfc - l } })
      else
        drr p fuel (setPort s p { e with rr := nextWeighted e c, cls := setAt e.cls c { x1 with fresh := true } })
    else
      let x1 := { x with dfc := if (getQ s (qClass p c)).items.isEmpty then 0 else x.dfc, fresh := true }
      drr p fuel (setPort s p { e with rr := nextWeighted e c, cls := setAt e.cls c x1 })

/-- The class the port picks, with the round robin's state (R584). -/
def pickClass (p : Nat) (s : State) : Option Nat × State :=
  match pickStrict s p with
  | some c => (some c, s)
  | none =>
    if (weighted (getPort s p)).any fun c => canStart s p c then drr p 128 s else (none, s)

/-- Counts GATE_WAIT once for each head frame that does not fit its window (R592). -/
def countWaits (p : Nat) (s : State) : State :=
  (List.range 8).foldl (fun s c =>
    let e := getPort s p
    match qHead s (qClass p c) with
    | none => s
    | some it =>
      if gateOpen e c && !(paused e c) && !(fitsNs s p (acctLen s p it.pkt.len) (gateWindow e c (phcNs s.time)))
          && !(getCls e c).waited then
        updCls s p c fun x => { x with waited := true, ctrs := bump x.ctrs .gateWait }
      else s) s

/-! ## Flow control received -/

/-- FLOW_CONTROL_FRAME_RECEIVE (R144, R145, R585): a PFC frame (`pfc`) with a priority mask and eight quanta, or a PAUSE
frame whose quanta is the first. -/
def execFlowControlFrameReceive (p : Nat) (pfc : Bool) (mask : Nat) (quanta : List Nat) (s : State) : Out :=
  onPart (decide (p < 8)) s fun s =>
    let s1 := bumpPort s p .rxPause
    let until_ := fun q => s.time.ticks + ceilDiv (512 * q * 4) (portGb s p * 5)
    if pfc && portFlow s p == 2 then
      updPort s1 p fun e => { e with
        pausedTo := (List.range 8).foldl (fun t c =>
          if bitOf mask c then
            (let q := quanta[c]?.getD 0
             if q = 0 then Tab.del t c else Tab.set t c (until_ q))
          else t) e.pausedTo }
    else if !pfc && portFlow s p == 1 then
      let q := quanta.head?.getD 0
      updPort s1 p fun e => { e with
        pausedTo := if q = 0 then [] else (List.range 8).map fun c => (c, until_ q) }
    else s1

/-- PAUSE_HOLD_EXPIRY (R585). -/
def execPauseHoldExpiry (p c : Nat) (s : State) : Out :=
  onPart (decide (p < 8) && decide (c < 8)) s fun s =>
    match Tab.get (getPort s p).pausedTo c with
    | none => s
    | some t =>
      guarded (decide (t ≤ s.time.ticks)) s fun s => updPort s p fun e => { e with pausedTo := Tab.del e.pausedTo c }

/-! ## Policers -/

/-- Colours (R166). -/
inductive Colour where
  | green
  | yellow
  | red
  deriving DecidableEq, Repr

/-- The policer of partition `p` with index `i`. -/
def getPol (s : State) (p i : Nat) : Option Policer := Tab.get s.eth.pol (p * 8192 + i)

/-- PIR of a policer: CIR when it is not set (Table 11-4). -/
def polPir (fs : Tab Int) : Nat :=
  match Tab.get fs (fk 0x0D 5 0) with
  | some v => v.toNat
  | none => fldN fs (fk 0x0D 2 0)

/-- A policer with its buckets full (R600). -/
def fullPol (fs : Tab Int) (now_ : Nat) : Policer :=
  { fields := fs, tc := fldN fs (fk 0x0D 3 0) * 65536, te := fldN fs (fk 0x0D 4 0) * 65536
    tp := fldN fs (fk 0x0D 6 0) * 65536, at_ := now_ }

/-- The single-rate marker (R166); `dt` in TIMER ticks (R165). -/
def srtcm (x : Policer) (pre : Colour) (b dt : Nat) : Colour × Policer :=
  let cbs := fldN x.fields (fk 0x0D 3 0) * 65536
  let ebs := fldN x.fields (fk 0x0D 4 0) * 65536
  let tc0 := x.tc + fldN x.fields (fk 0x0D 2 0) * dt * 5 * 65536 / 4000000000
  let te := if cbs < tc0 then min ebs (x.te + tc0 - cbs) else x.te
  let tc := min cbs tc0
  let bb := b * 65536
  if pre = .green ∧ bb ≤ tc then (.green, { x with tc := tc - bb, te := te })
  else if pre ≠ .red ∧ bb ≤ te then (.yellow, { x with tc := tc, te := te - bb })
  else (.red, { x with tc := tc, te := te })

/-- The two-rate marker (R166). -/
def trtcm (x : Policer) (pre : Colour) (b dt : Nat) : Colour × Policer :=
  let tp := min (fldN x.fields (fk 0x0D 6 0) * 65536) (x.tp + polPir x.fields * dt * 5 * 65536 / 4000000000)
  let tc := min (fldN x.fields (fk 0x0D 3 0) * 65536) (x.tc + fldN x.fields (fk 0x0D 2 0) * dt * 5 * 65536 / 4000000000)
  let bb := b * 65536
  if pre = .red ∨ tp < bb then (.red, { x with tc := tc, tp := tp })
  else if pre = .yellow ∨ tc < bb then (.yellow, { x with tc := tc, tp := tp - bb })
  else (.green, { x with tc := tc - bb, tp := tp - bb })

/-- The pre-colour of a packet's DSCP (R167). -/
def preColour (s : State) (x : Policer) (dscp : Nat) : Colour :=
  if fld x.fields (fk 0x0D 1 0) = 0 then .green
  else
    match s.eth.dscp[dscp]?.getD 0 with
    | 0 => .green
    | 1 => .yellow
    | _ => .red

/-- Marks a packet of `b` bytes by policer (p, i) and counts its colour (R164 to R168). A policer that was never
configured has its defaults and full buckets. -/
def police (p i b dscp : Nat) (s : State) : Colour × State :=
  let x := (getPol s p i).getD (fullPol [] s.time.ticks)
  let dt := s.time.ticks - x.at_
  let pre := preColour s x dscp
  let r := if fld x.fields (fk 0x0D 0 0) = 0 then srtcm x pre b dt else trtcm x pre b dt
  let cs := match r.1 with
    | .green => bump (bump r.2.ctrs .greenPackets) .greenBytes b
    | .yellow => bump (bump r.2.ctrs .yellowPackets) .yellowBytes b
    | .red => bump (bump r.2.ctrs .redPackets) .redBytes b
  (r.1, { s with eth := { s.eth with
    pol := Tab.set s.eth.pol (p * 8192 + i) { r.2 with at_ := s.time.ticks, ctrs := cs } } })

/-- DSCP_TABLE_SET (R167). -/
def bodyDscpTableSet : Body := fun _ p _ s =>
  .ok [] 0 { s with eth := { s.eth with dscp := (List.range 64).map fun d => bits (le p 0 16) (2 * d + 1) (2 * d) } }

/-- DSCP_TABLE_SET. -/
def execDscpTableSet (src : Src) (s : State) : Out := serve 0x0310 src [] bodyDscpTableSet s

end Sys2Proof.Machine
end

