-- ==== Sys2Proof/Machine/Forward.lean ====
section
/-!
DEFINITION. Streams and forwarding by layers (R183 to R197, R290, R291): codecs, packet lengths on a leg, the
encodings of a source, what the forwarder measures, and the copy each subscription gets.
-/

namespace Sys2Proof.Machine

open Sys2Proof

/-! ## Streams -/

/-- The ROLE of a stream (Table 15-14): 0 MEDIA, 1 FORWARD, 2 LAYOUT, 3 RTX, 4 TRUNK. -/
def streamRole (s : State) (x : Nat) : Nat := ofldN s x (fk 0x04 2 0)

/-- Whether a stream carries video. -/
def isVideo (s : State) (x : Nat) : Bool := ofldN s x (fk 0x04 1 0) == 1

/-- The SSRC of a stream: configured, or learned (R150). -/
def streamSsrc (s : State) (x : Nat) : Option Nat :=
  if ofld s x (fk 0x04 3 0) = noneV then (getStream s x).ssrc else some (ofldN s x (fk 0x04 3 0))

/-- The payload type map of a stream: payload type and codec (R153). -/
def ptMap (s : State) (x : Nat) : List (Nat × Nat) :=
  ((List.range 8).map fun e => ofldN s x (fk 0x04 6 e)).filterMap fun v =>
    if v / 256 % 256 = 0 then none else some (v % 128, v / 256 % 256)

/-- The codec a payload type means on a stream (R153). -/
def codecOf (s : State) (x pt : Nat) : Option Nat := ((ptMap s x).find? fun e => e.1 = pt).map (·.2)

/-- The payload type a stream uses for a codec. -/
def ptFor (s : State) (x c : Nat) : Option Nat := ((ptMap s x).find? fun e => e.2 = c).map (·.1)

/-- A string field of `n` elements without its zero padding (R734). -/
def strField (s : State) (x t r n : Nat) : Bytes :=
  ((List.range n).flatMap fun e => toLe 8 (ofldN s x (fk t r e))).filter fun b => b ≠ 0

/-- The MID of a stream. -/
def streamMid (s : State) (x : Nat) : Bytes := strField s x 0x04 4 2
/-- The RID of a stream. -/
def streamRid (s : State) (x : Nat) : Bytes := strField s x 0x04 5 1
/-- The key of the stream that LINK names; 0 for none. -/
def streamLink (s : State) (x : Nat) : Nat := liveKey s (ofldN s x (fk 0x04 7 0))
/-- The key of the layout that LAYOUT names; 0 for none. -/
def streamLayout (s : State) (x : Nat) : Nat := liveKey s (ofldN s x (fk 0x04 8 0))
/-- The key of the rung that RUNG names; 0 for none. -/
def streamRung (s : State) (x : Nat) : Nat := liveKey s (ofldN s x (fk 0x04 9 0))

/-- The streams of a leg in one direction. -/
def legStreams (s : State) (l : Nat) (out : Bool) : List Nat := (kids s 4 l).filter fun x => isOut s x == out

/-- The outgoing stream of a leg that an SSRC names (R214). -/
def outBySsrc (s : State) (l ssrc : Nat) : Option Nat :=
  (legStreams s l true).find? fun x => streamSsrc s x == some ssrc

/-- The stream linked as retransmission to a primary, in the same direction (R153). -/
def rtxOf (s : State) (x : Nat) : Option Nat :=
  (legStreams s (legOfStream s x) (isOut s x)).find? fun r => streamRole s r == 3 && streamLink s r == x

/-- Tag bytes of a protection mode for RTP and for RTCP (Table 3-4), the SRTCP index word included (R162). -/
def tagBytes (mode : Nat) : Nat × Nat :=
  match mode with
  | 0 => (0, 0)
  | 1 => (10, 14)
  | 2 => (4, 14)
  | 3 => (10, 14)
  | _ => (16, 20)

/-- The outbound protection mode of a leg. -/
def outMode (s : State) (l : Nat) : Nat := ofldN s l (fk 0x01 7 1)
/-- The inbound protection mode of a leg. -/
def inMode (s : State) (l : Nat) : Nat := ofldN s l (fk 0x01 7 0)

/-- Whether a leg's remote address is IPv4 (R734). -/
def isV4 (s : State) (l : Nat) : Bool :=
  ofldN s l (fk 0x01 4 0) == 0 && ofldN s l (fk 0x01 4 1) % 2 ^ 32 == 0xFFFF0000

/-- Ethernet, IP and UDP bytes of a packet of a leg, FCS included. -/
def l2l4 (s : State) (l : Nat) : Nat :=
  let tag := match Tab.get s.eth.addrs (ofldN s l (fk 0x01 2 0)) with
    | some a => if a.vlan = 0xFFFF then 0 else 4
    | none => 0
  18 + tag + (if isV4 s l then 20 else 40) + 8

/-- The extension identifiers of a leg (Table 15-12): MID, RID, repaired RID, dependency descriptor, audio level,
abs-send-time, transport-wide sequence. -/
def extId (s : State) (l e : Nat) : Nat := ofldN s l (fk 0x01 8 e)

/-- Bytes of the RTP header extensions a packet carries on a leg (RFC 8285, R152, R220). -/
def extLen (s : State) (l : Nat) (r : Rtp) : Nat :=
  let one (e n : Nat) (present : Bool) : List (Nat × Nat) :=
    if extId s l e ≠ 0 && present then [(extId s l e, n)] else []
  let xs := one 0 r.mid.length (!r.mid.isEmpty) ++ one 1 r.rid.length (!r.rid.isEmpty)
    ++ one 2 r.rrid.length (!r.rrid.isEmpty) ++ one 4 1 r.level.isSome ++ one 5 3 true ++ one 6 2 true
  let two := xs.any fun e => 14 < e.1 || 16 < e.2
  let n := (xs.map fun e => e.2 + (if two then 2 else 1)).sum + r.xlen
  if n = 0 then 0 else 4 + roundUp n 4

/-- The length of an RTP packet as a leg sends it, from destination address to FCS, protected (R162, R569). -/
def rtpLen (s : State) (l : Nat) (r : Rtp) (payload : Nat) : Nat :=
  max 64 (l2l4 s l + 12 + 4 * r.csrc.length + extLen s l r + payload + (if r.osn.isSome then 2 else 0)
    + (tagBytes (outMode s l)).1)

/-- The length of an RTCP compound of `n` bytes as a leg sends it. -/
def rtcpLen (s : State) (l n : Nat) : Nat := max 64 (l2l4 s l + n + (tagBytes (outMode s l)).2)

/-- The extended value of an `n`-bit counter nearest to the highest one so far (RFC 3711 Appendix A). -/
def extend (n : Nat) (hi : Option Nat) (v : Nat) : Nat :=
  match hi with
  | none => v + 2 ^ n
  | some h =>
    let b := h / 2 ^ n * 2 ^ n + v
    if b + 2 ^ (n - 1) < h then b + 2 ^ n
    else if h + 2 ^ (n - 1) < b ∧ 2 ^ n ≤ b then b - 2 ^ n
    else b

/-! ## Sources and measurement -/

/-- The encodings of the source that stream `y` belongs to: received streams of its leg with the same MID
(Table 15-14, LINK). -/
def encodings (s : State) (y : Nat) : List Nat :=
  let m := streamMid s y
  if m.isEmpty then [y]
  else
    let xs := (legStreams s (legOfStream s y) false).filter fun z => streamRole s z == 0 && streamMid s z == m
    if xs.contains y then xs else [y]

/-- The subscriptions of an encoding: ACTIVE forward streams of ACTIVE legs, fixed first, then by creation (R191). -/
def subsOf (s : State) (e : Nat) : List Nat :=
  let xs := (objKeys s 4).filter fun x =>
    isActive s x && isOut s x && streamRole s x == 1 && isActive s (legOfStream s x)
      && streamLink s x != 0 && (encodings s (streamLink s x)).contains e
  let born (x : Nat) : Nat := ((getObj s x).map (·.born)).getD 0
  let sorted := sortBy xs fun a b => decide (born a ≤ born b)
  sorted.filter (isFixed s) ++ sorted.filter fun x => !(isFixed s x)

/-- What is still inside the last second. -/
def measLive (now_ : Nat) (m : List (Nat × Nat × Nat)) : List (Nat × Nat × Nat) :=
  m.filter fun e => now_ < e.1 + 1000000000

/-- The measured rate of a selection (R243): bits of the last second in its layers. -/
def rateOfChoice (s : State) (c : Choice) : Nat :=
  ((measLive (now s) (getStream s c.enc).meas).filterMap fun e =>
    if e.2.1 / 8 ≤ c.sid ∧ e.2.1 % 8 ≤ c.tid then some e.2.2 else none).sum

/-- The layers an encoding showed in the last second. -/
def layersOf (s : State) (e : Nat) : List Nat :=
  ((measLive (now s) (getStream s e).meas).map (·.2.1)).dedup

/-- Whether the codec of a stream has layers (Table 3-7): one of VP8, AVC, HEVC, AV1 in its map. -/
def layered (s : State) (e : Nat) : Bool := (ptMap s e).any fun c => decide (8 ≤ c.2) && decide (c.2 ≤ 11)

/-- The selection that takes every layer. -/
def wholeChoice (e : Nat) : Choice := { enc := e, sid := 7, tid := 7 }

/-- The selections of one encoding: each spatial and temporal layer seen, or the whole of a codec without layers. -/
def choicesOf (s : State) (e : Nat) : List Choice :=
  if layered s e then (layersOf s e).map fun v => { enc := e, sid := v / 8, tid := v % 8 }
  else [wholeChoice e]

/-- The ladder of a subscription with the rates measured (R243): selections by rate; the lowest layer of the first
encoding stands when nothing was measured. -/
def ladder (s : State) (x : Nat) : List (Choice × Nat) :=
  let es := encodings s (streamLink s x)
  let cs := es.flatMap (choicesOf s)
  let cs := if cs.isEmpty then (es.take 1).map fun e => { enc := e, sid := 0, tid := 0 } else cs
  sortBy (cs.map fun c => (c, rateOfChoice s c)) fun a b =>
    decide (a.2 < b.2) || (decide (a.2 = b.2) && decide (a.1.sid * 8 + a.1.tid ≤ b.1.sid * 8 + b.1.tid))

/-! ## Layers of a packet -/

/-- Whether a frame is a switch point to spatial layer `sid` and temporal layer `tid` (Table 3-7). -/
def switchPoint (codec : Nat) (i : Info) (sid tid : Nat) : Bool :=
  i.start && (i.key || (if codec = 11 then i.targets.contains (sid * 4 + tid) else i.switch_))

/-- Whether a frame is a temporal up-switch point for layer `tid` (Table 3-7). -/
def upSwitch (codec : Nat) (i : Info) (sid tid : Nat) : Bool :=
  if codec = 11 then i.targets.contains (sid * 4 + tid)
  else if codec = 10 then i.up && i.tid == tid
  else (i.up && i.tid == tid) || i.tid == 0

/-- The hold after a frame of the source begins (R291). -/
def holdAfter (codec : Nat) (i : Info) (d : StreamDyn) : List (Nat × Nat) :=
  let h := if switchPoint codec i i.sid 7 || (codec = 11 && !i.targets.isEmpty) then
      d.hold.filter fun e => e.1 < i.sid else d.hold
  h.filter fun e => !(decide (0 < e.2) && e.1 == i.sid && upSwitch codec i i.sid e.2 && !(d.dam0.contains i.sid))

/-- The choice in force after the frame of packet `i` of encoding `e` arrives (R186 to R188). -/
def effAfter (codec e : Nat) (i : Info) (u : Sub) : Option Choice :=
  match u.want with
  | none => none
  | some w =>
    match u.eff with
    | none => if e = w.enc ∧ (codec = 0 ∨ switchPoint codec i w.sid w.tid) then some w else none
    | some f =>
      if w.enc ≠ f.enc then (if e = w.enc ∧ (codec = 0 ∨ switchPoint codec i w.sid w.tid) then some w else some f)
      else if e ≠ f.enc then some f
      else if codec = 0 then some w
      else if w.sid ≠ f.sid then (if switchPoint codec i w.sid w.tid then some w else some f)
      else if w.tid ≤ f.tid then (if w.tid < i.tid then some w else some f)
      else if i.start && i.tid == 0 && upSwitch codec i w.sid w.tid then some w
      else if i.start && upSwitch codec i w.sid (f.tid + 1) then some { f with tid := f.tid + 1 }
      else some f

/-- Whether a frame lies within the choice in force; R245 leaves temporal layer 0 alone. -/
def within (e : Nat) (i : Info) (u : Sub) : Bool :=
  match u.eff with
  | none => false
  | some f => f.enc == e && decide (i.sid ≤ f.sid) && decide (i.tid ≤ (if u.restrict then 0 else f.tid))

/-- The offset in force at a source position (R196). -/
def offAt (h : List (Nat × Nat)) (ext : Nat) : Option Nat := ((h.filter fun e => e.1 < ext).getLast?).map (·.2)

/-- A received packet on its way to the forwarder: encoding, codec (0 without layers), extended sequence number, highest
one before it, media time of its stamp. -/
structure FwdIn where
  enc   : Nat
  codec : Nat
  ext   : Nat
  hi    : Option Nat
  mt    : Nat
  rtp   : Rtp
  info  : Info

/-- Whether a packet advances its source. -/
def FwdIn.inOrder (p : FwdIn) : Bool :=
  match p.hi with
  | none => true
  | some h => decide (h < p.ext)

/-- A packet withheld from a subscription (R194): in order, it takes one off the sequence offset. -/
def withhold (x : Nat) (p : FwdIn) (u : Sub) (s : State) : State :=
  let u1 := if p.inOrder && (u.enc == p.enc) then
      let o := wrap 16 ((u.seqOff : Int) - 1)
      { u with seqOff := o, hist := (u.hist ++ [(p.ext, o)]).drop (u.hist.length - 160) }
    else u
  bumpObj (setStream s x { getStream s x with sub := u1 }) x .fwdWithheld

/-- The rewrite offsets at the first packet of a new encoding (R195). -/
def switchOffsets (p : FwdIn) (u : Sub) : Sub :=
  match u.lastSeq with
  | none => { u with enc := p.enc, hist := [(p.ext - 1, u.seqOff)] }
  | some q =>
    let dt := ((p.mt - u.lastMt) * 90000 * 2 + 1000000000) / 2000000000
    let so := wrap 16 ((q : Int) + 1 - p.ext)
    { u with
      enc := p.enc
      seqOff := so
      tsOff := wrap 32 ((u.lastTs : Int) + (max 1 dt : Nat) - p.rtp.ts)
      hist := [(p.ext - 1, so)] }

/-- A FEC packet for a share `p`/64 of the video sent (R239), once a whole packet is owed. -/
def fecAfter (x : Nat) (pk : Pkt) (s : State) : State :=
  let l := legOfStream s x
  let r := (getLeg s l).gov.p
  match ptFor s x 13 with
  | none => s
  | some pt =>
    let d := getStream s x
    let debt := d.fecDebt + 8 * pk.len * r
    if r ≠ 0 ∧ 512 * pk.len ≤ debt then
      pacePush x { pk with kind := .padding, rtp := { pk.rtp with pt := pt, pay := [], marker := false }, info := {} }
        false (setStream s x { d with fecDebt := debt - 512 * pk.len })
    else setStream s x { d with fecDebt := debt }

/-- Queues a media packet of an outgoing stream, and the FEC it is owed. -/
def sendMedia (x : Nat) (pk : Pkt) (s : State) : State := fecAfter x pk (pacePush x pk false s)

/-- The AV1 marker of a copy (Table 3-8): the end of the frame of the highest spatial layer sent. -/
def copyMarker (p : FwdIn) (u : Sub) : Bool :=
  match u.eff with
  | some f => if p.codec = 11 ∧ p.info.resolves then p.info.eof && (p.info.sid == f.sid || p.rtp.marker) else p.rtp.marker
  | none => p.rtp.marker

/-- The codec fields of a new frame at a receiver (Table 3-8). -/
def beginFrame (p : FwdIn) (u : Sub) : Sub × Begun :=
  let u1 := { u with
    picId := (u.picId + 1) % 32768
    tl0 := if p.info.tid = 0 then (u.tl0 + 1) % 256 else u.tl0
    frameNo := (u.frameNo + 1) % 65536 }
  let b : Begun :=
    { enc := p.enc, ts := p.rtp.ts, sid := p.info.sid, pic := u1.picId, tl0 := u1.tl0, fno := u1.frameNo }
  ({ u1 with started := (u.started ++ [b]).drop (u.started.length - 256) }, b)

/-- Sends one copy (R191 to R196); `b` is its frame at the receiver. -/
def sendCopy (x : Nat) (p : FwdIn) (u : Sub) (b : Begun) (off : Nat) (s : State) : State :=
  let l := legOfStream s x
  let seq := (p.ext + off) % 65536
  let ts := (p.rtp.ts + u.tsOff) % 2 ^ 32
  let rtp := { p.rtp with
    seq := seq, ts := ts, ssrc := (streamSsrc s x).getD 0, marker := copyMarker p u
    mid := streamMid s x, rid := [], rrid := [] }
  let info := { p.info with
    picId := b.pic, tl0 := b.tl0, frameNo := b.fno
    targets := match u.eff with
      | some f => [min f.sid 3 * 4 + min f.tid 3]
      | none => [] }
  let u1 := if p.inOrder then { u with lastSeq := some seq, lastTs := ts, lastMt := p.mt } else u
  let s1 := setStream s x { getStream s x with sub := u1 }
  let pk : Pkt := { kind := .copy, len := rtpLen s l rtp rtp.pay.length, leg := l, stream := x, rtp := rtp, info := info
                    mt := p.mt }
  let full := qFull s1 (qStream x) pk.len
  let s2 := if isVideo s x then sendMedia x pk s1 else pacePush x pk false s1
  if full then s2 else bumpObj s2 x .fwdSent

/-- The effect on a subscription of a choice coming in force: SWITCHES and the end of its upstream need (R187, R255). -/
def tookEffect (x : Nat) (old new_ : Option Choice) (s : State) : State :=
  match new_ with
  | none => s
  | some f =>
    let moved := match old with
      | none => true
      | some o => o.enc ≠ f.enc || o.sid ≠ f.sid
    if moved then
      let y := getStream s f.enc
      let s1 := setStream s f.enc { y with up := { y.up with needs := y.up.needs.filter fun k => k ≠ x } }
      let d := getStream s1 x
      let s2 := setStream s1 x { d with sub := { d.sub with pendAt := none, asked := false, restrict := false } }
      if old.isSome then bumpObj s2 x .switches else s2
    else s

/-- One packet at one subscription (R185 to R190, R196). -/
def forwardOne (p : FwdIn) (held : Bool) (x : Nat) (s : State) : State :=
  let u := (getStream s x).sub
  let late := match p.hi with
    | none => 0
    | some h => h - p.ext
  if 128 < late then bumpObj s x .fwdReorderDrop
  else if p.rtp.padOnly then withhold x p u s
  else
    match u.started.find? fun b => b.enc = p.enc && b.ts = p.rtp.ts && b.sid = p.info.sid with
    | some b =>
      match offAt u.hist p.ext with
      | some off => if u.enc = p.enc then sendCopy x p u b off s else withhold x p u s
      | none => withhold x p u s
    | none =>
      if held then withhold x p u s
      else
        let whole := match u.want with
          | some w => (ladder s x).all fun c => c.1.enc ≠ w.enc || (c.1.sid ≤ w.sid && c.1.tid ≤ w.tid)
          | none => false
        if p.codec = 11 && !p.info.resolves then
          match offAt u.hist p.ext with
          | some off =>
            if whole && u.eff == u.want && u.enc == p.enc then
              let ub := beginFrame p u
              sendCopy x p ub.1 ub.2 off s
            else withhold x p u s
          | none => withhold x p u s
        else
          let eff := effAfter p.codec p.enc p.info u
          let s1 := tookEffect x u.eff eff (setStream s x { getStream s x with sub := { u with eff := eff } })
          let u1 := (getStream s1 x).sub
          if within p.enc p.info u1 then
            let u2 := if u1.enc ≠ p.enc then switchOffsets p u1 else u1
            match offAt u2.hist p.ext with
            | none => withhold x p u2 s1
            | some off =>
              let ub := beginFrame p u2
              sendCopy x p ub.1 ub.2 off s1
          else withhold x p u1 s1

/-- What the forwarder learns from a packet of a source: layer rates, template structure, the end of holds
(R184, R243, R291); `n` is the received length. -/
def sourceSeen (p : FwdIn) (n : Nat) (s : State) : State :=
  let d := getStream s p.enc
  let v := if p.codec = 0 then 0 else p.info.sid * 8 + p.info.tid
  setStream s p.enc { d with
    meas := measLive p.mt d.meas ++ [(p.mt, v, 8 * n)]
    tmpl := match p.info.struct with
      | some t => some t
      | none => d.tmpl
    hold := holdAfter p.codec p.info d }

/-- Passes a packet of a source to its subscriptions (R178, R191). -/
def forward (p : FwdIn) (n : Nat) (s : State) : State :=
  let s1 := sourceSeen p n s
  let d := getStream s1 p.enc
  let known := p.info.resolves && (p.codec ≠ 11 || d.tmpl.isSome)
  let q := { p with info := { p.info with resolves := known } }
  let s2 := if known then s1 else bumpObj s1 p.enc .ddUnknown
  (subsOf s2 p.enc).foldl (fun s x => forwardOne q (d.hold.contains (p.info.sid, p.info.tid)) x s) s2

end Sys2Proof.Machine
end

