-- ==== Sys2Proof/Machine/Governor.lean ====
section
/-!
DEFINITION. The leg governor (chapter 4): send records, feedback, the delay and loss estimators, the target rate, the
allocation of R243, rung targets, refresh requests, pacer and shaper rates, reports and the snapshot.
-/

namespace Sys2Proof.Machine

open Sys2Proof

/-- A governor parameter of an object (Table 4-4) by row. -/
def gprm (s : State) (k r : Nat) : Nat := ofldN s k (fk 0x02 r 0)

/-- The governor of leg `l`. -/
def getGov (s : State) (l : Nat) : Gov := (getLeg s l).gov
/-- Replaces the governor of leg `l`. -/
def setGov (s : State) (l : Nat) (g : Gov) : State := setLeg s l { getLeg s l with gov := g }
/-- Changes the governor of leg `l`. -/
def updGov (s : State) (l : Nat) (f : Gov → Gov) : State := setGov s l (f (getGov s l))
/-- The governor's side of rung `r`. -/
def getRung (s : State) (r : Nat) : RungDyn := Tab.getD s.obj.rungs r {}
/-- Replaces the governor's side of rung `r`. -/
def setRung (s : State) (r : Nat) (x : RungDyn) : State :=
  { s with obj := { s.obj with rungs := Tab.set s.obj.rungs r x } }

/-- One second of media time in ns. -/
def sec1 : Nat := 1000000000

/-- The clock rate of a codec of PT_MAP (RFC 3551, RFC 7587, RFC 7741): G.722 counts at 8 kHz, video at 90 kHz. -/
def codecClock (c : Nat) : Nat := if c = 2 ∨ c = 3 ∨ c = 4 ∨ c = 7 then 8000 else if c ≤ 6 then 48000 else 90000

/-- The legs that have a governor and are ACTIVE (R209). -/
def govLegs (s : State) : List Nat := (objKeys s 3).filter fun l => isActive s l && decide (legKind s l ≤ 1)

/-- Writes a rate to a leg shaper (R241, R596). -/
def writeShaper (l rate : Nat) (zero : Bool) (s : State) : State :=
  let f := (shaperNow s l).forgiven
  let s1 := setLeg s l { getLeg s l with
    shaper := Bucket.write rate (ofldN s l (fk 0x01 12 0)) s.time.ticks zero }
  if f = 0 then s1 else bumpObj s1 l .forgivenBytes f

/-- Writes a rate to a floating stream's pacer (R241, R596). -/
def writePacer (x rate : Nat) (zero : Bool) (s : State) : State :=
  let f := (pacerNow s x).forgiven
  let s1 := setStream s x { getStream s x with pacer := Bucket.write rate (paceBurst s x) s.time.ticks zero }
  if f = 0 then s1 else bumpObj s1 x .forgivenBytes f

/-- Whether a new rate is written over an old one (R241). -/
def worthWriting (old new_ : Nat) : Bool := decide (new_ < old) || decide (old < new_ ∧ old ≤ 64 * (new_ - old))

/-- START_RATE times PACE_GAIN (R233). -/
def startPace (s : State) (l : Nat) : Nat := gprm s l 1 * gprm s l 14 / 100

/-- The governor of a leg at its activation (R233). -/
def startGov (l : Nat) (s : State) : State :=
  let r := gprm s l 1
  let g := getGov s l
  writeShaper l (startPace s l) false (setGov s l
    { aD := r, aL := r, a := r, probeHold := gprm s l 20, lastFb := now s, groupAt := s.time.strokes
      reportAt := now s, ccfbAt := now s, twcc := g.twcc })

/-- A floating stream of an ACTIVE leg becomes ACTIVE (R233). -/
def startPacer (x : Nat) (s : State) : State :=
  if isFixed s x then setStream s x { getStream s x with
    pacer := Bucket.write (ofldN s x (fk 0x07 3 0)) (paceBurst s x) s.time.ticks false }
  else writePacer x (startPace s (legOfStream s x)) false s

/-! ## What the device sent -/

/-- NTP time of the PHC (RFC 3550): UTC seconds since 1900 and their fraction. -/
def ntpNow (s : State) : Nat :=
  let ns := phcNs s.time
  wrap 64 (((ns / sec1 : Nat) : Int) - s.time.utc + 2208988800) % 2 ^ 32 * 2 ^ 32 + ns % sec1 * 2 ^ 32 / sec1

/-- The records of the last second (R216). -/
def liveRecs (now_ : Nat) (rs : List SentRec) : List SentRec := rs.filter fun r => (now_ : Int) < r.time + sec1

/-- A packet of a leg leaves the device at media time `mt` (R216, R218). -/
def onSent (pk : Pkt) (mt : Nat) (s : State) : State :=
  if pk.leg = 0 then s
  else
    let g := getGov s pk.leg
    match pk.kind with
    | .rtcp =>
      let srs := pk.rtcp.filterMap fun
        | .sr _ ntp _ => some (ntp / 65536 % 2 ^ 32, mt)
        | _ => none
      setGov s pk.leg { g with srs := (g.srs ++ srs).drop (g.srs.length + srs.length - 64) }
    | .host | .ptp | .rx => s
    | _ =>
      let s1 := setGov s pk.leg { g with
        recs := liveRecs mt g.recs ++
          [{ ssrc := pk.rtp.ssrc, seq := pk.rtp.seq, len := pk.len, time := mt, stroke := s.time.strokes, pkt := pk }] }
      setStream s1 pk.stream { getStream s1 pk.stream with outTs := pk.rtp.ts, outAt := mt }

/-! ## Refresh requests (R252 to R255) -/

/-- The bytes of an RTCP message in a compound. -/
def rtcpBytes : Rtcp → Nat
  | .sr _ _ _ => 28
  | .rr _ _ _ _ _ => 24
  | .ccfb _ items => 20 + roundUp (2 * items.length) 4
  | .remb _ ss => 20 + 4 * ss.length
  | .nack _ qs => 12 + 4 * qs.length
  | .pli _ => 12
  | .fir _ _ => 20
  | .other => 12
  | .misc _ => 8

/-- Sends a compound on a leg. -/
def sendRtcp (l : Nat) (ms : List Rtcp) (s : State) : State :=
  let own := ((legStreams s l true).filterMap (streamSsrc s)).head?.getD 0
  let head := if ms.any (fun | .rr _ _ _ _ _ => true | _ => false) && !(ms.any fun | .sr _ _ _ => true | _ => false)
    then 8 else 0
  ctrlPush l { kind := .rtcp, len := rtcpLen s l (head + (ms.map rtcpBytes).sum), leg := l, rtcp := ms
               rtp := { ssrc := own }, mt := now s } s

/-- Whether the limit of a source stream's upstream requests has expired (R253). -/
def upFree (s : State) (y : Nat) : Bool :=
  match (getStream s y).up.at_ with
  | none => true
  | some t => decide (t + gprm s y 24 ≤ now s)

/-- Sends one upstream request on a source stream (R254); `fir` tells FIR from PLI. -/
def sendUp (y : Nat) (fir : Bool) (s : State) : State :=
  let d := getStream s y
  let q := (d.up.firSeq + 1) % 256
  let u := { d.up with
    at_ := some (now s), ask := none, merged := none
    tries := if d.up.needs.isEmpty then 0 else d.up.tries + 1
    firSeq := if fir then q else d.up.firSeq }
  let ssrc := (streamSsrc s y).getD 0
  sendRtcp (legOfStream s y) [if fir then .fir ssrc q else .pli ssrc]
    (bumpObj (setStream s y { d with up := u }) y .refreshSent)

/-- The stronger of two requests. -/
def orFir (a : Option Bool) (fir : Bool) : Option Bool := some (a.getD false || fir)

/-- A request on a source stream: merged while the limit runs, else sent in the next update (R253, R254). -/
def askUp (y : Nat) (fir : Bool) (s : State) : State :=
  let d := getStream s y
  if upFree s y && d.up.ask.isNone then setStream s y { d with up := { d.up with ask := some fir } }
  else if upFree s y then
    bumpObj (setStream s y { d with up := { d.up with ask := orFir d.up.ask fir } }) y .refreshMerged
  else bumpObj (setStream s y { d with up := { d.up with merged := orFir d.up.merged fir } }) y .refreshMerged

/-- Whether the leg of a received stream negotiated FIR (Table 15-12). -/
def firOk (s : State) (y : Nat) : Bool := bitOf (ofldN s (legOfStream s y) (fk 0x01 9 0)) 1

/-- An upstream need of `who` (a subscription's key, or 0 for the decoder) begins (R246, R255, R289). -/
def raiseNeed (y who : Nat) (s : State) : State :=
  let d := getStream s y
  if d.up.needs.contains who then s
  else
    let u := { d.up with needs := d.up.needs ++ [who], tries := if d.up.needs.isEmpty then 0 else d.up.tries }
    askUp y (decide (who ≠ 0) && firOk s y) (setStream s y { d with up := u })

/-- The need of `who` ends (R255, R289). -/
def endNeed (y who : Nat) (s : State) : State :=
  let d := getStream s y
  setStream s y { d with up := { d.up with needs := d.up.needs.filter fun k => k ≠ who } }

/-- Serves a refresh request on a rung (Table 4-5): the encoder takes it at its next picture. -/
def serveRungRefresh (r : Nat) (key : Bool) (s : State) : State :=
  let d := getRung s r
  bumpObj (setRung s r { d with
    refAt := some (now s), refPend := false, refKey := false, cycReq := max d.cycReq (if key then 2 else 1) }) r .refreshSent

/-- A refresh request on a rung: merged while REFRESH_GAP_RUNG runs (R253). On an AV1 rung, a rebinding takes a key
picture (`key`, R389). -/
def askRung (r : Nat) (key : Bool) (s : State) : State :=
  let d := getRung s r
  let free := match d.refAt with
    | none => true
    | some t => decide (t + gprm s r 26 ≤ now s)
  let k := key && ofldN s r (fk 0x0A 0 0) == 2
  if free then serveRungRefresh r k s
  else bumpObj (setRung s r { d with refPend := true, refKey := d.refKey || k }) r .refreshMerged

/-! ## Feedback (R214 to R219, R229, R230, R242) -/

/-- An RTT sample (R218, R219). -/
def rttSample (v : Int) (g : Gov) : Gov := if v < 0 then g else { g with srtt := g.srtt + (v - g.srtt) / 8 }

/-- Feedback of the rate input has arrived: a stall ends (R234). -/
def rateFb (mt : Nat) (g : Gov) : Gov := { g with lastFb := mt, stalls := 0 }

/-- One loss evaluation with L = n / d (R231). -/
def lossStep (l n d : Nat) (s : State) : State :=
  let g := getGov s l
  let lq : Nat := n * 2 ^ 32 / d
  let g1 := { g with lossN := n, lossD := d, ls := (((g.ls : Int) + ((lq : Int) - g.ls) / 4)).toNat }
  if gprm s l 13 * d < 1000 * n then
    bumpObj (setGov s l { g1 with aL := max (gprm s l 2) (g.aL * (2 * d - n) / (2 * d)) }) l .govLossCuts
  else if 1000 * n < gprm s l 12 * d then setGov s l { g1 with aL := min (gprm s l 3) (g.aL + g.aL / 20) }
  else setGov s l g1

/-- The bits retransmitted in the last 500 ms. -/
def rtxBits (s : State) (l : Nat) : Nat :=
  (((getGov s l).rtxLog.filter fun e => now s < e.1 + 500000000).map (·.2)).sum

/-- A NACKed sequence number of outgoing stream `x` (R242): retransmitted on stream `r`, or counted. -/
def retransmit (l x r q : Nat) (s : State) : State :=
  let g := getGov s l
  let ssrc := (streamSsrc s x).getD 0
  match g.recs.reverse.find? fun e => e.ssrc = ssrc && e.seq = q && e.pkt.kind ≠ .padding with
  | none => bumpObj s l .rtxMiss
  | some e =>
    let recent := match e.rtxAt with
      | some t => decide ((now s : Int) < t + g.srtt)
      | none => false
    if e.time + gprm s l 18 ≤ now s then bumpObj s l .rtxMiss
    else if recent then s
    else
      let d := getStream s r
      let rtp := { e.pkt.rtp with
        ssrc := (streamSsrc s r).getD 0, seq := d.outSeq, pt := (ptFor s r 12).getD e.pkt.rtp.pt, osn := some q
        mid := streamMid s r }
      let n := rtpLen s l rtp rtp.pay.length
      let n := if rtp.pay.isEmpty then e.len + 2 else n
      if gprm s l 17 * g.a < 200 * (rtxBits s l + 8 * n) then bumpObj s l .rtxBudgetDrop
      else
        let recs := g.recs.map fun x => if x.ssrc = ssrc && x.seq = q then { x with rtxAt := some (now s) } else x
        let log := (g.rtxLog.filter fun e => now s < e.1 + 500000000) ++ [(now s, 8 * n)]
        let s1 := setGov s l { g with recs := recs, rtxLog := log }
        let s2 := setStream s1 r { d with outSeq := (d.outSeq + 1) % 65536 }
        pacePush r { e.pkt with kind := .rtx, len := n, stream := r, rtp := rtp } true (bumpObj s2 l .rtxSent)

/-- One item of an RFC 8888 report (R217, R229): `items` is the whole report. -/
def ccItem (l rts : Nat) (items : List CcItem) (c : CcItem) (s : State) : State :=
  let g := getGov s l
  if (outBySsrc s l c.ssrc).isNone then s
  else
    match g.recs.find? fun e => e.ssrc = c.ssrc && e.seq = c.seq with
    | none => bumpObj s l .fbUnmatched
    | some e =>
      if e.fate ≠ 0 then s
      else
        let later := items.any fun i => i.ssrc = c.ssrc && i.recv && decide (0 < wrap 16 ((i.seq : Int) - c.seq))
          && decide (wrap 16 ((i.seq : Int) - c.seq) < 32768)
        let put (f : Nat) (a : Int) : List SentRec := g.recs.map fun x =>
          if x.ssrc = c.ssrc && x.seq = c.seq then { x with fate := f, arr := a } else x
        if c.recv then setGov s l { g with recs := put 2 ((rts : Int) - c.ago), recv := g.recv + 1 }
        else if later then setGov s l { g with recs := put 1 0, lost := g.lost + 1 }
        else s

/-- An RFC 8888 report (R217, R218). -/
def takeCcfb (l mt rts : Nat) (items : List CcItem) (s : State) : State :=
  let unknown := ((items.map (·.ssrc)).dedup.filter fun x => (outBySsrc s l x).isNone).length
  let s1 := items.foldl (fun s c => ccItem l rts items c s) (if unknown = 0 then s else bumpObj s l .fbIgnored unknown)
  let g := getGov s1 l
  let hits := items.filterMap fun c =>
    if c.recv then (g.recs.find? fun e => e.ssrc = c.ssrc && e.seq = c.seq).map fun e => (e, c.ago) else none
  let last := hits.foldl (fun (b : Option (SentRec × Nat)) h =>
    match b with
    | none => some h
    | some x => if x.1.time ≤ h.1.time then some h else some x) none
  match last with
  | some (e, ago) => if e.rttOk then setGov s1 l (rttSample ((mt : Int) - e.time - ago) g) else s1
  | none => s1

/-- The report blocks of a compound (R218, R230). -/
def takeRr (l mt : Nat) (ms : List Rtcp) (s : State) : State :=
  let one (a : State × Nat × Nat) (m : Rtcp) : State × Nat × Nat :=
    match m with
    | .rr ssrc frac ext lsr dlsr =>
      let s := a.1
      if (outBySsrc s l ssrc).isNone then (bumpObj s l .fbIgnored, a.2)
      else
        let g := getGov s l
        let g1 := match g.srs.find? fun e => e.1 = lsr with
          | some e => rttSample ((mt : Int) - e.2 - ((dlsr * sec1 / 65536 : Nat) : Int)) g
          | none => g
        let adv := match Tab.get g.exts ssrc with
          | some p => ext - p
          | none => 0
        (setGov s l { g1 with exts := Tab.set g1.exts ssrc ext }, a.2.1 + frac * adv, a.2.2 + adv)
    | _ => a
  let r := ms.foldl one (s, 0, 0)
  let blocks := ms.any fun | .rr _ _ _ _ _ => true | _ => false
  if blocks && gprm s l 0 ≠ 0 && legKind s l == 0 then
    let s1 := if gprm s l 0 = 2 then updGov r.1 l (rateFb mt) else r.1
    if r.2.2 = 0 then s1 else lossStep l r.2.1 (256 * r.2.2) s1
  else r.1

/-- A refresh request of a receiver (Table 4-5). -/
def takeRefresh (l ssrc : Nat) (fir : Bool) (s : State) : State :=
  match outBySsrc s l ssrc with
  | none => bumpObj s l .fbIgnored
  | some x =>
    let d := getStream s x
    if streamRole s x = 2 then
      match d.bind with
      | some r => askRung r false s
      | none => s
    else if streamRole s x = 1 ∧ isVideo s x then
      match d.sub.eff with
      | some c => askUp c.enc fir s
      | none => s
    else bumpObj s l .fbIgnored

/-- One message of a compound (Table 4-1); report blocks are taken together. -/
def takeMsg (l mt : Nat) (s : State) (m : Rtcp) : State :=
  match m with
  | .sr _ _ _ | .rr _ _ _ _ _ | .misc _ => s
  | .ccfb rts items =>
    if gprm s l 0 = 0 then
      let s1 := takeCcfb l mt rts items s
      if legKind s l = 0 then updGov s1 l (rateFb mt) else s1
    else bumpObj s l .fbIgnored
  | .remb rate ssrcs =>
    if ssrcs.any fun x => (outBySsrc s l x).isSome then
      updGov s l fun g =>
        let g1 := { g with aR := some (rate, mt) }
        if gprm s l 0 = 1 then rateFb mt g1 else g1
    else bumpObj s l .fbIgnored
  | .nack ssrc qs =>
    match outBySsrc s l ssrc with
    | none => bumpObj s l .fbIgnored
    | some x =>
      match rtxOf s x with
      | none => bumpObj s l .fbIgnored
      | some r => qs.foldl (fun s q => retransmit l x r q s) s
  | .pli ssrc => takeRefresh l ssrc false s
  | .fir ssrc _ => takeRefresh l ssrc true s
  | .other => bumpObj s l .fbIgnored

/-- Step 2: the feedback with a receive stamp before the boundary at media time `b`, in order (R221). -/
def takeFeedback (l b : Nat) (s : State) : State :=
  let g := getGov s l
  let due := sortBy (g.fb.filter fun f => f.mt < b) fun x y => decide (x.mt ≤ y.mt)
  due.foldl (fun s f => f.msgs.foldl (takeMsg l f.mt) (takeRr l f.mt f.msgs s))
    (setGov s l { g with fb := g.fb.filter fun f => !(f.mt < b) })

/-! ## Estimators (R223 to R237) -/

/-- R_acked (R226). -/
def rAcked (s : State) (l : Nat) : Nat :=
  let g := getGov s l
  let w := gprm s l 8
  let got := g.recs.filter fun e => e.fate = 2
  match (got.map fun e => e.arr).max? with
  | none => g.a
  | some top =>
    let inW := got.filter fun e => decide (top - (w : Int) < e.arr)
    if inW.length < 10 then g.a else (inW.map fun e => 8 * e.len).sum * sec1 / w

/-- One evaluated group with send time `sk` and one-way sample `o` (R224 to R227); `k` is its stroke. -/
def delayStep (l k : Nat) (sk o : Int) (s : State) : State :=
  let g := getGov s l
  let smp := (g.samples.filter fun e => now s < e.1 + gprm s l 7) ++ [(sk.toNat, o)]
  let b := (smp.map (·.2)).foldl min o
  let qs := g.qs + (o - b - g.qs) / (2 ^ gprm s l 6 : Nat)
  let st : Nat := if (gprm s l 5 : Int) ≤ qs then 1 else if qs < gprm s l 4 then 2 else 0
  let pr := g.probe.map fun p =>
    if st == 1 && decide (p.stroke ≤ k) && (!p.ended || decide (k ≤ p.last)) then { p with overuse := true } else p
  let g1 := { g with samples := smp, qs := qs, dstate := st, probe := pr }
  let s1 := setGov s l g1
  let hold := match g.lastCut with
    | none => true
    | some t => decide (max g.srtt 20000000 ≤ (now s : Int) - t)
  if st == 1 && hold then
    let r := rAcked s1 l
    bumpObj (setGov s1 l { g1 with
      aD := max (gprm s l 2) (r * gprm s l 9 / 64), aLast := r, lastCut := some (now s) }) l .govCuts
  else s1

/-- The groups after `groupAt` and before stroke `cur` that hold records, rising (R223). -/
def openGroups (g : Gov) (cur : Nat) : List Nat :=
  sortBy ((g.recs.map (·.stroke)).filter fun k => g.groupAt < k && k < cur).dedup (fun a b => decide (a ≤ b))

/-- Whether a group is complete: each of its packets has a fate, or a later group has been reported. -/
def groupDone (g : Gov) (k : Nat) : Bool :=
  g.recs.all (fun e => e.stroke ≠ k || e.fate ≠ 0) || g.recs.any fun e => k < e.stroke && e.fate ≠ 0

/-- Step 3: the completed groups, oldest first. -/
def delayRun (l : Nat) : List Nat → State → State
  | [], s => s
  | k :: ks, s =>
    let g := getGov s l
    if groupDone g k then
      let es := g.recs.filter fun e => e.stroke = k
      let s1 := setGov s l { g with groupAt := k }
      match es.getLast?, (es.filter fun e => e.fate = 2).getLast? with
      | some e, some r =>
        delayRun l ks (if g.broken.contains k then s1 else delayStep l k e.time (r.arr - e.time) s1)
      | _, _ => delayRun l ks s1
    else s

/-- Whether the delay estimator of a leg runs (Table 4-2, R209). -/
def ccMode (s : State) (l : Nat) : Bool := gprm s l 0 == 0 && legKind s l == 0

/-- The increase step of R227. -/
def increaseStep (l : Nat) (s : State) : State :=
  let g := getGov s l
  if g.dstate ≠ 2 then s
  else
    let r := rAcked s l
    let cap := 3 * r / 2 + 64000
    let step := if g.aD < 9 * g.aLast / 10 then max (gprm s l 11) (g.aD * gprm s l 10 / 100) else gprm s l 11
    setGov s l { g with aD := max g.aD (min (g.aD + step) cap) }

/-- Step 4 for one leg: the loss estimator and the increase step (R227, R229). -/
def evalLeg (l : Nat) (s : State) : State :=
  if ccMode s l then
    let g := getGov s l
    let n := g.lost + g.recv
    let s1 := if n < 20 then s else lossStep l g.lost n s
    increaseStep l (updGov s1 l fun g => { g with lost := 0, recv := 0 })
  else s

/-- A failed probe (R237). -/
def probeFailed (l : Nat) (s : State) : State :=
  updGov s l fun g => { g with
    probe := none, probeFail := some (now s), probeHold := min (2 * g.probeHold) (32 * gprm s l 20) }

/-- Whether every group sent during a probe has been evaluated. -/
def probeReported (g : Gov) (p : Probe) : Bool :=
  decide (p.last ≤ g.groupAt) || !(g.recs.any fun e => p.stroke ≤ e.stroke && e.stroke ≤ p.last && g.groupAt < e.stroke)

/-- Step 5: the result of a probe (R237). -/
def probeResult (l : Nat) (s : State) : State :=
  let g := getGov s l
  match g.probe with
  | none => s
  | some p =>
    if p.overuse then probeFailed l s
    else if p.ended && probeReported g p then
      setGov s l { g with probe := none, aD := max g.aD p.need, probeHold := gprm s l 20 }
    else s

/-! ## Rate and budgets (R232, R239) -/

/-- A_r: the latest REMB of the last 2 s (R232); none when unlimited. -/
def aRemb (s : State) (l : Nat) : Option Nat :=
  if gprm s l 0 = 2 then none
  else (getGov s l).aR.bind fun e => if now s ≤ e.2 + 2 * sec1 then some e.1 else none

/-- The target rate A (R232). -/
def targetRate (s : State) (l : Nat) : Nat :=
  let g := getGov s l
  let mx := gprm s l 3
  if legKind s l = 1 then mx
  else
    let v := min g.aL mx
    let v := if ccMode s l then min v g.aD else v
    max (gprm s l 2) (match aRemb s l with
      | some r => min v r
      | none => v)

/-- The configured rate of an outgoing audio stream (R239, R420): its bit rate for Opus, that of the format otherwise; a
trunk stream is L24 mono (R203). -/
def audioRate (s : State) (x : Nat) : Nat :=
  if streamRole s x = 4 then 1152000
  else match ofldN s x (fk 0x06 0 0) with
  | 0 => ofldN s x (fk 0x06 3 0)
  | 1 => 64000
  | 2 => 64000
  | 3 => 64000
  | 4 => 768000 * ofldN s x (fk 0x06 1 0)
  | _ => 1152000 * ofldN s x (fk 0x06 1 0)

/-- Step 7 (R239). -/
def splitRate (l : Nat) (s : State) : State :=
  let a := targetRate s l
  let g := getGov s l
  let audio := (((legStreams s l true).filter fun x =>
    isActive s x && !(isVideo s x) && (streamRole s x == 0 || streamRole s x == 4)).map (audioRate s)).sum
  let rtx := min (a * gprm s l 17 / 100) (2 * rtxBits s l)
  let fec := bitOf (ofldN s l (fk 0x01 9 0)) 2 && decide ((gprm s l 16 : Int) ≤ g.srtt)
  let p := if fec then min (gprm s l 15) (128 * g.ls / 2 ^ 32) else 0
  setGov s l { g with a := a, audio := audio, rtx := rtx, p := p, m := (a - audio - rtx) * 64 / (64 + p) }

/-! ## Allocation (R243 to R251) -/

/-- One subscription or rung binding in the allocation: its ladder, the positions of the effective and the chosen
selection, the time of its latest down-choice. A rung stands in `Choice.enc`. -/
structure Alloc where
  x     : Nat
  rung  : Bool
  fixed : Bool
  wt    : Nat
  prio  : Nat
  born  : Nat
  lad   : List (Choice × Nat)
  eff   : Option Nat
  down  : Option Nat
  sel   : Option Nat := none

/-- The rate at a position of a ladder. -/
def Alloc.rate (a : Alloc) (i : Nat) : Nat := ((a.lad[i]?).map (·.2)).getD 0

/-- The candidate rungs of a leg's outgoing stream (R247, R251, R375), by RUNG_MIN. -/
def candidates (s : State) (x : Nat) : List Nat :=
  let l := legOfStream s x
  let lay := streamLayout s x
  let d := getStream s x
  let room := ofldN s x (fk 0x04 8 0) ≠ 0
  let fits (r : Nat) : Bool :=
    decide (rtpLen s l { mid := streamMid s x } (ofldN s r (fk 0x0A 17 0)) ≤
      fldN (getPort s (legPort s l)).fields (fk 0x12 1 0) + (l2l4 s l - 18 - (if isV4 s l then 28 else 48)))
  let rs := (kids s 7 lay).filter fun r =>
    room && isActive s r && (ptMap s x).any (fun e => e.2 == ofldN s r (fk 0x0A 0 0) + 9) && fits r &&
    (match d.bind with
     | some b => ofldN s b (fk 0x0A 0 0) == ofldN s r (fk 0x0A 0 0)
     | none => true)
  sortBy rs fun a b => decide (ofldN s a (fk 0x0A 9 0) ≤ ofldN s b (fk 0x0A 9 0))

/-- The allocation entry of an outgoing video stream. -/
def allocOf (s : State) (x : Nat) : Option Alloc :=
  let born := ((getObj s x).map (·.born)).getD 0
  let d := getStream s x
  if !(isActive s x) || !(isVideo s x) then none
  else if streamRole s x = 1 ∧ streamLink s x ≠ 0 then
    let lad := ladder s x
    if lad.isEmpty then none
    else some { x := x, rung := false, fixed := isFixed s x, wt := ofldN s x (fk 0x04 11 0)
                prio := ofldN s x (fk 0x04 12 0), born := born, lad := lad
                eff := d.sub.eff.bind fun c => lad.findIdx? fun e => e.1 == c
                down := d.sub.lastDown }
  else if streamRole s x = 2 then
    let rs := candidates s x
    if rs.isEmpty then none
    else some { x := x, rung := true, fixed := isFixed s x, wt := 255, prio := 7, born := born
                lad := rs.map fun r => ({ enc := r, sid := 0, tid := 0 }, ofldN s r (fk 0x0A 9 0))
                eff := d.bind.bind fun b => rs.findIdx? fun r => r == b
                down := d.sub.lastDown }
  else none

/-- The order of R243: fixed, then priority descending, then creation. -/
def allocBefore (a b : Alloc) : Bool :=
  if a.fixed ≠ b.fixed then a.fixed
  else if a.prio ≠ b.prio then decide (b.prio < a.prio)
  else decide (a.born ≤ b.born)

/-- The first pass of R243: the lowest selection of each. A rung binding is never paused. -/
def allocLow : Int → List Alloc → Int × List Alloc
  | b, [] => (b, [])
  | b, a :: t =>
    if a.fixed || a.rung || decide ((a.rate 0 : Int) ≤ b) then
      let r := allocLow (b - a.rate 0) t
      (r.1, { a with sel := some 0 } :: r.2)
    else
      let r := allocLow b t
      (r.1, a :: r.2)

/-- The budget an up-step of `a` needs (`up_ok` of R243); none while UP_HOLD blocks it or there is no next. -/
def upNeed (now_ hold margin : Nat) (a : Alloc) : Option Int :=
  match a.sel with
  | none => none
  | some i =>
    if a.lad.length ≤ i + 1 then none
    else if (match a.eff with
        | some e => decide (i + 1 ≤ e)
        | none => false) then some ((a.rate (i + 1) : Int) - a.rate i)
    else if (match a.down with
        | some t => decide (t + hold ≤ now_)
        | none => true) then some (((a.rate (i + 1) * margin / 64 : Nat) : Int) - a.rate i)
    else none

/-- Whether `a` climbs before `b` in R243: least rate per weight, ties by creation. -/
def climbsFirst (a b : Alloc) : Bool :=
  let ra := a.rate (a.sel.getD 0) * b.wt
  let rb := b.rate (b.sel.getD 0) * a.wt
  decide (ra < rb) || (decide (ra = rb) && decide (a.born ≤ b.born))

/-- The up-step loop of R243, at most `fuel` steps (the sum of the ladders' lengths bounds it). -/
def allocUp (now_ hold margin : Nat) : Nat → Int × List Alloc → Int × List Alloc
  | 0, r => r
  | fuel + 1, (b, as) =>
    let cand := as.filter fun a =>
      match upNeed now_ hold margin a with
      | some n => decide (n ≤ b)
      | none => false
    match cand.find? fun a => cand.all fun c => climbsFirst a c with
    | none => (b, as)
    | some a =>
      let i := a.sel.getD 0
      allocUp now_ hold margin fuel
        (b - ((a.rate (i + 1) : Int) - a.rate i), as.map fun c => if c.x = a.x then { c with sel := some (i + 1) } else c)

/-- The least A_need of a leg (R244). -/
def aNeed (s : State) (l : Nat) (r : Int × List Alloc) : Option Nat :=
  let g := getGov s l
  let needs := r.2.filterMap fun a =>
    match upNeed (now s) (gprm s l 20) (gprm s l 19) a with
    | some n => if r.1 < n then some ((g.m : Int) + (n - r.1)) else none
    | none => none
  let base := g.audio + g.rtx
  (needs.map fun m => base + ceilDiv (m.toNat * (64 + g.p)) 64).min?

/-- A chosen selection becomes the subscription's choice (R243, R245, R246). -/
def chooseSub (l : Nat) (a : Alloc) (s : State) : State :=
  let d := getStream s a.x
  let u := d.sub
  let w := a.sel.bind fun i => (a.lad[i]?).map (·.1)
  let lower := match a.sel, a.eff with
    | some i, some e => decide (i < e)
    | none, some _ => true
    | _, _ => false
  let down := lower && w ≠ u.want
  let pending := match w, u.eff with
    | some c, some e => c.enc ≠ e.enc || c.sid ≠ e.sid
    | some _, none => true
    | none, _ => false
  let moved := match w, u.want with
    | some c, some o => c.enc ≠ o.enc || c.sid ≠ o.sid
    | _, _ => true
  let u1 := { u with
    want := w
    lastDown := if down then some (now s) else u.lastDown
    pendAt := if pending then (if moved || u.pendAt.isNone then some (now s) else u.pendAt) else none
    asked := pending && !moved && u.asked
    restrict := pending && (u.restrict || (lower && w.isSome && (getGov s l).dstate == 1)) }
  let s1 := setStream s a.x { d with sub := u1 }
  let s2 := if pending && !moved then s1 else
      (match u.want with
       | some o => endNeed o.enc a.x s1
       | none => s1)
  let s3 := if down then updGov s2 l fun g => { g with lastDown := some (now s) } else s2
  if w.isNone then bumpObj s3 a.x .subPaused else s3

/-- A chosen rung (R247, R250). -/
def chooseRung (l : Nat) (left : Int) (a : Alloc) (s : State) : State :=
  let d := getStream s a.x
  let w := a.sel.bind fun i => (a.lad[i]?).map (·.1.enc)
  let lower := match a.sel, a.eff with
    | some i, some e => decide (i < e)
    | _, _ => false
  let down := lower && w ≠ d.wantBind
  let s1 := setStream s a.x { d with
    wantBind := w
    bl := (a.rate (a.sel.getD 0) : Int) + left
    low := d.bind == ((a.lad[0]?).map (·.1.enc))
    sub := { d.sub with lastDown := if down then some (now s) else d.sub.lastDown } }
  let s2 := if down then updGov s1 l fun g => { g with lastDown := some (now s) } else s1
  match w with
  | some r => if w ≠ d.wantBind ∧ w ≠ d.bind then askRung r true s2 else s2
  | none => s2

/-- The rate a subscription carries (R243, R245); for a rung binding, its budget. -/
def carryOf (s : State) (a : Alloc) : Nat :=
  let d := getStream s a.x
  let sel := (a.sel.map a.rate).getD 0
  if a.rung then
    max d.bl.toNat ((d.bind.map fun b => ofldN s b (fk 0x0A 9 0)).getD 0)
  else
    match d.sub.eff with
    | none => sel
    | some e => max sel (rateOfChoice s (if d.sub.restrict then { e with tid := 0 } else e))

/-- Step 8: allocation, choices, and the start of a probe (R235, R243). -/
def selectLeg (l : Nat) (s : State) : State × List Alloc :=
  let g := getGov s l
  let as := sortBy ((legStreams s l true).filterMap (allocOf s)) allocBefore
  let low := allocLow g.m as
  let r := allocUp (now s) (gprm s l 20) (gprm s l 19) ((as.map fun a => a.lad.length).sum) low
  let s1 := r.2.foldl (fun s a => if a.rung then chooseRung l r.1 a s else chooseSub l a s) s
  let s2 := (legStreams s1 l true).foldl (fun s x =>
    if isActive s x && !(isVideo s x) && streamRole s x == 1 && streamLink s x != 0 then
      let d := getStream s x
      setStream s x { d with sub := { d.sub with want := some (wholeChoice ((encodings s (streamLink s x)).headD 0)) } }
    else s) s1
  let g2 := getGov s2 l
  let since := ([g2.lastCut, g2.lastDown, g2.probeFail].filterMap id).foldl max 0
  let held := decide (since ≠ 0 ∧ now s < since + g2.probeHold)
  match aNeed s l r with
  | some need =>
    if ccMode s l && g2.probe.isNone && s.time.strokes % 200 == 0 && g2.dstate == 2 && decide (g2.a < need) && !held then
      (bumpObj (setGov s2 l { g2 with
        probe := some { need := need, stroke := s.time.strokes, end_ := now s + gprm s l 22 } }) l .probes, r.2)
    else (s2, r.2)
  | none => (s2, r.2)

/-- Step 9: the target of a rung (R248). -/
def rungTarget (r : Nat) (s : State) : State :=
  let mn := ofldN s r (fk 0x0A 9 0)
  let mx := ofldN s r (fk 0x0A 10 0)
  let bs := (objKeys s 4).filterMap fun x =>
    if isActive s x && isActive s (legOfStream s x) && streamRole s x == 2 && isOut s x
        && (getStream s x).bind == some r && decide ((mn : Int) ≤ (getStream s x).bl) then
      some (getStream s x).bl.toNat else none
  let t := match bs.min? with
    | none => mn
    | some b => max mn (min mx b)
  setRung s r { getRung s r with target := t }

/-- A leg bound to the lowest candidate below its floor (R249). -/
def underFloor (l x : Nat) (s : State) : State :=
  let d := getStream s x
  match d.bind with
  | none => s
  | some r =>
    let mn := ofldN s r (fk 0x0A 9 0)
    if d.low && decide (d.bl < mn) && isActive s x then
      let g := getGov s l
      let s1 := bumpObj s l .underFloor
      if (match g.underAt with
          | none => true
          | some t => decide (t + 10 * sec1 ≤ now s)) then
        emitObj (setGov s1 l { g with underAt := some (now s) }) l 0x031
          (toLe 4 (((getObj s r).map (objHandle r)).getD 0) ++ toLe 4 d.bl.toNat ++ toLe 4 mn)
      else s1
    else s

/-- The stream that carries a probe's padding (R236). -/
def padStream (s : State) (l : Nat) : Option Nat :=
  let xs := (legStreams s l true).filter (isActive s)
  match xs.find? fun x => streamRole s x == 3 with
  | some x => some x
  | none => xs.find? (isVideo s)

/-- The shares of a leg's floating streams (R240). -/
def shares (s : State) (l : Nat) (as : List Alloc) : List (Nat × Nat) :=
  let g := getGov s l
  ((legStreams s l true).filter fun x => isActive s x && !(isFixed s x)).map fun x =>
    match as.find? fun a => a.x = x with
    | some a => (x, carryOf s a + carryOf s a * g.p / 64)
    | none =>
      if streamRole s x = 3 then (x, g.rtx)
      else if isVideo s x then (x, 0)
      else if streamRole s x = 1 then (x, rateOfChoice s (wholeChoice ((encodings s (streamLink s x)).headD 0)))
      else (x, audioRate s x)

/-- Whether a probe is running. -/
def probing (g : Gov) : Option Probe := g.probe.bind fun p => if p.ended then none else some p

/-- Padding of a running probe (R236): what the last stroke's sending lacks of A_need goes out in padding-only packets
of 255 bytes, with sequence numbers of their own. -/
def padProbe (l : Nat) (s : State) : State :=
  let g := getGov s l
  match probing g, padStream s l with
  | some p, some x =>
    let sent := ((g.recs.filter fun e => e.stroke + 1 = s.time.strokes).map fun e => 8 * e.len).sum
    let d := getStream s x
    let rtp : Rtp := { ssrc := (streamSsrc s x).getD 0, padOnly := true, mid := streamMid s x
                       ts := d.outTs, pt := ((ptMap s x).map (·.1)).headD 0 }
    let len := rtpLen s l rtp 255
    let owed := p.owed + p.need * 500 / 1000000 - sent
    let n := owed / (8 * len)
    let base := if streamRole s x = 1 then ((d.sub.lastSeq.getD 0) + 1) % 65536 else d.outSeq
    let s1 := setGov s l { g with probe := some { p with owed := owed - 8 * len * n } }
    let s2 := (List.range n).foldl (fun s i =>
      pacePush x { kind := .padding, len := len, leg := l, stream := x, rtp := { rtp with seq := (base + i) % 65536 }
                   mt := now s } false s) s1
    let d2 := getStream s2 x
    if streamRole s x = 1 then
      let o := (d2.sub.seqOff + n) % 65536
      let sub := if n = 0 then d2.sub else { d2.sub with
        seqOff := o, lastSeq := some ((base + n - 1) % 65536)
        hist := d2.sub.hist ++ [((((getStream s2 d2.sub.enc).srcHi).getD 0), o)] }
      setStream s2 x { d2 with sub := sub }
    else setStream s2 x { d2 with outSeq := (base + n) % 65536 }
  | _, _ => s

/-- Step 10: pacer and shaper rates (R236, R240, R241). -/
def writeRates (l : Nat) (as : List Alloc) (s : State) : State :=
  let g := getGov s l
  let gain := gprm s l 14
  let sh := shares s l as
  let extra := match probing g with
    | some p => p.need - (sh.map (·.2)).sum
    | none => 0
  let pad := if extra = 0 then none else padStream s l
  let s1 := sh.foldl (fun s e =>
    let r := (e.2 + (if pad = some e.1 then extra else 0)) * gain / 100
    if worthWriting (getStream s e.1).pacer.rate r then writePacer e.1 r true s else s) s
  let r := (match probing g with
    | some p => p.need
    | none => g.a) * gain / 100
  if worthWriting (getLeg s1 l).shaper.rate r then writeShaper l r true s1 else s1

/-- The snapshot of Table 4-7. -/
def snapshotOf (s : State) (l : Nat) : Bytes :=
  let g := getGov s l
  let on := ccMode s l
  let loss := min 0xFFFF (g.lossN * 65536 / (max 1 g.lossD))
  let sat (v : Nat) : Nat := min v 0xFFFFFFFF
  toLe 4 ((if on then g.dstate else 3) + 4 * gprm s l 0 + 16 * b2n (g.stalls ≠ 0) + 32 * b2n (probing g).isSome
    + 65536 * loss)
  ++ toLe 4 (sat g.a) ++ toLe 4 (if on then sat g.aD else 0xFFFFFFFF) ++ toLe 4 (sat g.aL)
  ++ toLe 4 (match aRemb s l with
      | some r => sat r
      | none => 0xFFFFFFFF)
  ++ toLe 4 (sat g.rAcked) ++ toLe 4 (sat (getLeg s l).shaper.rate) ++ toLe 4 (sat (g.qs / 1000).toNat)
  ++ toLe 4 (sat (g.srtt / 1000).toNat) ++ toLe 4 g.p ++ toLe 4 (sat g.rtx) ++ toLe 4 (sat g.m)
  ++ toLe 8 s.time.strokes ++ zeros 8

/-! ## Feedback the device sends (R256) -/

/-- How long a gap of a received stream is worth a NACK (Table 4-6): VIDEO_HOLD when it is decoded, else 200 ms. -/
def nackWindow (s : State) (y : Nat) : Nat :=
  if ofldN s y (fk 0x05 0 0) = 1 then ofldN s y (fk 0x04 15 0) else 200000000

/-- The NACKs of a leg's received streams that are due. -/
def sendNacks (l : Nat) (s : State) : State :=
  let srtt := (getGov s l).srtt.toNat
  (legStreams s l false).foldl (fun s y =>
    let d := getStream s y
    if (rtxOf s y).isNone then (if d.gaps.isEmpty then s else setStream s y { d with gaps := [] })
    else
      let live := d.gaps.filter fun g => decide (now s ≤ g.at_ + nackWindow s y) && decide (g.sent < 3)
      let due (g : Gap) : Bool := g.sent == 0 || decide (g.last + srtt ≤ now s)
      let qs := (live.filter due).map (·.seq)
      let s1 := setStream s y { d with
        gaps := live.map fun g => if due g then { g with sent := g.sent + 1, last := now s } else g }
      if qs.isEmpty then s1
      else sendRtcp l [.nack ((streamSsrc s y).getD 0) qs] (bumpObj s1 l .nackSent)) s

/-- The sender report of an outgoing stream (R197): the source's pair for a forwarded one, else the NTP time now and the
RTP time extrapolated from the last packet sent. -/
def srOf (s : State) (x : Nat) : Option Rtcp :=
  let d := getStream s x
  let ssrc := (streamSsrc s x).getD 0
  if streamRole s x = 1 then
    (d.sub.eff.bind fun c => (getStream s c.enc).sr).map fun e => .sr ssrc e.1 ((e.2 + d.sub.tsOff) % 2 ^ 32)
  else if d.outAt = 0 ∨ streamRole s x = 3 then none
  else
    let clock := if isVideo s x then 90000 else codecClock (((ptMap s x).map (·.2)).headD 1)
    some (.sr ssrc (ntpNow s) ((d.outTs + (now s - d.outAt) * clock / sec1) % 2 ^ 32))

/-- The report block of a received stream, and the stream after it (RFC 3550). -/
def rrOf (s : State) (y : Nat) : Option (Rtcp × StreamDyn) :=
  let d := getStream s y
  match streamSsrc s y, d.srcHi, d.rxBase with
  | some ssrc, some hi, some base =>
    let exp := hi + 1 - base
    let de := exp - d.rxExpP
    let dg := d.rxGot - d.rxGotP
    let frac := if de ≤ dg then 0 else min 255 ((de - dg) * 256 / de)
    let lsr := match d.sr with
      | some e => e.1 / 65536 % 2 ^ 32
      | none => 0
    let dlsr := if d.sr.isNone then 0 else (now s - d.srAt) * 65536 / sec1
    some (.rr ssrc frac (wrap 32 ((hi : Int) - 65536)) lsr dlsr, { d with rxExpP := exp, rxGotP := d.rxGot })
  | _, _, _ => none

/-- RTCP_REPORT_SEND (R197, R256): the reports of leg `l`, each RTCP_INTERVAL. -/
def execRtcpReportSend (l : Nat) (s : State) : Out :=
  onPart (decide (l < 4096)) s fun s =>
    let l := okey 3 l
    guarded (isActive s l && decide (legKind s l ≤ 1)
        && decide ((getGov s l).reportAt + ofldN s l (fk 0x01 13 0) ≤ now s)) s fun s =>
      let srs := ((legStreams s l true).filter (isActive s)).filterMap (srOf s)
      let rrs := ((legStreams s l false).filter (isActive s)).filterMap fun y => (rrOf s y).map fun r => (y, r)
      let s1 := rrs.foldl (fun s e => setStream s e.1 e.2.2) (updGov s l fun g => { g with reportAt := now s })
      let ms := srs ++ rrs.map (·.2.1)
      if ms.isEmpty then s1 else sendRtcp l ms s1

/-- The items of RFC 8888 feedback on one stream: every number from the first to the last arrival. -/
def ccItems (s : State) (y : Nat) : List CcItem :=
  let d := getStream s y
  let ssrc := (streamSsrc s y).getD 0
  match (d.arrs.map (·.1)).min?, (d.arrs.map (·.1)).max? with
  | some a, some b => (List.range (b + 1 - a)).map fun i =>
      match d.arrs.find? fun e => e.1 = a + i with
      | some e => { ssrc := ssrc, seq := (a + i) % 65536, recv := true, ago := now s - e.2 }
      | none => { ssrc := ssrc, seq := (a + i) % 65536, recv := false, ago := 0 }
  | _, _ => []

/-- CCFB_FEEDBACK_SEND (R256): RFC 8888 feedback of leg `l` on its video streams, each CCFB_INTERVAL. -/
def execCcfbFeedbackSend (l : Nat) (s : State) : Out :=
  onPart (decide (l < 4096)) s fun s =>
    let l := okey 3 l
    guarded (isActive s l && decide (legKind s l ≤ 1) && bitOf (ofldN s l (fk 0x01 9 0)) 0
        && decide ((getGov s l).ccfbAt + ofldN s l (fk 0x01 14 0) ≤ now s)) s fun s =>
      let ys := (legStreams s l false).filter fun y => isActive s y && isVideo s y
      let items := ys.flatMap (ccItems s)
      let s1 := ys.foldl (fun s y =>
        let d := getStream s y
        setStream s y { d with arrs := (sortBy d.arrs fun a b => decide (a.1 ≤ b.1)).drop (d.arrs.length - 1) })
        (updGov s l fun g => { g with ccfbAt := now s })
      if items.isEmpty then s1 else sendRtcp l [.ccfb (now s) items] s1

/-! ## The update (Table 4-3) -/

/-- Steps 1 to 3 of an update for one leg; `b` is the media time of the boundary. R_acked of the snapshot is that of this
update (R258). -/
def updateIn (b : Nat) (s : State) (l : Nat) : State :=
  let s1 := takeFeedback l b (updGov s l fun g => { g with recs := liveRecs (now s) g.recs })
  if ccMode s1 l then
    let s2 := updGov s1 l fun g => { g with rAcked := rAcked s1 l }
    delayRun l (openGroups (getGov s2 l) s2.time.strokes) s2
  else s1

/-- Steps 5 to 8 for one leg. -/
def updateMid (a : State × List (Nat × List Alloc)) (l : Nat) : State × List (Nat × List Alloc) :=
  let s1 := splitRate l (probeResult l a.1)
  let r := selectLeg l s1
  (sendNacks l r.1, a.2 ++ [(l, r.2)])

/-- Sends the upstream requests whose limit allows it (R254). -/
def serveAsks (s : State) : State :=
  (objKeys s 4).foldl (fun s y =>
    match (getStream s y).up.ask with
    | some fir => sendUp y fir s
    | none => s) s

/-- Steps 5 to 11 of the update for all legs. -/
def updateOut (s : State) : State :=
  let r := (govLegs s).foldl updateMid (s, [])
  let s1 := serveAsks r.1
  let s2 := (objKeys s1 7).foldl (fun s k => rungTarget k s) s1
  r.2.foldl (fun s e =>
    let s1 := (legStreams s e.1 true).foldl (fun s x => if streamRole s x = 2 then underFloor e.1 x s else s) s
    let s2 := padProbe e.1 (writeRates e.1 e.2 s1)
    updGov s2 e.1 fun g => { g with snap := snapshotOf s2 e.1 }) s2

/-- The update of the stroke that begins at the boundary with media time `b` (R221): where STROKE_COUNT mod 200 is 0,
steps 4 to 11 are INCREASE_EVALUATION's. -/
def governorUpdate (b : Nat) (s : State) : State :=
  let s1 := (govLegs s).foldl (updateIn b) s
  if s.time.strokes % 200 = 0 then setTime s1 { s1.time with govDue := true } else updateOut s1

/-- Steps 4 to 11 of an update that waits for them. -/
def evaluateDue (s : State) : State :=
  if s.time.govDue then
    updateOut ((govLegs s).foldl (fun s l => evalLeg l s) (setTime s { s.time with govDue := false }))
  else s

/-- INCREASE_EVALUATION (R227, R229): at a stroke with STROKE_COUNT mod 200 = 0, the loss estimator and the increase
step, then the rest of that stroke's update. -/
def execIncreaseEvaluation (s : State) : Out := live s evaluateDue

/-- PROBE_END (R236, R237): PROBE_TIME has passed; the padding stops and the probe is judged. -/
def execProbeEnd (l : Nat) (s : State) : Out :=
  onPart (decide (l < 4096)) s fun s =>
    let l := okey 3 l
    match (getGov s l).probe with
    | none => s
    | some p =>
      guarded (!p.ended && decide (p.end_ ≤ now s)) s fun s =>
        probeResult l (updGov s l fun g => { g with probe := some { p with ended := true, last := s.time.strokes } })

/-- PROBE_UNRESOLVED_TIMEOUT (R237): 1 s after its end, a probe without result has failed. -/
def execProbeUnresolvedTimeout (l : Nat) (s : State) : Out :=
  onPart (decide (l < 4096)) s fun s =>
    let l := okey 3 l
    match (getGov s l).probe with
    | none => s
    | some p => guarded (p.ended && decide (p.end_ + sec1 ≤ now s)) s (probeFailed l)

/-- FEEDBACK_STALLED (R234): FB_TIMEOUT, and each further one, has passed without rate feedback. -/
def execFeedbackStalled (l : Nat) (s : State) : Out :=
  onPart (decide (l < 4096)) s fun s =>
    let l := okey 3 l
    let g := getGov s l
    guarded (isActive s l && legKind s l == 0 && decide (g.lastFb + gprm s l 23 * (g.stalls + 1) ≤ now s)) s fun s =>
      let mn := gprm s l 2
      let s1 := setGov s l { g with stalls := g.stalls + 1, aD := max mn (g.aD / 2), aL := max mn (g.aL / 2) }
      if g.stalls = 0 then
        bumpObj (emitObj s1 l 0x030 (toLe 4 (targetRate s1 l) ++ toLe 4 ((now s - g.lastFb) / 1000000))) l .fbStalls
      else s1

/-- SWITCH_WAIT_EXPIRY (R188, R246): the choice of subscription `x` is still pending after SWITCH_WAIT. -/
def execSwitchWaitExpiry (x : Nat) (s : State) : Out :=
  onPart (decide (x < 16384)) s fun s =>
    let x := okey 4 x
    let d := getStream s x
    match d.sub.pendAt, d.sub.want with
    | some t, some w =>
      guarded (isActive s x && !d.sub.asked && decide (t + gprm s (legOfStream s x) 21 ≤ now s)) s fun s =>
        raiseNeed w.enc x (setStream s x { d with sub := { d.sub with asked := true } })
    | _, _ => s

/-- REFRESH_LIMIT_EXPIRY (R253): the merged requests of a source stream or a rung (by key) are served as one. -/
def execRefreshLimitExpiry (k : Nat) (s : State) : Out :=
  onPart (decide (k / 1048576 = 4) || decide (k / 1048576 = 7)) s fun s =>
    if k / 1048576 = 4 then
      match (getStream s k).up.merged with
      | some fir => guarded (upFree s k && (getObj s k).isSome) s (sendUp k fir)
      | none => s
    else
      let d := getRung s k
      guarded (d.refPend && (getObj s k).isSome && (match d.refAt with
        | some t => decide (t + gprm s k 26 ≤ now s)
        | none => true)) s (serveRungRefresh k d.refKey)

/-- REFRESH_RETRY (R255): a persisting need of source stream `y` is requested again, or has failed. -/
def execRefreshRetry (y : Nat) (s : State) : Out :=
  onPart (decide (y < 16384)) s fun s =>
    let y := okey 4 y
    let u := (getStream s y).up
    guarded (!u.needs.isEmpty && decide (0 < u.tries) && upFree s y && isActive s y) s fun s =>
      if gprm s y 25 ≤ u.tries then
        bumpObj (emitObj (setStream s y { getStream s y with up := { u with needs := [], tries := 0 } }) y 0x032
          (toLe 1 u.tries)) y .refreshFailed
      else sendUp y ((u.needs.any fun k => k ≠ 0) && firOk s y) s

/-! ## Commands -/

/-- The rows of Table 4-4 that an object of a type holds (R238). -/
def govRowOk (t r : Nat) : Bool :=
  if t = 3 then decide (r ≤ 23) else if t = 4 then decide (r = 24 ∨ r = 25) else t == 7 && r == 26

/-- The relations between governor parameters (Table 4-4). -/
def govConsistent (fs : Tab Int) : Bool :=
  let v (r : Nat) : Int := fld fs (fk 0x02 r 0)
  decide (v 2 ≤ v 1) && decide (v 1 ≤ v 3) && decide (v 4 + 1000000 ≤ v 5) && decide (v 12 ≤ v 13)

/-- GOVERNOR_CONFIG (R238). -/
def bodyGovernorConfig : Body := fun F p _ s =>
  let h := le p 0 4
  let t := hType h
  match (if t = 3 ∨ t = 4 ∨ t = 7 then resolve s F t h else none) with
  | none => .no .badHandle []
  | some k =>
    let es := entries p 8 (le p 6 2)
    let fs := applyEntries (((getObj s k).map (·.fields)).getD []) es
    checked (entryChecks es (fun e => fTable e = 0x02 && govRowOk t (fRow e)) ++
      [(t ≠ 4 || !(isOut s k), .outOfRange), (t ≠ 3 || govConsistent fs, .outOfRange)]) fun _ =>
      .ok [] 0 (updObj s k fun o => { o with fields := fs })

/-- GOVERNOR_CONFIG. -/
def execGovernorConfig (src : Src) (s : State) : Out := serve 0x0507 src [] bodyGovernorConfig s

/-- The snapshot before the first update (Table 4-7, Reset column). -/
def snapReset : Bytes := zeros 16 ++ toLe 4 0xFFFFFFFF ++ zeros 12 ++ toLe 4 100000 ++ zeros 28

/-- GOVERNOR_READ (R258). -/
def bodyGovernorRead : Body := fun F p _ s =>
  match resolve s F 3 (le p 0 4) with
  | none => .no .badHandle []
  | some l => .ok (let b := (getGov s l).snap
                   if b.isEmpty then snapReset else b) 0 s

/-- GOVERNOR_READ. -/
def execGovernorRead (src : Src) (s : State) : Out := serve 0x0508 src [] bodyGovernorRead s

/-- The effect of a forward step of `d` ns on the governors (R218, R228): stored samples lose `d`, records move with
media time and give no RTT sample, and the group in progress is discarded. -/
def stepGovernors (d : Nat) (s : State) : State :=
  (govLegs s).foldl (fun s l => updGov s l fun g => { g with
    samples := g.samples.map fun e => (e.1 + d, e.2 - d)
    recs := g.recs.map fun e => { e with time := e.time + d, rttOk := false }
    broken := s.time.strokes :: g.broken.take 7
    srs := [] }) s

end Sys2Proof.Machine
end

