-- ==== Sys2Proof/Machine/Pixels.lean ====
section
/-!
DEFINITION. Pixel arithmetic, fixed to the bit: Veneer surfaces (R305 to R310), scaling (R318 to R320, R366), blending
(R328 to R331), the display conversion (R352) and the shared motion search (R377 to R380, R392).
-/

namespace Sys2Proof.Machine

open Sys2Proof

/-! ## Veneer surfaces -/

/-- Bit depth of a format (Table 6-2). -/
def fmtDepth (f : Nat) : Nat := if f % 2 = 1 then 10 else 8
/-- Whether a format has an alpha plane. -/
def fmtAlpha (f : Nat) : Bool := decide (2 ≤ f)
/-- Tiles in a row (Table 6-3). -/
def tilesX (w : Nat) : Nat := ceilDiv w 16
/-- Rows of tiles. -/
def tilesY (h : Nat) : Nat := ceilDiv h 4
/-- HDR_PITCH. -/
def hdrPitch (w : Nat) : Nat := 64 * ceilDiv (tilesX w) 64
/-- RAW_UNITS of a plane: the picture plane, or the alpha plane. -/
def rawUnits (f : Nat) (alpha : Bool) : Nat :=
  if alpha then (if fmtDepth f = 8 then 4 else 5) else (if fmtDepth f = 8 then 6 else 8)
/-- Groups of a tile. -/
def tileGroups (alpha : Bool) : Nat := if alpha then 4 else 6

/-- Bytes of a plane's header array and data area, each rounded up to 256. -/
def planeBytes (f w h : Nat) (alpha : Bool) : Nat × Nat :=
  (roundUp (tilesY h * hdrPitch w) 256, roundUp (tilesY h * tilesX w * rawUnits f alpha * 16) 256)

/-- HDR_BASE and DATA_BASE of a plane: the planes follow one another from offset 0. -/
def planeBase (f w h : Nat) (alpha : Bool) : Nat × Nat :=
  let p := planeBytes f w h false
  let b := if alpha then p.1 + p.2 else 0
  (b, b + (planeBytes f w h alpha).1)

/-- Size of a surface in bytes. -/
def surfBytes (f w h : Nat) : Nat :=
  let p := planeBytes f w h false
  let a := if fmtAlpha f then planeBytes f w h true else (0, 0)
  p.1 + p.2 + a.1 + a.2

/-- `n` bits from bit `p` of a slot. -/
def slotBits (slot p n : Nat) : Nat := slot / 2 ^ p % 2 ^ n

/-- The residuals of a compressed group: samples so far reversed; none when a sample leaves its range. -/
def decodeRes (slot depth w : Nat) : Nat → Nat → List Nat → Option (List Nat × Nat)
  | 0, pos, acc => some (acc.reverse, pos)
  | n + 1, pos, acc =>
    let u := slotBits slot pos w
    let d : Int := if u % 2 = 0 then (u / 2 : Nat) else -(((u + 1) / 2 : Nat) : Int)
    let v := (acc.headD 0 : Int) + d
    if v < 0 ∨ (2 ^ depth : Nat) ≤ v then none else decodeRes slot depth w n (pos + w) (v.toNat :: acc)

/-- The groups of a compressed tile (R308). -/
def decodeGroups (slot depth : Nat) : Nat → Nat → List (List Nat) → Option (List (List Nat) × Nat)
  | 0, pos, acc => some (acc.reverse, pos)
  | n + 1, pos, acc =>
    let w := slotBits slot pos 4
    if depth + 1 < w then none
    else
      match decodeRes slot depth w 15 (pos + 4 + depth) [slotBits slot (pos + 4) depth] with
      | some (g, p) => decodeGroups slot depth n p (g :: acc)
      | none => none

/-- Decodes a tile (R308); none when it is invalid. -/
def decodeTile (hdr slot depth groups raw : Nat) : Option (List (List Nat)) :=
  if hdr = 0 ∨ raw < hdr then none
  else if hdr = raw then
    some ((List.range groups).map fun g => (List.range 16).map fun i => slotBits slot ((16 * g + i) * depth) depth)
  else
    match decodeGroups slot depth groups 0 [] with
    | some (gs, pos) => if 128 * hdr < pos then none else some gs
    | none => none

/-- The code u of a residual (R308). -/
def resCode (d : Int) : Nat := if 0 ≤ d then 2 * d.toNat else 2 * d.natAbs - 1

/-- The residual codes of a group. -/
def groupCodes : List Nat → List Nat
  | a :: b :: t => resCode ((b : Int) - a) :: groupCodes (b :: t)
  | _ => []

/-- The width that holds the largest code (R309). -/
def codeWidth (us : List Nat) : Nat :=
  match us.max? with
  | some m => if m = 0 then 0 else Nat.log2 m + 1
  | none => 0

/-- Packs fields, least significant first. -/
def packBits : List (Nat × Nat) → Nat
  | [] => 0
  | (v, n) :: t => v % 2 ^ n + 2 ^ n * packBits t

/-- The fields of a compressed group. -/
def groupFields (depth : Nat) (g : List Nat) : List (Nat × Nat) :=
  let us := groupCodes g
  let w := codeWidth us
  (w, 4) :: (g.headD 0, depth) :: us.map fun u => (u, w)

/-- Encodes a tile (R309): header byte and slot. -/
def encodeTile (depth raw : Nat) (gs : List (List Nat)) : Nat × Nat :=
  let fs := gs.flatMap (groupFields depth)
  let n := ceilDiv ((fs.map (·.2)).sum) 128
  if raw ≤ n then (raw, packBits (gs.flatMap fun g => g.map fun v => (v, depth))) else (n, packBits fs)

/-- The tile (tx, ty) of a plane of a surface; none when it is invalid (R308, R311). -/
def surfTile (m : Mem) (f w h : Nat) (alpha : Bool) (tx ty : Nat) : Option (List (List Nat)) :=
  let b := planeBase f w h alpha
  let r := rawUnits f alpha
  let hdr := (Mem.get 0 m (b.1 + ty * hdrPitch w + tx)).toNat
  let slot := fromLe (Mem.read 0 m (b.2 + (ty * tilesX w + tx) * r * 16) (r * 16))
  decodeTile hdr slot (fmtDepth f) (tileGroups alpha) r

/-- Sample of component `c` (0 Y, 1 Cb, 2 Cr, 3 alpha) at (x, y) of its plane (R307). -/
def surfSample (m : Mem) (f w h c x y : Nat) : Option Nat :=
  let lum := c = 0 ∨ c = 3
  let tx := if lum then x / 16 else x / 8
  let ty := if lum then y / 4 else y / 2
  (surfTile m f w h (c = 3) tx ty).bind fun gs =>
    if lum then ((gs[y % 4]?).bind fun g => g[x % 16]?)
    else ((gs[3 + c]?).bind fun g => g[y % 2 * 8 + x % 8]?)

/-- A picture as samples: component, x, y. -/
abbrev Samples := Nat → Nat → Nat → Nat

/-- The groups of tile (tx, ty) of a picture; samples outside repeat the nearest inside (R307, R310). -/
def tileOf (p : Samples) (w h : Nat) (alpha : Bool) (tx ty : Nat) : List (List Nat) :=
  let row (c r : Nat) : List Nat := (List.range 16).map fun i => p c (min (16 * tx + i) (w - 1)) (min (4 * ty + r) (h - 1))
  let chroma (c : Nat) : List Nat :=
    (List.range 16).map fun i => p c (min (8 * tx + i % 8) (w / 2 - 1)) (min (2 * ty + i / 8) (h / 2 - 1))
  if alpha then (List.range 4).map (row 3) else (List.range 4).map (row 0) ++ [chroma 1, chroma 2]

/-- Writes one tile of a picture plane into a surface. -/
def putTile (p : Samples) (f w h tx ty : Nat) (m : Mem) : Mem :=
  let b := planeBase f w h false
  let r := rawUnits f false
  let t := encodeTile (fmtDepth f) r (tileOf p w h false tx ty)
  Mem.write 0 (Mem.put 0 m (b.1 + ty * hdrPitch w + tx) (BitVec.ofNat 8 t.1))
    (b.2 + (ty * tilesX w + tx) * r * 16) (toLe (r * 16) t.2)

/-- Writes the tile rows [ty0, ty1) of a picture into a surface. -/
def putRows (p : Samples) (f w h ty0 ty1 : Nat) (m : Mem) : Mem :=
  (List.range (ty1 - ty0)).foldl (fun m j =>
    (List.range (tilesX w)).foldl (fun m tx => putTile p f w h tx (ty0 + j) m) m) m

/-! ## Scaling -/

/-- Restricts an integer to a range. -/
def clampI (v lo hi : Int) : Int := max lo (min hi v)

/-- The phase and the tap indexes of destination sample `n` (R318). -/
def taps (T ls ld n : Nat) : Nat × List Nat :=
  let step := ls * 65536 / ld
  let pos : Int := (step / 2 : Nat) - 32768 + (n * step : Nat)
  let ip := pos / 65536
  (((pos / 1024) % 64).toNat, (List.range T).map fun k =>
    (clampI (ip - (T / 2 : Nat) + 1 + (k : Nat)) 0 ((ls : Int) - 1)).toNat)

/-- A coefficient of the built-in slot 0 (R320). -/
def coef0 (T p k : Nat) : Int := if k + 1 = T / 2 then 256 - 4 * (p : Int) else if k = T / 2 then 4 * (p : Int) else 0

/-- A coefficient of a slot: the loaded set, or slot 0. -/
def coefOf (c : Option CoefSet) (T p k : Nat) : Int :=
  match c with
  | some s => (s.coef[p * T + k]?).getD 0
  | none => coef0 T p k

/-- The weighted sum of samples, rounded and shifted (R319). -/
def filt (cs xs : List Int) : Int := ((List.zipWith (· * ·) cs xs).sum + 128) / 256

/-- One scaled sample of one component (R318, R319): `src` gives 10-bit samples of the source rectangle. -/
def scaled (cv ch : Option CoefSet) (tv th lsx ldx lsy ldy : Nat) (src : Nat → Nat → Nat) (nx ny : Nat) : Nat :=
  let v := taps tv lsy ldy ny
  let h := taps th lsx ldx nx
  let col (x : Nat) : Int :=
    clampI (filt ((List.range tv).map (coefOf cv tv v.1)) (v.2.map fun y => (src x y : Int))) (-512) 1535
  (clampI (filt ((List.range th).map (coefOf ch th h.1)) (h.2.map col)) 0 1023).toNat

/-! ## Blending -/

/-- Inlay (R328). -/
def blendInlay (a s d : Nat) : Nat := (a * s + (256 - a) * d + 128) / 256

/-- 12-bit alpha of a sample (R329). -/
def alpha12 (depth a : Nat) : Nat := if depth = 10 then a * 4 + a / 256 else a * 16 + a / 16

/-- A of R329. -/
def alphaA (a12 : Nat) : Nat := a12 + a12 / 2048

/-- Marquetry on 12-bit values, chroma centred (R330). -/
def blendMarq (mode la : Nat) (A : Nat) (lum : Bool) (s d : Int) : Int :=
  let ae : Int := ((A * la + 128) / 256 : Nat)
  let out := if mode = 2 then (s * la + 128) / 256 + ((4096 - ae) * d + 2048) / 4096
    else (ae * s + (4096 - ae) * d + 2048) / 4096
  if lum then clampI out 0 4095 else clampI out (-2048) 2047

/-- What a layer contributes: destination rectangle, alpha mode, layer alpha, 10-bit samples by component at an offset
inside the destination (component grid), and A of a luma sample. -/
structure LayerView where
  dx   : Int
  dy   : Int
  dw   : Nat
  dh   : Nat
  mode : Nat
  la   : Nat
  smp  : Nat → Nat → Nat → Nat
  alpha : Nat → Nat → Nat

/-- Whether a component sample lies inside a layer, and its offset there. -/
def LayerView.hit (v : LayerView) (c x y : Nat) : Option (Nat × Nat) :=
  let k : Nat := if c = 0 then 1 else 2
  let ox := (x : Int) - v.dx / k
  let oy := (y : Int) - v.dy / k
  if 0 ≤ ox ∧ 0 ≤ oy ∧ ox < ((v.dw / k : Nat) : Int) ∧ oy < ((v.dh / k : Nat) : Int) then some (ox.toNat, oy.toNat) else none

/-- The A of a component sample (R329): chroma takes the mean of its four luma samples. -/
def LayerView.aOf (v : LayerView) (c ox oy : Nat) : Nat :=
  if c = 0 then v.alpha ox oy
  else (v.alpha (2 * ox) (2 * oy) + v.alpha (2 * ox + 1) (2 * oy) + v.alpha (2 * ox) (2 * oy + 1)
    + v.alpha (2 * ox + 1) (2 * oy + 1) + 2) / 4

/-- One output sample of an Inlay composition at 10 bits (R328). -/
def inlayAt (vs : List LayerView) (bg : Nat → Nat) (c x y : Nat) : Nat :=
  vs.foldl (fun d v =>
    match v.hit c x y with
    | some o => blendInlay v.la (v.smp c o.1 o.2) d
    | none => d) (bg c)

/-- One output sample of a Marquetry composition at 12 bits, uncentred (R329, R330). -/
def marqAt (vs : List LayerView) (bg : Nat → Nat) (c x y : Nat) : Nat :=
  let off : Int := if c = 0 then 0 else 2048
  (vs.foldl (fun (d : Int) v =>
    match v.hit c x y with
    | some o => blendMarq v.mode v.la (v.aOf c o.1 o.2) (c = 0) ((v.smp c o.1 o.2 * 4 : Nat) - off) d
    | none => d) ((bg c * 4 : Nat) - off) + off).toNat

/-- The sample that the composed surface stores (R328, R330). -/
def storeSample (marq : Bool) (depth v : Nat) : Nat :=
  if marq then (if depth = 10 then min 1023 ((v + 2) / 4) else min 255 ((v + 8) / 16))
  else if depth = 10 then v else min 255 ((v + 2) / 4)

/-- A composed picture (R327 to R331): `vs` in ascending Z. -/
def composed (marq : Bool) (depth : Nat) (vs : List LayerView) (bg : Nat → Nat) : Samples := fun c x y =>
  storeSample marq depth (if marq then marqAt vs bg c x y else inlayAt vs bg c x y)

/-! ## The display -/

/-- R, G and B of 10-bit samples (R352). -/
def rgbOf (y cb cr : Int) : Int × Int × Int :=
  (clampI ((1196 * (y - 64) + 1841 * (cr - 512) + 512) / 1024) 0 1023,
   clampI ((1196 * (y - 64) - 219 * (cb - 512) - 547 * (cr - 512) + 512) / 1024) 0 1023,
   clampI ((1196 * (y - 64) + 2169 * (cb - 512) + 512) / 1024) 0 1023)

/-- The three link components of a pixel of the displayed picture, by pixel format (Table 6-8, R352): 0 RGB444_8,
1 RGB444_10, 2 YCC444_8, 3 YCC444_10, 4 YCC422_10. -/
def linkPixel (fmt sdepth : Nat) (p : Samples) (x y : Nat) : List Nat :=
  let up (v : Nat) : Nat := if sdepth = 8 then v * 4 else v
  let Y := up (p 0 x y)
  let U := up (p 1 (x / 2) (y / 2))
  let V := up (p 2 (x / 2) (y / 2))
  let r := rgbOf Y U V
  let out (v : Nat) : Nat := if fmt = 0 ∨ fmt = 2 then min 255 ((v + 2) / 4) else v
  if fmt ≤ 1 then [out r.1.toNat, out r.2.1.toNat, out r.2.2.toNat] else [out Y, out U, out V]

/-! ## Rung input and motion search -/

/-- Least `n` with `big` at most 4^n times `small` (R366); at most 8 passes. -/
def passes (big small : Nat) : Nat := ((List.range 9).find? fun n => big ≤ 4 ^ n * small).getD 8

/-- One pass of the input scaler on one component (R366): an axis of equal length is copied. -/
def scalePass (cv : Option CoefSet) (w h w2 h2 : Nat) (src : Nat → Nat → Nat) (x y : Nat) : Nat :=
  if w = w2 ∧ h = h2 then src x y
  else if w = w2 then
    let v := taps 4 h h2 y
    (clampI (clampI (filt ((List.range 4).map (coefOf cv 4 v.1)) (v.2.map fun r => (src x r : Int))) (-512) 1535) 0 1023).toNat
  else if h = h2 then
    let v := taps 4 w w2 x
    (clampI (filt ((List.range 4).map (coefOf cv 4 v.1)) (v.2.map fun c => (src c y : Int))) 0 1023).toNat
  else scaled cv cv 4 4 w w2 h h2 src x y

/-- The passes of R366 on one component; `k` is 1 for luma and 2 for chroma. -/
def scaleRun (cv : Option CoefSet) (k wl hl nx ny n : Nat) : Nat → Nat → Nat → (Nat → Nat → Nat) → Nat → Nat → Nat
  | 0, _, _, src => src
  | m + 1, w, h, src =>
    let i := n - m
    let w2 := if i ≤ nx then 4 ^ (nx - i) * wl else wl
    let h2 := if i ≤ ny then 4 ^ (ny - i) * hl else hl
    scaleRun cv k wl hl nx ny n m w2 h2 (scalePass cv (w / k) (h / k) (w2 / k) (h2 / k) src)

/-- A layer's input picture from the composed one (R366): W × H at depth `d0` to wl × hl at depth `d1`. -/
def rungInput (cv : Option CoefSet) (w h d0 wl hl d1 : Nat) (p : Samples) : Samples := fun c x y =>
  let up (v : Nat) : Nat := if d0 = 8 then v * 4 else v
  let k := if c = 0 then 1 else 2
  if w = wl ∧ h = hl then
    (if d0 = d1 then p c x y else if d1 = 8 then min 255 ((p c x y + 2) / 4) else p c x y * 4)
  else
    let nx := passes w wl
    let ny := passes h hl
    let n := max 1 (max nx ny)
    let v := scaleRun cv k wl hl nx ny n n w h (fun a b => up (p c a b)) x y
    if d1 = 8 then min 255 ((v + 2) / 4) else v

/-- Rows of a luma picture of 8-bit samples. -/
abbrev Rows := List (List Nat)

/-- A sample of a luma picture; beyond the edge, the nearest edge sample (R377). -/
def rowsAt (r : Rows) (x y : Int) : Nat :=
  let row := (r[(clampI y 0 ((r.length : Int) - 1)).toNat]?).getD []
  (row[(clampI x 0 ((row.length : Int) - 1)).toNat]?).getD 0

/-- One level of the pyramid (R377). -/
def halve (r : Rows) : Rows :=
  let w := ((r.headD []).length + 1) / 2
  (List.range ((r.length + 1) / 2)).map fun y => (List.range w).map fun x =>
    (rowsAt r (2 * x) (2 * y) + rowsAt r (2 * x + 1) (2 * y) + rowsAt r (2 * x) (2 * y + 1)
      + rowsAt r (2 * x + 1) (2 * y + 1) + 2) / 4

/-- The SAD of an n × n block at (x, y) against `ref` displaced by a vector. -/
def sad (n : Nat) (cur ref : Rows) (x y : Nat) (v : Int × Int) : Nat :=
  ((List.range n).map fun (j : Nat) => ((List.range n).map fun (i : Nat) =>
    ((rowsAt cur (x + i) (y + j) : Int) - rowsAt ref (x + i + v.1) (y + j + v.2)).natAbs).sum).sum

/-- The order of candidates (R379): cost, |dx| + |dy|, dy, dx. -/
def vecBefore (a b : Nat × Int × Int) : Bool :=
  let ma := a.2.1.natAbs + a.2.2.natAbs
  let mb := b.2.1.natAbs + b.2.2.natAbs
  decide (a.1 < b.1) || (a.1 == b.1 && (decide (ma < mb) || (ma == mb &&
    (decide (a.2.2 < b.2.2) || (a.2.2 == b.2.2 && decide (a.2.1 ≤ b.2.1))))))

/-- The vectors of a rectangle around a centre. -/
def vecsAround (c : Int × Int) (rx ry : Nat) : List (Int × Int) :=
  (List.range (2 * ry + 1)).flatMap fun j => (List.range (2 * rx + 1)).map fun i =>
    (c.1 + (i : Int) - rx, c.2 + (j : Int) - ry)

/-- The level-Q search of a block (Table 7-6): the four best distinct vectors with their SAD. -/
def searchQ (cur ref : Rows) (bx by_ : Nat) : List (Nat × Int × Int) :=
  (((vecsAround (0, 0) 64 48).map fun v => (sad 8 cur ref (8 * bx) (8 * by_) v, v.1, v.2)).mergeSort vecBefore).take 4

/-- The level-H search of a block (Table 7-6): the best vector around each level-Q vector doubled. -/
def searchH (cur ref : Rows) (bx by_ : Nat) (qs : List (Nat × Int × Int)) : Option (Nat × Int × Int) :=
  let vs := (qs.flatMap fun q => vecsAround (2 * q.2.1, 2 * q.2.2) 8 8).dedup
  ((vs.map fun v => (sad 16 cur ref (16 * bx) (16 * by_) v, v.1, v.2)).mergeSort vecBefore).head?

/-- A level-H vector component in a layer of size `wl` (R380). -/
def mapVec (d : Int) (wl wtop : Nat) : Int := (2 * d * wl + wtop) / (2 * wtop : Nat)

/-- The intra value of R392: the sum of |s - mean| over the level-Q samples of a block. -/
def intraQ (cur : Rows) (bx by_ : Nat) : Nat :=
  let ss := (List.range 8).flatMap fun (j : Nat) => (List.range 8).map fun (i : Nat) =>
    rowsAt cur ((8 * bx + i : Nat) : Int) ((8 * by_ + j : Nat) : Int)
  let m := ss.sum / 64
  (ss.map fun v => ((v : Int) - m).natAbs).sum

/-- The complexity of a search block (R392): `intra` takes the second value alone. -/
def blockCx (cur : Rows) (ref : Option Rows) (bx by_ : Nat) (intra : Bool) : Nat :=
  let a := 16 * intraQ cur bx by_
  match ref with
  | none => a
  | some r =>
    if intra then a
    else min a (16 * (((searchQ cur r bx by_).head?).map (·.1)).getD 0)

end Sys2Proof.Machine
end

