-- ==== Sys2Proof/Machine/Decoder.lean ====
section
/-!
DEFINITION. Tenon decoding (chapter 5): surfaces and picture buffers (R264 to R266, R279 to R283), bitstream queues
(R177, R271), credits and the ready list of an engine (R272 to R275), damage (R285 to R292), status (R299).
-/

namespace Sys2Proof.Machine

open Sys2Proof

/-! ## Surfaces -/

/-- The generation that follows the last one used at an index (Table 0-5). -/
def nextGen : Option Nat → Nat
  | none => 0
  | some g => (g + 1) % 256

/-- The surface with index `n`. -/
def getSurf (s : State) (n : Nat) : Option Surf := Tab.get s.vid.surfs n

/-- Replaces the surface table. -/
def setSurfs (s : State) (t : Tab Surf) : State := { s with vid := { s.vid with surfs := t } }

/-- The handle of a surface index; 0 when there is none. -/
def surfHandle (s : State) (n : Nat) : Nat :=
  match getSurf s n with
  | some u => mkHandle 8 u.gen n
  | none => 0

/-- Creates a surface and answers its index. -/
def newSurf (part f w h owner : Nat) (s : State) : Option (Nat × State) :=
  (lowestFree (Tab.keys s.vid.surfs) 0 65536).map fun n =>
    let g := nextGen (Tab.get s.vid.sgens n)
    (n, { s with vid := { s.vid with
            surfs := Tab.set s.vid.surfs n { gen := g, part := part, fmt := f, w := w, h := h, owner := owner }
            sgens := Tab.set s.vid.sgens n g } })

/-- Creates `n` equal surfaces. -/
def newSurfs (part f w h owner : Nat) : Nat → State → Option (List Nat × State)
  | 0, s => some ([], s)
  | n + 1, s =>
    (newSurf part f w h owner s).bind fun a =>
      (newSurfs part f w h owner n a.2).map fun b => (a.1 :: b.1, b.2)

/-- Deletes surfaces. -/
def freeSurfs (ns : List Nat) (s : State) : State :=
  setSurfs s (s.vid.surfs.filter fun e => !(ns.contains e.1))

/-! ## Contexts -/

/-- The decoder context of stream `x`. -/
def getDec (s : State) (x : Nat) : Dec := (getStream s x).dec
/-- Replaces the decoder context of stream `x`. -/
def setDec (s : State) (x : Nat) (d : Dec) : State := setStream s x { getStream s x with dec := d }

/-- A decoding field of a stream (Table 5-3). -/
def dprm (s : State) (x r : Nat) : Nat := ofldN s x (fk 0x05 r 0)

/-- Whether a stream is decoded. -/
def isDecoded (s : State) (x : Nat) : Bool := dprm s x 0 == 1 && isVideo s x && !(isOut s x)

/-- The video codec of a decoded stream: the first of its payload types that names one. -/
def videoCodec (s : State) (x : Nat) : Nat :=
  (((ptMap s x).find? fun e => decide (8 ≤ e.2) && decide (e.2 ≤ 11)).map (·.2)).getD 9

/-- MAX_REFS of a stream (Table 5-3): its field, or the default of its codec. -/
def maxRefs (s : State) (x : Nat) : Nat :=
  match videoCodec s x with
  | 11 => 8
  | 8 => 3
  | _ => if dprm s x 6 = 0 then 4 else dprm s x 6

/-- F_d in ns. -/
def decPeriod (s : State) (x : Nat) : Nat := framePeriod (dprm s x 4)

/-- T_SW, B_NP, T_HDR, H_BAND and A_DRAM in ns (Tables 1-8 and 5-5). -/
def tSw : Nat := 12000
/-- T_SW at the clock in force (R781). -/
def tSwNow (s : State) : Nat := scaleNs s 3 tSw
/-- B_NP at the clocks in force: B_NP + 2 T_SW + H_BAND + A_DRAM stays 3,000 µs (R781). -/
def bNpNow (s : State) : Nat := 3000000 - 2 * tSwNow s - scaleNs s 5 256000 - 220000
/-- T_HDR. -/
def tHdr : Nat := 4000

/-- D of R276 in ns, rounded up. -/
def decodeCost (s : State) (x : Nat) : Nat :=
  let rate := if videoCodec s x = 11 then 1600 else 2400
  max (tSw + tHdr + ceilDiv (dprm s x 1 * dprm s x 2 * 10) 48) (tSw + tHdr + ceilDiv (8 * dprm s x 5 * 1000) rate)

/-- k of the next instant of a rate row. -/
def nextK (s : State) (r : Nat) : Nat := ((s.time.frames[r]?).map (·.1)).getD 0

/-- Creates the picture buffer of a decoded stream whose first activation is accepted (R264, R265). -/
def allotDecoder (x : Nat) (s : State) : Option State :=
  match getObj s x with
  | none => none
  | some o =>
    (newSurfs o.part (if dprm s x 3 = 10 then 1 else 0) (dprm s x 1) (dprm s x 2) x (maxRefs s x + 3) s).map fun a =>
      setDec a.2 x { surfs := a.1 }

/-- Binds a decoder context to a stream when it first becomes ACTIVE (R264, R270): engine `e`. -/
def bindDecoder (x e : Nat) (s : State) : State :=
  setDec s x { st := 1, engine := e, surfs := (getDec s x).surfs, creditK := nextK s (dprm s x 4), syncAt := now s }

/-- Releases the context and its surfaces (R266). -/
def unbindDecoder (x : Nat) (s : State) : State :=
  setDec (freeSurfs (getDec s x).surfs s) x {}

/-- Puts a context in SYNC_WAIT: its frames and pictures are dropped (R270). -/
def syncWait (x : Nat) (s : State) : State :=
  let d := getDec s x
  setDec s x { d with st := 1, asm := [], handed := [], pics := [], recovery := false, damaged := d.damaged, syncAt := now s }

/-! ## Engines -/

/-- The engine `e`. -/
def getEng (s : State) (e : Nat) : Engine := Tab.getD s.vid.engines e {}
/-- Replaces the engine `e`. -/
def setEng (s : State) (e : Nat) (g : Engine) : State := { s with vid := { s.vid with engines := Tab.set s.vid.engines e g } }
/-- Changes the engine `e`. -/
def updEng (s : State) (e : Nat) (f : Engine → Engine) : State := setEng s e (f (getEng s e))

/-- Drops the items of a context from the ready list of its engine. -/
def dropItems (e : Nat) (p : EngItem → Bool) (s : State) : State :=
  updEng s e fun g => { g with ready := g.ready.filter fun i => !(p i), chain := g.chain.filter fun i => !(p i) }

/-! ## The bitstream queue (R177, R271) -/

/-- Lowest and highest extended sequence number of a frame in assembly. -/
def CodedFrame.span (f : CodedFrame) : Nat × Nat :=
  (((f.pkts.map (·.ext)).min?).getD 0, ((f.pkts.map (·.ext)).max?).getD 0)

/-- Whether the packets of a frame, from its first to its marker packet, are all present. -/
def CodedFrame.complete (f : CodedFrame) : Bool :=
  let sp := f.span
  (f.pkts.any fun p => p.first && p.ext == sp.1) && (f.pkts.any fun p => p.last && p.ext == sp.2)
    && f.pkts.length == sp.2 - sp.1 + 1

/-- Coded size of a frame over its RTP payloads (Table 5-3). -/
def CodedFrame.size (f : CodedFrame) : Nat := (f.pkts.map (·.n)).sum

/-- Puts one packet into its frame. -/
def addPkt (ts mt codec : Nat) (i : Info) (p : BitPkt) : List CodedFrame → List CodedFrame
  | [] => [{ ts := ts, at_ := mt, pkts := [p], info := i, codec := codec }]
  | f :: fs =>
    if f.ts = ts then
      (if f.pkts.any fun q => q.ext = p.ext then f
       else { f with pkts := f.pkts ++ [p], info := if p.first && !(f.pkts.any fun q => q.first && q.ext < p.ext) then i else f.info }) :: fs
    else f :: addPkt ts mt codec i p fs

/-- A damage cause of Table 5-6 is counted, by its row from 0. -/
def countCause (x c : Nat) (s : State) : State := bumpObj s x (.decCause c)

/-- The context of `x` is in RECOVERING: the refresh need begins (R289). -/
def recovering (x : Nat) (s : State) : State :=
  let d := getDec s x
  if d.st = 1 then s else raiseNeed x 0 (setDec s x { d with st := 3 })

/-- A frame is LOST (Table 5-6): its cause is counted; RECOVERING when it was a reference picture. -/
def lostFrame (x c : Nat) (isRef : Bool) (s : State) : State :=
  let s1 := countCause x c s
  if isRef then recovering x s1 else s1

/-- Whether a frame is an entry point (R269). -/
def entryPoint (f : CodedFrame) : Bool := f.info.key || ((f.codec == 9 || f.codec == 10) && f.info.recov)

/-- The cause of UNSUPPORTED of a frame (R260 to R262, R295): 0 profile or level, 1 size, 2 tool, 3 bit depth. -/
def unsupported (s : State) (x : Nat) (f : CodedFrame) : Option Nat :=
  let i := f.info
  if !i.profOk then some 0
  else if i.width < 64 ∨ i.height < 64 ∨ dprm s x 1 < i.width ∨ dprm s x 2 < i.height
      ∨ (f.codec = 10 ∨ f.codec = 11) ∧ 8912896 < i.width * i.height then some 1
  else if !i.toolOk then some 2
  else if dprm s x 3 < i.depth then some 3
  else none

/-- A frame takes a credit and becomes eligible (R272): the first that waits, while there are credits. -/
def takeCredits (x : Nat) : Nat → State → State
  | 0, s => s
  | n + 1, s =>
    let d := getDec s x
    match d.handed.find? fun f => f.elig.isNone with
    | some f =>
      if d.credits = 0 then s
      else
        let t := now s
        let s1 := setDec s x { d with
          credits := d.credits - 1
          handed := d.handed.map fun g => if g.ts = f.ts then { g with elig := some t } else g }
        takeCredits x n (updEng s1 d.engine fun g => { g with
          ready := g.ready ++ [{ enc := false, k := x, id := f.ts, elig := t, dead := t + decPeriod s x, fixed := isFixed s x }] })
    | none => s

/-- A frame is handed to the decoder (R269, R273, R277). From a change beyond the limits on, frames are UNSUPPORTED up to
the first entry point within them (R295). -/
def handOver (x : Nat) (f : CodedFrame) (s : State) : State :=
  let d := getDec s x
  if dprm s x 7 < f.info.sid ∨ ofldN s x (fk 0x05 7 1) < f.info.tid then s
  else if d.st = 1 ∧ !(entryPoint f) ∧ !(d.handed.any entryPoint) then bumpObj s x .decPreSync
  else if 8 ≤ d.handed.length then lostFrame x 0 f.info.isRef (bumpObj s x .decQueueDrop)
  else if dprm s x 5 < f.size then lostFrame x 4 f.info.isRef s
  else
    match (if d.unsup && !(entryPoint f) then some ((unsupported s x f).getD 1) else unsupported s x f) with
    | some c =>
      let s1 := lostFrame x 5 f.info.isRef (setDec s x { d with unsup := d.unsup || c != 2 })
      let due := match d.unsupAt with
        | none => true
        | some t => decide (t + 10000000000 ≤ now s)
      if due then
        emitObj (setDec s1 x { getDec s1 x with unsupAt := some (now s) }) x 0x040 (toLe 1 f.codec ++ toLe 1 c)
      else s1
    | none => takeCredits x 8 (setDec s x { d with unsup := false, handed := d.handed ++ [f] })

/-- Hands over frames in sequence order while the first is complete, or `n` is to be handed over incomplete
(R177, R271). A gap before a frame is a LOST frame. -/
def handFrames (x : Nat) (force : Bool) : Nat → State → State
  | 0, s => s
  | n + 1, s =>
    let d := getDec s x
    match sortBy d.asm fun a b => decide (a.span.1 ≤ b.span.1) with
    | [] => s
    | f :: rest =>
      if f.complete || force then
        let s1 := setDec s x { d with asm := rest, nextExt := some (f.span.2 + 1) }
        let gap := match d.nextExt with
          | some e => decide (e < f.span.1) && f.pkts.any fun p => p.first && p.ext == f.span.1
          | none => false
        let s2 := if gap && d.st != 1 then countCause x 0 s1 else s1
        handFrames x false n (handOver x { f with whole := f.complete } s2)
      else s

/-- A video packet enters the bitstream queue of a decoded stream (R177); a packet of a frame already handed over is
dropped. `n` is its payload length. -/
def bitPush (x mt codec ext n : Nat) (ts : Nat) (marker : Bool) (i : Info) (s : State) : State :=
  let d := getDec s x
  let old := match d.nextExt with
    | some e => decide (ext < e)
    | none => false
  if d.st = 0 || old then s
  else handFrames x false 64 (setDec s x { d with
    asm := addPkt ts mt codec i { ext := ext, n := n, first := i.start, last := marker } d.asm })

/-- VIDEO_HOLD_EXPIRY (R177): the first frame of stream `x` in assembly is handed over incomplete. -/
def execVideoHoldExpiry (x : Nat) (s : State) : Out :=
  onPart (decide (x < 16384)) s fun s =>
    let x := okey 4 x
    let d := getDec s x
    match (sortBy d.asm fun a b => decide (a.span.1 ≤ b.span.1)).head? with
    | some f => guarded (decide (f.at_ + ofldN s x (fk 0x04 15 0) ≤ now s)) s (handFrames x true 64)
    | none => s

/-- DECODER_CREDIT (R272): a frame instant of MAX_RATE gives the context of stream `x` a credit. -/
def execDecoderCredit (x : Nat) (s : State) : Out :=
  onPart (decide (x < 16384)) s fun s =>
    let x := okey 4 x
    let d := getDec s x
    guarded (d.st != 0 && decide (d.creditK < nextK s (dprm s x 4))) s fun s =>
      takeCredits x 8 (setDec s x { d with credits := min 2 (d.credits + 1), creditK := d.creditK + 1 })

/-- SYNC_WAIT_REFRESH (R270): a context in SYNC_WAIT for longer than REFRESH_GAP_UP needs a refresh. -/
def execSyncWaitRefresh (x : Nat) (s : State) : Out :=
  onPart (decide (x < 16384)) s fun s =>
    let x := okey 4 x
    let d := getDec s x
    guarded (d.st == 1 && isActive s x && decide (d.syncAt + gprm s x 24 < now s)) s (raiseNeed x 0)

/-! ## Engines at work (R274, R283) -/

/-- Whether a compositor is reading surface `n`: a layer shows it in a layout whose composition is due or running. -/
def surfReading (s : State) (n : Nat) : Bool :=
  s.obj.layers.any fun e =>
    ((e.2.cur.map (·.surf)) == some n) &&
      (let y := Tab.getD s.obj.layouts (parentKey s e.1) {}
       y.run.isSome || y.due.isSome)

/-- A surface of the context that may be written (R283). -/
def freeSurf (s : State) (x : Nat) : Option Nat :=
  let d := getDec s x
  d.surfs.find? fun n =>
    d.pub != some n && d.pubPrev != some n && !(d.pics.any fun p => p.surf == n && (p.isRef || p.waiting)) && !(surfReading s n)

/-- Fixed class first, then deadline, eligibility time, context index (R274). -/
def itemBefore (a b : EngItem) : Bool :=
  if a.fixed != b.fixed then a.fixed
  else if a.dead ≠ b.dead then decide (a.dead < b.dead)
  else if a.elig ≠ b.elig then decide (a.elig < b.elig)
  else decide (a.k % 1048576 ≤ b.k % 1048576)

/-- Counts a frame that waits for a surface, once (R283). -/
def slotWaits (x ts : Nat) (s : State) : State :=
  let d := getDec s x
  if d.handed.any fun f => f.ts == ts && !f.slotWait then
    bumpObj (setDec s x { d with handed := d.handed.map fun f => if f.ts = ts then { f with slotWait := true } else f })
      x .decSlotWait
  else s

/-- The first item of a sorted ready list that can start. -/
def pickItem : List EngItem → State → Option EngItem × State
  | [], s => (none, s)
  | i :: is, s =>
    if i.enc || (freeSurf s i.k).isSome then (some i, s) else pickItem is (slotWaits i.k i.id s)

/-! ## Completion of a decode -/

/-- The layers a hold covers when a reference picture of layers (sp, t) is damaged (R290). -/
def holdOf (sp t : Nat) : List (Nat × Nat) :=
  ((List.range 8).filter fun a => decide (sp ≤ a)).flatMap fun a =>
    ((List.range 8).filter fun b => t == 0 || decide (t ≤ b)).map fun b => (a, b)

/-- Raises the forwarding hold (R290). -/
def raiseHold (x sp t : Nat) (s : State) : State :=
  let d := getStream s x
  setStream s x { d with
    hold := (d.hold ++ holdOf sp t).dedup
    dam0 := if t = 0 then (sp :: d.dam0).dedup else d.dam0 }

/-- Writes SOURCE_RESIZED when the size differs from the one last reported, at most once a second (R294, R301). -/
def reportSize (x : Nat) (s : State) : State :=
  let d := getDec s x
  let z := d.size
  if d.told = (0, 0, 0) then setDec s x { d with told := z }
  else if d.told == z || (match d.toldAt with
      | some t => decide (now s < t + 1000000000)
      | none => false) then s
  else emitObj (setDec s x { d with told := z, toldAt := some (now s) }) x 0x043
    (toLe 2 z.1 ++ toLe 2 z.2.1 ++ toLe 1 z.2.2)

/-- Publishes a picture of the decode target (R280, R281, R287). -/
def publish (x : Nat) (p : Pic) (s : State) : State :=
  let d := getDec s x
  let d1 := { d with
    fence := (d.fence + 1) % 2 ^ 64
    pubPrev := d.pub
    pub := some p.surf
    damaged := p.damaged
    size := (p.width, p.height, p.depth)
    pubAt := now s
    pubTs := p.ts }
  let s1 := bumpObj (setDec s x d1) x .decPublished
  reportSize x (if p.damaged then bumpObj s1 x .decDamaged else s1)

/-- Writes the samples of a decoded picture into its surface, at the bitstream's depth (R279). -/
def writePicture (n w h depth : Nat) (s : State) : State :=
  match getSurf s n with
  | none => s
  | some u =>
    let f := if depth = 10 then 1 else 0
    let id := s.free
    let smp : Samples := fun c x y => pictureSample id c x y % 2 ^ depth
    setSurfs { s with free := s.free + 1 } (Tab.set s.vid.surfs n { u with
      fmt := f, w := w, h := h, poison := [], mem := putRows smp f w h 0 (tilesY h) [] })

/-- Publishes the pictures of `outs` that are in the buffer, in order. -/
def putOut (x : Nat) : List Nat → State → State
  | [], s => s
  | t :: ts, s =>
    let d := getDec s x
    match d.pics.find? fun p => p.ts = t with
    | some p =>
      putOut x ts (publish x p (setDec s x { d with pics := d.pics.map fun q =>
        if q.ts = t then { q with waiting := false } else q }))
    | none => putOut x ts s

/-- What a completed frame says of damage: the causes it counts, and whether any area was concealed (Table 5-6). -/
def damageOf (f : CodedFrame) (r : DecRes) (pics : List Pic) : List Nat × Bool :=
  let bad (t : Nat) : Bool := !(pics.any fun p => p.ts == t && p.isRef && !p.missing)
  let cs := (if f.info.refs.any bad then [1] else []) ++ (if f.whole then [] else [2]) ++ (if r.bad then [3] else [])
    ++ (if r.poison = 1 then [6] else []) ++ (if r.poison = 2 then [7] else [])
  (cs, !cs.isEmpty)

/-- The end of a frame whose context was poisoned (Table 5-6, POISON_CONTEXT). -/
def poisonContext (x e : Nat) (s : State) : State :=
  emitObj (dropItems e (fun i => !i.enc && i.k == x) (syncWait x (countCause x 8 s))) x 0x041 (toLe 1 e)

/-- The end of a decoded frame (R279 to R290). -/
def decodeEnd (x : Nat) (f : CodedFrame) (r : DecRes) (s : State) : State :=
  let d := getDec s x
  match freeSurf s x with
  | none => s
  | some n =>
    let pics0 := if r.poison = 2 then d.pics.map fun p => if r.poisonRefs.contains p.ts then { p with missing := true } else p
      else d.pics
    let dm := damageOf f r pics0
    let fresh := f.info.key || r.recovered
    let rec_ := !f.info.key && !r.recovered && (d.recovery || f.info.recov)
    let refBad := f.info.refs.any fun t => pics0.any fun p => p.ts == t && p.damaged
    let damaged := dm.2 || rec_ || (!fresh && refBad)
    let keeps := r.keep.contains f.ts
    let pic : Pic := { surf := n, ts := f.ts, sid := f.info.sid, tid := f.info.tid, isRef := keeps, damaged := damaged
                       width := f.info.width, height := f.info.height, depth := f.info.depth }
    let pics1 := (pics0.map fun p => { p with isRef := r.keep.contains p.ts }).filter fun p => p.isRef || p.waiting
    let late := match f.elig with
      | some t => decide (t + decPeriod s x < now s)
      | none => false
    let miss := match f.elig with
      | some t => decide (t + decPeriod s x + bNpNow s + tSwNow s < now s)
      | none => false
    let s1 := writePicture n f.info.width f.info.height f.info.depth s
    let s2 := setDec s1 x { d with pics := pics1 ++ [pic], recovery := rec_, grain := r.grain }
    let s3 := dm.1.foldl (fun s c => countCause x c s) (bumpObj s2 x .decFrames)
    let s4 := if late then bumpObj s3 x .decLate else s3
    let s5 := if miss then promiseMiss x s4 else s4
    let s6 := putOut x r.outs s5
    let s7 := if damaged && keeps then raiseHold x f.info.sid f.info.tid s6
      else if !damaged && f.info.tid == 0 then
        setStream s6 x { getStream s6 x with dam0 := (getStream s6 x).dam0.filter fun a => a ≠ f.info.sid }
      else s6
    if damaged && keeps then raiseNeed x 0 (setDec s7 x { getDec s7 x with st := 3 })
    else if !damaged then endNeed x 0 (setDec s7 x { getDec s7 x with st := 2 })
    else if d.st = 1 then setDec s7 x { getDec s7 x with st := 3 }
    else s7

/-- DECODE_FRAME_COMPLETE (R280): engine `e` finishes the decode of its frame; `r` is what the bitstream made of it. -/
def execDecodeFrameComplete (e : Nat) (r : DecRes) (s : State) : Out :=
  onPart (decide (e < 16)) s fun s =>
    match (getEng s e).run with
    | none => s
    | some i =>
      guarded (!i.enc) s fun s =>
        let s1 := updEng s e fun g => { g with run := none }
        let x := i.k
        let d := getDec s1 x
        match d.handed.find? fun f => f.ts = i.id with
        | none => s1
        | some f =>
          let s2 := setDec s1 x { d with handed := d.handed.filter fun g => g.ts ≠ i.id }
          takeCredits x 8 (if r.poison = 3 then poisonContext x e s2 else decodeEnd x f r s2)

/-! ## Status (R299) -/

/-- DECODER_READ (Table 5-7). -/
def bodyDecoderRead : Body := fun F p _ s =>
  match resolve s F 4 (le p 0 4) with
  | none => .no .badHandle []
  | some x =>
    let d := getDec s x
    let z := d.size
    checked [(d.st != 0, .badState)] fun _ =>
      let w := d.st + 4 * b2n d.damaged + 8 * b2n (!(getStream s x).hold.isEmpty) + 16 * d.credits + 256 * d.engine
        + 4096 * z.2.2 + 65536 * z.1 + 2 ^ 32 * z.2.1
      .ok (toLe 8 w ++ toLe 8 d.fence ++ toLe 4 ((d.pub.map (surfHandle s)).getD 0) ++ toLe 4 d.pubTs ++ toLe 8 d.pubAt
        ++ toLe 2 d.grain ++ zeros 6) 0 s

/-- DECODER_READ. -/
def execDecoderRead (src : Src) (s : State) : Out := serve 0x0606 src [] bodyDecoderRead s

end Sys2Proof.Machine
end

