-- ==== Sys2Proof/Machine/Compose.lean ====
section
/-!
DEFINITION. Inlay and Marquetry (chapter 6): layer descriptors (R313, R314), readiness and flips (R332 to R339), line
buffers and stripes (R323 to R326), compositions (R340 to R345), the display output (R346 to R353), and the commands on
coefficient sets, flips, surfaces and fences (Tables 15-15 and 15-16).
-/

namespace Sys2Proof.Machine

open Sys2Proof

/-! ## Descriptors (Table 6-5) -/

/-- Z. -/
def dZ (d : Nat) : Nat := bits d 3 0
/-- KIND: 0 VIDEO, 1 GRAPHIC. -/
def dKind (d : Nat) : Nat := bits d 5 4
/-- ALPHA_MODE: 0 NONE, 1 STRAIGHT, 2 PREMULT. -/
def dAlphaMode (d : Nat) : Nat := bits d 7 6
/-- GLUE. -/
def dGlue (d : Nat) : Nat := bits d 10 8
/-- SRC_FULL. -/
def dFull (d : Nat) : Bool := bitOf d 11
/-- FLIP_EVENT. -/
def dFlipEvent (d : Nat) : Bool := bitOf d 12
/-- STANDIN_KIND. -/
def dStandSurf (d : Nat) : Bool := bitOf d 13
/-- STALE_LIMIT. -/
def dStaleLimit (d : Nat) : Nat := bits d 23 16
/-- H_COEF. -/
def dHc (d : Nat) : Nat := bits d 27 24
/-- V_COEF. -/
def dVc (d : Nat) : Nat := bits d 31 28
/-- LAYER_ALPHA. -/
def dAlpha (d : Nat) : Nat := bits d 40 32
/-- SOURCE. -/
def dSource (d : Nat) : Nat := bits d 95 64
/-- FENCE. -/
def dFence (d : Nat) : Nat := bits d 127 96
/-- FENCE_TARGET. -/
def dTarget (d : Nat) : Nat := bits d 191 128
/-- Element `n` of SRC_X, SRC_Y, SRC_W, SRC_H, DST_X, DST_Y, DST_W, DST_H. -/
def dRect (d n : Nat) : Nat := d / 2 ^ (192 + 16 * n) % 65536
/-- DST_X and DST_Y, signed. -/
def dDst (d n : Nat) : Int := signed 16 (dRect d (4 + n))
/-- The stand-in colour by component. -/
def dStand (d c : Nat) : Nat := d / 2 ^ (320 + 16 * c) % 1024
/-- STANDIN_SURFACE. -/
def dStandIn (d : Nat) : Nat := bits d 415 384

/-- The descriptor with the fields a flip carries (R333). -/
def flipDesc (d : Nat) (f : Flip) : Nat :=
  d % 2 ^ 64 + f.src * 2 ^ 64 + f.fence * 2 ^ 96 + f.target * 2 ^ 128
    + fromLe (f.rect.flatMap (toLe 2)) * 2 ^ 192 + d / 2 ^ 320 * 2 ^ 320

/-- What layer `k` holds beside its header. -/
def getLayer (s : State) (k : Nat) : LayerDyn := Tab.getD s.obj.layers k {}
/-- Replaces what layer `k` holds. -/
def setLayer (s : State) (k : Nat) (l : LayerDyn) : State := { s with obj := { s.obj with layers := Tab.set s.obj.layers k l } }
/-- What layout `y` holds beside its header. -/
def getLayout (s : State) (y : Nat) : LayoutDyn := Tab.getD s.obj.layouts y {}
/-- Replaces what layout `y` holds. -/
def setLayout (s : State) (y : Nat) (l : LayoutDyn) : State := { s with obj := { s.obj with layouts := Tab.set s.obj.layouts y l } }

/-- A composition field of a layout (Table 6-4). -/
def yprm (s : State) (y r : Nat) : Nat := ofldN s y (fk 0x09 r 0)
/-- Whether a layout names the MARQUETRY class. -/
def isMarq (s : State) (y : Nat) : Bool := yprm s y 0 == 1
/-- Line-buffer width and largest stripe count of a class (Table 6-1). -/
def lineBuf (marq : Bool) : Nat × Nat := if marq then (4096, 4) else (2048, 2)
/-- Composition window W of a layout in ns: its pixels at the class rate (R59, Table 6-1). -/
def compWindow (s : State) (y : Nat) : Nat := yprm s y 1 * yprm s y 2 * (if isMarq s y then 1 else 4)
/-- Composition window W of a layout in ns at the compositors' clock (R59, R781). -/
def windowNs (s : State) (y : Nat) : Nat := scaleNs s 5 (compWindow s y)

/-- The layers of a layout that are ACTIVE, in ascending Z. -/
def activeLayers (s : State) (y : Nat) : List Nat :=
  sortBy ((kids s 6 y).filter (isActive s)) fun a b => decide (dZ (getLayer s a).desc ≤ dZ (getLayer s b).desc)

/-! ## Sources and fences -/

/-- The value of the fence a handle names; none when there is no such fence. -/
def fenceValue (s : State) (h : Nat) : Option Nat :=
  let f := getFn s (hIdx h / 256)
  if hType h = 9 ∧ Tab.getD f.fgens (hIdx h % 256) 0 = hGen h then Tab.get f.fences (hIdx h % 256) else none

/-- Whether function `F`, or an object of partition `p`, may name the fence with a handle. -/
def fenceOk (s : State) (p h : Nat) : Bool := (fenceValue s h).isSome && (getFn s (hIdx h / 256)).part == some p

/-- The surface index a handle names, in partition `p`. -/
def surfIn (s : State) (p h : Nat) : Option Nat :=
  if hType h = 8 then
    (getSurf s (hIdx h)).bind fun u => if u.gen = hGen h ∧ u.part = p then some (hIdx h) else none
  else none

/-- The key of the decoded stream a handle names, in partition `p`. -/
def streamIn (s : State) (p h : Nat) : Option Nat :=
  if hType h = 4 then
    (getObj s (hKey h)).bind fun o => if o.gen = hGen h ∧ o.part = p ∧ isDecoded s (hKey h) then some (hKey h) else none
  else none

/-- Visible size of a source: a surface, or the latest picture of a stream (R325: its largest size when it has none). -/
def sourceSize (s : State) (h : Nat) : Nat × Nat :=
  if hType h = 4 then
    match (getDec s (hKey h)).pub with
    | some _ => ((getDec s (hKey h)).size.1, (getDec s (hKey h)).size.2.1)
    | none => (dprm s (hKey h) 1, dprm s (hKey h) 2)
  else ((getSurf s (hIdx h)).map fun u => (u.w, u.h)).getD (0, 0)

/-- The source rectangle of a descriptor: x, y, width, height; `z` is the visible size. -/
def srcRect (d : Nat) (z : Nat × Nat) : Nat × Nat × Nat × Nat :=
  if dFull d then (0, 0, z.1, z.2) else (dRect d 0, dRect d 1, dRect d 2, dRect d 3)

/-! ## Line buffers (R323 to R326) -/

/-- First column of stripe `j` of `n` (R323). -/
def stripeAt (w n j : Nat) : Nat := 16 * (j * w / (16 * n))

/-- The span of a VIDEO layer between output columns `b0` and `b1` (R323): `ls` source columns onto `dw` from `dx`. -/
def spanIn (ls : Nat) (dx : Int) (dw b0 b1 : Nat) : Nat :=
  let c0 := max (b0 : Int) dx
  let c1 := min (b1 : Int) (dx + dw)
  if c1 ≤ c0 then 0
  else
    let a := ((taps 8 ls dw (c0 - dx).toNat).2[0]?).getD 0
    let b := ((taps 8 ls dw (c1 - 1 - dx).toNat).2[7]?).getD 0
    b + 1 - a

/-- A VIDEO layer for the stripe test: key, source columns, destination rectangle. -/
structure SpanIn where
  k  : Nat
  ls : Nat
  dx : Int
  dy : Int
  dw : Nat
  dh : Nat

/-- Whether the layers fit in `n` stripes (R324): the load is largest at the first row of some layer. -/
def fitsIn (lb w n : Nat) (vs : List SpanIn) : Bool :=
  (List.range n).all fun j => vs.all fun v =>
    let y := max 0 v.dy
    ((vs.filter fun u => u.dy ≤ y && decide (y < u.dy + u.dh)).map fun u =>
      spanIn u.ls u.dx u.dw (stripeAt w n j) (stripeAt w n (j + 1))).sum ≤ lb

/-- Whether some stripe count of the class fits (R324). -/
def fits (marq : Bool) (w : Nat) (vs : List SpanIn) : Bool :=
  (List.range (lineBuf marq).2).any fun n => fitsIn (lineBuf marq).1 w (n + 1) vs

/-- The stripe-test entry of a VIDEO layer with descriptor `d`. -/
def spanOf (s : State) (k d : Nat) : Option SpanIn :=
  if dKind d = 0 then
    let r := srcRect d (sourceSize s (dSource d))
    some { k := k, ls := r.2.2.1, dx := dDst d 0, dy := dDst d 1, dw := dRect d 6, dh := dRect d 7 }
  else none

/-- R326: takes layers out, in the order given, until the rest fits; the keys taken. -/
def shed (marq : Bool) (w : Nat) : List Nat → List SpanIn → List Nat
  | [], _ => []
  | k :: ks, vs => if fits marq w vs then [] else k :: shed marq w ks (vs.filter fun v => v.k ≠ k)

/-! ## Readiness (R332 to R335) -/

/-- The descriptor a layer will have at the instant checked. -/
def descOf (s : State) (k : Nat) : Nat := (getLayer s k).ndesc.getD (getLayer s k).desc

/-- What a layer would show of a source: a stream's published picture, or a surface whose fence has reached its target;
none when it is not ready (R334). -/
def contentOf (s : State) (src f t : Nat) : Option Shown :=
  if hType src = 4 then
    let d := getDec s (liveKey s src)
    d.pub.map fun u => { src := src, surf := u, fv := d.fence }
  else if f = 0 ∨ t ≤ (fenceValue s f).getD 0 then some { src := src, surf := hIdx src }
  else none

/-- The verdict on a layer (R334): 0 idle, 1 flip with its content, 2 advance with its content, 3 stale, 5 late. A SOURCE
that the descriptor names and the layer does not show is no flip: the layer advances to it once it is ready, and is stale
before. -/
def verdict (s : State) (k : Nat) : Nat × Option Shown :=
  let l := getLayer s k
  let d := descOf s k
  match l.flip with
  | some f =>
    match contentOf s f.src f.fence f.target with
    | some c => (1, some c)
    | none => (5, none)
  | none =>
    match l.cur with
    | some c =>
      if c.src ≠ dSource d then
        match contentOf s (dSource d) (dFence d) (dTarget d) with
        | some n => (2, some n)
        | none => (3, none)
      else if hType c.src = 4 then
        match contentOf s c.src 0 0 with
        | some n => if n.fv = c.fv then (3, none) else (2, some n)
        | none => (3, none)
      else (0, none)
    | none =>
      match contentOf s (dSource d) (dFence d) (dTarget d) with
      | some n => (2, some n)
      | none => (3, none)

/-- The layers of a layout that will be ACTIVE at the instant checked, in ascending Z of the descriptors they will have. -/
def checkLayers (s : State) (y : Nat) : List Nat :=
  sortBy ((kids s 6 y).filter (willActive s)) fun a b => decide (dZ (descOf s a) ≤ dZ (descOf s b))

/-- Whether a glue-up group of a layout has a late member (R335). -/
def groupLate (s : State) (y g : Nat) : Bool :=
  g != 0 && (checkLayers s y).any fun k => dGlue (descOf s k) == g && (verdict s k).1 == 5

/-- A flip found ready for an instant that never came, since a step dropped it, is pending again. -/
def untake (s : State) (k : Nat) : State :=
  let l := getLayer s k
  match l.took with
  | none => s
  | some f => setLayer s k { l with flip := some (l.flip.getD f), took := none }

/-- The decision on a layer at the check, stored as its plan; `hold` says that its group is late. -/
def planLayer (s : State) (k : Nat) (hold : Bool) : State :=
  let l := getLayer s k
  let v := verdict s k
  let p := if hold then (3, none) else if v.1 = 5 then (3, none) else if v.1 = 0 then (4, none) else v
  setLayer s k (if p.1 = 1 then { l with plan := p.1, next := p.2, took := l.flip, flip := none }
    else { l with plan := p.1, next := p.2 })

/-- R326 at a check: the layers that show their stand-in because no stripe count fits. -/
def planSpans (y : Nat) (s : State) : State :=
  let w := yprm s y 1
  let ks := (checkLayers s y).filter fun k => !((getLayer s k).standin)
  let vs := ks.filterMap fun k => spanOf s k (descOf s k)
  let total (v : SpanIn) : Nat := spanIn v.ls v.dx v.dw 0 w
  let grown := sortBy (vs.filter fun v => (getLayer s v.k).span < total v) fun a b =>
    let ea := total a - (getLayer s a.k).span
    let eb := total b - (getLayer s b.k).span
    decide (eb < ea) || (ea == eb && decide (dZ (descOf s a.k) ≤ dZ (descOf s b.k)))
  let out := shed (isMarq s y) w (grown.map (·.k)) vs
  vs.foldl (fun s v =>
    let l := getLayer s v.k
    let over_ := out.contains v.k
    let tell := over_ && (match l.overAt with
      | none => true
      | some t => decide (t + 1000000000 ≤ now s))
    let s1 := setLayer s v.k { l with
      oversize := over_
      span := if over_ then l.span else total v
      overAt := if tell then some (now s) else l.overAt }
    if tell then emitObj s1 v.k 0x053 (toLe 4 (total v) ++ toLe 4 (lineBuf (isMarq s y)).1) else s1) s

/-- Marks the changes pending on an object for the instant `x` (R317). -/
def latchPend (x k : Nat) (s : State) : State :=
  updObj s k fun o => { o with pend := o.pend.map fun p => if p.due = 0 then { p with due := x } else p }

/-- Latches the descriptor change that waits on a layer (R317). -/
def latchDesc (s : State) (k : Nat) : State :=
  match getObj s k with
  | none => s
  | some o =>
    match (o.pend.filterMap fun p => match p.act with
      | .desc d => some d
      | _ => none).getLast? with
    | some d => setLayer s k { getLayer s k with ndesc := some d }
    | none => s

/-- The readiness check of layout `y` for instant `k` at PHC time `x` (R332). -/
def readiness (y k x : Nat) (s : State) : State :=
  let ls := kids s 6 y
  let s1 := ls.foldl (fun s o => latchPend x o s) s
  let s2 := ls.foldl untake (ls.foldl latchDesc s1)
  let s3 := (checkLayers s2 y).foldl (fun s k => planLayer s k (groupLate s2 y (dGlue (descOf s2 k)))) s2
  setLayout (planSpans y s3) y { getLayout s3 y with checked := some k }

/-- READINESS_CHECK (R332): layout `y`, 200 µs before its next instant. -/
def execReadinessCheck (y : Nat) (s : State) : Out :=
  onPart (decide (y < 512)) s fun s =>
    let y := okey 5 y
    let kx := (s.time.frames[layoutRate s y]?).getD (0, 0)
    guarded (willActive s y && decide (kx.2 ≤ phcNs s.time + 200000) && (getLayout s y).checked != some kx.1) s
      (readiness y kx.1 kx.2)

/-! ## Flips and stale runs (R336 to R338) -/

/-- Applies the plan of one layer at its instant. -/
def applyPlan (s : State) (k : Nat) : State :=
  let l0 := getLayer s k
  let l := { l0 with desc := l0.ndesc.getD l0.desc, ndesc := none }
  match l.plan with
  | 1 =>
    let old := (l.cur.map fun c => surfHandle s c.surf).getD 0
    let l1 := { l with
      desc := (l.took.map (flipDesc l.desc)).getD l.desc
      cur := l.next, took := none, stale := 0, standin := false, shownSt := 0, plan := 0, next := none }
    let s1 := setLayer s k l1
    let s2 := if dFlipEvent l1.desc then emitObj s1 k 0x050 (toLe 4 old) else s1
    if l.standin then emitObj s2 k 0x052 (toLe 4 l.shownSt) else s2
  | 2 =>
    let s1 := setLayer s k { l with cur := l.next, stale := 0, standin := false, shownSt := 0, plan := 0, next := none }
    if l.standin then emitObj s1 k 0x052 (toLe 4 l.shownSt) else s1
  | 3 =>
    let n := l.stale + 1
    let hit := !l.standin && dStaleLimit l.desc != 0 && decide (dStaleLimit l.desc ≤ n)
    let s1 := bumpObj (setLayer s k { l with stale := n, standin := l.standin || hit, plan := 0, next := none }) k .layerStaleFrames
    if hit then emitObj s1 k 0x051 (toLe 4 n) else s1
  | _ => setLayer s k { l with plan := 0, next := none }

/-- Whether a layer shows its stand-in. -/
def showsStandin (l : LayerDyn) : Bool := l.standin || l.oversize || l.cur.isNone

/-- Counts an instant at which a stand-in shows (R338). -/
def countStandin (s : State) (k : Nat) : State :=
  let l := getLayer s k
  if showsStandin l then bumpObj (setLayer s k { l with shownSt := l.shownSt + 1 }) k .layerStandinFrames else s

/-! ## The composed picture (R327 to R331) -/

/-- A loaded coefficient set; slot 0 is built in, and a slot nobody has loaded has open contents. -/
def coefSet (s : State) (cls dir slot t : Nat) : Option CoefSet :=
  if slot = 0 then none
  else
    let key := cls * 32 + dir * 16 + slot
    match Tab.get s.vid.coefs key with
    | some c => some c
    | none => some { part := 0, taps := t, coef := (List.range (64 * t)).map fun n => unloadedCoef key (n / t) (n % t) }

/-- A source sample at 10 bits; a tile that is poisoned or invalid reads as the stand-in colour (R311). -/
def sourceSample (u : Surf) (d c x y : Nat) : Nat :=
  let cx := if c = 0 then 1 else 2
  let tile := (y * cx / 4) * tilesX u.w + x * cx / 16
  if u.poison.contains tile then dStand d c
  else
    match surfSample u.mem u.fmt u.w u.h c x y with
    | some v => if fmtDepth u.fmt = 8 then v * 4 else v
    | none => dStand d c

/-- The view of a layer that shows a flat colour over its destination rectangle (R331). -/
def colourView (d : Nat) : LayerView :=
  { dx := dDst d 0, dy := dDst d 1, dw := dRect d 6, dh := dRect d 7, mode := 0, la := dAlpha d
    smp := fun c _ _ => dStand d c, alpha := fun _ _ => 4096 }

/-- The view of a surface placed unscaled at the destination origin (R331). -/
def placedView (d : Nat) (u : Surf) : LayerView :=
  { dx := dDst d 0, dy := dDst d 1, dw := min (dRect d 6) u.w, dh := min (dRect d 7) u.h, mode := 0, la := dAlpha d
    smp := fun c x y => sourceSample u d c x y, alpha := fun _ _ => 4096 }

/-- The view of a layer's own content (R315, R318 to R320, R329). -/
def contentView (s : State) (marq : Bool) (d : Nat) (u : Surf) : LayerView :=
  let r := srcRect d (u.w, u.h)
  let cls := b2n marq
  let tv := if marq then 6 else 4
  let cv := coefSet s cls 1 (dVc d) tv
  let ch := coefSet s cls 0 (dHc d) 8
  let fetch (c x y : Nat) : Nat :=
    let k := if c = 0 then 1 else 2
    sourceSample u d c (min (r.1 / k + x) (u.w / k - 1)) (min (r.2.1 / k + y) (u.h / k - 1))
  let smp (c x y : Nat) : Nat :=
    let k := if c = 0 then 1 else 2
    if dKind d = 0 then scaled cv ch tv 8 (r.2.2.1 / k) (dRect d 6 / k) (r.2.2.2 / k) (dRect d 7 / k) (fetch c) x y
    else fetch c x y
  let al (x y : Nat) : Nat :=
    if dAlphaMode d = 0 then 4096
    else
      match surfSample u.mem u.fmt u.w u.h 3 (min (r.1 + x) (u.w - 1)) (min (r.2.1 + y) (u.h - 1)) with
      | some a => alphaA (alpha12 (fmtDepth u.fmt) a)
      | none => 4096
  { dx := dDst d 0, dy := dDst d 1, dw := dRect d 6, dh := dRect d 7, mode := dAlphaMode d, la := dAlpha d
    smp := smp, alpha := al }

/-- The view of a layer: its content, or its stand-in. -/
def layerView (s : State) (marq : Bool) (l : LayerDyn) : LayerView :=
  let d := l.desc
  match (if showsStandin l then none else l.cur) with
  | some c =>
    match getSurf s c.surf with
    | some u => contentView s marq d u
    | none => colourView d
  | none =>
    if dStandSurf d then
      match getSurf s (hIdx (dStandIn d)) with
      | some u => if u.gen = hGen (dStandIn d) then placedView d u else colourView d
      | none => colourView d
    else colourView d

/-- Tiles of a surface that a composition finds poisoned or invalid (R311). -/
def badTiles (u : Surf) : Nat :=
  ((List.range (tilesY u.h)).flatMap fun ty => (List.range (tilesX u.w)).filter fun tx =>
    u.poison.contains (ty * tilesX u.w + tx) || (surfTile u.mem u.fmt u.w u.h false tx ty).isNone).length

/-- Counts the bad tiles of the layers shown (R311). -/
def countPoison (y : Nat) (s : State) : State :=
  (activeLayers s y).foldl (fun s k =>
    let l := getLayer s k
    let n := match (if showsStandin l then none else l.cur) with
      | some c => ((getSurf s c.surf).map badTiles).getD 0
      | none => 0
    if n = 0 then s
    else
      let s1 := bumpObj s k .compPoison n
      let yy := getLayout s1 y
      let tell := match yy.poisonAt with
        | none => true
        | some t => decide (t + 1000000000 ≤ now s1)
      if tell then
        emitObj (setLayout s1 y { yy with poison := 0, poisonAt := some (now s1) }) y 0x054 (toLe 8 (yy.poison + n))
      else setLayout s1 y { yy with poison := yy.poison + n }) s

/-- The background colour by component. -/
def bgColour (s : State) (y c : Nat) : Nat := ofldN s y (fk 0x09 5 c)

/-- The bytes of the composed surface of a layout now. -/
def composedBytes (y : Nat) (s : State) : Mem :=
  let w := yprm s y 1
  let h := yprm s y 2
  let f := if yprm s y 4 = 10 then 1 else 0
  let p := composed (isMarq s y) (yprm s y 4) ((activeLayers s y).map fun k => layerView s (isMarq s y) (getLayer s k)) (bgColour s y)
  putRows p f w h 0 (tilesY h) []

/-- Instance index of a layout among all compositors: 0 to 31 Inlay, 32 to 35 Marquetry. -/
def compIdx (s : State) (y : Nat) : Nat := (if isMarq s y then 32 else 0) + (getLayout s y).inst

/-- Starts the composition of a layout that is due (R340, R341). -/
def startComp (y : Nat) (s : State) : State :=
  let l := getLayout s y
  match l.due with
  | none => s
  | some j =>
    let s1 := countPoison y { s with vid := { s.vid with comps := Tab.set s.vid.comps (compIdx s y) y } }
    setLayout s1 y { getLayout s1 y with run := some j, due := none, bands := 0, work := composedBytes y s1 }

/-- What a layout does at its instant (R336 to R342): flips and stale runs, COMP_SKIPPED for a composition that never
started, and the composition of this instant; a fixed one starts at once, unless its instance still composes (R343). -/
def instantLayout (y k x : Nat) (s : State) : State :=
  let s0 := if (getLayout s y).checked = some k then s else readiness y k x s
  let s1 := (activeLayers s0 y).foldl (fun s l => countStandin (applyPlan s l) l) s0
  let l := getLayout s1 y
  let s2 := if l.due.isSome then bumpObj s1 y .compSkipped else s1
  let s3 := setLayout s2 y { getLayout s2 y with due := some { k := k, x := x, mt := wrap 64 ((x : Int) - s.time.eOff) } }
  if isFixed s3 y && !(Tab.has s3.vid.comps (compIdx s3 y)) then startComp y s3 else s3

/-- PHC time at which the next fixed window on an instance begins. -/
def nextFixedWindow (s : State) (inst : Nat) : Option Nat :=
  ((((objKeys s 5).filter fun y => isActive s y && isFixed s y && compIdx s y == inst).map fun y =>
    ((s.time.frames[layoutRate s y]?).map (·.2)).getD 0)).min?

/-- COMPOSITION_START (R341, R343): compositor `c` (0 to 31 Inlay, 32 to 35 Marquetry), when free, starts a fixed composition that
waited for it, else the floating composition of the earliest instant, if it ends before the next fixed window. -/
def execCompositionStart (c : Nat) (s : State) : Out :=
  onPart (decide (c < 36)) s fun s =>
    let ys := (objKeys s 5).filter fun y => compIdx s y == c && (getLayout s y).due.isSome
    let rank := fun (y : Nat) => if isFixed s y then 0 else ((getLayout s y).due.map (·.x)).getD 0
    let first := (sortBy ys fun a b => decide (rank a < rank b) || (rank a == rank b && decide (a ≤ b))).head?
    match first with
    | none => s
    | some y =>
      let room := isFixed s y || (match nextFixedWindow s c with
        | some w => decide (phcNs s.time + windowNs s y ≤ w)
        | none => true)
      guarded (!(Tab.has s.vid.comps c) && room) s (startComp y)

/-- Bands of a layout's output (R344). -/
def bandCount (s : State) (y : Nat) : Nat := ceilDiv (yprm s y 2) 16

/-! ## The display output -/

/-- A display field (Table 6-8). -/
def dispFld (s : State) (r e : Nat) : Nat := fldN s.vid.disp.fields (fk 0x11 r e)

/-- Changes the display. -/
def updDisp (s : State) (f : Disp → Disp) : State := { s with vid := { s.vid with disp := f s.vid.disp } }

/-- The layout on display: its key; 0 for none. -/
def dispLayout (s : State) : Nat := if dispFld s 0 0 = 0 then 0 else hKey (dispFld s 0 0)

/-- The end of a layout's composition `j` (R349). -/
def compEnd (y : Nat) (j : CompJob) (s : State) : State :=
  let l := getLayout s y
  let late := isFixed s y && decide (j.x + windowNs s y < phcNs s.time)
  let unseen := y == dispLayout s && s.vid.disp.link == 2 && (match l.last with
    | some p => s.vid.disp.shown != some p.k
    | none => false)
  let s1 := { s with vid := { s.vid with comps := Tab.del s.vid.comps (compIdx s y) } }
  let s2 := bumpObj (setLayout s1 y { l with run := none, out := l.work, work := [], last := some j }) y .compFrames
  let s3 := if unseen then updDisp s2 fun d => { d with ctrs := bump d.ctrs .dispSkip } else s2
  if late then promiseMiss y s3 else s3

/-- Writes DISPLAY_LINK (R353). -/
def linkEvent (s : State) : State :=
  emit .owner 0x056 (portHandle 20) (toLe 1 s.vid.disp.link ++ toLe 1 (dispFld s 1 0) ++ toLe 1 (dispFld s 2 0)) s

/-- HPD_RISE (R353): training begins; `edid` is what the sink's EDID reads over AUX. -/
def execHpdRise (edid : Bytes) (s : State) : Out :=
  live s (fun s => guarded (!s.vid.disp.hpd) s fun s =>
    linkEvent (updDisp s fun d => { d with hpd := true, link := 1, edid := edid }))

/-- HPD_FALL (R353): the output stops. -/
def execHpdFall (s : State) : Out :=
  live s (fun s => guarded s.vid.disp.hpd s fun s =>
    linkEvent (updDisp s fun d => { d with hpd := false, link := 0, edid := [], shown := none, frame := [] }))

/-- DISPLAY_TRAINING_DONE (R353): `ok` says whether training succeeded. -/
def execDisplayTrainingDone (ok : Bool) (s : State) : Out :=
  live s (fun s => guarded (s.vid.disp.link == 1) s fun s => linkEvent (updDisp s fun d => { d with link := if ok then 2 else 3 }))

/-- DISPLAY_VSYNC (R349 to R351): the VSYNC leading edge lies `e` ns after the nearest display frame instant. -/
def execDisplayVsync (e : Int) (s : State) : Out :=
  live s (fun s => guarded (s.vid.disp.link == 2 && dispLayout s != 0 && !s.time.stopped && !(s.dep.off.contains 14)) s fun s =>
    let y := dispLayout s
    let d := s.vid.disp
    let f : Int := framePeriod (layoutRate s y)
    let adj := -(clampI (e * 1000000 * 65536 / (8 * f)) (-500 * 65536) (500 * 65536))
    let inLock := decide (e.natAbs ≤ 1000)
    let good := if inLock then min 16 (d.good + 1) else 0
    let bad := if inLock then 0 else min 16 (d.bad + 1)
    let locked := if d.locked then bad ≠ 16 else good = 16
    let s1 := updDisp s fun d => { d with err := e, adj := adj, good := good, bad := bad, locked := locked }
    let s2 := if locked != d.locked then emit .owner 0x055 (portHandle 20) (toLe 4 (b2n locked) ++ toLeI 4 e) s1 else s1
    match (getLayout s2 y).last with
    | none => s2
    | some j =>
      if d.shown = some j.k then updDisp s2 fun d => { d with ctrs := bump d.ctrs .dispRepeat }
      else updDisp s2 fun d => { d with shown := some j.k, frame := (getLayout s2 y).out })

/-- Bits of a pixel on the link, by format (R347). -/
def linkBits (f : Nat) : Nat := if f = 0 ∨ f = 2 then 24 else if f = 4 then 20 else 30

/-- Whether the display fields keep the limits of R347, in units of 10 kbit/s. -/
def dispFits (s : State) (fs : Tab Int) (y : Nat) : Bool :=
  let v (r e : Nat) : Nat := fldN fs (fk 0x11 r e)
  let ht := yprm s y 1 + v 4 0 + v 4 1 + v 4 2
  let vt := yprm s y 2 + v 5 0 + v 5 1 + v 5 2
  let rt := rateOf (layoutRate s y)
  let link := ([162, 270, 540, 810][v 2 0]?).getD 810
  decide (ht * vt * rt.1 ≤ 600000000 * rt.2) &&
    decide (ht * vt * rt.1 * linkBits (v 3 0) * 10 ≤ 8 * v 1 0 * link * 10000000 * rt.2)

/-- DISPLAY_CONFIG (R346 to R348). -/
def bodyDisplayConfig : Body := fun F p _ s =>
  let es := entries p 8 (le p 6 2)
  let fs := applyEntries s.vid.disp.fields es
  let h := fldN fs (fk 0x11 0 0)
  let k := if h = 0 then some 0 else resolve s F 5 h
  checked (entryChecks es (fun k => fTable k == 0x11) ++
    [(k.isSome, .badHandle),
     (match k with
      | some 0 => true
      | some y => isMarq s y && dispFits s fs y
      | none => true, .outOfRange),
     (match k with
      | some 0 => true
      | some y => (getLayout s y).inst == 3 || (dispLayout s == 0 && !(isFixed s y))
      | none => true, .busy)]) fun _ =>
    let y := k.getD 0
    let s1 := if y = 0 then s else setLayout s y { getLayout s y with inst := 3 }
    let moved := dispLayout s ≠ y
    .ok [] 0 (updDisp s1 fun d => { d with
      fields := fs
      shown := if moved then none else d.shown
      frame := if moved then [] else d.frame })

/-- DISPLAY_EDID (R353): the sink's EDID is written to ADDR. -/
def bodyDisplayEdid : Body := fun F p _ s =>
  let d := s.vid.disp
  checked [(d.hpd, .badState)] fun _ =>
    if !(inWindow (getFn s F) (le p 0 8) d.edid.length true) then .dma (le p 0 8) d.edid.length 1
    else .ok (toLe 4 d.edid.length) 0 (updFn s F fun f => { f with lastWr := some (le p 0 8, d.edid) })

/-- DISPLAY_CONFIG. -/
def execDisplayConfig (src : Src) (s : State) : Out := serve 0x030A src [] bodyDisplayConfig s
/-- DISPLAY_EDID. -/
def execDisplayEdid (src : Src) (s : State) : Out := serve 0x030B src [] bodyDisplayEdid s

/-! ## Coefficient sets (R321, R322) -/

/-- One bit of the CRC-32 of IEEE 802.3, reflected. -/
def crcBit (c : Nat) : Nat := if c % 2 = 1 then (c / 2) ^^^ 0xEDB88320 else c / 2

/-- One byte of the CRC. -/
def crcByte (c : Nat) (b : Byte) : Nat := (List.range 8).foldl (fun c _ => crcBit c) (c ^^^ b.toNat)

/-- CRC-32 of a byte string. -/
def crc32 (b : Bytes) : Nat := (b.foldl crcByte 0xFFFFFFFF) ^^^ 0xFFFFFFFF

/-- The coefficients of an image (Table 6-6). -/
def coefList (d : Bytes) (n : Nat) : List Int := (List.range n).map fun i => signed 16 (le d (8 + 2 * i) 2)

/-- Whether a layer that is not FREE names a coefficient slot. -/
def coefNamed (s : State) (cls dir slot : Nat) : Bool :=
  s.obj.layers.any fun e => Tab.has s.obj.objs e.1 && b2n (isMarq s (parentKey s e.1)) == cls &&
    (if dir = 0 then dHc e.2.desc == slot else dVc e.2.desc == slot)

/-- COEF_LOAD: `d` is the set as read from ADDR. -/
def bodyCoefLoad : Body := fun F p d s =>
  let cls := le p 0 1
  let dir := le p 1 1
  let slot := le p 2 1
  let addr := le p 8 8
  let n := le p 16 4
  let t := if dir = 0 then 8 else if cls = 0 then 4 else 6
  let key := cls * 32 + dir * 16 + slot
  match (getFn s F).part with
  | none => .no .unassigned []
  | some pt =>
    let own := Tab.get s.vid.coefs key
    let held := (s.vid.coefs.filter fun e => e.2.part = pt).length
    let cs := coefList d (64 * t)
    let sums := (List.range 64).all fun ph => ((cs.drop (ph * t)).take t).sum == 256
    let dmaOk := inWindow (getFn s F) addr n false
    checked [(decide (cls ≤ 1) && decide (dir ≤ 1) && decide (1 ≤ slot) && decide (slot ≤ 15)
              && decide (n = 8 + 128 * t), .outOfRange),
             (!dmaOk || (le d 0 1 == t && le d 1 1 == dir && le d 2 1 == cls && le d 3 1 == 0
              && decide (d.length = n) && le d 4 4 == crc32 (d.drop 8) && cs.all (fun c => -512 ≤ c && decide (c ≤ 511)) && sums), .outOfRange),
             (!(coefNamed s cls dir slot) && (own.map fun c => c.part == pt).getD true, .inUse),
             (own.isSome || decide (held < quota s pt 4 1), .noResource)] fun _ =>
      if dmaOk then .ok [] 0 { s with vid := { s.vid with coefs := Tab.set s.vid.coefs key { part := pt, taps := t, coef := cs } } }
      else .dma addr n 0

/-- COEF_UNLOAD. -/
def bodyCoefUnload : Body := fun F p _ s =>
  let cls := le p 0 1
  let dir := le p 1 1
  let slot := le p 2 1
  let key := cls * 32 + dir * 16 + slot
  match (getFn s F).part with
  | none => .no .unassigned []
  | some pt =>
    checked [(((Tab.get s.vid.coefs key).map fun c => c.part == pt).getD false, .badHandle),
             (!(coefNamed s cls dir slot), .inUse)] fun _ =>
      .ok [] 0 { s with vid := { s.vid with coefs := Tab.del s.vid.coefs key } }

/-- COEF_LOAD. -/
def execCoefLoad (src : Src) (dma : Bytes) (s : State) : Out := serve 0x0706 src dma bodyCoefLoad s
/-- COEF_UNLOAD. -/
def execCoefUnload (src : Src) (s : State) : Out := serve 0x0707 src [] bodyCoefUnload s

/-! ## Descriptor checks (R314, R316, R325) -/

/-- Whether a scale ratio lies between 4:1 down and 1:8 up. -/
def ratioOk (ls ld : Nat) : Bool := decide (ls ≤ 4 * ld) && decide (ld ≤ 8 * ls)

/-- The checks of one descriptor (R314) on a layout. -/
def descOk (s : State) (y d : Nat) : Bool :=
  let r := srcRect d (sourceSize s (dSource d))
  let even := (List.range 8).all fun n => dRect d n % 2 == 0
  let size := dFull d || (dRect d 2 != 0 && dRect d 3 != 0)
  let src := getSurf s (hIdx (dSource d))
  even && size && decide (dKind d ≤ 1) && decide (dAlphaMode d ≤ 2) && decide (dAlpha d ≤ 256) &&
    (dKind d != 1 || (dRect d 6 == r.2.2.1 && dRect d 7 == r.2.2.2 && hType (dSource d) != 4)) &&
    (dKind d != 0 || (dAlphaMode d == 0 && ratioOk r.2.2.1 (dRect d 6) && ratioOk r.2.2.2 (dRect d 7))) &&
    (isMarq s y || dAlphaMode d == 0) &&
    (dAlphaMode d == 0 || ((src.map fun u => fmtAlpha u.fmt).getD false))

/-- Source luma samples that the VIDEO layers of a list read. -/
def videoSamples (s : State) (ds : List Nat) : Nat :=
  (ds.map fun d => if dKind d = 0 then
    let r := srcRect d (sourceSize s (dSource d))
    r.2.2.1 * r.2.2.2 else 0).sum

/-- The checks over a whole layout (R314, R325): samples read, stripes; `ds` are the descriptors by layer. -/
def layoutFits (s : State) (y : Nat) (ds : List (Nat × Nat)) : Bool :=
  decide (videoSamples s (ds.map (·.2)) ≤ 4 * yprm s y 1 * yprm s y 2) &&
    fits (isMarq s y) (yprm s y 1) (ds.filterMap fun e => spanOf s e.1 e.2)

/-- The latest descriptor of a layer: a flip that waits or was found ready, a change that waits, or the one in force. -/
def latestDesc (s : State) (k : Nat) : Nat :=
  let s1 := latchDesc s k
  let d := descOf s1 k
  let l := getLayer s k
  match l.flip, l.took with
  | some f, _ => flipDesc d f
  | none, some f => flipDesc d f
  | none, none => d

/-- The descriptors of a layout's layers, with some replaced. -/
def descsWith (s : State) (y : Nat) (new_ : List (Nat × Nat)) : List (Nat × Nat) :=
  ((kids s 6 y).map fun k => (k, ((new_.find? fun e => e.1 = k).map (·.2)).getD (latestDesc s k)))
    ++ new_.filter fun e => !((kids s 6 y).contains e.1)

/-- Whether the objects a descriptor names exist in partition `p` (R316). -/
def namesOk (s : State) (p d : Nat) : Bool :=
  ((surfIn s p (dSource d)).isSome || (streamIn s p (dSource d)).isSome) &&
    (dFence d == 0 || fenceOk s p (dFence d)) &&
    (!(dStandSurf d) || (surfIn s p (dStandIn d)).isSome)

/-- One item of a LAYER_FLIP. -/
def flipItem (p : Bytes) (o : Nat) : Flip :=
  { src := le p (o + 4) 4, fence := le p (o + 8) 4, target := le p (o + 16) 8
    rect := (List.range 8).map fun n => le p (o + 24 + 2 * n) 2 }

/-- LAYER_FLIP (R333). -/
def bodyLayerFlip : Body := fun F p _ s =>
  let n := le p 0 1
  let items := (List.range n).map fun j => (resolve s F 6 (le p (8 + 40 * j) 4), flipItem p (8 + 40 * j), le p (8 + 40 * j + 12) 4)
  let ks := items.filterMap (·.1)
  let y := parentKey s (ks.headD 0)
  let part := ((getObj s (ks.headD 0)).map (·.part)).getD 0
  let news := items.filterMap fun e => e.1.map fun k => (k, flipDesc (descOf (latchDesc s k) k) e.2.1)
  checked [(items.all fun e => e.2.2 == 0, .unsupportedField),
           (decide (ks.length = n), .badHandle),
           (items.all fun e => ((surfIn s part e.2.1.src).isSome || (streamIn s part e.2.1.src).isSome)
              && (e.2.1.fence == 0 || fenceOk s part e.2.1.fence), .badHandle),
           (decide (1 ≤ n) && decide (n ≤ 8) && ks.all (fun k => parentKey s k == y) && decide ks.Nodup, .outOfRange),
           (news.all (fun e => descOk s y e.2) && layoutFits s y (descsWith s y news), .outOfRange)] fun _ =>
    .ok [] 0 (items.foldl (fun s e =>
      match e.1 with
      | none => s
      | some k =>
        let l := getLayer s k
        let s1 := if l.flip.isSome then bumpObj s k .flipReplaced else s
        setLayer s1 k { l with flip := some e.2.1 }) s)

/-- LAYER_FLIP. -/
def execLayerFlip (src : Src) (s : State) : Out := serve 0x0806 src [] bodyLayerFlip s

/-! ## Surfaces and fences (Table 15-16) -/

/-- Whether a format value is a clip (Table 15-16). -/
def isClip (f : Nat) : Bool := f == 0x10 || f == 0x11

/-- SIZE of a surface in bytes; a clip holds `w` samples of 16 or 24 bits. -/
def surfSize (u : Surf) : Nat := if isClip u.fmt then u.w * (if u.fmt = 0x10 then 2 else 3) else surfBytes u.fmt u.w u.h

/-- Surfaces of a partition, and the bytes they take. -/
def partSurfs (s : State) (p : Nat) : List Surf := (s.vid.surfs.filter fun e => e.2.part = p).map (·.2)

/-- The surface index a handle names for a function. -/
def resolveSurf (s : State) (F h : Nat) : Option Nat :=
  if hType h = 8 then
    (getSurf s (hIdx h)).bind fun u => if u.gen = hGen h && sees s F u.part then some (hIdx h) else none
  else none

/-- The partition a command acts on: 0 stands for the issuer's own (R729, R745). -/
def partOr (s : State) (F h : Nat) : Except Status Nat :=
  if h = 0 then
    match (getFn s F).part with
    | some p => .ok p
    | none => .error .unassigned
  else
    match resolvePart s h with
    | some p => if sees s F p then .ok p else .error .badHandle
    | none => .error .badHandle

end Sys2Proof.Machine
end

