-- ==== Sys2Proof/Machine/Encoder.lean ====
section
/-!
DEFINITION. Tenon encoding (chapter 7): scalability (R358, R359), search groups (R376, R377), refresh cycles (R383 to
R389), rate control (R390 to R398), the release of a rung's packets (R373, R374, R723), and the engines' choice of work
(R274, R371).
-/

namespace Sys2Proof.Machine

open Sys2Proof

/-- A rung field (Table 7-4). -/
def rprm (s : State) (r n : Nat) : Nat := ofldN s r (fk 0x0A n 0)

/-- WIDTH and HEIGHT of a rung; 0 stands for the layout's size. -/
def rungW (s : State) (r : Nat) : Nat := if rprm s r 3 = 0 then yprm s (parentKey s r) 1 else rprm s r 3
/-- HEIGHT. -/
def rungH (s : State) (r : Nat) : Nat := if rprm s r 4 = 0 then yprm s (parentKey s r) 2 else rprm s r 4

/-- Spatial layers of a mode (Table 7-3). -/
def spatial (mode : Nat) : Nat := if mode = 3 then 2 else if mode = 4 then 3 else 1

/-- PATTERN of a mode (Table 7-3). -/
def pattern (mode : Nat) : List Nat := if mode = 0 then [0, 0, 0, 0] else if mode = 1 then [0, 1, 0, 1] else [0, 2, 1, 2]

/-- TID of the picture of instant `k` (R358). -/
def tidOf (s : State) (r k : Nat) : Nat := ((pattern (rprm s r 6))[k / max 1 (rprm s r 5) % 4]?).getD 0

/-- Block unit U and refresh guard G of a codec (Table 7-1). -/
def unitOf (codec : Nat) : Nat × Nat := if codec = 0 then (16, 8) else if codec = 1 then (32, 8) else (64, 16)

/-- RES_FIRST, RES_LATER and RES_FLAT of a codec (Table 7-7). -/
def reserves (codec : Nat) : Nat × Nat × Nat :=
  if codec = 0 then (24, 1, 16) else if codec = 1 then (40, 1, 32) else (48, 2, 48)

/-- Size of spatial layer `n` of `S` (R359). -/
def layerSize (w h S n : Nat) : Nat × Nat := (w / 2 ^ (S - 1 - n), h / 2 ^ (S - 1 - n))

/-- The spatial layers of a rung: width, height, block columns, block rows. -/
def rungLayers (s : State) (r : Nat) : List (Nat × Nat × Nat × Nat) :=
  let S := spatial (rprm s r 6)
  let u := (unitOf (rprm s r 0)).1
  (List.range S).map fun n =>
    let z := layerSize (rungW s r) (rungH s r) S n
    (z.1, z.2, ceilDiv z.1 u, ceilDiv z.2 u)

/-- Luma samples of a temporal unit. -/
def unitSamples (ls : List (Nat × Nat × Nat × Nat)) : Nat := (ls.map fun l => l.1 * l.2.1).sum

/-- C_MIN of a rung in bits (R396). -/
def cMin (codec : Nat) (ls : List (Nat × Nat × Nat × Nat)) : Nat :=
  let v := reserves codec
  (ls.map fun l => 64 + l.2.2.1 * v.1 + (l.2.2.1 * l.2.2.2 - l.2.2.1) * v.2.2).sum

/-- Luma samples of the intermediate pictures of the input scaler for a layer (R366, R399). -/
def interSamples (W H wl hl : Nat) : Nat :=
  if W = wl ∧ H = hl then 0
  else
    let nx := passes W wl
    let ny := passes H hl
    let n := max 1 (max nx ny)
    ((List.range (n - 1)).map fun i => 4 ^ (nx - (i + 1)) * wl * (4 ^ (ny - (i + 1)) * hl)).sum

/-- The search group of a rung: ACTIVE rungs of its layout that share its search, itself among them (R376). -/
def searchGroup (s : State) (r : Nat) : List Nat :=
  if rprm s r 7 = 0 then [r]
  else (kids s 7 (parentKey s r)).filter fun q =>
    q == r || (isActive s q && rprm s q 7 == 1 && rprm s q 5 == rprm s r 5 && pattern (rprm s q 6) == pattern (rprm s r 6))

/-- The order of a search group: most luma samples of the top layer first, then the lower index (R371, R376). -/
def rungBefore (s : State) (a b : Nat) : Bool :=
  let pa := rungW s a * rungH s a
  let pb := rungW s b * rungH s b
  decide (pb < pa) || (pa == pb && decide (a ≤ b))

/-- The top rung of a rung's search group (R376). -/
def topRung (s : State) (r : Nat) : Nat := (sortBy (searchGroup s r) (rungBefore s)).headD r

/-- E_r of R399 in ns, rounded up, as the top rung of a search group or as another. -/
def encodeCostAs (s : State) (r : Nat) (top : Bool) : Nat :=
  let ls := rungLayers s r
  let y := parentKey s r
  let p := unitSamples ls + (ls.map fun l => interSamples (yprm s y 1) (yprm s y 2) l.1 l.2.1).sum
  let rate := if rprm s r 0 = 2 then 1200 else 1600
  let search := if top then rungW s r * rungH s r * 20 else 0
  max (ceilDiv (800000 + search + p * 46) 100) (8000 + ceilDiv (search * rate + 8 * rprm s r 11 * 100000) (100 * rate))

/-- E_r of R399. -/
def encodeCost (s : State) (r : Nat) : Nat := encodeCostAs s r (topRung s r == r)

/-! ## Contexts (R365, R368) -/

/-- Creates the reconstruction surfaces of a rung, three for each spatial layer. -/
def reconSurfs (part f r : Nat) : List (Nat × Nat × Nat × Nat) → State → Option (List Nat × State)
  | [], s => some ([], s)
  | l :: ls, s =>
    (newSurfs part f l.1 l.2.1 r 3 s).bind fun a => (reconSurfs part f r ls a.2).map fun b => (a.1 ++ b.1, b.2)

/-- Creates the reconstruction surfaces of a rung whose first activation is accepted (R365). -/
def allotEncoder (r : Nat) (s : State) : Option State :=
  match getObj s r with
  | none => none
  | some o =>
    (reconSurfs o.part (if rprm s r 2 = 10 then 1 else 0) r (rungLayers s r) s).map fun a => setRung a.2 r { surfs := a.1 }

/-- Binds an encoder context to a rung when it first becomes ACTIVE: engine `e`. -/
def bindEncoder (r e : Nat) (s : State) : State :=
  setRung s r { st := 1, engine := e, surfs := (getRung s r).surfs, target := rprm s r 9 }

/-- Releases the context and its surfaces. -/
def unbindEncoder (r : Nat) (s : State) : State := setRung (freeSurfs (getRung s r).surfs s) r {}

/-! ## Eligibility (R369 to R372) -/

/-- The picture of a rung becomes eligible at its engine; an older one that has not started is replaced (R372). -/
def makeReady (r : Nat) (p : RungPic) (s : State) : State :=
  let d := getRung s r
  let t := now s
  let y := parentKey s r
  let f := framePeriod (layoutRate s y)
  let fx := isFixed s r
  let dead := if fx then p.mt + f / 2 else p.mt + rprm s r 5 * f
  let s1 := if d.wait.isSome then
      bumpObj (dropItems d.engine (fun i => i.enc && i.k == r) s) r .encSkipped
    else s
  let s2 := setRung s1 r { getRung s1 r with wait := some { p with elig := some t } }
  updEng s2 d.engine fun g => { g with
    ready := g.ready ++ [{ enc := true, k := r, id := p.k, elig := t, dead := dead, fixed := fx }] }

/-- The rungs of a layout that code the picture of instant `k` (R369). -/
def rungsAt (s : State) (y k : Nat) : List Nat :=
  (kids s 7 y).filter fun r => isActive s r && k % max 1 (rprm s r 5) == 0 && (getRung s r).st != 0

/-- The pictures of a composition become eligible: all of them, or those of the fixed class alone (R370). A floating
picture whose group's top rung runs on another engine waits for it. -/
def rungsReady (y : Nat) (j : CompJob) (fixed : Bool) (s : State) : State :=
  ((rungsAt s y j.k).filter fun r => isFixed s r == fixed).foldl (fun s r =>
    let p : RungPic := { k := j.k, mt := j.mt, tid := tidOf s r j.k }
    let top := topRung s r
    if !fixed && top != r && (getRung s top).engine != (getRung s r).engine then
      let s1 := if (getRung s r).wait.isSome then
          bumpObj (dropItems (getRung s r).engine (fun i => i.enc && i.k == r) s) r .encSkipped else s
      setRung s1 r { getRung s1 r with wait := some p }
    else makeReady r p s) s

/-- Counts the pictures that a skipped composition takes from its rungs (R369). -/
def skipRungs (y k : Nat) (s : State) : State := (rungsAt s y k).foldl (fun s r => bumpObj s r .encSkipped) s

/-- The rungs' side of a forward step: pictures of dropped instants (R369). -/
def stepRungs (T T' : Nat) (s : State) : State :=
  (objKeys s 5).foldl (fun s y =>
    let rr := layoutRate s y
    let a := (nextFrameInstant rr (T + 1)).1
    let b := (nextFrameInstant rr (T' + 1)).1
    (kids s 7 y).foldl (fun s r =>
      let v := max 1 (rprm s r 5)
      if isActive s r && isActive s y then bumpObj s r .encSkipped (ceilDiv b v - ceilDiv a v) else s) s) s

/-- BAND_HANDOFF (R344, R370): the next band of layout `y` is handed to its rungs. -/
def execBandHandoff (y : Nat) (s : State) : Out :=
  onPart (decide (y < 512)) s fun s =>
    let y := okey 5 y
    let l := getLayout s y
    match l.run with
    | none => s
    | some j =>
      guarded (decide (l.bands < bandCount s y)) s fun s =>
        let s1 := setLayout s y { l with bands := l.bands + 1 }
        if l.bands = 0 then rungsReady y j true s1 else s1

/-- COMPOSITION_COMPLETE (R349, R370): the composition of layout `y` is complete once every band is handed over. -/
def execCompositionComplete (y : Nat) (s : State) : Out :=
  onPart (decide (y < 512)) s fun s =>
    let y := okey 5 y
    let l := getLayout s y
    match l.run with
    | none => s
    | some j => guarded (decide (bandCount s y ≤ l.bands)) s fun s => rungsReady y j false (compEnd y j s)

/-! ## Engines (R274, R371, R383, R389) -/

/-- What the next picture of a rung is: 3 a key picture that is a refresh cycle of an AV1 rung, 2 another key picture,
1 the start of a refresh cycle, 0 none of these (R383, R389). -/
def whatNext (s : State) (r tid : Nat) : Nat :=
  let d := getRung s r
  let n := rprm s r 16
  if d.st = 1 ∨ d.cycReq = 3 then 2
  else if d.cycReq = 2 ∧ tid = 0 then 3
  else if tid = 0 ∧ (d.cycReq = 1 ∨ (n ≠ 0 ∧ n ≤ d.since)) then 1
  else 0

/-- The composed picture of instant `k` of a layout. -/
def composedOf (s : State) (y k : Nat) : Mem :=
  let l := getLayout s y
  if (l.run.map (·.k)) = some k then l.work else l.out

/-- An engine takes a rung's waiting picture: what it is, its target rate and its source are fixed now (R222). -/
def takePicture (r : Nat) (s : State) : State :=
  let d := getRung s r
  match d.wait with
  | none => s
  | some p =>
    let w := whatNext s r p.tid
    setRung s r { d with
      wait := none
      run := some { p with
        what := w, tid := if 2 ≤ w then 0 else p.tid, t := d.target, src := composedOf s (parentKey s r) p.k }
      cycReq := if w = 0 then d.cycReq else 0 }

/-- Puts an item on an engine. -/
def startItem (e : Nat) (i : EngItem) (s : State) : State :=
  let s1 := updEng s e fun g => { g with run := some i, startAt := s.time.ticks, lastK := i.k }
  if i.enc then takePicture i.k s1 else s1

/-- Whether an engine holds a fixed reservation. -/
def engineShared (s : State) (e : Nat) : Bool :=
  s.obj.objs.any fun o => (o.2.resv ++ o.2.resvNew).any fun r => r.code == 1 && r.inst == e

/-- Worst-case time of one frame of a stream or rung on an engine, at the engines' clock (R277, R399, R781). -/
def frameTime (s : State) (k : Nat) : Nat :=
  scaleNs s 3 (if k / 1048576 = 7 then encodeCost s k else decodeCost s k)

/-- What R48 takes as one frame of a floating stream or rung on engine `e`: for a rung, its pictures and those of the other
floating rungs of its search group that the engine holds, since they run one after another (R371). -/
def runTime (s : State) (e k : Nat) : Nat :=
  if k / 1048576 = 7 then
    (((searchGroup s k).filter fun q => q == k || (!(isFixed s q) && (getRung s q).engine == e)).map (frameTime s)).sum
  else frameTime s k

/-- Whether engine `e` may run the context of a stream or rung: beside fixed work, a floating context takes at most B_NP
(R48). -/
def mayRun (s : State) (e k : Nat) : Bool :=
  isFixed s k || !(engineShared s e) || decide (runTime s e k ≤ bNpNow s)

/-- ENGINE_PICK (R48, R274, R275, R371): engine `e`, when free, starts the next item: the rest of a search group's pictures
of one instant, else the ready item that goes first. -/
def execEnginePick (e : Nat) (s : State) : Out :=
  onPart (decide (e < 16)) s fun s =>
    let g := getEng s e
    guarded (g.run.isNone && g.resetTo.isNone && !(s.dep.removed.contains (0, e))) s fun s =>
      match g.chain with
      | i :: c => startItem e i (setEng s e { g with chain := c })
      | [] =>
        match pickItem (sortBy (g.ready.filter fun i => mayRun s e i.k) itemBefore) s with
        | (none, s1) => s1
        | (some i, s1) =>
          let grp := searchGroup s i.k
          let mates := if i.enc then g.ready.filter fun j => j.enc && j.k != i.k && j.id == i.id && grp.contains j.k else []
          let run_ := sortBy (i :: mates) fun a b => !i.enc || rungBefore s a.k b.k
          startItem e (run_.headD i) (updEng s1 e fun g => { g with
            ready := g.ready.filter fun j => !(run_.contains j), chain := run_.drop 1 })

/-! ## Refresh cycles (R384 to R386) -/

/-- b_i of a layer with `C` columns (R384). -/
def bandAt (C N k : Nat) : Nat := k * C / max 1 N

/-- The refresh position a picture is coded under: whether a cycle covers it, and the index i of its latest TID 0
picture (R384, R385). -/
def cycleAt (d : RungDyn) (p : RungPic) : Option Nat :=
  if 2 ≤ p.what then none
  else if p.what = 1 then some 0
  else if d.st = 3 then (if p.tid = 0 then some d.pos else if d.pos = 0 then none else some (d.pos - 1))
  else none

/-- Whether block column `c` of a layer is in the intra set of a picture (R384). -/
def inIntra (C N : Nat) (tid : Nat) (cyc : Option Nat) (c : Nat) : Bool :=
  match cyc with
  | none => false
  | some n =>
    let b := bandAt C N n
    let b' := bandAt C N (n + 1)
    tid == 0 && decide (b < b') && decide (b - 1 ≤ c) && decide (c < b')

/-- E after TID 0 picture `n` (R385). -/
def cleanEdge (U G C N n : Nat) (w : Nat) : Nat := if bandAt C N (n + 1) = C then w else U * bandAt C N (n + 1) - G

/-- Whether the zero vector of a block column left of the band reads a sample that is not usable (R385, R396). -/
def unusable (U G C N w : Nat) (tid : Nat) (cyc : Option Nat) (c : Nat) : Bool :=
  match cyc with
  | none => false
  | some n =>
    let edge := if tid = 0 then (if n = 0 then 0 else cleanEdge U G C N (n - 1) w) else cleanEdge U G C N n w
    decide (c < bandAt C N n) && decide (edge < min w (U * (c + 1)))

/-! ## Search and complexity (R377, R392) -/

/-- Luma rows of a picture at 8 bits (R377). -/
def lumaRows (w h depth : Nat) (p : Samples) : Rows :=
  (List.range h).map fun y => (List.range w).map fun x => if depth = 10 then min 255 ((p 0 x y + 2) / 4) else p 0 x y

/-- The composed picture as samples. -/
def composedSamples (s : State) (y : Nat) (m : Mem) : Samples :=
  let f := if yprm s y 4 = 10 then 1 else 0
  fun c px py => (surfSample m f (yprm s y 1) (yprm s y 2) c px py).getD 0

/-- The input picture of a layer of a rung (R366). -/
def layerInput (s : State) (r : Nat) (m : Mem) (wl hl : Nat) : Samples :=
  let y := parentKey s r
  rungInput (coefSet s 0 1 (rprm s r 8) 4) (yprm s y 1) (yprm s y 2) (yprm s y 4) wl hl (rprm s r 2) (composedSamples s y m)

/-- The level-Q pyramid of a rung's input (R377). -/
def pyramid (s : State) (r : Nat) (m : Mem) : Rows :=
  halve (halve (lumaRows (rungW s r) (rungH s r) (rprm s r 2) (layerInput s r m (rungW s r) (rungH s r))))

/-- The level-Q pyramid that a picture of layer `tid` at instant `k` searches (R359, R377). -/
def refPyramid (d : RungDyn) (k tid : Nat) : Option Rows :=
  (d.pyr.find? fun e => e.1 != k && (decide (e.2.1 < tid) || (tid == 0 && e.2.1 == 0))).map (·.2.2)

/-- One block of a temporal unit: its block row counted over all layers, its column, the columns of its layer, whether
it is of the intra set (every block of an all-intra picture is), whether it is coded intra, and whether its fill form is a
flat block. -/
structure Blk where
  row   : Nat
  col   : Nat
  C     : Nat
  set   : Bool
  intra : Bool
  flat  : Bool

/-- The blocks of a temporal unit in coding order (R394): `all` codes everything intra, `rep` are repaired blocks. -/
def unitBlocks (U G N tid : Nat) (cyc : Option Nat) (all : Bool) (rep : List Nat) :
    Nat → Nat → List (Nat × Nat × Nat × Nat) → List Blk
  | _, _, [] => []
  | row, num, (w, _, C, R) :: ls =>
    ((List.range R).flatMap fun j => (List.range C).map fun c =>
      let set := all || inIntra C N tid cyc c
      { row := row + j, col := c, C := C, set := set, intra := set || rep.contains (num + j * C + c)
        flat := set || unusable U G C N w tid cyc c }) ++
    unitBlocks U G N tid cyc all rep (row + R) (num + R * C) ls

/-- The complexity of block row `j` of one layer, whose first row is `row0` (R392). -/
def rowCx (cur : Rows) (ref : Option Rows) (wt ht : Nat) (l : Nat × Nat × Nat × Nat) (U row0 : Nat) (bs : List Blk)
    (j : Nat) : Nat :=
  let nx := ceilDiv wt 32
  let ny := ceilDiv ht 32
  1 + ((List.range ny).map fun by_ => ((List.range nx).map fun bx =>
    let cy := min (l.2.2.2 - 1) ((32 * by_ + 16) * l.2.1 / ht / U)
    let cx := min (l.2.2.1 - 1) ((32 * bx + 16) * l.1 / wt / U)
    if cy = j then
      let intra := (bs.find? fun b => b.row == row0 + j && b.col == cx).map (·.intra)
      blockCx cur ref bx by_ (intra.getD false)
    else 0).sum).sum

/-- cx_j of every block row of a temporal unit. -/
def unitCx (cur : Rows) (ref : Option Rows) (wt ht U : Nat) (bs : List Blk) : Nat → List (Nat × Nat × Nat × Nat) → List Nat
  | _, [] => []
  | row0, l :: ls => (List.range l.2.2.2).map (rowCx cur ref wt ht l U row0 bs) ++ unitCx cur ref wt ht U bs (row0 + l.2.2.2) ls

/-! ## Rate control -/

/-- 64 * log2(n / d), rounded to the nearest integer (R393). -/
def log64 (n d : Nat) : Int :=
  let a := max 1 n ^ 128
  let b := max 1 d ^ 128
  let l : Int := if b ≤ a then (Nat.log2 (a / b) : Nat) else -((Nat.log2 ((b - 1) / a) + 1 : Nat) : Int)
  (l + 1) / 2

/-- round(6 * v) of a logarithm in 1/64 (R393). -/
def round6 (l : Int) : Int := (6 * l + 32) / 64

/-- w[tid] in 1/64 (R390). -/
def tidWeight (mode tid : Nat) : Nat :=
  if mode = 0 then 64 else if mode = 1 then (if tid = 0 then 85 else 43) else (if tid = 0 then 128 else if tid = 1 then 64 else 32)

/-- Buffer, cap and budget of a picture (R390). -/
def budgetOf (d : RungDyn) (p : RungPic) (mode div num den bufMs maxBytes cmin : Nat) : Nat × Nat × Nat :=
  let b := match d.prevMt with
    | some m => d.b - p.t * (p.mt - m) / 1000000000
    | none => d.b
  let bufsz := p.t * bufMs / 1000
  let base := p.t * div * den / num
  let bp0 := if 2 ≤ p.what then 4 * base else base * tidWeight mode p.tid / 64
  let bp := max (bp0 / 8) (bp0 - b / 8 - d.carry)
  let cap := min (8 * maxBytes) (max cmin (bufsz - b))
  (b, cap, min bp cap)

/-- qp_pic (R393). -/
def qpPic (d : RungDyn) (p : RungPic) (P budget cx lo hi : Nat) : Nat :=
  let q : Int := match (if 2 ≤ p.what then none else Tab.get d.stats p.tid) with
    | none => 30 + round6 (log64 P (8 * budget))
    | some t => clampI (t.qp + round6 (log64 (t.bits * cx) (t.cx * budget))) ((t.qp : Int) - 4) (t.qp + 4)
  (clampI q lo hi).toNat

/-- The QP of a later row (R394). -/
def qpRow (prev pic lo hi : Nat) (dev : Int) (rb : Nat) : Nat :=
  let d : Int := if (rb : Int) < dev then 2 else if (rb / 4 : Nat) < dev then 1 else if dev < -((rb / 4 : Nat) : Int) then -1 else 0
  (clampI (prev + d) (max (lo : Int) ((pic : Int) - 6)) (min (hi : Int) (pic + 6))).toNat

/-- The reserve from block `n` on (R396). -/
def reserveFrom (v : Nat × Nat × Nat) (bs : List Blk) : Nat :=
  let n := (bs.head?.map (·.C)).getD 0
  64 + ((List.range bs.length).zip bs |>.map fun e =>
    if e.2.flat then v.2.2 else if e.1 < n then v.1 else v.2.1).sum

/-- What coding has come to: the step of R395 and R397 in force, bits spent, blocks coded under a step, whether steps 1
and 2 were entered, QP of the row before, sum of the QPs, rows coded, bits planned for the rows before, blocks of the first
row's length that step 2 has yet to fill (R396). -/
structure Coding where
  step  : Nat := 0
  spent : Nat := 0
  rep   : List Nat := []
  exh   : Bool := false
  capped : Bool := false
  qp    : Nat
  qps   : Nat := 0
  rows  : Nat := 0
  plan  : Nat := 0
  lead  : Nat := 0

/-- Codes the blocks of one row (R395 to R397); `n` is the number of the first. `bad` are blocks that cover poison, coded in
their fill form. A fill block costs at most its reserve. -/
def codeRow (v : Nat × Nat × Nat) (cap : Nat) (coded fill bad : List Nat) (row : Nat) : Nat → List Blk → Coding → Coding
  | _, [], c => c
  | n, b :: bs, c =>
    if b.row ≠ row then c
    else
      let f := min ((fill[n]?).getD 0)
        (if b.flat then v.2.2 else if c.step = 2 ∧ c.lead = 0 then v.2.1 else v.1)
      let a := if bad.contains n then f else (coded[n]?).getD 0
      let c1 :=
        if c.step = 2 then { c with spent := c.spent + f, lead := c.lead - 1 }
        else if c.spent + a + reserveFrom v bs ≤ cap then { c with spent := c.spent + a }
        else { c with step := 2, capped := true, spent := c.spent + f, lead := b.C - 1 }
      let rep := if (c1.step != 0 || bad.contains n) && !b.set then c1.rep ++ [n] else c1.rep
      codeRow v cap coded fill bad row (n + 1) bs { c1 with rep := rep }

/-- Codes the rows of a picture in order (R394, R395). -/
def codeRows (v : Nat × Nat × Nat) (cap budget pic lo hi : Nat) (coded fill bad : List Nat) (cx : Nat) :
    Nat → Nat → List Nat → List Blk → Coding → Coding
  | _, _, [], _, c => c
  | row, n, x :: xs, bs, c =>
    let rb := budget * x / max 1 cx
    let qp := if c.step ≠ 0 then hi else if row = 0 then pic else qpRow c.qp pic lo hi ((c.spent : Int) - c.plan) rb
    let c1 := codeRow v cap coded fill bad row n bs { c with qp := qp }
    let m := (bs.takeWhile fun b => b.row = row).length
    let full := c1.step == 0 && !xs.isEmpty && decide (budget ≤ c1.spent)
    codeRows v cap budget pic lo hi coded fill bad cx (row + 1) (n + m) xs (bs.drop m)
      { c1 with qps := c1.qps + qp, rows := c1.rows + 1, plan := c1.plan + rb
                step := if full then 1 else c1.step, exh := c1.exh || full }

/-! ## Release (R373, R374) -/

/-- The header of an exception or packet ring slot (Table 14-14). -/
def slotHeader (phase trunc : Bool) (reason port len stored epoch phc vlan : Nat) : Bytes :=
  toLe 1 (b2n phase + 2 * b2n trunc) ++ toLe 1 reason ++ toLe 1 port ++ zeros 1 ++ toLe 2 len ++ toLe 2 stored
    ++ toLe 4 epoch ++ toLe 2 (phc % 2 ^ 32 / 65536) ++ toLe 2 vlan ++ toLe 4 (phc / 2 ^ 32 % 1000000000)
    ++ toLe 6 (phc / 2 ^ 32 / 1000000000) ++ zeros 6

/-- Big-endian bytes of a number. -/
def toBe (n v : Nat) : Bytes := (toLe n v).reverse

/-- The bytes of an RTP packet with its MID extension (RFC 3550, RFC 8285). -/
def rtpBytes (s : State) (l : Nat) (r : Rtp) : Bytes :=
  let id := extId s l 0
  let ext := id ≠ 0 ∧ !r.mid.isEmpty
  let body := toBe 1 (16 * id + (r.mid.length - 1)) ++ r.mid
  let xb := if ext then toBe 2 0xBEDE ++ toBe 2 (ceilDiv body.length 4) ++ padTo (roundUp body.length 4) body else []
  toBe 1 (0x80 + (if ext then 16 else 0) + r.csrc.length) ++ toBe 1 (128 * b2n r.marker + r.pt % 128) ++ toBe 2 r.seq
    ++ toBe 4 r.ts ++ toBe 4 r.ssrc ++ r.csrc.flatMap (toBe 4) ++ xb ++ r.pay

/-- The outgoing streams bound to a rung, fixed first, then by creation (R191, R374). -/
def boundStreams (s : State) (r : Nat) : List Nat :=
  let xs := (objKeys s 4).filter fun x =>
    isActive s x && isOut s x && streamRole s x == 2 && isActive s (legOfStream s x) && legKind s (legOfStream s x) != 3
      && (getStream s x).bind == some r
  let sorted := sortBy xs fun a b => decide (((getObj s a).map (·.born)).getD 0 ≤ ((getObj s b).map (·.born)).getD 0)
  sorted.filter (isFixed s) ++ sorted.filter fun x => !(isFixed s x)

/-- The streams of HOST legs that take a rung's packets (R723). -/
def hostStreams (s : State) (r : Nat) : List Nat :=
  (objKeys s 4).filter fun x =>
    isActive s x && isOut s x && streamRole s x == 2 && isActive s (legOfStream s x) && legKind s (legOfStream s x) == 3
      && streamRung s x == r

/-- A rebinding to rung `r` takes effect at the first picture of a cycle (R250): sequence numbers go on, the timestamp
continues as in R195. -/
def rebind (r ts mt : Nat) (s : State) : State :=
  (objKeys s 4).foldl (fun s x =>
    let d := getStream s x
    if d.wantBind == some r && d.bind != some r then
      let dt := ((mt - d.sub.lastMt) * 90000 * 2 + 1000000000) / 2000000000
      let off := if d.bind.isNone then d.sub.tsOff else wrap 32 ((d.sub.lastTs : Int) + (max 1 dt : Nat) - ts)
      let s1 := setStream s x { d with bind := some r, sub := { d.sub with tsOff := off } }
      if d.bind.isSome then bumpObj s1 (legOfStream s x) .rebinds else s1
    else s) s

/-- The RTP packet of payload `n` of a picture on stream `x`. -/
def rungRtp (s : State) (x ts mt : Nat) (last : Bool) (pt : Nat) (pay : Bytes) : Rtp × StreamDyn :=
  let d := getStream s x
  let t := (ts + d.sub.tsOff) % 2 ^ 32
  ({ pt := pt, marker := last, seq := d.outSeq, ts := t, ssrc := (streamSsrc s x).getD 0, mid := streamMid s x, pay := pay },
   { d with outSeq := (d.outSeq + 1) % 65536, sub := { d.sub with lastTs := t, lastMt := mt } })

/-- The copies of a picture's packets on one stream. -/
def sendPicture (x ts mt pt : Nat) (i : Info) (ps : List (Nat × Bytes)) (s : State) : State :=
  let n := ps.length
  ((List.range n).zip ps).foldl (fun s e =>
    let l := legOfStream s x
    let a := rungRtp s x ts mt (e.1 + 1 == n) pt e.2.2
    let info := { i with sid := e.2.1, start := e.1 == 0, last := e.1 + 1 == n, eof := e.1 + 1 == n }
    sendMedia x { kind := .media, len := rtpLen s l a.1 e.2.2.length, leg := l, stream := x, rtp := a.1, info := info, mt := mt }
      (setStream s x a.2)) s

/-- Writes a picture into the packet ring of a HOST leg (R723). -/
def hostPicture (x r ts mt pt : Nat) (ps : List (Nat × Bytes)) (s : State) : State :=
  let l := legOfStream s x
  let d := getLeg s l
  let slots := ofldN s l (fk 0x01 19 1)
  let size := ofldN s l (fk 0x01 19 2)
  let base := ofldN s l (fk 0x01 19 0)
  let F := ofldN s l (fk 0x01 17 0)
  let n := ps.length
  if slots < wrap 32 ((d.hostPkt.1 : Int) - d.hostPkt.2) + n ∨ !(inWindow (getFn s F) base (slots * size) true) then
    askRung r false (bumpObj s l .hostPktDrop)
  else
    ((List.range n).zip ps).foldl (fun s e =>
      let a := rungRtp s x ts mt (e.1 + 1 == n) pt e.2.2
      let b := rtpBytes s l a.1
      let d := getLeg s l
      let q := d.hostPkt.1
      let room := min b.length (size - 32)
      let slot := slotHeader (q / slots % 2 == 0) (decide (room < b.length)) 0x0E 0xFF b.length room s.time.epoch s.time.phc 0xFFFF
        ++ b.take room
      updFn (setLeg (setStream s x a.2) l { d with
          hostPkt := ((q + 1) % 2 ^ 32, d.hostPkt.2), pktRing := Tab.set d.pktRing (q % slots) slot }) F
        fun f => { f with lastWr := some (base + q % slots * size, slot) }) s

/-- Releases a picture from the rung's output queue (R374): `ps` are its payloads, `i` what they say. -/
def releasePicture (r ts mt : Nat) (i : Info) (ps : List (Nat × Bytes)) (s : State) : State :=
  let pt := rprm s r 18
  let q := qRung r
  let items := ps.map fun e => ({ pkt := { kind := .media, len := e.2.length + 12, mt := mt }, tick := s.time.ticks } : Item)
  let s1 := items.foldl (fun s it => qPop q (qPush q it false s)) s
  let s2 := (boundStreams s1 r).foldl (fun s x => sendPicture x ts mt pt i ps s) s1
  (hostStreams s2 r).foldl (fun s x => hostPicture x r ts mt pt ps s) s2

/-! ## The end of a picture -/

/-- A picture that Table 7-10 discards is given back: the request it served stands again (R402). -/
def discardPicture (r : Nat) (p : RungPic) (s : State) : State :=
  let d := getRung s r
  setRung s r { d with run := none, cycReq := max d.cycReq (if p.what = 2 then 3 else if p.what = 3 then 2 else p.what) }

/-- Writes the reconstructions of a picture into the surfaces of its layers. -/
def writeRecon (r n : Nat) (s : State) : State :=
  let ls := rungLayers s r
  ((List.range ls.length).zip ls).foldl (fun s e =>
    match (getRung s r).surfs[3 * e.1 + n % 3]? with
    | some u => writePicture u e.2.1 e.2.2.1 (rprm s r 2) s
    | none => s) s

/-- Codes the picture in an engine (R383 to R398) and releases it. -/
def encodeEnd (r : Nat) (p : RungPic) (z : EncRes) (s : State) : State :=
  let d := getRung s r
  let y := parentKey s r
  let codec := rprm s r 0
  let mode := rprm s r 6
  let N := rprm s r 15
  let u := unitOf codec
  let v := reserves codec
  let ls := rungLayers s r
  let key := decide (2 ≤ p.what)
  let all := key || z.poison == 2
  let cyc := if z.poison = 2 then none else cycleAt d p
  let nRows := (ls.map fun l => l.2.2.2 * max 1 (l.2.2.1 / max 1 N)).sum
  let rep := if all then [] else d.repair.take nRows
  let bs := unitBlocks u.1 u.2 N p.tid cyc all rep 0 0 ls
  let top := topRung s r
  let cur := pyramid s top p.src
  let ref := if all then none else refPyramid (getRung s top) p.k p.tid
  let cxs := unitCx cur ref (rungW s top) (rungH s top) u.1 bs 0 ls
  let cx := cxs.sum
  let rt := rateOf (layoutRate s y)
  let bg := budgetOf d p mode (rprm s r 5) rt.1 rt.2 (rprm s r 12 / 1000000) (rprm s r 11) (cMin codec ls)
  let budget := max 1 bg.2.2
  let lo := rprm s r 13
  let hi := rprm s r 14
  let pic := qpPic d p (unitSamples ls) budget cx lo hi
  let bad := if z.poison = 1 then z.bad else []
  let c := codeRows v bg.2.1 budget pic lo hi z.coded z.fill bad cx 0 0 cxs bs { qp := pic }
  let bits_ := c.spent + min z.tail 64
  let qBytes := (z.pays.map fun e => e.2.length + 12).sum
  if !(isFixed s r) && qFull s (qRung r) qBytes then bumpObj (discardPicture r p s) r .encOutDrop
  else
    let over_ := bits_ - budget
    let b' := bg.1 + bits_
    let qpM := c.qps / max 1 c.rows
    let start := p.what == 1
    let begun := start || p.what == 3
    let pos' := if all then 0 else if p.tid ≠ 0 then d.pos else if start then 1 else if d.st = 3 then d.pos + 1 else 0
    let inCyc := !all && (start || d.st == 3)
    let done := inCyc && p.tid == 0 && decide (N ≤ pos')
    let left := if all then [] else d.repair.filter fun n => !(rep.contains n)
    let d1 := { d with
      run := none
      st := if all then 2 else if done then 2 else if inCyc then 3 else 2
      pos := if done then 0 else pos'
      since := if p.what ≠ 0 then 1 else if p.tid = 0 then d.since + 1 else d.since
      b := b'
      carry := min over_ budget
      prevMt := some p.mt
      stats := Tab.set d.stats p.tid { qp := qpM, bits := bits_, cx := cx }
      repair := left ++ c.rep.filter fun n => !(left.contains n)
      pyr := if top = r then ((p.k, p.tid, cur) :: d.pyr).take 4 else d.pyr
      seq := (d.seq + 1) % 65536
      exh := c.exh, capped := c.capped, tid := p.tid, qpLast := qpM, budget := budget, bits := bits_, tgt := p.t
      rtpTs := p.mt * 90000 / 1000000000 % 2 ^ 32, instMt := p.mt, doneAt := now s }
    let s1 := writeRecon r d.seq (setRung s r d1)
    let cs : List (Ctr × Bool × Nat) := [
      (.encPictures, true, 1), (.encKey, key, 1), (.encExhausted, c.exh, 1), (.encCapped, c.capped, 1),
      (.encBufOver, decide (p.t * (rprm s r 12 / 1000000) / 1000 < b'), 1), (.encCycles, begun, 1),
      (.encCycleRestart, begun && d.st == 3 && decide (0 < d.pos), 1), (.encRepairBlocks, !rep.isEmpty, rep.length),
      (.encPoisonSource, z.poison == 1, 1), (.encPoisonRef, z.poison == 2, 1)]
    let s2 := cs.foldl (fun s e => if e.2.1 then bumpObj s r e.1 e.2.2 else s) s1
    let info : Info := { key := key, switch_ := key, tid := p.tid, up := decide (0 < p.tid)
                         width := rungW s r, height := rungH s r, depth := rprm s r 2
                         recov := start && codec != 2 || z.poison == 2 && codec != 2 }
    let s3 := if start || key then rebind r d1.rtpTs p.mt s2 else s2
    let s4 := releasePicture r d1.rtpTs p.mt info z.pays s3
    let f := framePeriod (layoutRate s y)
    if isFixed s r then (if p.mt + f / 2 + 3000000 < now s then promiseMiss r s4 else s4)
    else if p.mt + rprm s r 5 * f < now s then bumpObj s4 r .encLate
    else s4

/-- Rungs of a group that waited for their top rung's picture become eligible (R370). -/
def matesReady (r k : Nat) (s : State) : State :=
  ((searchGroup s r).filter fun q => q ≠ r).foldl (fun s q =>
    match (getRung s q).wait with
    | some p => if p.k = k && p.elig.isNone then makeReady q p (setRung s q { getRung s q with wait := none }) else s
    | none => s) s

/-- ENCODE_PICTURE_COMPLETE (R374): the last packet of the picture that engine `e` codes enters the output queue. -/
def execEncodePictureComplete (e : Nat) (z : EncRes) (s : State) : Out :=
  onPart (decide (e < 16)) s fun s =>
    match (getEng s e).run with
    | none => s
    | some i =>
      let r := i.k
      let y := getLayout s (parentKey s r)
      let ready := match y.run with
        | some j => j.k ≠ i.id || bandCount s (parentKey s r) ≤ y.bands
        | none => true
      guarded (i.enc && ready) s fun s =>
        let s1 := updEng s e fun g => { g with run := none }
        match (getRung s1 r).run with
        | none => s1
        | some p =>
          let s2 := if z.poison = 3 then
              emitObj (setRung s1 r { getRung s1 r with st := 1, run := none, pos := 0 }) r 0x044 (toLe 1 e)
            else encodeEnd r p z s1
          if topRung s2 r = r then matesReady r i.id s2 else s2

/-! ## Status and commands -/

/-- The status record of a rung (Table 7-11). -/
def rungStatus (s : State) (r : Nat) : Bytes :=
  let d := getRung s r
  let w := d.st + 4 * b2n d.exh + 8 * b2n d.capped + 256 * d.engine + 4096 * d.tid + 65536 * (d.pos % 128) + 2 ^ 24 * d.qpLast
  toLe 4 w ++ toLe 4 d.tgt ++ toLe 4 d.budget ++ toLe 4 d.bits ++ toLe 4 d.b ++ toLe 4 d.carry ++ toLe 4 d.repair.length
    ++ toLe 4 d.rtpTs ++ toLe 8 d.instMt ++ toLe 8 d.doneAt ++ zeros 16

/-- RUNG_REFRESH (R383): a refresh cycle, under the limit of a receiver's request. -/
def bodyRungRefresh : Body := fun F p _ s =>
  match resolve s F 7 (le p 0 4) with
  | none => .no .badHandle []
  | some r => .ok [] 0 (askRung r false s)

/-- RUNG_KEY (R389): the next picture is a key picture. -/
def bodyRungKey : Body := fun F p _ s =>
  match resolve s F 7 (le p 0 4) with
  | none => .no .badHandle []
  | some r => .ok [] 0 (setRung s r { getRung s r with cycReq := 3 })

/-- RUNG_REFRESH. -/
def execRungRefresh (src : Src) (s : State) : Out := serve 0x0906 src [] bodyRungRefresh s
/-- RUNG_KEY. -/
def execRungKey (src : Src) (s : State) : Out := serve 0x0907 src [] bodyRungKey s

end Sys2Proof.Machine
end

