-- ==== Sys2Proof/Machine/Frame.lean ====
section
/-!
DEFINITION. The bytes of a received frame: VLAN tags, IPv4 and IPv6, UDP (steps 2 to 9 of Table 3-2), RTP headers and
header extensions (R152), and what each step makes of them.
-/

namespace Sys2Proof.Machine

open Sys2Proof

/-- The number that `n` bytes at offset `o` spell in network order; absent bytes read 0. -/
def be (b : Bytes) (o n : Nat) : Nat := fromLe (padTo n (b.drop o)).reverse

/-- Sum of the 16-bit words of a byte string in network order. -/
def sum16 : Bytes → Nat
  | [] => 0
  | [a] => a.toNat * 256
  | a :: b :: t => a.toNat * 256 + b.toNat + sum16 t

/-- Whether a sum of 16-bit words is all ones in one's complement. -/
def onesOk (n : Nat) : Bool := decide (0 < n) && decide (n % 65535 = 0)

/-- Whether an EtherType opens a VLAN tag. -/
def isTag (t : Nat) : Bool := t == 0x8100 || t == 0x88A8

/-- The VLAN tags of a frame, counted from offset `o` on. -/
def countTags (b : Bytes) : Nat → Nat → Nat
  | _, 0 => 0
  | o, n + 1 => if isTag (be b o 2) then 1 + countTags b (o + 4) n else 0

/-- What the header of a frame says: outer VLAN ID (0xFFFF untagged), destination address as it stands in an address
table entry, and, for UDP, source address, ports, DSCP, the offset of the payload and the payload. -/
structure UdpIn where
  vlan  : Nat
  dst   : Nat
  src   : Nat
  sport : Nat
  dport : Nat
  dscp  : Nat
  off   : Nat
  pay   : Bytes
  deriving DecidableEq, Repr

/-- What steps 2 to 9 of Table 3-2 make of a frame. -/
inductive Verdict where
  /-- RX_MALFORMED of the port -/
  | malformed
  /-- the PTP path (R91, R98) -/
  | ptp
  /-- an exception with its reason, the outer VLAN ID and the destination address, when the frame names one -/
  | exc (reason vlan : Nat) (dst : Option Nat)
  /-- a UDP packet that goes on to step 10 -/
  | udp (u : UdpIn)
  deriving DecidableEq, Repr

/-- An IPv4 address as an address table entry holds it (R734). -/
def v4Addr (b : Bytes) : Nat := fromLe (zeros 10 ++ [0xFF, 0xFF] ++ padTo 4 b)

/-- Whether the options of a Hop-by-Hop header are a Router Alert and padding alone, with at least one Router Alert. -/
def hbhOk : Nat → Bytes → Bool → Bool
  | 0, b, ra => b.isEmpty && ra
  | _ + 1, [], ra => ra
  | n + 1, t :: rest, ra =>
    if t = 0 then hbhOk n rest ra
    else
      match rest with
      | [] => false
      | l :: r =>
        if r.length < l.toNat then false
        else if t = 1 then hbhOk n (r.drop l.toNat) ra
        else if t = 5 ∧ l = 2 then hbhOk n (r.drop 2) true
        else false

/-- Whether a next header value names an IPv6 extension header. -/
def isExtHdr (n : Nat) : Bool := [0, 43, 44, 50, 51, 60, 135, 139, 140, 253, 254].contains n

/-- Steps 7 to 9: the transport of a packet. `pseudo` is the address sum of the UDP checksum. -/
def transport (v4 ra : Bool) (proto vlan dst src dscp off pseudo : Nat) (b : Bytes) : Verdict :=
  let icmp := be b 0 1
  if proto = 2 then .exc 0x06 vlan (some dst)
  else if !v4 && proto = 58 then .exc (if icmp = 143 ∨ (130 ≤ icmp ∧ icmp ≤ 132) then 0x06 else 0x05) vlan (some dst)
  else if proto = 1 then .exc 0x05 vlan (some dst)
  else if proto ≠ 17 then .exc 0x09 vlan (some dst)
  else if ra then .exc 0x08 vlan (some dst)
  else if be b 2 2 = 319 ∨ be b 2 2 = 320 then .ptp
  else
    let n := be b 4 2
    let sum := be b 6 2
    if n < 8 ∨ b.length < n then .malformed
    else if sum = 0 ∧ !v4 then .malformed
    else if sum ≠ 0 ∧ !(onesOk (pseudo + 17 + n + sum16 (b.take n))) then .malformed
    else .udp { vlan := vlan, dst := dst, src := src, sport := be b 0 2, dport := be b 2 2, dscp := dscp
                off := off + 8, pay := (b.take n).drop 8 }

/-- Steps 5 to 9 over IPv4; `o` is the offset of the packet `b` in the frame. -/
def ipv4In (vlan o : Nat) (b : Bytes) : Verdict :=
  let ihl := be b 0 1 % 16 * 4
  let total := be b 2 2
  if be b 0 1 / 16 ≠ 4 ∨ ihl < 20 ∨ total < ihl ∨ b.length < total ∨ !(onesOk (sum16 (b.take ihl))) then .malformed
  else
    let dst := v4Addr (b.drop 16)
    let src := v4Addr (b.drop 12)
    let opts := (b.take ihl).drop 20
    let ra := decide (opts.length = 4) && be opts 0 2 == 0x9404
    if be b 6 2 % 16384 ≠ 0 then .exc 0x07 vlan (some dst)
    else if !opts.isEmpty && !ra then .exc 0x08 vlan (some dst)
    else transport true ra (be b 9 1) vlan dst src (be b 1 1 / 4) (o + ihl) (sum16 ((b.take 20).drop 12))
      ((b.take total).drop ihl)

/-- Steps 5 to 9 over IPv6. -/
def ipv6In (vlan o : Nat) (b : Bytes) : Verdict :=
  let n := be b 4 2
  if be b 0 1 / 16 ≠ 6 ∨ b.length < 40 + n then .malformed
  else
    let dst := fromLe ((b.drop 24).take 16)
    let src := fromLe ((b.drop 8).take 16)
    let body := (b.drop 40).take n
    let nh := be b 6 1
    let dscp := be b 0 2 / 64 % 64
    let pseudo := sum16 ((b.drop 8).take 32)
    if nh = 0 then
      let hl := (be body 1 1 + 1) * 8
      let nh2 := be body 0 1
      if body.length < hl ∨ isExtHdr nh2 ∨ !(hbhOk 2048 ((body.take hl).drop 2) false) then .exc 0x08 vlan (some dst)
      else transport false true nh2 vlan dst src dscp (o + 40 + hl) pseudo (body.drop hl)
    else if isExtHdr nh then .exc 0x08 vlan (some dst)
    else transport false false nh vlan dst src dscp (o + 40) pseudo body

/-- Steps 2 to 9 of Table 3-2 on the bytes of a frame, from the destination address on, without FCS. The destination
of an ARP frame is the address it asks for. -/
def classifyFrame (b : Bytes) : Verdict :=
  let t0 := be b 12 2
  let two := isTag t0 && be b 16 2 == 0x8100
  let o := if !(isTag t0) then 12 else if two then 20 else 16
  let vlan := if isTag t0 then be b 14 2 % 4096 else 0xFFFF
  let et := be b o 2
  if isTag et then .malformed
  else if et = 0x88F7 then .ptp
  else if et = 0x0806 then .exc 0x05 vlan (some (v4Addr (b.drop (o + 26))))
  else if et = 0x0800 then ipv4In vlan (o + 2) (b.drop (o + 2))
  else if et = 0x86DD then ipv6In vlan (o + 2) (b.drop (o + 2))
  else .exc 0x0D vlan none

/-! ## RTP -/

/-- The elements of a header extension in the one-byte form (RFC 8285): identifier and data. -/
def exts1 : Nat → Bytes → List (Nat × Bytes)
  | 0, _ => []
  | _ + 1, [] => []
  | n + 1, h :: t =>
    let id := h.toNat / 16
    let len := h.toNat % 16 + 1
    if h = 0 then exts1 n t
    else if id = 15 then []
    else (id, t.take len) :: exts1 n (t.drop len)

/-- The elements of a header extension in the two-byte form (RFC 8285). -/
def exts2 : Nat → Bytes → List (Nat × Bytes)
  | 0, _ => []
  | _ + 1, [] => []
  | n + 1, h :: t =>
    if h = 0 then exts2 n t
    else match t with
      | [] => []
      | l :: r => (h.toNat, r.take l.toNat) :: exts2 n (r.drop l.toNat)

/-- An RTP packet as received: its header and the offset of its payload; `ids` are the leg's extension identifiers
(R152), the dependency descriptor's among those whose bytes are carried on. -/
structure RtpIn where
  pad  : Bool
  pt   : Nat
  mark : Bool
  seq  : Nat
  ts   : Nat
  ssrc : Nat
  csrc : List Nat
  xs   : List (Nat × Bytes)
  two  : Bool
  off  : Nat
  deriving DecidableEq, Repr

/-- The `n` CSRCs at offset `o`. -/
def csrcs (b : Bytes) (o : Nat) : Nat → List Nat
  | 0 => []
  | n + 1 => be b o 4 :: csrcs b (o + 4) n

/-- Reads an RTP header (step 12 of Table 3-2): version 2 and a header that fits. -/
def parseRtp (b : Bytes) : Option RtpIn :=
  let cc := be b 0 1 % 16
  let o := 12 + 4 * cc
  let x := bitOf (be b 0 1) 4
  let xl := if x then 4 + 4 * be b (o + 2) 2 else 0
  let prof := be b o 2
  let xb := (b.drop (o + 4)).take (xl - 4)
  if be b 0 1 / 64 ≠ 2 ∨ b.length < o + xl ∨ (x ∧ b.length < o + 4) then none
  else some {
    pad := bitOf (be b 0 1) 5, pt := be b 1 1 % 128, mark := bitOf (be b 1 1) 7, seq := be b 2 2, ts := be b 4 4
    ssrc := be b 8 4, csrc := csrcs b 12 cc
    xs := if !x then [] else if prof = 0xBEDE then exts1 2048 xb else if prof / 16 = 0x100 then exts2 2048 xb else []
    two := prof / 16 == 0x100, off := o + xl }

/-- The data of the extension with identifier `i`; an identifier 0 is not negotiated. -/
def RtpIn.ext (r : RtpIn) (i : Nat) : Option Bytes :=
  if i = 0 then none else (r.xs.find? fun e => e.1 = i).map (·.2)

end Sys2Proof.Machine
end

