-- ==== Sys2Proof/Machine/Jitter.lean ====
section
/-!
DEFINITION. Jitter buffers (R127 to R129, R169 to R176, R198 to R206): insertion, the release of the block due at a mix
period boundary, depth adaptation, and the play-out times of AES67 and trunk streams.
-/

namespace Sys2Proof.Machine

open Sys2Proof

/-- The jitter buffer of stream `x`. -/
def getJb (s : State) (x : Nat) : Jb := (getStream s x).jb
/-- Replaces the jitter buffer of stream `x`. -/
def setJb (s : State) (x : Nat) (j : Jb) : State := setStream s x { getStream s x with jb := j }

/-- The extended value of a 32-bit timestamp nearest to the highest one so far (R169). -/
def extendTs (hi : Option Int) (v : Nat) : Int :=
  match hi with
  | none => v
  | some h => h + signed 32 (wrap 32 ((v : Int) - h))

/-- The time in ns of `ts` units of a clock, rounded down. -/
def tsNs (clock : Nat) (ts : Int) : Int := ts * 1000000000 / (clock : Int)

/-- The first timestamp whose time in ns is at least `t`. -/
def nsTs (clock : Nat) (t : Int) : Int := -(-(t * clock) / 1000000000)

/-- Duration in 48 kHz units of an Opus packet (RFC 6716, section 3.1): frames of the TOC's configuration, times their
number. -/
def opusLen (pay : Bytes) : Nat :=
  match pay with
  | [] => 0
  | toc :: t =>
    let c := toc.toNat / 8
    let f := if c < 12 then [480, 960, 1920, 2880][c % 4]?.getD 480
      else if c < 16 then [480, 960][c % 2]?.getD 480
      else [120, 240, 480, 960][c % 4]?.getD 120
    let n := match toc.toNat % 4 with
      | 0 => 1
      | 1 => 2
      | 2 => 2
      | _ => (t.headD 0).toNat % 64
    f * n

/-- The RTP ticks an audio payload covers (RFC 3551, RFC 3190, RFC 7587). -/
def audioLen (codec chans : Nat) (pay : Bytes) : Nat :=
  match codec with
  | 1 => opusLen pay
  | 5 => pay.length / (2 * max 1 chans)
  | 6 => pay.length / (3 * max 1 chans)
  | _ => pay.length

/-- Whether a stream plays out by AES67 timestamps (R198): linear PCM of a leg that is no trunk. -/
def isAes67 (s : State) (x : Nat) : Bool :=
  legKind s (legOfStream s x) == 0 && (ptMap s x).any fun e => e.2 == 5 || e.2 == 6

/-- A channel count of a received stream (R198, R203). -/
def rxChans (s : State) (x : Nat) : Nat :=
  if legKind s (legOfStream s x) = 1 then 1 else if isAes67 s x then ofldN s x (fk 0x04 17 3) else 1

/-- The depth D of a stream in ns (R173, R174). -/
def jbDepth (s : State) (x : Nat) : Nat :=
  let l := legOfStream s x
  if isFixed s l then ofldN s l (fk 0x01 10 0) else (getJb s x).d

/-- Media time of the next boundary of a stream's conference. -/
def nextBoundary (s : State) (x : Nat) : Int :=
  ((getConf s (confOfLeg s (legOfStream s x))).mixNext : Int) - s.time.eOff

/-- The mix period of a stream's conference. -/
def periodOf (s : State) (x : Nat) : Nat := max 1 (mixPeriod s (confOfLeg s (legOfStream s x)))

/-- The PHC time of the AES67 media clock's tick `v` (mod 2^32) nearest to the PHC time `t`, rounded up (R199). -/
def mclkTime (t off v : Nat) : Int :=
  let cur := t * 48000 / 1000000000 + off
  let d := signed 32 (wrap 32 ((v : Int) - cur))
  nsTs 1000000000 (-(-(((cur : Int) + d - off) * 1000000000) / 48000))

/-- Media time from which a sample with extended timestamp `ts` may play (R171, R199, R128): its block is the first
boundary at or after it. -/
def playAt (s : State) (x clock : Nat) (ts : Int) : Int :=
  let l := legOfStream s x
  if legKind s l = 1 then
    let t := phcNs s.time
    let P := periodOf s x
    let a := ofldN s l (fk 0x01 11 0)
    mclkTime t 0 (wrap 32 ts) + (ceilDiv (P + 1500000 + a) P * P : Nat) - s.time.eOff
  else if isAes67 s x then
    mclkTime (phcNs s.time) (ofldN s x (fk 0x04 17 0)) (wrap 32 ts) + ofldN s x (fk 0x04 17 1) - s.time.eOff
  else ((getJb s x).o).getD 0 + tsNs clock ts + jbDepth s x

/-- The boundary at which something playable from media time `u` on is released. -/
def boundaryOf (s : State) (x : Nat) (u : Int) : Int :=
  let b := nextBoundary s x
  let P : Int := periodOf s x
  b + -(-(u - b) / P) * P

/-- What is still inside the last 10 s (R175). -/
def offsLive (now_ : Nat) (o : List (Nat × Int)) : List (Nat × Int) := o.filter fun e => now_ < e.1 + 10000000000

/-- An audio packet reaches the jitter buffer of stream `x` with its receive stamp in media time `mt`
(R169 to R172). AES67 streams take the late test of R172 alone (R199), trunk streams none of its counts (R206). -/
def jbInsert (x mt codec : Nat) (r : Rtp) (s : State) : State :=
  let j := getJb s x
  let clock := codecClock codec
  let ext := extendTs j.hi r.ts
  let off := (mt : Int) - tsNs clock ext
  let chans := rxChans s x
  let j1 := { j with
    o := if j.o.isNone then some off else j.o
    hi := some (max ext (j.hi.getD ext))
    offs := offsLive mt j.offs ++ [(mt, off)]
    d := if j.o.isNone then ofldN s (legOfStream s x) (fk 0x01 10 2) else j.d
    evalAt := if j.o.isNone then mt else j.evalAt }
  let s1 := setJb s x j1
  let b := boundaryOf s1 x (playAt s1 x clock ext)
  let trunk := legKind s (legOfStream s x) == 1
  let plain := !trunk && !(isAes67 s x)
  if b < (now s : Int) + 200000 then
    if trunk then s1 else bumpObj s1 x .jbLate
  else if plain && decide (nextBoundary s1 x + 400000000 < b) then bumpObj s1 x .jbEarly
  else if j1.pkts.any fun k => k.ext = ext then (if plain then bumpObj s1 x .jbDup else s1)
  else
    setJb s1 x { j1 with
      pkts := sortBy (j1.pkts ++ [JbPkt.mk ext (audioLen codec chans r.pay) codec chans r.pay r.csrc]) fun a b =>
        decide (a.ext ≤ b.ext) }

/-- A block released for one mix period: timestamps [a, b), and the packets that hold samples of it; none when the block
is concealed. -/
structure Block where
  a    : Int
  b    : Int
  pkts : Option (List JbPkt)

/-- The clock of the packets a jitter buffer holds, or of the stream's first audio codec. -/
def jbClock (s : State) (x : Nat) : Nat :=
  match (getJb s x).pkts.head? with
  | some k => codecClock k.codec
  | none => codecClock ((((ptMap s x).map (·.2)).filter fun c => c ≤ 6).headD 1)

/-- The first timestamp that plays after media time `t` in ordinary play-out. -/
def firstAfter (s : State) (x clock : Nat) (t : Int) : Int :=
  nsTs clock (t + 1 - ((getJb s x).o).getD 0 - jbDepth s x)

/-- Takes the samples of [a, b) out of a buffer; earlier packets go with them. -/
def takeRange (j : Jb) (a b : Int) : List JbPkt × Jb :=
  ((j.pkts.filter fun k => decide (k.ext < b) && decide (a < k.ext + k.n)),
   { j with pkts := j.pkts.filter fun k => decide (b < k.ext + k.n) })

/-- The offset of O from the mean arrival offset of the last 10 s, when there is one (R175). -/
def meanOff (now_ : Nat) (j : Jb) : Option Int :=
  let os := offsLive now_ j.offs
  if os.isEmpty then none else some ((os.map (·.2)).sum / (os.length : Int))

/-- The drift correction of R175: O moves by P toward the mean; 1 conceals a block, -1 discards one. -/
def slipStep (x : Nat) (s : State) : Int × State :=
  let j := getJb s x
  let P : Int := periodOf s x
  match j.o, meanOff (now s) j with
  | some o, some m =>
    if P < 2 * (m - o) then (1, bumpObj (setJb s x { j with o := some (o + P) }) x .jbSlip)
    else if P < 2 * (o - m) then (-1, bumpObj (setJb s x { j with o := some (o - P) }) x .jbSlip)
    else (0, s)
  | _, _ => (0, s)

/-- The move of D toward its target at a block of a floating leg (R174): 1 conceals, -1 discards. `inactive` says that
VAD marked the leg's latest block inactive. -/
def depthStep (x : Nat) (inactive : Bool) (s : State) : Int × State :=
  let j := getJb s x
  let P := periodOf s x
  if isFixed s (legOfStream s x) || j.o.isNone || decide (now s < j.moveAt + 100000000) then (0, s)
  else if j.d + P ≤ j.target then (1, setJb s x { j with d := j.d + P, moveAt := now s, wait := none })
  else if j.target + P ≤ j.d then
    let w := j.wait.getD (now s)
    if inactive || decide (w + 1000000000 ≤ now s) then
      (-1, setJb s x { j with d := j.d - P, moveAt := now s, wait := none })
    else (0, setJb s x { j with wait := some w })
  else (0, setJb s x { j with wait := none })

/-- Releases the block of stream `x` that the boundary at media time `t` is due (R171, R174 to R176). A block with no
sample present is concealed and counted. -/
def jbRelease (x : Nat) (t : Int) (inactive : Bool) (s : State) : Block × State :=
  let clock := jbClock s x
  let P := periodOf s x
  let N : Int := (P * clock / 1000000000 : Nat)
  let d := depthStep x inactive s
  let m := if d.1 = 0 then slipStep x d.2 else d
  let s1 := m.2
  let a := firstAfter s1 x clock (t - P)
  let b := a + N
  let r := takeRange (getJb s1 x) a b
  let s2 := setJb s1 x r.2
  if (getJb s x).o.isNone then ({ a := 0, b := N, pkts := none }, s)
  else if m.1 = 1 then ({ a := a - N, b := a, pkts := none }, s1)
  else if r.1.isEmpty then ({ a := a, b := b, pkts := none }, bumpObj s2 x .jbConceal)
  else ({ a := a, b := b, pkts := some r.1 }, s2)

/-- The block of an AES67 stream at the boundary with media time `t` (R199). -/
def aesRelease (x : Nat) (t : Int) (s : State) : Block × State :=
  let P := periodOf s x
  let N := P * 48000 / 1000000000
  let u := t - P + s.time.eOff - ofldN s x (fk 0x04 17 1)
  let a : Int := u * 48000 / 1000000000 + 1 + ofldN s x (fk 0x04 17 0)
  let j := getJb s x
  let a := match j.hi with
    | some h => h + signed 32 (wrap 32 (a - h))
    | none => a
  let r := takeRange j a (a + N)
  let s2 := setJb s x r.2
  if r.1.isEmpty then ({ a := a, b := a + N, pkts := none }, if j.hi.isNone then s else bumpObj s2 x .jbConceal)
  else ({ a := a, b := a + N, pkts := some r.1 }, s2)

/-- The block of a trunk stream at the boundary with media time `t` (R127 to R129, R205): a block with a packet missing
is late, counted in TRUNK_LATE of the leg, and concealed. -/
def trunkRelease (x : Nat) (t : Int) (s : State) : Block × State :=
  let l := legOfStream s x
  let P := periodOf s x
  let A := ofldN s l (fk 0x01 11 0)
  let N : Int := (P * 48000 / 1000000000 : Nat)
  let t0 := t + s.time.eOff - (ceilDiv (P + 1500000 + A) P * P : Nat)
  let j := getJb s x
  let v := t0 * 48000 / 1000000000
  let a := match j.hi with
    | some h => h + signed 32 (wrap 32 (v - h))
    | none => v
  let r := takeRange j a (a + N)
  let s2 := setJb s x r.2
  if (r.1.map fun k => (k.n : Int)).sum = N then ({ a := a, b := a + N, pkts := some r.1 }, s2)
  else ({ a := a, b := a + N, pkts := none }, if j.hi.isNone then s2 else bumpObj s2 l .trunkLate)

/-- Discards what would have played at or before media time `t`: the effect of a forward step (Table 2-9). -/
def jbSkip (x : Nat) (t : Int) (s : State) : State :=
  let j := getJb s x
  if legKind s (legOfStream s x) = 1 || isAes67 s x then s
  else setJb s x (takeRange j 0 (firstAfter s x (jbClock s x) t)).2

/-- The 95th percentile of a list, by nearest rank. -/
def pct95 (l : List Int) : Int := ((sortBy l fun a b => decide (a ≤ b))[(l.length * 95 + 99) / 100 - 1]?).getD 0

/-- JB_DEPTH_ADAPT (R174): once per second the target depth of a floating leg's stream is computed; D moves toward it
block by block (`depthStep`). -/
def execJbDepthAdapt (x : Nat) (s : State) : Out :=
  onPart (decide (x < 16384)) s fun s =>
    let x := okey 4 x
    let l := legOfStream s x
    let j := getJb s x
    guarded (isActive s x && !(isFixed s l) && j.o.isSome && legKind s l == 0 && !(isAes67 s x)
        && decide (j.evalAt + 1000000000 ≤ now s)) s fun s =>
      let os := (j.offs.filter fun e => now s < e.1 + 2000000000).map (·.2)
      match os.min? with
      | none => setJb s x { j with evalAt := now s }
      | some m =>
        let P := periodOf s x
        let spread := (pct95 (os.map fun o => o - m)).toNat
        let t := ceilDiv (spread + 2000000) P * P
        let lo := ofldN s l (fk 0x01 10 1)
        let hi := ofldN s l (fk 0x01 10 3)
        setJb s x { j with evalAt := now s, target := max lo (min hi t) }

end Sys2Proof.Machine
end

