-- ==== Sys2Proof/Machine/Ingress.lean ====
section
/-!
DEFINITION. The receive direction (R138 to R182, R454): ports, classification, stream lookup, SRTP, the hand-off to
jitter buffers, bitstream queues, the forwarder and the governor, and the exception path.
-/

namespace Sys2Proof.Machine

open Sys2Proof

/-! ## Exceptions (R179 to R181, R716, R717) -/

/-- The slot of an excepted packet as it waits: its header with PHASE and STORED 0, and the frame. -/
def excSlot (port reason vlan : Nat) (f : RxFrame) (frame : Bytes) : Bytes :=
  slotHeader false false reason port frame.length 0 f.epoch f.phc vlan ++ frame

/-- Writes a waiting slot into ring `kind` of function `F`, when the ring exists and has a free slot (R717). -/
def deliverSlot (F kind : Nat) (d : Bytes) (s : State) : Option State :=
  match Tab.get (getFn s F).hrings kind with
  | none => none
  | some r =>
    if wrap 32 ((r.tail : Int) - r.head) < r.slots then
      let frame := d.drop 32
      let n := min frame.length (r.slotBytes - 32)
      let slot := toLe 1 (b2n (r.tail / r.slots % 2 == 0) + 2 * b2n (decide (n < frame.length)))
        ++ (d.take 6).drop 1 ++ toLe 2 n ++ (d.take 32).drop 8 ++ frame.take n
      some (updFn s F fun g => { g with
        hrings := Tab.set g.hrings kind { r with
          tail := (r.tail + 1) % 2 ^ 32, stored := Tab.set r.stored (r.tail % r.slots) slot }
        lastWr := some (r.base + r.tail % r.slots * r.slotBytes, slot) })
    else none

/-- Whether one more packet keeps the packet-rate limit `rate` (R181): the packets of the second that began at tick
`at_` are counted. Answers the new count and start. -/
def rateOk (rate tok at_ now_ : Nat) : Bool × Nat × Nat :=
  if at_ + tS ≤ now_ then (true, 1, now_)
  else if tok < rate then (true, tok + 1, at_)
  else (false, tok, at_)

/-- An exception to partition `p` (R179, R181). -/
def exceptTo (p port reason vlan : Nat) (f : RxFrame) (frame : Bytes) (s : State) : State :=
  let s1 := bumpPart s p (.exc reason)
  match Tab.get s1.obj.parts p with
  | none => s1
  | some x =>
    let r := rateOk (quota s1 p 9 2) x.excTok x.excAt s1.time.ticks
    let s2 := { s1 with obj := { s1.obj with
      parts := Tab.set s1.obj.parts p { x with excTok := r.2.1, excAt := r.2.2 } } }
    let n := frame.length + 4
    if !r.1 then bumpPart s2 p .excDrop
    else if qFull s2 (qExc p) n then bumpPart (qDrop (qExc p) n s2) p .excDrop
    else qPush (qExc p) { pkt := { kind := .rx, len := n, data := excSlot port reason vlan f frame }, tick := s2.time.ticks }
      false s2

/-- An exception to the owner function (R179). Its queue holds 1,048,576 bytes and takes 50,000 packets a second. -/
def exceptOwner (port reason vlan : Nat) (f : RxFrame) (frame : Bytes) (s : State) : State :=
  let s1 := if reason = 0x0B then bumpDev s .excNoPartition else s
  let r := rateOk 50000 s1.eth.ownTok s1.eth.ownAt s1.time.ticks
  let full := decide (1048576 < (s1.eth.excOwner.map (·.length)).sum + frame.length)
  { s1 with eth := { s1.eth with
    ownTok := r.2.1, ownAt := r.2.2
    excOwner := if r.1 && !full then s1.eth.excOwner ++ [excSlot port reason vlan f frame] else s1.eth.excOwner } }

/-- The function whose exception ring serves partition `p` (R716). -/
def excFn (s : State) (p : Nat) : Option Nat :=
  (s.host.fns.find? fun e => match Tab.get e.2.hrings 0 with
    | some r => r.part == some p
    | none => false).map (·.1)

/-- EXCEPTION_DELIVERY (R717): the next packet of the exception queue of partition `p`, or of the owner function
(`p` = 256), goes into its ring; one that finds every slot unconsumed is dropped. -/
def execExceptionDelivery (p : Nat) (s : State) : Out :=
  onPart (decide (p ≤ 256)) s fun s =>
    if p = 256 then
      match s.eth.excOwner with
      | [] => s
      | d :: t =>
        let s1 := { s with eth := { s.eth with excOwner := t } }
        match Tab.get (getFn s s.host.owner).hrings 0 with
        | none => s
        | some r => if r.part.isSome then s else (deliverSlot s.host.owner 0 d s1).getD s1
    else
      match qHead s (qExc p), excFn s p with
      | some it, some F =>
        let s1 := qPop (qExc p) s
        match deliverSlot F 0 it.pkt.data s1 with
        | some s2 => s2
        | none => bumpPart s1 p .excDrop
      | _, _ => s

/-! ## Stamps and filters -/

/-- The media time of a receive stamp (R110); none when its epoch is older than the previous one. -/
def stampMt (s : State) (f : RxFrame) : Option Nat :=
  let t : Int := (f.phc / 2 ^ 32 : Nat)
  if f.epoch = s.time.epoch then some (wrap 64 (t - s.time.eOff))
  else if (f.epoch + 1) % 2 ^ 32 = s.time.epoch then s.time.ePrev.map fun e => wrap 64 (t - e)
  else none

/-- The receive stamp of a frame on port `p` now: the raw stamp less RX_CORR of the mode (R87). -/
def rxStamp (s : State) (p : Nat) : Nat :=
  ((s.time.phc : Int) - (((getPort s p).corr[s.eth.mode]?).getD (0, 0)).1 * 65536).toNat

/-- A MAC address read as the number its octets spell in wire order, and back (R734). -/
def macFlip (v : Nat) : Nat := fromLe (toLe 6 v).reverse

/-- The port's own address (Table 15-9): its field, or MAC_BASE + p of the boot block. -/
def portMac (s : State) (p : Nat) : Nat :=
  match Tab.get (getPort s p).fields (fk 0x12 3 0) with
  | some v => v.toNat
  | none => macFlip ((macFlip s.boot.hdr.mac + p) % 2 ^ 48)

/-- Whether a port accepts a destination address (R143). -/
def macOk (s : State) (p d : Nat) : Bool :=
  d == portMac s p || d == 2 ^ 48 - 1 || ((getPort s p).filters.any fun e => e.2 = d)
    || (s.eth.mcast.any fun e => e.2.1 = d)

/-- The address table entry that admits a UDP packet (step 10, R147): its index and the entry. -/
def addrFor (s : State) (vlan dst dport : Nat) : Option (Nat × Addr) :=
  s.eth.addrs.find? fun e => e.2.vlan = vlan && e.2.ip = dst && decide (e.2.lo ≤ dport) && decide (dport ≤ e.2.hi)

/-- The partition of a frame that leaves the order before step 10: that of the first entry with its VLAN and address. -/
def guessPart (s : State) (vlan : Nat) (dst : Option Nat) : Option Nat :=
  dst.bind fun d => (s.eth.addrs.find? fun e => e.2.vlan = vlan && e.2.ip = d).map (·.2.part)

/-- The PTP path (R98, R719): to the host time owner's ring, else to firmware; dropped with no ring or no room, and
while firmware is absent (Table 2-11). -/
def ptpIn (p : Nat) (f : RxFrame) (vlan : Nat) (s : State) : State :=
  match timeOwner s with
  | some F => (deliverSlot F 2 (excSlot p 0x04 vlan f f.bytes) s).getD (bumpDev s .ptpDropped)
  | none => if s.time.alone then bumpDev s .ptpDropped else s

/-! ## Stream lookup (R149 to R151) -/

/-- Whether a packet comes from the remote of a leg (R151): a LATCH leg that has not latched takes any source. -/
def remoteOk (s : State) (l src sport : Nat) : Bool :=
  if ofld s l (fk 0x01 6 0) = 1 then
    match (getLeg s l).latched with
    | some a => a == (src, sport)
    | none => true
  else ofldN s l (fk 0x01 4 0) + 2 ^ 64 * ofldN s l (fk 0x01 4 1) == src && ofldN s l (fk 0x01 5 0) == sport

/-- The legs of partition `p` whose local and remote addresses a packet carries. -/
def legsFor (s : State) (ai p : Nat) (u : UdpIn) : List Nat :=
  (objKeys s 3).filter fun l =>
    decide (legKind s l ≤ 1) && ((getObj s l).map (·.part)) == some p && ofldN s l (fk 0x01 2 0) == ai
      && ofldN s l (fk 0x01 3 0) == u.dport && remoteOk s l u.src u.sport

/-- Whether the extensions of a packet name stream `x` by MID and RID, or repaired RID (Table 3-3, order 2). -/
def namedBy (s : State) (l x : Nat) (r : RtpIn) : Bool :=
  let m := streamMid s x
  let rid := streamRid s x
  !m.isEmpty && r.ext (extId s l 0) == some m &&
    (rid.isEmpty || (if streamRole s x = 3 then r.ext (extId s l 2) else r.ext (extId s l 1)) == some rid)

/-- The received stream of an RTP packet (Table 3-3): by its SSRC, else by MID and RID. -/
def lookupRtp (s : State) (legs : List Nat) (r : RtpIn) : Option Nat :=
  let xs := legs.flatMap fun l => (legStreams s l false).map fun x => (l, x)
  match xs.find? fun e => streamSsrc s e.2 == some r.ssrc with
  | some e => some e.2
  | none => (xs.find? fun e => (streamSsrc s e.2).isNone && namedBy s e.1 e.2 r).map (·.2)

/-- The leg of an RTCP compound whose first packet has sender SSRC `ssrc` (Table 3-3). -/
def lookupRtcp (s : State) (legs : List Nat) (ssrc : Nat) : Option Nat :=
  match legs.find? fun l => (legStreams s l false).any fun x => streamSsrc s x == some ssrc with
  | some l => some l
  | none => legs.head?

/-! ## SRTP (R154 to R161) -/

/-- Authentication under the inbound keys of a leg (R157): CURRENT, then NEXT, which it promotes, then PREVIOUS for 2 s
after a promotion. `key` is the key under which the packet's tag verifies. -/
def srtpAuth (l : Nat) (key : Option Bytes) (s : State) : Bool × State :=
  if inMode s l = 0 then (true, s)
  else
    let d := getLeg s l
    match key with
    | none => (false, s)
    | some k =>
      if d.keyCur = some k then (true, s)
      else if d.keyNext = some k then
        (true, setLeg s l { d with keyPrev := d.keyCur, keyCur := some k, keyNext := none, promoted := s.time.ticks })
      else if d.keyPrev = some k ∧ s.time.ticks < d.promoted + 2 * tS then (true, s)
      else (false, s)

/-- The replay check (R159, R160): the context after index `v`, or none when the packet is dropped. -/
def replayCheck (c : Option Crypto) (v : Nat) : Option Crypto :=
  match c with
  | none => some { hi := v, win := 1 }
  | some c =>
    if c.hi < v then
      some { hi := v, win := if 128 ≤ v - c.hi then 1 else (c.win * 2 ^ (v - c.hi) + 1) % 2 ^ 128 }
    else if 127 < c.hi - v ∨ bitOf c.win (c.hi - v) then none
    else some { c with win := c.win + 2 ^ (c.hi - v) }

/-- The replay check of an RTP packet; mode NONE has none. -/
def rtpReplay (l ssrc seq : Nat) (s : State) : Option State :=
  if inMode s l = 0 then some s
  else
    let d := getLeg s l
    let c := Tab.get d.ctx ssrc
    (replayCheck c (extend 16 (c.map (·.hi)) seq)).map fun c1 => setLeg s l { d with ctx := Tab.set d.ctx ssrc c1 }

/-- The replay check of an SRTCP packet (R161). -/
def rtcpReplay (l ssrc index : Nat) (s : State) : Option State :=
  if inMode s l = 0 then some s
  else
    let d := getLeg s l
    (replayCheck (Tab.get d.rctx ssrc) (index % 2 ^ 31)).map fun c1 => setLeg s l { d with rctx := Tab.set d.rctx ssrc c1 }

/-- The first packet that authenticates on a LATCH leg gives its remote (R151). -/
def latch (l src sport : Nat) (s : State) : State :=
  if ofld s l (fk 0x01 6 0) = 1 ∧ (getLeg s l).latched = none then
    setLeg s l { getLeg s l with latched := some (src, sport) }
  else s

/-! ## Hand-off (step 18) -/

/-- The RTP clock of a stream's telephone events: that of its first audio codec, 8,000 Hz without one (RFC 4733). -/
def teClock (s : State) (x : Nat) : Nat :=
  match ((ptMap s x).map (·.2)).find? fun c => decide (1 ≤ c) && decide (c ≤ 6) with
  | some c => codecClock c
  | none => 8000

/-- Whether an audio packet carries more than RX_FRAME_MAX of audio (R416). -/
def frameOver (s : State) (x codec : Nat) (pay : Bytes) : Bool :=
  decide (ofldN s x (fk 0x04 16 0) * codecClock codec < audioLen codec (rxChans s x) pay * 1000000000)

/-- Writes DTMF_DETECTED for an RFC 4733 event of stream `x` (R454): its duration counts at 8 kHz. -/
def dtmfReport (x : Nat) (e : TeEv) (s : State) : State :=
  let l := legOfStream s x
  emitObj (bumpObj s l .dtmfRx) l 0x061 (toLe 1 e.code ++ zeros 3 ++ toLe 4 (e.dur * 1000 / teClock s x))

/-- A telephone-event packet (R454): the first end packet of an event reports it. -/
def teIn (x mt : Nat) (r : Rtp) (s : State) : State :=
  let code := be r.pay 0 1
  let dur := be r.pay 2 2
  let fin := bitOf (be r.pay 1 1) 7
  let d := getStream s x
  if 15 < code ∨ r.pay.length < 4 then s
  else
    let live := d.te.filter fun e => !e.done || decide (mt < e.at_ + 5000000000)
    let old := live.find? fun e => e.ts = r.ts
    let e0 : TeEv := old.getD { ts := r.ts, code := code, dur := dur, at_ := mt }
    let e1 := { e0 with dur := max e0.dur dur, done := e0.done || fin }
    let s1 := setStream s x { d with te := (live.filter fun e => e.ts ≠ r.ts) ++ [e1] }
    if fin && !e0.done then dtmfReport x e1 s1 else s1

/-- DTMF_END_TIMEOUT (R454): events of stream `x` that began 5 s ago and have no end. -/
def execDtmfEndTimeout (x : Nat) (s : State) : Out :=
  onPart (decide (x < 16384)) s fun s =>
    let x := okey 4 x
    let d := getStream s x
    let due (e : TeEv) : Bool := !e.done && decide (e.at_ + 5000000000 ≤ now s)
    let s1 := if d.te.any due then
        setStream s x { d with te := d.te.map fun e => { e with done := e.done || due e } } else s
    (d.te.filter due).foldl (fun s e => dtmfReport x e s) s1

/-- A media packet reaches its consumers: the forwarder, and the jitter buffer or bitstream queue of its stream. `n` is
the received frame length. -/
def mediaIn (x mt : Nat) (r : Rtp) (info : Info) (n : Nat) (s : State) : State :=
  match codecOf s x r.pt with
  | none => s
  | some c =>
    let d := getStream s x
    let ext := extend 16 d.srcHi r.seq
    let s1 := setStream s x { d with
      srcHi := some (max ext (d.srcHi.getD ext)), gaps := d.gaps.filter fun g => g.seq ≠ r.seq }
    let s2 := forward { enc := x, codec := if 8 ≤ c ∧ c ≤ 11 then c else 0, ext := ext, hi := d.srcHi, mt := mt
                        rtp := r, info := info } n s1
    if r.padOnly then s2
    else if c ≤ 6 then (if frameOver s2 x c r.pay then bumpObj s2 x .rxFrameOver else jbInsert x mt c r s2)
    else if c = 7 then teIn x mt r s2
    else if isDecoded s2 x then bitPush x mt c ext r.pay.length r.ts r.marker info s2
    else s2

/-- The payload type of a primary stream that a retransmission restores: its first media codec's (R153). -/
def primaryPt (s : State) (y : Nat) : Nat :=
  (((ptMap s y).find? fun e => decide (e.2 ≤ 11) || e.2 == 14).map (·.1)).getD 0

/-- The consumer takes an item of a received stream's queue (Table 12-1): a retransmission stands for the packet of its
primary whose sequence number it names (R177). -/
def rxConsume (x : Nat) (it : Item) (s : State) : State :=
  let r := it.pkt.rtp
  if streamRole s x = 3 then
    let y := streamLink s x
    let d := getStream s x
    let ext := extend 16 d.srcHi r.seq
    let s1 := setStream s x { d with srcHi := some (max ext (d.srcHi.getD ext)) }
    if r.pay.length < 2 || !(isActive s y) then s1
    else
      mediaIn y it.pkt.mt { r with pt := primaryPt s y, seq := be r.pay 0 2, ssrc := (streamSsrc s y).getD 0
                                   osn := none, pay := r.pay.drop 2 } it.pkt.info it.pkt.len s1
  else mediaIn x it.pkt.mt r it.pkt.info it.pkt.len s

/-- Offers an item to the queue of received stream `x` (R616, R620, R621): a full queue holds the port's pipeline. -/
def rxOffer (p x : Nat) (it : Item) (s : State) : State :=
  let q := qStream x
  if it.yellow && qFixed s q && poolFree s.batten == 0 then bumpObj s x .yellowNoCell
  else if qFull s q it.pkt.len then
    qHold q (updPort s p fun e => { e with held := some (q, it, s.time.ticks) })
  else rxConsume x it (qPop q (qPush q it false s))

/-- What the reception counts of a packet that passed step 15 (R207, R256): arrivals, base, gaps. -/
def rxCount (x mt seq n : Nat) (s : State) : State :=
  let d := getStream s x
  let ext := extend 16 d.srcHi seq
  let missing := match d.srcHi with
    | some h => if h < ext then (List.range (ext - h - 1)).map fun k => ({ seq := (h + 1 + k) % 65536, at_ := mt } : Gap) else []
    | none => []
  let ccfb := bitOf (ofldN s (legOfStream s x) (fk 0x01 9 0)) 0
  bumpObj (bumpObj (setStream s x { d with
    arrs := if ccfb then d.arrs ++ [(ext, mt)] else d.arrs
    rxBase := some (d.rxBase.getD ext), rxGot := d.rxGot + 1
    gaps := if (rtxOf s x).isSome then d.gaps ++ missing else d.gaps }) x .rxPackets) x .rxBytes n

/-- The RTP packet as the rest of the device sees it: header, extensions of R152, decrypted payload without padding. -/
def rtpOf (s : State) (l : Nat) (h : RtpIn) (body : Bytes) : Rtp :=
  let padN := if h.pad then ((body.getLast?).map (·.toNat)).getD 0 else 0
  let pay := body.take (body.length - padN)
  let known := [0, 1, 2, 4, 5, 6].map (extId s l)
  { pt := h.pt, marker := h.mark, seq := h.seq, ts := h.ts, ssrc := h.ssrc, csrc := h.csrc
    mid := (h.ext (extId s l 0)).getD [], rid := (h.ext (extId s l 1)).getD [], rrid := (h.ext (extId s l 2)).getD []
    level := (h.ext (extId s l 4)).map fun b => be b 0 1
    xlen := ((h.xs.filter fun e => !(known.contains e.1)).map fun e => e.2.length + (if h.two then 2 else 1)).sum
    padOnly := h.pad && pay.isEmpty, pay := pay }

/-- Steps 14 to 18 for an RTP packet with header `h` on address entry `ai` of partition `pt`. -/
def rtpIn (p ai pt : Nat) (f : RxFrame) (mt : Nat) (u : UdpIn) (h : RtpIn) (s : State) : State :=
  let n := f.bytes.length + 4
  match lookupRtp s (legsFor s ai pt u) h with
  | none => exceptTo pt p 0x01 u.vlan f f.bytes s
  | some x =>
    let l := legOfStream s x
    if !(isActive s l && isActive s x) then s
    else
      let a := srtpAuth l f.x.key s
      if !a.1 then bumpObj s l .rxAuthFail
      else
        match rtpReplay l h.ssrc h.seq a.2 with
        | none => bumpObj a.2 l .rxReplay
        | some s1 =>
          let s2 := latch l u.src u.sport s1
          let s3 := if (streamSsrc s2 x).isNone then setStream s2 x { getStream s2 x with ssrc := some h.ssrc } else s2
          let s4 := rxCount x mt h.seq n s3
          if (codecOf s4 x h.pt).isNone then bumpObj s4 x .rxUnknownPt
          else
            let pol := ofld s4 x (fk 0x04 13 0)
            let c := if pol = noneV then (Colour.green, s4) else police pt pol.toNat n u.dscp s4
            match c.1 with
            | .red => bumpObj c.2 x .rxRed
            | col =>
              let r := rtpOf c.2 l h (if inMode c.2 l = 0 then u.pay.drop h.off else f.x.plain)
              let yellow := decide (col = .yellow)
              rxOffer p x { pkt := { kind := .rx, len := n, leg := l, stream := x, rtp := r, info := f.x.info, mt := mt }
                            tick := c.2.time.ticks, yellow := yellow && isFixed c.2 x }
                (if yellow then bumpObj c.2 x .rxYellow else c.2)

/-- Steps 14 to 18 for an RTCP compound (R180). -/
def rtcpIn (p ai pt : Nat) (f : RxFrame) (mt : Nat) (u : UdpIn) (s : State) : State :=
  let ssrc := be u.pay 4 4
  match lookupRtcp s (legsFor s ai pt u) ssrc with
  | none => exceptTo pt p 0x01 u.vlan f f.bytes s
  | some l =>
    if !(isActive s l) then s
    else
      let a := srtpAuth l f.x.key s
      if !a.1 || (inMode s l != 0 && !f.x.eflag) then bumpObj s l .rxAuthFail
      else
        match rtcpReplay l ssrc f.x.index a.2 with
        | none => bumpObj a.2 l .rxReplay
        | some s1 =>
          let s2 := latch l u.src u.sport s1
          let s3 := updGov s2 l fun g => { g with fb := g.fb ++ [{ mt := mt, msgs := f.x.rtcp }] }
          let whole := if inMode s2 l = 0 then u.pay else f.x.plain
          if f.x.rtcp.any fun | .misc _ => true | _ => false then
            exceptTo pt p 0x0C u.vlan f (f.bytes.take u.off ++ whole) s3
          else s3

/-- Steps 10 to 18 of Table 3-2 for a UDP packet. -/
def udpIn (p : Nat) (f : RxFrame) (mt : Nat) (u : UdpIn) (s : State) : State :=
  match addrFor s u.vlan u.dst u.dport with
  | none => exceptOwner p 0x0B u.vlan f f.bytes s
  | some (ai, a) =>
    let b := be u.pay 0 1
    let b2 := be u.pay 1 1
    let bad (s : State) : State := match (legsFor s ai a.part u).head? with
      | some l => bumpObj s l .rxMalformed
      | none => bumpPort s p .rxMalformed
    if u.pay.isEmpty then exceptTo a.part p 0x0A u.vlan f f.bytes s
    else if b ≤ 3 then exceptTo a.part p 0x02 u.vlan f f.bytes s
    else if 20 ≤ b ∧ b ≤ 63 then exceptTo a.part p 0x03 u.vlan f f.bytes s
    else if b < 128 ∨ 191 < b then exceptTo a.part p 0x0A u.vlan f f.bytes s
    else if 192 ≤ b2 ∧ b2 ≤ 223 then
      if u.pay.length < 8 || !f.x.valid then bad s else rtcpIn p ai a.part f mt u s
    else
      match parseRtp u.pay with
      | none => bad s
      | some h => rtpIn p ai a.part f mt u h s

/-- The classification of one frame of port `p` (Table 3-2). -/
def classify (p : Nat) (f : RxFrame) (s : State) : State :=
  let n := f.bytes.length + 4
  let e := getPort s p
  if n < 64 then bumpPort s p .rxRunt
  else if fldN e.fields (fk 0x12 1 0) + 4 * countTags f.bytes 12 8 < n then bumpPort s p .rxOversize
  else if !f.fcsOk then bumpPort s p .rxFcsErr
  else if !(macOk s p (le f.bytes 0 6)) then bumpPort s p .rxMacFiltered
  else
    match stampMt s f with
    | none => bumpDev s .epochStale
    | some mt =>
      match classifyFrame f.bytes with
      | .malformed => bumpPort s p .rxMalformed
      | .ptp => ptpIn p f (if isTag (be f.bytes 12 2) then be f.bytes 14 2 % 4096 else 0xFFFF) s
      | .exc reason vlan dst =>
        match guessPart s vlan dst with
        | some pt => exceptTo pt p reason vlan f f.bytes s
        | none => exceptOwner p reason vlan f f.bytes s
      | .udp u => udpIn p f mt u s

/-! ## The receive FIFO (R621, R622) -/

/-- Brings the FIFO state of a port in line with its thresholds (R622). -/
def fifoSync (p : Nat) (s : State) : State :=
  let e := getPort s p
  let n := fifoBytes e
  if !e.xoff && decide (fldN e.fields (fk 0x12 5 0) ≤ n) then fcSync p (setPort s p { e with xoff := true })
  else if e.xoff && decide (n ≤ fldN e.fields (fk 0x12 5 1)) then fcSync p (setPort s p { e with xoff := false })
  else s

/-- The pipeline of a port runs on through its FIFO until it holds a packet again. -/
def fifoRun (p : Nat) : Nat → State → State
  | 0, s => s
  | n + 1, s =>
    let e := getPort s p
    match e.held, e.fifo with
    | none, f :: t => fifoRun p n (classify p f (fifoSync p (setPort s p { e with fifo := t })))
    | _, _ => s

/-- The held packet of a port is no longer held: the pipeline runs on. -/
def pipeResume (p : Nat) (s : State) : State :=
  let s1 := updPort s p fun e => { e with held := none }
  fifoRun p ((getPort s1 p).fifo.length) s1

/-- ETH_FRAME_RECEIVE (R86, R87, R146): a frame on port `p`, stamped and classified; behind a held packet it waits in the
port's FIFO, which drops what has no room. A port whose link is down, or that the mode does not form, receives nothing. -/
def execEthFrameReceive (p : Nat) (fcsOk : Bool) (bytes : Bytes) (x : FrameX) (s : State) : Out :=
  onPart (decide (p < 8)) s fun s =>
    let e := getPort s p
    let f : RxFrame := { fcsOk := fcsOk, bytes := bytes, x := x, phc := rxStamp s p, epoch := s.time.epoch }
    if !e.up || !(decide (p < nPorts s)) then s
    else if e.held.isNone then classify p f s
    else if 262144 < fifoBytes e + bytes.length then bumpPort s p .rxFifoDrop
    else fifoSync p (setPort s p { e with fifo := e.fifo ++ [f] })

/-- RX_HOLD_EXPIRY (R621): after RX_HOLD the held packet is dropped and the pipeline runs on. -/
def execRxHoldExpiry (p : Nat) (s : State) : Out :=
  onPart (decide (p < 8)) s fun s =>
    match (getPort s p).held with
    | none => s
    | some (q, it, since) =>
      guarded (decide (since + nsTicks (fldN (getPort s p).fields (fk 0x12 4 0)) ≤ s.time.ticks)) s fun s =>
        let y := getQ s q
        let s1 := setQ s q { y with
          heldSince := none
          ctrs := match y.heldSince with
            | some t => bump y.ctrs .heldCycles (s.time.ticks - t)
            | none => y.ctrs }
        pipeResume p (bumpObj s1 it.pkt.stream .rxQueueDrop)

/-- The port whose pipeline holds a packet for queue `q`. -/
def heldPort (s : State) (q : Nat) : Option (Nat × Item) :=
  (s.eth.ports.findSome? fun e => match e.2.held with
    | some (q', it, _) => if q' = q then some (e.1, it) else none
    | none => none)

/-- HELD_PUSH_RETRY (R620): a producer held on queue `q` pushes again once there is room: the packet of a port's pipeline
on a received stream's queue, a pacer or control queue on a class queue. -/
def execHeldPushRetry (q : Nat) (s : State) : Out :=
  onPart (decide (q < 32768)) s fun s =>
    if qKind q = 2 then
      match heldProducers s ((q - 18432) / 8) (q % 8) with
      | [] => s
      | a :: _ => if qKind a = 0 then releaseStream (okey 4 a) s else releaseCtrl (okey 3 (a - 18496)) s
    else
      match heldPort s q with
      | none => s
      | some (p, it) =>
        if qFull s q it.pkt.len then s
        else pipeResume p (rxConsume it.pkt.stream it (qPop q (qPush q it false
          (updPort s p fun e => { e with held := none }))))

/-- QUEUE_FLUSH_APPLY (R626): at the queue's packet boundary every item present is removed, and DROPPED of its stream and
leg counts the bytes (R606); a held producer is re-tested by HELD_PUSH_RETRY. -/
def execQueueFlushApply (q : Nat) (s : State) : Out :=
  onPart (decide (q < 32768)) s fun s =>
    guarded (getQ s q).flush s fun s =>
      let items := (getQ s q).items
      let s1 := qDiscard q (fun _ => true) s
      let s2 := setQ s1 q { getQ s1 q with flush := false }
      let l := if qKind q = 3 then okey 3 (q - 18496) else legOfStream s (okey 4 q)
      let n := (items.map fun it => acctLen s (legPort s l) it.pkt.len).sum
      if qKind q = 3 then bumpObj s2 l .droppedBytes n
      else if qKind q = 0 && isOut s (okey 4 q) then bumpObj (bumpObj s2 (okey 4 q) .droppedBytes n) l .droppedBytes n
      else s2

/-- PREVIOUS_KEY_ERASE (R157): 2 s after a promotion the PREVIOUS key of leg `l` is erased. -/
def execPreviousKeyErase (l : Nat) (s : State) : Out :=
  onPart (decide (l < 4096)) s fun s =>
    let l := okey 3 l
    let d := getLeg s l
    guarded (d.keyPrev.isSome && decide (d.promoted + 2 * tS ≤ s.time.ticks)) s fun s =>
      setLeg s l { d with keyPrev := none }

end Sys2Proof.Machine
end

