-- ==== Sys2Proof/Machine/Records.lean ====
section
/-!
DEFINITION. Fault records and the FAULT_N pin (R759 to R765): every detection of Table 16-1 goes through `detect`.
-/

namespace Sys2Proof.Machine

open Sys2Proof

/-- Whether a record of this mechanism holds FAULT_N (Table 16-1, FAULT_N column). -/
def holdsFault (mech : Nat) (crit : Bool) : Bool :=
  if mech ≤ 0x08 || mech == 0x14 then crit else mech != 0x0E

/-- Writes FAULT_ASSERTED for record `i`, at most once per second (R762). -/
def faultEvent (i : Nat) (s : State) : State :=
  match Tab.get s.dep.recs i with
  | none => s
  | some r =>
    if (match r.evAt with
        | some t => decide (t + tS ≤ s.time.ticks)
        | none => true) then
      emit .all 0x0B0 r.obj (toLe 1 r.mech ++ zeros 3 ++ toLe 4 i)
        { s with dep := { s.dep with recs := Tab.set s.dep.recs i { r with evAt := some s.time.ticks } } }
    else s

/-- A detection by mechanism `mech` on instance `inst` (0xFFFF for none) and object `obj` (a handle, 0 for none).
`persist` tells a condition with duration; `crit` whether it touches a critical object (R760 to R762). -/
def detect (mech inst obj detail : Nat) (persist crit : Bool) (s : State) : State :=
  let h := holdsFault mech crit
  match s.dep.recs.find? fun e => e.2.mech = mech && e.2.inst = inst && e.2.obj = obj with
  | some (i, r) =>
    let s1 := { s with dep := { s.dep with recs := Tab.set s.dep.recs i { r with
      active := r.active || persist, holds := r.holds || h, last := now s
      count := min 0xFFFFFFFF (r.count + 1), detail := detail } } }
    if persist && !r.active then faultEvent i s1 else s1
  | none =>
    match lowestFree (Tab.keys s.dep.recs) 0 64 with
    | some i =>
      let r : FaultRec := { mech := mech, active := persist, holds := h, inst := inst, obj := obj, first := now s
                            last := now s, count := 1, detail := detail }
      faultEvent i { s with dep := { s.dep with recs := Tab.set s.dep.recs i r } }
    | none =>
      let s1 := bumpDev s .faultRecordsLost
      { s1 with dep := { s1.dep with lostHolds := s1.dep.lostHolds || h } }

/-- The condition of a record ends: ACTIVE becomes CLEARED (R760). -/
def conditionEnd (mech inst obj : Nat) (s : State) : State :=
  { s with dep := { s.dep with recs := s.dep.recs.map fun e =>
    if e.2.mech = mech && e.2.inst = inst && e.2.obj = obj then (e.1, { e.2 with active := false }) else e } }

/-- Whether FAULT_N is asserted (R761, R763, R764). -/
def faultN (s : State) : Bool :=
  s.boot.porstLow ||
  (match s.host.dev with
   | .ready => false
   | .fwRestarting => false
   | _ => true) ||
  s.dep.lostHolds || s.dep.recs.any fun e => e.2.holds

/-- A fault record (Table 16-2). -/
def recBytes (r : FaultRec) : Bytes :=
  toLe 1 r.mech ++ toLe 1 ((if r.active then 1 else 2) + 4 * b2n r.holds) ++ toLe 2 r.inst ++ toLe 4 r.obj
    ++ toLe 8 r.first ++ toLe 8 r.last ++ toLe 4 r.count ++ toLe 4 r.detail

/-- A FREE record reads as its reset value (Table 16-2). -/
def freeRec : Bytes := zeros 2 ++ toLe 2 0xFFFF ++ zeros 28

/-- The answer of R765: the counts, FAULT_N, and `n` records from `first` on. -/
def recordsRead (s : State) (first : Nat) (n : Nat := 32) : Bytes :=
  toLe 2 s.dep.recs.length ++ toLe 2 (ctr s.time.ctrs .faultRecordsLost) ++ toLe 1 (b2n (faultN s)) ++ zeros 3
    ++ (List.range n).flatMap fun k =>
      if first + k < 64 then ((Tab.get s.dep.recs (first + k)).map recBytes).getD freeRec else []

/-- Whether the object with key `k` is marked critical. -/
def isCritical (s : State) (k : Nat) : Bool := ((getObj s k).map (·.crit)).getD false

/-- The handle of the object with key `k`; 0 when there is none. -/
def handleOf (s : State) (k : Nat) : Nat := ((getObj s k).map (objHandle k)).getD 0

/-- An audio path fault of leg `l` (R467 to R470, R475): counter `which` of Table 15-23 with the tag unit's sequence
number, AUDIO_PATH_FAULT, and the fault record of mechanism `mech` on instance `inst`. -/
def audioFault (l mech inst which seq : Nat) (s : State) : State :=
  let c := if which = 0 then Ctr.critMismatch else if which = 1 then .critCrc else .critMissing
  detect mech inst (handleOf s l) (if mech = 0x02 then which else 0) false (isCritical s l)
    (emitObj (bumpObj s l c) l 0x063 (toLe 1 which ++ zeros 1 ++ toLe 2 seq))

end Sys2Proof.Machine
end

