-- ==== Sys2Proof/Machine/Egress.lean ====
section
/-!
DEFINITION. The transmit direction (R86 to R95, R158, R162, R220, R469, R584 to R593, R718, R719) and the state of ports,
address tables and keys that commands write (R138 to R143, R147, R155 to R158, R741, R742, R746).
-/

namespace Sys2Proof.Machine

open Sys2Proof

/-! ## Transmit stamps -/

/-- Queues a transmit stamp record on a port (R92, R93). -/
def pushStamp (p id : Nat) (dropped : Bool) (epoch phc : Nat) (s : State) : State :=
  let e := getPort s p
  if 64 ≤ e.stampQ.length then bumpPort (setPort s p { e with stampLost := true }) p .stampLost
  else
    setPort s p { e with
      stampQ := e.stampQ ++ [{ id := id, port := p, lost := e.stampLost, dropped := dropped, epoch := epoch, phc := phc }]
      stampLost := false }

/-- The record of a frame that is dropped before transmission, when it asked for a stamp (R94). -/
def dropStamp (p : Nat) (pk : Pkt) (s : State) : State :=
  match pk.stamp with
  | some id => pushStamp p id true 0 0 s
  | none => s

/-- The record of a frame that leaves now: the raw stamp plus TX_CORR of the mode (R87). -/
def sentStamp (p : Nat) (pk : Pkt) (s : State) : State :=
  match pk.stamp with
  | some id =>
    pushStamp p id false s.time.epoch
      ((s.time.phc : Int) + (((getPort s p).corr[s.eth.mode]?).getD (0, 0)).2 * 65536).toNat s
  | none => s

/-- A stamp record as 16 bytes (Table 2-5). -/
def stampBytes (r : Stamp) : Bytes :=
  toLe 2 r.id ++ toLe 1 (r.port % 8 + 8 * b2n r.lost + 16 * b2n r.dropped) ++ toLe 1 (r.epoch % 256)
    ++ toLe 4 (r.phc / 2 ^ 32 % 1000000000) ++ toLe 6 (r.phc / 2 ^ 32 / 1000000000) ++ toLe 2 (r.phc % 2 ^ 32 / 65536)

/-- TX_STAMP_DELIVERY (R95): the oldest record of port `p` goes into the host time owner's STAMP_EQ, when it has room. -/
def execTxStampDelivery (p : Nat) (s : State) : Out :=
  onPart (decide (p < 8)) s fun s =>
    let e := getPort s p
    let v := timePrm s 8
    match e.stampQ, timeOwner s with
    | r :: t, some F =>
      if v = noneV then s
      else
        let qi := v.toNat
        let f := eqLost s.time.ticks (now s) (getFn s F) qi
        match Tab.get f.queues qi with
        | none => s
        | some q =>
          if eqRoom q && !(f.backlog.any fun b => b.1 = qi) && !(Tab.has f.pendLoss qi) then
            setPort (setFn s F (eqWrite s.time.ticks f qi q
              { typ := 0x010, handle := 0, mt := now s, payload := stampBytes r })) p { e with stampQ := t }
          else s
    | _, _ => s

/-! ## The transmitter -/

/-- A CRC-16 step with polynomial 0x1021, most significant bit first. -/
def crc16Bits : Nat → Nat → Nat
  | 0, c => c
  | n + 1, c => crc16Bits n (if 32768 ≤ c then (2 * c % 65536) ^^^ 0x1021 else 2 * c % 65536)

/-- The CRC-16 of R468: polynomial 0x1021, initial value 0xFFFF. -/
def crc16 (b : Bytes) : Nat := b.foldl (fun c x => crc16Bits 8 (c ^^^ (x.toNat * 256))) 0xFFFF

/-- The check of a critical leg's tag before protection (R469 to R471); `bad` says that the payload read from the buffer
fails its CRC. A payload that fails is replaced by concealment. -/
def tagCheck (bad : Bool) (pk : Pkt) (s : State) : Pkt × State :=
  match pk.tag with
  | none => (pk, s)
  | some t =>
    let d := getLeg s pk.leg
    let s1 := match d.tagOut with
      | some want => if want = t.first then s else audioFault pk.leg 0x02 0xFFFF 2 want s
      | none => s
    let s2 := setLeg s1 pk.leg { getLeg s1 pk.leg with tagOut := some ((t.first + t.n) % 65536) }
    if bad || crc16 pk.rtp.pay != t.crc then
      ({ pk with rtp := { pk.rtp with pay := concealedPayload s2.free pk.rtp.pay } },
       audioFault pk.leg 0x02 0xFFFF 1 t.first { s2 with free := s2.free + 1 })
    else (pk, s2)

/-- The egress header extensions of a leg's packet (R220): abs-send-time and the transport-wide sequence number. -/
def writeExts (pk : Pkt) (s : State) : Pkt × State :=
  let l := pk.leg
  let isRtp := match pk.kind with
    | .media | .copy | .rtx | .padding => true
    | _ => false
  if l = 0 || !isRtp then (pk, s)
  else
    let ast := if extId s l 5 = 0 then none else some (now s * 2 ^ 18 / 1000000000 % 2 ^ 24)
    let g := getGov s l
    if extId s l 6 = 0 then ({ pk with rtp := { pk.rtp with ast := ast } }, s)
    else ({ pk with rtp := { pk.rtp with ast := ast, twcc := some g.twcc } },
      setGov s l { g with twcc := (g.twcc + 1) % 65536 })

/-- The outbound key of a leg's packet (R158): NEXT takes the place of CURRENT from its activation time on; an SRTCP
packet takes the next SRTCP index. -/
def outKeys (pk : Pkt) (s : State) : State :=
  if pk.leg = 0 then s
  else
    let d := getLeg s pk.leg
    let d1 := if d.outNext.isSome ∧ d.outAt ≤ now s then { d with outCur := d.outNext, outNext := none } else d
    setLeg s pk.leg (if pk.kind = .rtcp then { d1 with outIdx := (d1.outIdx + 1) % 2 ^ 31 } else d1)

/-- A frame leaves port `p` from class `c` (R584): tag check, extensions, keys, protection, stamp, send record. -/
def transmit (p c : Nat) (bad : Bool) (pk : Pkt) (s : State) : State :=
  let a := tagCheck bad pk s
  let b := writeExts a.1 a.2
  let n := acctLen s p pk.len
  let s1 := onSent b.1 (now s) (outKeys b.1 b.2)
  let s2 := updCls s1 p c fun x => { x with waited := false, ctrs := bump (bump x.ctrs .txPackets) .txBytes n }
  sentStamp p b.1 (updPort s2 p fun e => { e with
    lastTx := some b.1, txFree := s.time.ticks + ceilDiv (n * 32) (portGb s p * 5) })

/-- Drops the head of class queue (p, c) and counts its accounted bytes in `ct`. -/
def dropHead (p c : Nat) (ct : Ctr) (s : State) : State :=
  match qHead s (qClass p c) with
  | none => s
  | some it =>
    dropStamp p it.pkt (updCls (qPop (qClass p c) s) p c fun x => { x with
      waited := false, ctrs := bump x.ctrs ct (acctLen s p it.pkt.len) })

/-- Drops the head frames of class `c` that exceed W_max (R593). -/
def dropOversize (p c : Nat) : Nat → State → State
  | 0, s => s
  | n + 1, s =>
    match qHead s (qClass p c) with
    | none => s
    | some it =>
      if fitsNs s p (acctLen s p it.pkt.len) (wMax (getPort s p) c) then s
      else dropOversize p c n (dropHead p c .gateOversizeDrop s)

/-- Drops every packet that reaches the head of class `c` while the link is down (R587). -/
def dropAll (p c : Nat) : Nat → State → State
  | 0, s => s
  | n + 1, s => if (qHead s (qClass p c)).isNone then s else dropAll p c n (dropHead p c .linkDownDrop s)

/-- Empties the class queues of a port whose link is down (R587). -/
def drainDown (p : Nat) (s : State) : State :=
  (List.range 8).foldl (fun s c => dropAll p c (getQ s (qClass p c)).items.length s) s

/-- CLASS_PICK (R584 to R593): the free transmitter of port `p` picks a class and starts its head frame; `bad` says that
the payload of a tagged packet fails its CRC (R469). -/
def execClassPick (p : Nat) (bad : Bool) (s : State) : Out :=
  onPart (decide (p < 8)) s fun s =>
    if !(getPort s p).up then drainDown p s
    else if s.time.ticks < (getPort s p).txFree then s
    else
      let s1 := (List.range 8).foldl (fun s c => dropOversize p c (getQ s (qClass p c)).items.length s) s
      let r := pickClass p (countWaits p s1)
      match r.1 with
      | none => r.2
      | some c =>
        match qHead r.2 (qClass p c) with
        | none => r.2
        | some it => transmit p c bad it.pkt (qPop (qClass p c) r.2)

/-- LINK_UP (R140): training, or the forced speed, is established on a port that the mode forms. -/
def execLinkUp (p : Nat) (s : State) : Out :=
  onPart (decide (p < 8)) s fun s =>
    guarded (!(getPort s p).up && decide (p < nPorts s)) s fun s =>
      updPort s p fun e => { e with up := true, changes := (e.changes + 1) % 2 ^ 32 }

/-- The link of a port goes down (R587). -/
def linkDrop (p : Nat) (s : State) : State :=
  if (getPort s p).up then
    drainDown p (updPort s p fun e => { e with up := false, changes := (e.changes + 1) % 2 ^ 32 })
  else s

/-- LINK_DOWN (R587). -/
def execLinkDown (p : Nat) (s : State) : Out := onPart (decide (p < 8)) s (linkDrop p)

/-! ## Frames of host software and firmware -/

/-- Puts a frame into class queue (p, c) directly: firmware is a producer of class queues (Table 12-1). -/
def intoClass (p c : Nat) (pk : Pkt) (s : State) : State :=
  updCls (qPush (qClass p c) { pkt := pk, tick := s.time.ticks } false s) p c fun x => { x with
    ctrs := bump x.ctrs .enqueuedBytes (acctLen s p pk.len) }

/-- Whether LENGTH of a descriptor is in range (Table 14-15): 14 to MAX_FRAME - 4 plus 4 per VLAN tag. -/
def txLenOk (s : State) (p n : Nat) (frame : Bytes) : Bool :=
  decide (14 ≤ n) && decide (n + 4 ≤ fldN (getPort s p).fields (fk 0x12 1 0) + 4 * countTags frame 12 8)

/-- One step of a host ring's consumer index. -/
def headStep (F kind : Nat) (s : State) : State :=
  updFn s F fun f => { f with hrings := Tab.upd f.hrings kind fun r => { r with head := (r.head + 1) % 2 ^ 32 } }

/-- Descriptors posted on a ring and not yet taken. -/
def HostRing.posted (r : HostRing) : Nat := wrap 32 ((r.tail : Int) - r.head)

/-- The frame of a descriptor, as it will be sent (R718): FCS appended, padded to 64 bytes. -/
def hostFrame (kind : PktKind) (p n : Nat) (stamp : Option Nat) (frame : Bytes) : Pkt :=
  { kind := kind, len := max 64 (n + 4), stream := p, data := frame.take n, stamp := stamp }

/-- HOST_TX_FETCH (R718): the next descriptor of the transmit ring of function `f`, with the frame its buffer holds. -/
def execHostTxFetch (f : Nat) (desc frame : Bytes) (s : State) : Out :=
  onPart (decide (f < 256)) s fun s =>
    match Tab.get (getFn s f).hrings 1 with
    | none => s
    | some r =>
      let pt := r.part.getD 0
      let n := le desc 8 2
      let p := le desc 10 1
      let want := bitOf (le desc 11 1) 0
      let mine := timeOwner s == some f
      let stamp := if want && mine then some (le desc 12 2) else none
      if r.posted = 0 ∨ qFull s (qHtx pt) (max 64 (n + 4)) = true then s
      else
        let s1 := headStep f 1 (if want && !mine then bumpPart s pt .htxStampIgnored else s)
        if 8 ≤ p || !(txLenOk s p n frame) || !(bitOf (quota s pt 8 0) (8 * p)) then
          dropStamp (p % 8) (hostFrame .host p n stamp frame) (bumpPart s1 pt .htxBad)
        else if !(inWindow (getFn s f) (le desc 0 8) n false) then
          dropStamp p (hostFrame .host p n stamp frame) (dmaFaulted f (le desc 0 8) n 0 s1)
        else
          qPush (qHtx pt) { pkt := hostFrame .host p n stamp frame, tick := s.time.ticks } false s1

/-- TIME_TRANSMIT_FETCH (R719): the next descriptor of the TIME_TRANSMIT ring of the time owner. A descriptor that R718
drops is counted for the function's partition, when it has one. -/
def execTimeTransmitFetch (f : Nat) (desc frame : Bytes) (s : State) : Out :=
  onPart (decide (f < 256)) s fun s =>
    match Tab.get (getFn s f).hrings 3 with
    | none => s
    | some r =>
      let n := le desc 8 2
      let p := le desc 10 1
      let stamp := if bitOf (le desc 11 1) 0 then some (le desc 12 2) else none
      if r.posted = 0 ∨ timeOwner s ≠ some f ∨ qFull s qTtx (max 64 (n + 4)) = true then s
      else
        let s1 := headStep f 3 s
        if 8 ≤ p || !(txLenOk s p n frame) then
          dropStamp (p % 8) (hostFrame .ptp p n stamp frame) (match (getFn s f).part with
            | some pt => bumpPart s1 pt .htxBad
            | none => s1)
        else if !(inWindow (getFn s f) (le desc 0 8) n false) then
          dropStamp p (hostFrame .ptp p n stamp frame) (dmaFaulted f (le desc 0 8) n 0 s1)
        else qPush qTtx { pkt := hostFrame .ptp p n stamp frame, tick := s.time.ticks } false s1

/-- FIRMWARE_PTP_MESSAGE (R99, R100): firmware, while it owns time and runs, sends a PTP frame in class 7. -/
def execFirmwarePtpMessage (p : Nat) (frame : Bytes) (s : State) : Out :=
  onPart (decide (p < 8)) s fun s =>
    guarded ((timeOwner s).isNone && !s.time.alone && decide (timePrm s 1 ≠ 5)) s
      (intoClass p 7 (hostFrame .ptp p frame.length none frame))

/-! ## Ports and tables -/

/-- The thresholds of R622: multiples of 1,024 bytes, FIFO_XON below FIFO_XOFF, at most 245,760. -/
def fifoOk (fs : Tab Int) : Bool :=
  let x := fld fs (fk 0x12 5 0)
  let n := fld fs (fk 0x12 5 1)
  decide (x % 1024 = 0) && decide (n % 1024 = 0) && decide (n < x) && decide (x ≤ 245760)

/-- PORT_CONFIG on Ethernet port `i` (R138, R139, R141, R144, R742): MODE lays out every port, so every link of another
layout goes down. -/
def ethConfig (i : Nat) (es : List Entry) (s : State) : Ans :=
  let e := getPort s i
  let fs := applyEntries e.fields (es.filter fun x => fRow x.key ≠ 0)
  let mode := match es.find? fun x => fRow x.key = 0 with
    | some x => x.raw
    | none => s.eth.mode
  let busy := (objKeys s 3).any fun l => decide (legKind s l ≤ 1) && (match getObj s l with
    | some o => o.state == .active || o.state == .held
    | none => false)
  checked (entryChecks es (fun k => fTable k == 0x12 && decide (fRow k ≤ 6)) ++ [
    (fifoOk fs && decide (fld fs (fk 0x12 3 0) % 2 = 0), .outOfRange),
    (decide (mode = s.eth.mode) || !busy, .busy)]) fun _ =>
    let flow := fld e.fields (fk 0x12 2 0) ≠ fld fs (fk 0x12 2 0)
    let s1 := setPort s i { e with fields := fs
                                   pausedTo := if flow then [] else e.pausedTo, holds := if flow then [] else e.holds }
    let s2 := if mode = s.eth.mode then s1
      else (List.range 8).foldl (fun s p => linkDrop p s) { s1 with eth := { s1.eth with mode := mode } }
    .ok [] 0 (fcSync i (fifoSync i s2))

/-- The status of an Ethernet port (Table 15-10). -/
def ethStatus (s : State) (i : Nat) : Bytes :=
  let e := getPort s i
  let up := e.up && decide (i < nPorts s)
  let ps := (List.range 8).foldl (fun m c => if paused e c then setBit m c else m) 0
  toLe 1 (b2n up + 2 * s.eth.mode + 16 * portFlow s i) ++ toLe 1 ps ++ zeros 2 ++ toLe 4 e.changes ++ zeros 8

/-- MAC_FILTER_ADD (R143, R741): a unicast address of a port, for the owner function, or a multicast address of the
device-wide table, for a partition. -/
def bodyMacFilterAdd : Body := fun F p _ s =>
  let m := le p 0 6
  let port := le p 6 1
  let multi := port == 0xFF
  let e := getPort s port
  let taken := if multi then s.eth.mcast.any fun x => x.2.1 = m else e.filters.any fun x => x.2 = m
  let slot := if multi then lowestFree (Tab.keys s.eth.mcast) 0 1024 else lowestFree (Tab.keys e.filters) 0 64
  checked [
    (multi || isOwner s F, .notOwner),
    (!multi || (getFn s F).part.isSome || isOwner s F, .unassigned),
    ((multi || decide (port < 8)) && decide (m % 2 = b2n multi), .outOfRange),
    (!taken, .conflict), (slot.isSome, .noResource)] fun _ =>
    let i := slot.getD 0
    .ok (toLe 2 i ++ zeros 6) 0
      (if multi then
        { s with eth := { s.eth with mcast := Tab.set s.eth.mcast i (m, ((getFn s F).part).getD 0x10000) } }
      else setPort s port { e with filters := Tab.set e.filters i m })

/-- MAC_FILTER_REMOVE (R741). -/
def bodyMacFilterRemove : Body := fun F p _ s =>
  let i := le p 0 2
  let port := le p 2 1
  let multi := port == 0xFF
  let e := getPort s port
  let found := if multi then (match Tab.get s.eth.mcast i with
      | some x => isOwner s F || (getFn s F).part == some x.2
      | none => false) else Tab.has e.filters i
  checked [
    (multi || isOwner s F, .notOwner), (multi || decide (port < 8), .outOfRange), (found, .badHandle)] fun _ =>
    .ok [] 0 (if multi then { s with eth := { s.eth with mcast := Tab.del s.eth.mcast i } }
      else setPort s port { e with filters := Tab.del e.filters i })

/-- ADDRESS_ADD (R147). -/
def bodyAddressAdd : Body := fun _ p _ s =>
  let vlan := le p 0 2
  let lo := le p 2 2
  let hi := le p 4 2
  let ip := le p 8 16
  let slot := lowestFree (Tab.keys s.eth.addrs) 0 1024
  let clash := s.eth.addrs.any fun e => e.2.vlan = vlan && e.2.ip = ip && decide (e.2.lo ≤ hi) && decide (lo ≤ e.2.hi)
  match resolvePart s (le p 24 4) with
  | none => .no .badHandle []
  | some pt =>
    checked [
      ((vlan == 0xFFFF || decide (vlan < 4096)) && decide (lo ≤ hi) && decide (1 ≤ lo), .outOfRange),
      (!clash, .conflict), (slot.isSome, .noResource)] fun _ =>
      let i := slot.getD 0
      .ok (toLe 2 i ++ zeros 6) 0
        { s with eth := { s.eth with
          addrs := Tab.set s.eth.addrs i { vlan := vlan, ip := ip, lo := lo, hi := hi, part := pt } } }

/-- ADDRESS_REMOVE: IN_USE while a leg names the entry. -/
def bodyAddressRemove : Body := fun _ p _ s =>
  let i := le p 0 2
  let named := (objKeys s 3).any fun l => decide (legKind s l ≤ 1) && decide (ofldN s l (fk 0x01 2 0) = i)
  checked [(Tab.has s.eth.addrs i, .badHandle), (!named, .inUse)] fun _ =>
    .ok [] 0 { s with eth := { s.eth with addrs := Tab.del s.eth.addrs i } }

/-- Master key and salt lengths of a protection mode (Table 3-4). -/
def keyLens (mode : Nat) : Nat × Nat :=
  match mode with
  | 0 => (0, 0)
  | 1 => (16, 14)
  | 2 => (16, 14)
  | 3 => (32, 14)
  | 4 => (16, 12)
  | _ => (32, 12)

/-- KEY_INSTALL (R155 to R158, R746): a CURRENT key is written only while the leg is IDLE. -/
def bodyKeyInstall : Body := fun F p _ s =>
  let dir := le p 4 1
  let slot := le p 5 1
  match resolve s F 3 (le p 0 4) with
  | none => .no .badHandle []
  | some l =>
    let mode := if dir = 0 then inMode s l else outMode s l
    let n := keyLens mode
    let idle := ((getObj s l).map (·.state)) == some ObjSt.idle
    let key := ((p.drop 16).take n.1) ++ ((p.drop 48).take n.2)
    checked [
      (decide (dir < 2) && decide (slot < 2) && decide (le p 6 1 = 0) && decide (le p 7 1 = 0) && decide (mode ≠ 0)
        && decide (le p (16 + n.1) (32 - n.1) = 0) && decide (le p (48 + n.2) (14 - n.2) = 0), .outOfRange),
      (slot = 1 || idle, .badState)] fun _ =>
      let d := getLeg s l
      .ok [] 0 (setLeg s l (if dir = 0 then
          (if slot = 0 then { d with keyCur := some key } else { d with keyNext := some key })
        else if slot = 0 then { d with outCur := some key }
        else { d with outNext := some key, outAt := le p 8 8 }))

/-- MAC_FILTER_ADD. -/
def execMacFilterAdd (src : Src) (s : State) : Out := serve 0x030C src [] bodyMacFilterAdd s
/-- MAC_FILTER_REMOVE. -/
def execMacFilterRemove (src : Src) (s : State) : Out := serve 0x030D src [] bodyMacFilterRemove s
/-- ADDRESS_ADD. -/
def execAddressAdd (src : Src) (s : State) : Out := serve 0x030E src [] bodyAddressAdd s
/-- ADDRESS_REMOVE. -/
def execAddressRemove (src : Src) (s : State) : Out := serve 0x030F src [] bodyAddressRemove s
/-- KEY_INSTALL. -/
def execKeyInstall (src : Src) (s : State) : Out := serve 0x0506 src [] bodyKeyInstall s

end Sys2Proof.Machine
end

