-- ==== Sys2Proof/Machine/Dsp.lean ====
section
/-!
DEFINITION. A DSP core as a kernel sees it (chapter 9): bundles and the checks made before one issues (R483, R484, R487,
R494, R498, R517, R520), the results of each slot (R485 to R489, R491 to R497) and the end of a cycle (R490).
-/

namespace Sys2Proof.Machine

open Sys2Proof

/-- Core `c`. -/
def getCore (s : State) (c : Nat) : Core := Tab.getD s.dsp.cores c {}
/-- Replaces core `c`. -/
def setCore (s : State) (c : Nat) (k : Core) : State := { s with dsp := { s.dsp with cores := Tab.set s.dsp.cores c k } }
/-- Changes core `c`. -/
def updCore (s : State) (c : Nat) (f : Core → Core) : State := setCore s c (f (getCore s c))
/-- Whether core `c` is a Gauge core (R476). -/
def isGauge (c : Nat) : Bool := decide (176 ≤ c)

/-! ## Fields of a slot -/

/-- OPC of an arithmetic slot. -/
def aOpc (w : Nat) : Nat := bits w 31 26
/-- SAT. -/
def aSat (w : Nat) : Bool := bitOf w 25
/-- WIDE. -/
def aWide (w : Nat) : Bool := bitOf w 24
/-- DST. -/
def aDst (w : Nat) : Nat := bits w 23 19
/-- SA. -/
def aSa (w : Nat) : Nat := bits w 18 14
/-- SB. -/
def aSb (w : Nat) : Nat := bits w 13 9
/-- X. -/
def aX (w : Nat) : Nat := bits w 8 0
/-- OPC of a load/store slot. -/
def lOpc (w : Nat) : Nat := bits w 31 28
/-- OPC of an address and control slot. -/
def cOpc (w : Nat) : Nat := bits w 31 27
/-- Pointer number of an address and control slot. -/
def cK (w : Nat) : Nat := bits w 26 24
/-- Data register of an address and control slot. -/
def cD (w : Nat) : Nat := bits w 23 19

/-- The four slots of a bundle (R483). -/
structure Bundle where
  a0 : Nat
  a1 : Nat
  ls : Nat
  ac : Nat
  deriving DecidableEq, Repr

/-- The bundle with an index in a code segment; none outside it. -/
def bundleAt (code : Bytes) (i : Nat) : Option Bundle :=
  if 16 * i + 16 ≤ code.length then
    some { a0 := le code (16 * i) 4, a1 := le code (16 * i + 4) 4, ls := le code (16 * i + 8) 4, ac := le code (16 * i + 12) 4 }
  else none

/-! ## Register reads -/

/-- A data register. -/
def Core.rd (k : Core) (r : Nat) : Word40 := k.d[r]?.getD 0
/-- Lane 0 or 1 of a 40-bit value, signed. -/
def laneOf (v : Word40) (h : Bool) : Int := if h then signed 20 (v.toNat / 2 ^ 20) else signed 20 v.toNat
/-- A 40-bit value, signed. -/
def wide (v : Word40) : Int := signed 40 v.toNat
/-- Two lanes as a 40-bit value. -/
def mkLanes (a b : Int) : Word40 := BitVec.ofNat 40 (wrap 20 a + 2 ^ 20 * wrap 20 b)
/-- An integer as a 40-bit value. -/
def mkWide (a : Int) : Word40 := BitVec.ofNat 40 (wrap 40 a)
/-- An accumulator, signed lanes. -/
def Core.ra (k : Core) (r : Nat) : Int × Int :=
  let v := k.acc[r % 8]?.getD (0, 0)
  (signed 48 v.1.toNat, signed 48 v.2.toNat)
/-- A pointer. -/
def Core.rp (k : Core) (n : Nat) : Nat := (k.p[n]?.getD 0).toNat
/-- A predicate (Table 9-3). -/
def Core.rc (k : Core) (n : Nat) : Bool := k.sr.getLsbD (n + 1)

/-- sr as RDSR reads it: ISA_LEVEL 1, GAUGE, C, SAT (Table 9-3). -/
def Core.readSr (k : Core) (gauge : Bool) : Nat := k.sr.toNat + 32 * b2n gauge + 256

/-! ## Saturation (R491) -/

/-- An exact result narrowed to `n` bits, and whether a clamp changed it. -/
def narrow (n : Nat) (sat : Bool) (v : Int) : Int × Bool :=
  let hi : Int := 2 ^ (n - 1) - 1
  let lo : Int := -(2 ^ (n - 1))
  if sat then (if hi < v then (hi, true) else if v < lo then (lo, true) else (v, false))
  else (signed n (wrap n v), false)

/-- A result on its way, seen after `lat` cycles. -/
def Core.put (k : Core) (lat : Nat) (w : DspWr) : Core := { k with wr := k.wr ++ [(lat, w)] }

/-- sr.SAT set with a result that a clamp changed. -/
def Core.setSat (k : Core) (lat : Nat) (on : Bool) : Core := if on then k.put lat .sat else k

/-- The result of a lane operation: each lane from the operands' lanes, or the 40-bit value when WIDE. -/
def Core.lanes2 (k : Core) (w lat : Nat) (f : Int → Int → Int) : Core :=
  let a := k.rd (aSa w)
  let b := k.rd (aSb w)
  if aWide w then
    let r := narrow 40 (aSat w) (f (wide a) (wide b))
    (k.put lat (.d (aDst w) (mkWide r.1))).setSat lat r.2
  else
    let r0 := narrow 20 (aSat w) (f (laneOf a false) (laneOf b false))
    let r1 := narrow 20 (aSat w) (f (laneOf a true) (laneOf b true))
    (k.put lat (.d (aDst w) (mkLanes r0.1 r1.1))).setSat lat (r0.2 || r1.2)

/-- A result written as it is, both lanes at once. -/
def Core.plain (k : Core) (w lat : Nat) (v : Word40) : Core := k.put lat (.d (aDst w) v)

/-- The result of an accumulator operation, each lane narrowed to 48 bits. -/
def Core.accum (k : Core) (w lat : Nat) (v0 v1 : Int) : Core :=
  let r0 := narrow 48 (aSat w) v0
  let r1 := narrow 48 (aSat w) v1
  (k.put lat (.acc (aDst w % 8) (BitVec.ofNat 48 (wrap 48 r0.1)) (BitVec.ofNat 48 (wrap 48 r1.1)))).setSat lat (r0.2 || r1.2)

/-- An arithmetic shift right with `n` bits, rounded half up when `r`. -/
def shiftRight (r : Bool) (v : Int) (n : Nat) : Int := if r && n != 0 then (v + 2 ^ (n - 1)) / 2 ^ n else v / 2 ^ n

/-- The shift of SHLE (R492). -/
def shle (v a : Int) : Int := if 0 ≤ a then v * 2 ^ a.toNat else shiftRight true v (-a).toNat

/-- Redundant sign bits of an `n`-bit value (R493). -/
def normOf (n : Nat) (v : Int) : Nat :=
  let u : Nat := if 0 ≤ v then v.toNat else (-(v + 1)).toNat
  if u = 0 then n - 1 else n - 2 - Nat.log2 u

/-- The least NORM over the lanes of registers from `r` on (R494). -/
def expb (k : Core) (r : Nat) : Nat → Nat
  | 0 => 19
  | n + 1 => min (min (normOf 20 (laneOf (k.rd r) false)) (normOf 20 (laneOf (k.rd r) true))) (expb k (r + 1) n)

/-! ## Search (R495, R496) -/

/-- What SRCHI sets. -/
def srchInit : Srch := { smax := mkWide (-(2 ^ 39)), smin := mkWide (2 ^ 39 - 1), imax := 0xFFFF, imin := 0xFFFF, icnt := 0 }

/-- One value of a MAXI or MINI. -/
def Srch.step (q : Srch) (isMax : Bool) (v : Int) : Srch :=
  let q1 := if isMax then (if wide q.smax < v then { q with smax := mkWide v, imax := q.icnt } else q)
    else (if v < wide q.smin then { q with smin := mkWide v, imin := q.icnt } else q)
  { q1 with icnt := q1.icnt + 1 }

/-- A search step over the lanes of `sa`, or its 40-bit value. -/
def Core.search (k : Core) (w : Nat) (isMax : Bool) : Core :=
  let a := k.rd (aSa w)
  if aWide w then { k with srch := k.srch.step isMax (wide a) }
  else { k with srch := (k.srch.step isMax (laneOf a false)).step isMax (laneOf a true) }

/-! ## Pointers (R488) -/

/-- The low `n` bits of a number in reverse order. -/
def revBits : Nat → Nat → Nat
  | 0, _ => 0
  | n + 1, v => v % 2 * 2 ^ n + revBits n (v / 2)

/-- n when a length is 8 * 2^n with n from 1 to 14. -/
def revLen (l : Nat) : Option Nat := (List.range 14).find? (fun n => l == 8 * 2 ^ (n + 1)) |>.map (· + 1)

/-- A pointer after its post-modify by mode `md` with modifier `mv`; none when the length does not allow the mode. -/
def postMod (k : Core) (n md mv p : Nat) : Option Nat :=
  let m := signed 18 ((k.m[mv]?.getD 0).toNat)
  let b := (k.cb[n]?.getD 0).toNat
  let l := (k.cl[n]?.getD 0).toNat
  if md = 0 then some p
  else if md = 1 then some (wrap 18 ((p : Int) + m))
  else if md = 2 then
    (if l = 0 then none else some (wrap 18 ((b : Int) + ((p : Int) - b + m) % (l : Int))))
  else
    match revLen l with
    | none => none
    | some e =>
      let i := wrap 18 ((p : Int) - b) / 8
      some ((b + revBits e (wrap e ((revBits e i : Nat) + m / 8)) * 8) % 2 ^ 18)

/-- Fields of a load/store slot: DA, DB, PA, PB, MA, MB, MSA, MSB. -/
def lDa (w : Nat) : Nat := bits w 27 23
/-- DB. -/
def lDb (w : Nat) : Nat := bits w 22 18
/-- PA. -/
def lPa (w : Nat) : Nat := bits w 17 15
/-- PB. -/
def lPb (w : Nat) : Nat := bits w 14 12
/-- MA. -/
def lMa (w : Nat) : Nat := bits w 11 10
/-- MB. -/
def lMb (w : Nat) : Nat := bits w 9 8
/-- MSA. -/
def lMsa (w : Nat) : Nat := bits w 7 5
/-- MSB. -/
def lMsb (w : Nat) : Nat := bits w 4 2

/-- Bytes an access of the slot moves. -/
def lSize (w : Nat) : Nat := if lOpc w = 4 ∨ lOpc w = 5 then 4 else 8
/-- Whether the slot stores. -/
def lStore (w : Nat) : Bool := lOpc w == 3 || lOpc w == 5

/-! ## Checks before a bundle issues -/

/-- Whether an arithmetic slot holds an instruction of the core (R482, R486, R494, R496). -/
def aLegal (gauge : Bool) (w : Nat) : Bool :=
  let o := aOpc w
  if o = 0x3E then true
  else if o = 0x0E ∨ o = 0x0F ∨ o = 0x10 ∨ o = 0x12 ∨ o = 0x14 then !(aWide w)
  else if o = 0x16 then
    decide (1 ≤ bits (aX w) 3 0) && decide (bits (aX w) 3 0 ≤ 12) && decide (aSa w + bits (aX w) 3 0 ≤ 32)
  else if o = 0x20 ∨ o = 0x21 ∨ o = 0x22 then gauge
  else decide (o ≤ 0x1C)

/-- Numbers of the registers a slot writes: 0 to 31 data, 100 on accumulators, 200 on pointers, 210 on modifiers, 220 on
circular registers, 230 lr, 240 on predicates, 244 sr.SAT, 250 the search registers. -/
def aWrites (w : Nat) : List Nat :=
  let o := aOpc w
  if o = 0 then []
  else if o = 0x3E then [bits w 24 20]
  else if o = 0x0F ∨ o = 0x10 ∨ o = 0x11 ∨ o = 0x12 ∨ o = 0x13 then [100 + aDst w % 8]
  else if o = 0x17 then [240 + bits (aX w) 8 7]
  else if o = 0x1C then [240, 241, 242, 243, 244]
  else if o = 0x20 ∨ o = 0x21 then [250]
  else [aDst w]

/-- Pointers a load/store slot uses. -/
def lPtrs (w : Nat) : List Nat := if lOpc w = 0 then [] else if lOpc w = 2 then [lPa w, lPb w] else [lPa w]

/-- Registers a load/store slot writes. -/
def lWrites (w : Nat) : List Nat :=
  let o := lOpc w
  (if o = 1 ∨ o = 4 then [lDa w] else if o = 2 then [lDa w, lDb w] else []) ++
  (if o ≠ 0 ∧ lMa w ≠ 0 then [200 + lPa w] else []) ++ (if o = 2 ∧ lMb w ≠ 0 then [200 + lPb w] else [])

/-- Registers an address and control slot writes. -/
def cWrites (w : Nat) : List Nat :=
  let o := cOpc w
  if o = 3 then [230] else if o = 7 ∨ o = 8 ∨ o = 0x0B then [200 + cK w] else if o = 9 then [210 + cK w]
  else if o = 0x0A then [220 + cK w] else if o = 0x0C ∨ o = 0x10 then [cD w] else if o = 0x0F then [250] else []

/-- Whether two lists share an element. -/
def meets (a b : List Nat) : Bool := a.any fun x => b.contains x

/-- Whether a bundle is legal by itself (R482, R484, R487, R489, R494, R496). -/
def legal (gauge : Bool) (b : Bundle) : Bool :=
  let w0 := aWrites b.a0
  let w1 := aWrites b.a1
  let wl := lWrites b.ls
  let wc := cWrites b.ac
  aLegal gauge b.a0 && aLegal gauge b.a1 && decide (lOpc b.ls ≤ 5) && decide (cOpc b.ac ≤ 0x11)
    && !(lOpc b.ls == 2 && lPa b.ls == lPb b.ls)
    && (gauge || cOpc b.ac != 0x0F)
    && !(meets (w0.filter (· != 250)) w1) && !(meets w0 wl) && !(meets w0 wc) && !(meets w1 wl) && !(meets w1 wc)
    && !(meets wl wc) && !(meets ((lPtrs b.ls).map (200 + ·)) wc)

/-- Whether [a, a + n) lies in the CONST or WORK window (R517). -/
def inLoad (v : Invo) (a n : Nat) : Bool :=
  (decide (v.cbase ≤ a) && decide (a + n ≤ v.cbase + v.clen)) || (decide (v.wbase ≤ a) && decide (a + n ≤ v.wbase + v.wlen))
/-- Whether [a, a + n) lies in the WORK window. -/
def inWork (v : Invo) (a n : Nat) : Bool := decide (v.wbase ≤ a) && decide (a + n ≤ v.wbase + v.wlen)

/-- Whether the accesses of a load/store slot keep to alignment and pointer modes with pointers `pa` and `pb` (R487, R488). -/
def lsFormed (k : Core) (w pa pb : Nat) : Bool :=
  if lOpc w = 0 then true
  else pa % lSize w == 0 && (postMod k (lPa w) (lMa w) (lMsa w) pa).isSome &&
    (lOpc w != 2 || (pb % 8 == 0 && (postMod k (lPb w) (lMb w) (lMsb w) pb).isSome))

/-- Whether the accesses of a load/store slot lie in their windows (R478, R517). -/
def lsInside (k : Core) (v : Invo) (w : Nat) : Bool :=
  if lOpc w = 0 then true
  else if lStore w then inWork v (k.rp (lPa w)) (lSize w)
  else inLoad v (k.rp (lPa w)) (lSize w) && (lOpc w != 2 || inLoad v (k.rp (lPb w)) 8)

/-- Whether `n` repetitions of a body's accesses are well formed (R498). -/
def repFormed (k : Core) (w : Nat) : Nat → Nat → Nat → Bool
  | 0, _, _ => true
  | n + 1, pa, pb => lsFormed k w pa pb &&
    (lOpc w == 0 || repFormed k w n ((postMod k (lPa w) (lMa w) (lMsa w) pa).getD pa)
      ((postMod k (lPb w) (lMb w) (lMsb w) pb).getD pb))

/-- The descriptor that a DMAQ reads (Table 9-10). -/
def dmaDesc (k : Core) (a : Nat) : Nat := fromLe (Mem.read 0 k.mem a 16)

/-- Whether a DMA descriptor keeps to its fields, the table region and the WORK window (R500, R517). -/
def dmaOk (v : Invo) (tbl d : Nat) : Bool :=
  let off := bits d 31 0
  let loc := bits d 49 32
  let len := bits d 80 64
  bits d 63 50 == 0 && bits d 127 81 == 0 && off % 8 == 0 && loc % 8 == 0 && len % 8 == 0 && decide (8 ≤ len)
    && decide (len ≤ 65536) && decide (off + len ≤ tbl) && inWork v loc len

/-- Repetitions a REPR asks for. -/
def reprCount (k : Core) (w : Nat) : Int := laneOf (k.rd (cD w)) false

/-- The cause for which the address and control slot faults (Table 9-13). -/
def acFault (k : Core) (v : Invo) (len tbl w : Nat) : Option Nat :=
  let o := cOpc w
  let t := bits w 11 0
  if o = 1 ∨ o = 3 ∨ (o = 2 ∧ k.rc (bits w 26 25) = bitOf w 24) then (if t < len then none else some 3)
  else if o = 4 then (if k.lr.toNat < len then none else some 3)
  else if o = 6 then (if 1 ≤ reprCount k w ∧ reprCount k w ≤ 1024 then none else some 3)
  else if o = 0x0D then
    (if !(inLoad v (k.rp (cK w)) 16) then some 2 else if dmaOk v tbl (dmaDesc k (k.rp (cK w))) then none else some 4)
  else none

/-- The cause for which the bundle at the core's index does not execute (R520): fetch outside the code, an illegal bundle
or repetition body, an access, a branch or a descriptor. -/
def bundleFault (gauge : Bool) (k : Core) (v : Invo) (code : Bytes) (tbl : Nat) : Option Nat :=
  match bundleAt code k.pc with
  | none => some 3
  | some b =>
    if !(legal gauge b) then some 3
    else if k.rep.isSome && !(cOpc b.ac == 0 && repFormed k b.ls (k.rep.getD 0) (k.rp (lPa b.ls)) (k.rp (lPb b.ls))) then some 3
    else if !(lsFormed k b.ls (k.rp (lPa b.ls)) (k.rp (lPb b.ls)) && lsInside k v b.ls) then some 2
    else acFault k v (code.length / 16) tbl b.ac

/-- Whether the bundle waits in its address and control slot (R490): a tag outstanding, or 8 transfers. -/
def stalls (k : Core) (b : Bundle) : Bool :=
  (cOpc b.ac == 0x0E && k.dma.any fun t => t.tag == bits b.ac 3 0) || (cOpc b.ac == 0x0D && decide (8 ≤ k.dma.length))

/-! ## The end of a cycle (R490) -/

/-- A result lands in its register. -/
def Core.land (k : Core) : DspWr → Core
  | .d r v => { k with d := setAt k.d r v }
  | .lane r hi v =>
    let o := k.rd r
    let v0 : Nat := if hi then o.toNat % 2 ^ 20 else v.toNat
    let v1 : Nat := if hi then v.toNat else o.toNat / 2 ^ 20
    { k with d := setAt k.d r (BitVec.ofNat 40 (v0 + 2 ^ 20 * v1)) }
  | .acc r v0 v1 => { k with acc := setAt k.acc r (v0, v1) }
  | .p n v => { k with p := setAt k.p n v }
  | .m n v => { k with m := setAt k.m n v }
  | .cb n b l => { k with cb := setAt k.cb n b, cl := setAt k.cl n l }
  | .lr v => { k with lr := v }
  | .c n v => { k with sr := BitVec.ofNat 5 (if v then setBit k.sr.toNat (n + 1) else clrBit k.sr.toNat (n + 1)) }
  | .sr v => { k with sr := v }
  | .sat => { k with sr := k.sr ||| 1#5 }

/-- One cycle passes: results whose latency has elapsed land in order of issue. -/
def Core.cycle (k : Core) : Core :=
  let k1 := (k.wr.filter fun w => decide (w.1 ≤ 1)).foldl (fun k w => k.land w.2) k
  { k1 with
    wr := (k.wr.filter fun w => decide (1 < w.1)).map fun w => (w.1 - 1, w.2)
    cyc := k.cyc + 1
    srchOld := k.srchIn
    srchIn := k.srch }

/-- The bundle ends: its cycle, the extra cycle of a taken branch, then the next repetition or bundle (R490, R497). -/
def Core.retire (k : Core) : Core :=
  let k1 := if k.xtra = 0 then k.cycle else k.cycle.cycle
  let k2 := { k1 with slot := 0, xtra := 0, repNew := none }
  match k.rep with
  | some (n + 2) => { k2 with rep := some (n + 1) }
  | some _ => { k2 with rep := none, pc := k.pc + 1 }
  | none =>
    match k.repNew with
    | some n => { k2 with rep := some n, pc := k.pc + 1 }
    | none => { k2 with pc := k.next }

/-- The slot that issues next. -/
def Bundle.at_ (b : Bundle) (n : Nat) : Nat := if n = 0 then b.a0 else if n = 1 then b.a1 else if n = 2 then b.ls else b.ac

end Sys2Proof.Machine
end

