-- ==== Sys2Proof/Machine/Admission.lean ====
section
/-!
DEFINITION. The admission check (R37 to R65): what each fixed object reserves (Tables 8-9, 12-2 and 13-3, R59 to R62,
R276, R399, R462 to R464, R518, R583), placement, quotas, egress conditions (R54, R56, R594, R595, R853), and
re-admission after a loss of capacity (R70 to R73).
-/

namespace Sys2Proof.Machine

open Sys2Proof

/-! ## The books -/

/-- Why admission refuses (Table 1-6). -/
structure Shut where
  lim   : Nat
  inst  : Nat
  short : Nat

/-- One thing an object reserves: resource and limit code, amount by instance, instances that may hold it, whether the
next instance holds the same (a lockstep pair), keys whose reservations on the resource `amt` already counts, whether an
instance can hold it beside its amount, and, for a kernel, its insertion point plus 1. -/
structure Ask where
  code  : Nat
  lim   : Nat
  amt   : Nat → Nat
  cands : List Nat
  pair  : Bool := false
  skip  : List Nat := []
  fit   : Nat → Bool := fun _ => true
  point : Nat := 0

/-- Both reservations of an object (R40, R65). -/
def Obj.both (o : Obj) : List Resv := o.resv ++ o.resvNew

/-- What a list of reservations holds of a resource on an instance. -/
def sumResv (l : List Resv) (code inst : Nat) : Nat :=
  ((l.filter fun r => r.code == code && r.inst == inst).map (·.amt)).sum

/-- What the fixed objects hold of a resource on an instance, without the objects of `skip` (R65). -/
def held (s : State) (code inst : Nat) (skip : List Nat) : Nat :=
  (s.obj.objs.map fun e => if skip.contains e.1 then 0 else sumResv e.2.both code inst).sum

/-- M_p: the maximum frame length of a port with its tags (R141). -/
def portM (s : State) (p : Nat) : Nat := fldN (getPort s p).fields (fk 0x12 1 0) + 8

/-- The capacity of an instance (Table 1-9). -/
def capacity (s : State) (code : Nat) : Nat :=
  if code ≤ 4 then 1000000
  else if code = 5 then s.mem.channels * 8 * s.mem.rate * 750000
  else if code = 6 then portGb s 0 * 1000000000
  else 98304

/-- The ceiling of an instance (Table 1-9); on a port, less the allowance of R583 for PTP. -/
def ceiling (s : State) (code : Nat) : Nat :=
  if code ≤ 4 then 800000
  else if code = 5 then s.mem.channels * 8 * s.mem.rate * 600000
  else if code = 6 then portGb s 0 * 800000000 - 2000000
  else 78643

/-- The ceilings of a resource summed over its instances (Table 14-3); a Marquetry compositor counts four times. -/
def ceilingSum (s : State) (code : Nat) : Nat :=
  match code with
  | 1 => 16 * 800000
  | 2 => 176 * 800000
  | 3 => 16 * 800000
  | 4 => 48 * 800000
  | 5 => ceiling s 5
  | 6 => nPorts s * (portGb s 0 * 800000000)
  | _ => 78643

/-- An amount as it counts in `ceilingSum`. -/
def weighed (r : Resv) : Nat := if r.code = 4 ∧ 32 ≤ r.inst then 4 * r.amt else r.amt

/-- What a partition's objects hold of a resource (R64). -/
def partHeld (s : State) (p code : Nat) : Nat :=
  (s.obj.objs.map fun e =>
    if e.2.part == p then ((e.2.both.filter fun r => r.code == code).map weighed).sum else 0).sum

/-- Cells that a content bound reserves (R615). -/
def cellsFor (b : Nat) : Nat := ceilDiv (2 * b) 512 + 1

/-- Content bound of class queue (p, c), c from 5 to 7 (Table 12-2, R583). -/
def classBound (s : State) (p c : Nat) : Nat := held s 17 (8 * p + c) [] + (if c = 7 then 2 * portM s p else 0)

/-- Cells reserved by the class queues. -/
def classCells (s : State) : Nat :=
  ((List.range (nPorts s)).map fun p => ([5, 6, 7].map fun c =>
    if classBound s p c = 0 then 0 else cellsFor (classBound s p c)).sum).sum

/-- Cells reserved in all (R615). -/
def cellsHeld (s : State) : Nat := held s 8 0 [] + classCells s

/-- Whether an instance is in service (R766): 1 engines, 2 Jig cores, 3 Gauge cores 176 to 191. -/
def inService (s : State) (code inst : Nat) : Bool :=
  if code = 1 then !(s.dep.removed.contains (0, inst))
  else if code = 2 then !(s.dep.removed.contains (1, inst))
  else if code = 3 then !(s.dep.removed.contains (1, 176 + inst))
  else true

/-- An instance as Table 1-6 numbers it: compositors by class. -/
def localInst (code inst : Nat) : Nat := if code = 4 ∧ 32 ≤ inst then inst - 32 else inst

/-- The instances an ask uses when it is placed on `c`. -/
def Ask.uses (a : Ask) (c : Nat) : List Nat := if a.pair then [c, c + 1] else [c]

/-- The total on instance `c` with the ask of object `k` on it: the larger of a pair. -/
def Ask.load (a : Ask) (s : State) (k c : Nat) : Nat :=
  ((a.uses c).map fun i => held s a.code i (if a.skip.isEmpty then [] else k :: a.skip) + a.amt c).foldl max 0

/-- The instance with the most room, the lowest of equals. -/
def Ask.roomiest (a : Ask) (s : State) (k : Nat) : Option Nat :=
  a.cands.foldl (fun b c => match b with
    | none => some c
    | some d => if a.load s k c < a.load s k d then some c else some d) none

/-- A refusal whose INSTANCE and SHORTFALL no resource defines: free values. -/
def shutFree (lim : Nat) (s : State) : Shut :=
  { lim := lim, inst := freeValue 20 s.free 16 % 65536, short := freeValue 21 s.free 32 % 4294967296 }

/-- The refusal of an ask (R41, R42): PROMISE_FORM when an empty instance could not hold it (Table 1-7). -/
def Ask.shut (a : Ask) (s : State) (k : Nat) : Shut :=
  match a.roomiest s k with
  | none => shutFree a.lim s
  | some c =>
    { lim := if a.code ≤ 4 && a.lim == a.code && a.cands.all fun c => decide (ceiling s a.code < a.amt c) then 0x0B else a.lim
      inst := localInst a.code c
      short := ceilDiv ((a.load s k c - ceiling s a.code) * 1000000) (capacity s a.code) }

/-- Places an ask of object `k` (R41): on an instance the object holds already when it fits there, else on one that the
device chooses. -/
def place (k : Nat) (old : List Resv) (a : Ask) (s : State) : Except Shut State :=
  let ok := a.cands.filter fun c =>
    a.fit c && (a.uses c).all (fun i => inService s a.code i) && decide (a.load s k c ≤ ceiling s a.code)
  let here := ok.filter fun c => old.any fun r => r.code == a.code && r.inst == c
  let r := pickFree 22 (if here.isEmpty then ok else here.take 1) s
  match r.1 with
  | none => .error (a.shut s k)
  | some c =>
    let new_ := (a.uses c).map (fun i => { code := a.code, inst := i, amt := a.amt c : Resv })
      ++ (if a.point = 0 then [] else [{ code := 31 + a.point, inst := if a.code = 3 then 176 + c else c, amt := 0 }])
    .ok (updObj r.2 k fun o => { o with resvNew := o.resvNew ++ new_ })

/-- Places asks in order. -/
def placeAll (k : Nat) (old : List Resv) : List Ask → State → Except Shut State
  | [], s => .ok s
  | a :: t, s =>
    match place k old a s with
    | .error e => .error e
    | .ok s1 => placeAll k old t s1

/-- An ask for a resource with one instance, or a named one. -/
def askAt (code inst amt : Nat) : Ask := { code := code, lim := code, amt := fun _ => amt, cands := [inst] }

/-! ## Audio costs (Table 8-9): bundles times 10^6 -/

/-- The part of a window, in millionths, that `num` millionths of a bundle take at the Jig clock in force (R464, R781). -/
def density (s : State) (num win : Nat) : Nat := ceilDiv (num * 5 * 64) (8 * win * (64 - clockK s 4))

/-- An audio field of a leg (Table 8-5). -/
def lprm (s : State) (l r : Nat) : Int := ofld s l (fk 0x03 r 0)
/-- An audio field of a conference (Table 8-6). -/
def cprm (s : State) (c r : Nat) : Nat := ofldN s c (fk 0x08 r 0)
/-- An audio field of an outgoing stream (Table 8-3). -/
def oprm (s : State) (x r : Nat) : Nat := ofldN s x (fk 0x06 r 0)

/-- The received audio streams of a leg, retransmission aside. -/
def audioIns (s : State) (l : Nat) : List Nat := (legStreams s l false).filter fun x => !(isVideo s x) && streamRole s x != 3
/-- The outgoing audio streams of a leg (MEDIA and TRUNK). -/
def audioOuts (s : State) (l : Nat) : List Nat :=
  (legStreams s l true).filter fun x => !(isVideo s x) && (streamRole s x == 0 || streamRole s x == 4)

/-- PTIME of an outgoing audio stream: P when it was never given (Table 8-3). -/
def ptime (s : State) (x : Nat) : Nat :=
  if oprm s x 2 = 0 then mixPeriod s (confOfLeg s (legOfStream s x)) else oprm s x 2

/-- Decoding cost per ms of a codec of PT_MAP. -/
def decodePerMs (codec chans : Nat) : Nat :=
  match codec with
  | 1 => 14500
  | 2 => 300
  | 3 => 300
  | 4 => 1500
  | 5 => 200 * chans
  | 6 => 200 * chans
  | _ => 0

/-- Whether a codec of PT_MAP runs at a rate other than 48 kHz (Table 8-2). -/
def narrowCodec (c : Nat) : Bool := c == 2 || c == 3 || c == 4

/-- The nominal rate of the audio port that element `e` of row `r` of a PORT leg names. -/
def legPortRate (s : State) (l r : Nat) : Nat :=
  fldN (Tab.getD s.aud.ports (hIdx (ofldN s l (fk 0x01 r 0))) {}).fields (fk 0x0C 3 0)

/-- Front cost of the leg (R462, R463) for one period of `P` ns. -/
def frontCost (s : State) (l P : Nat) : Nat :=
  let trunk := legKind s l == 1
  let plane := legKind s l == 2 && legPortRate s l 15 != 48000
  let leg := (if trunk then 0 else 1000 + (if lprm s l 8 = 0 then 0 else 8000) + 1000 + (if lprm s l 10 = 1 then 300 else 0))
    + (if plane then 2000 else 0) + (if (audioIns s l).isEmpty then 500 else 0)
  let one := fun x =>
    let cs := (ptMap s x).map (·.2)
    let d := (cs.map fun c => decodePerMs c (rxChans s x)).foldl max 0
    (500 + (if cs.any narrowCodec then 2000 else 0) + (if trunk then 1000 else 0)) * P
      + d * max P (ofldN s x (fk 0x04 16 0))
  leg * P + ((audioIns s l).map one).sum

/-- Encoding cost per ms of an outgoing stream. -/
def encodePerMs (s : State) (x : Nat) : Nat :=
  match oprm s x 0 with
  | 0 => if oprm s x 1 = 2 then 30000 else if oprm s x 4 ≤ 1 then 11000 else 19000
  | 1 => 300
  | 2 => 300
  | 3 => 2500
  | _ => 200 * oprm s x 1

/-- Whether the output of a stream is binaural (Table 8-3). -/
def binaural (s : State) (x : Nat) : Bool :=
  cprm s (confOfLeg s (legOfStream s x)) 4 == 1 && oprm s x 1 == 2

/-- Back cost per ms of an outgoing stream, without mix-minus. -/
def backPerMs (s : State) (x : Nat) : Nat :=
  (if binaural s x then 1800 else 1000) + (if 1 ≤ oprm s x 0 && decide (oprm s x 0 ≤ 3) then 2000 else 0)
    + encodePerMs s x + 1000

/-- Back cost of a leg as a member with its own encoder (R463). -/
def backCost (s : State) (l P : Nat) : Nat :=
  let outs := audioOuts s l
  if outs.isEmpty then (300 + 1000 + (if legKind s l == 2 && legPortRate s l 16 != 48000 then 2000 else 0) + 1000) * P
  else (outs.map fun x => ((if binaural s x then 600 else 300) + backPerMs s x) * P).sum

/-- Front and back windows of a period (R464). -/
def frontWin (P : Nat) : Nat := P / 2
/-- Mix and rank window. -/
def mixWin (P : Nat) : Nat := P / 20
/-- Back window. -/
def backWin (P : Nat) : Nat := 2 * P / 5 + 500000

/-! ## Kernels (R510, R511, R518) -/

/-- The kernel that a handle names. -/
def kernelOf (s : State) (h : Nat) : Option Kernel :=
  if h = 0 then none else Tab.get s.dsp.kerns (hIdx h)

/-- Bytes of one of the buffers of an invocation (R513). -/
def bufBytes (chans nsub : Nat) : Nat := 104 * chans * nsub

/-- Bytes of the WORK window (R512). -/
def workBytes (k : Kernel) (chans nsub : Nat) : Nat := 128 + 2 * bufBytes chans nsub + k.stBytes + k.scBytes

/-- LIMIT of an invocation (R516). -/
def kernelLimit (k : Kernel) (chans nsub : Nat) : Nat := k.base + k.sub * chans * nsub

/-- LIMIT + K_OVH (R518). -/
def kernelCost (k : Kernel) (chans nsub : Nat) : Nat :=
  kernelLimit k chans nsub + 1200 + ceilDiv (2 * bufBytes chans nsub + 2 * k.stBytes) 16

/-- The legs of a conference with a mix role; `trunk` legs in PARTIAL mode count as pinned and in SPEAKERS mode bring 8
candidates (R433, R453). -/
def rankInputs (s : State) (c : Nat) : Nat :=
  ((kids s 3 c).map fun l =>
    if legKind s l = 1 then (if lprm s l 14 = 0 then 8 else 0) else if lprm s l 0 = 0 then 1 else 0).sum

/-- The pinned inputs of a conference (R433, R453). -/
def pinnedIn (s : State) (c : Nat) : Nat :=
  ((kids s 3 c).filter fun l =>
    if legKind s l = 1 then lprm s l 14 == 1 else lprm s l 0 == 1).length

/-- The largest CHANNELS at a point (R518): 0 POST_DECODE, 1 PRE_MIX, 2 PRE_ENCODE. -/
def pointChans (s : State) (o point : Nat) : Nat :=
  if point = 0 then 1
  else if point = 1 then min 16 (cprm s o 1 + pinnedIn s o)
  else ((audioOuts s o).map fun x => oprm s x 1).foldl max 1

/-- Kernels with an instance on core `c`, with their WORK windows, other than the instance `i`. -/
def coreKernels (s : State) (c i : Nat) : List (Nat × Nat) :=
  (s.dsp.insts.filter fun e => e.1 != i && (e.2.core == c || (e.2.pair && e.2.core + 1 == c))).map fun e =>
    let o := e.1 / 4
    let conf := if e.1 % 4 = 1 then o else confOfLeg s o
    (e.2.kern, match Tab.get s.dsp.kerns e.2.kern with
      | some k => workBytes k (pointChans s o (e.1 % 4)) (mixPeriod s conf / 500000)
      | none => 0)

/-- Whether core `c` can take an instance `i` of kernel `n` (R511). -/
def kernelFits (s : State) (n i work c : Nat) : Bool :=
  let l := coreKernels s c i
  let ks := (n :: l.map (·.1)).eraseDups
  let sum := fun (f : Kernel → Nat) => (ks.map fun q => ((Tab.get s.dsp.kerns q).map f).getD 0).sum
  decide (sum (fun k => k.code.length) ≤ 57344) &&
    decide (sum (fun k => k.const.length) + (work :: l.map (·.2)).foldl max 0 ≤ 229376)

/-- The kernel cores of a partition of one kind; with `pair`, the lower cores of its lockstep pairs (R504, R506). -/
def kernelCores (s : State) (part : Nat) (gauge pair : Bool) : List Nat :=
  let mine := fun c => (getCore s c).part == some part
  ((if gauge then [190, 191] else (List.range 24).map (· + 152)).filter fun c =>
    mine c && (!pair || (c % 2 == 0 && mine (c + 1))))

/-- The handle of the kernel named at a point of an object, 0 for none. -/
def kernelAt (s : State) (o point : Nat) : Nat :=
  if point = 1 then cprm s o 6 else ofldN s o (fk 0x03 15 (if point = 0 then 0 else 1))

/-- The conference whose period a leg or conference follows. -/
def confOf (s : State) (o : Nat) : Nat := if o / 1048576 = 2 then o else confOfLeg s o

/-- The asks of a kernel at a point (R461, R511, R518, R651); none when no kernel is named there. -/
def kernelAsks (s : State) (o point : Nat) (crit : Bool) : Except Shut (List Ask) :=
  match kernelOf s (kernelAt s o point) with
  | none => .ok []
  | some k =>
    let n := hIdx (kernelAt s o point)
    let P := mixPeriod s (confOf s o)
    let ch := pointChans s o point
    let cost := kernelCost k ch (P / 500000)
    let win := if point = 0 then frontWin P else if point = 1 then mixWin P else backWin P
    if 6400000 < cost then .error (shutFree 0x0B s)
    else
      let cs := (kernelCores s k.part k.gauge crit).filter fun c =>
        kernelFits s n (4 * o + point) (workBytes k ch (P / 500000)) c
          && (!crit || kernelFits s n (4 * o + point) (workBytes k ch (P / 500000)) (c + 1))
      let d := density s (cost * 1000000) win
      .ok [{ code := if k.gauge then 3 else 2, lim := 0x0C, amt := fun _ => d
             cands := if k.gauge then cs.map (· - 176) else cs, pair := crit, point := point + 1 },
           askAt 5 0 (ceilDiv ((2 * bufBytes ch (P / 500000) + 2 * k.stBytes + k.table.length) * 1000000000) P)]

/-! ## What each object reserves -/

/-- Jig cores for vendor work, or the lower cores of their pairs (R466, R504). -/
def jigCores (s : State) (pair : Bool) : List Nat :=
  (List.range 176).filter fun c =>
    (getCore s c).part.isNone && (!pair || (c % 2 == 0 && (getCore s (c + 1)).part.isNone))

/-- Gauge cores for vendor work as instances 0 to 15, or the lower cores of their pairs. -/
def gaugeCores (s : State) (pair : Bool) : List Nat :=
  (List.range 16).filter fun c =>
    (getCore s (176 + c)).part.isNone && (!pair || (c % 2 == 0 && (getCore s (177 + c)).part.isNone))

/-- Whether an object is fixed and no revocation waits for its boundary. -/
def stillFixed (s : State) (k : Nat) : Bool :=
  match getObj s k with
  | some o => o.fixed && !(o.pend.any fun p => p.act == .revoke)
  | none => false

/-- Whether a leg counts as fixed in its conference's shared work: it holds a reservation, or is in `extra`. -/
def countsFixed (s : State) (extra : List Nat) (l : Nat) : Bool :=
  match getObj s l with
  | some o => stillFixed s l && (!o.both.isEmpty || extra.contains l)
  | none => false

/-- The setting that lets non-members share an encoding (R439); PRE_ENCODE kernels set a leg apart. -/
def setting (s : State) (x : Nat) : List Int :=
  let l := legOfStream s x
  [oprm s x 0, oprm s x 1, ptime s x, oprm s x 3, oprm s x 4, oprm s x 5, oprm s x 6, oprm s x 7, lprm s l 2]

/-- One stream for each distinct outgoing setting among the given legs (R463). -/
def settingsOf (s : State) (ls : List Nat) : List Nat :=
  ((ls.filter fun l => kernelAt s l 2 == 0).flatMap fun l => (audioOuts s l).filter fun x => streamRole s x == 0).foldl
    (fun acc x => if acc.any fun y => setting s y == setting s x then acc else acc ++ [x]) []

/-- TAPS of an HRTF slot (R444). -/
def hrtfTaps (s : State) (slot : Nat) : Nat := if slot = 0 then 96 else ((Tab.get s.aud.hrtf slot).map (·.taps)).getD 0

/-- The shared work of a conference (R463): ranking, mix, shared encodings, their DRAM and queues, the PRE_MIX kernel. -/
def confAsks (s : State) (c : Nat) (extra : List Nat) : Except Shut (List Ask) :=
  let ls := (kids s 3 c).filter (countsFixed s extra)
  if ls.isEmpty then .ok []
  else
    let crit := ls.any (isCritical s)
    let P := mixPeriod s c
    let n : Nat := cprm s c 1 + pinnedIn s c
    let mix : Nat := n * (600 + (if cprm s c 4 = 1 then 25 * hrtfTaps s (cprm s c 5) else 0)) * P
    let encs : List Nat := settingsOf s ls
    let m := ((ls.filter fun l => legKind s l ≤ 1).map fun l => portM s (legPort s l)).foldl max 0
    (kernelAsks s c 1 crit).map fun ks =>
      [{ code := 3, lim := 3, amt := fun _ => density s ((2000 + rankInputs s c * (8 + 2 * cprm s c 1)) * 1000000) (mixWin P)
         cands := gaugeCores s crit, pair := crit },
       { code := 2, lim := 2, amt := fun _ => density s mix (mixWin P), cands := jigCores s crit, pair := crit }]
      ++ (encs.map fun x => { code := 2, lim := 2, amt := fun _ => density s (backPerMs s x * P) (backWin P)
                              cands := jigCores s crit, pair := crit : Ask })
      ++ [askAt 5 0 (500000 + 200000 * n)]
      ++ (if encs.isEmpty then [] else [askAt 8 0 (encs.length * cellsFor (2 * m))]) ++ ks

/-- A leg (R51 to R53, R417, R583, Table 12-2). -/
def legAsks (s : State) (l : Nat) : Except Shut (List Ask) :=
  let P := mixPeriod s (confOfLeg s l)
  let crit := isCritical s l
  if (audioOuts s l).any fun x => ptime s x != P then .error (shutFree 0x0B s)
  else
    let d := density s (frontCost s l P) (frontWin P) + density s (backCost s l P) (backWin P)
    let p := legPort s l
    let m := portM s p
    let net := if legKind s l ≤ 1 then
        [askAt 6 p 64000, askAt 16 (8 * p + ctrlClass s l) m, askAt 17 (8 * p + ctrlClass s l) m, askAt 8 0 (cellsFor (2 * m))]
      else []
    (kernelAsks s l 0 crit).bind fun a => (kernelAsks s l 2 crit).map fun b =>
      [{ code := 2, lim := 2, amt := fun _ => d, cands := jigCores s crit, pair := crit }, askAt 5 0 1000000] ++ net ++ a ++ b

/-- Engine time `ns` as millionths of `m` parts of a rate's period (R60). -/
def engineShare (rate m ns : Nat) : Nat := ceilDiv (ns * m * (rateOf rate).1) (1000 * (rateOf rate).2)

/-- A stream (R60, R265, R572, Table 12-2, Table 13-3). -/
def streamAsks (s : State) (x : Nat) : Except Shut (List Ask) :=
  let p := legPort s (legOfStream s x)
  if isOut s x then
    let q := 8 * p + streamTc s x
    let burst := ofldN s x (fk 0x07 4 0)
    let size := ofldN s x (fk 0x07 5 0)
    if ((getObj s x).bind fun o => Tab.get o.fields (fk 0x07 3 0)).isNone then .error (shutFree 0x0B s)
    else .ok [askAt 6 p (ofldN s x (fk 0x07 3 0)), askAt 16 q burst, askAt 17 q (burst + size), askAt 8 0 (cellsFor (burst + 2 * size))]
  else
    let part := ((getObj s x).map (·.part)).getD 0
    let cbs := match Tab.get s.eth.pol (part * 8192 + ofldN s x (fk 0x04 13 0)) with
      | some q => if ofld s x (fk 0x04 13 0) = noneV then 0 else fldN q.fields (fk 0x0D 3 0)
      | none => 0
    let dec := if isDecoded s x then
        [{ code := 1, lim := 1, amt := fun _ => engineShare (dprm s x 4) 1 (scaleNs s 3 (decodeCost s x)), cands := List.range 16 },
         askAt 5 0 (ceilDiv (8 * dprm s x 1 * dprm s x 2 * (rateOf (dprm s x 4)).1) (rateOf (dprm s x 4)).2)]
      else []
    .ok (dec ++ [askAt 8 0 (cellsFor (cbs + portM s p))])

/-- A layout (R61, R62, Table 13-3): every frame grid has the instants of whole seconds in common, so that no two fixed
layouts share a compositor; the displayed one is on Marquetry instance 3 (R348). -/
def layoutAsks (s : State) (y : Nat) : Except Shut (List Ask) :=
  let r := layoutRate s y
  let cs := if dispLayout s == y then [35] else if isMarq s y then [32, 33, 34, 35] else List.range 32
  let w := engineShare r 1 (windowNs s y)
  let f := fun c => s.obj.objs.all fun e => e.1 == y || e.2.both.all fun v => v.code != 4 || v.inst != c
  let a : Ask := { code := 4, lim := 4, amt := fun _ => w, cands := cs, fit := f }
  if 400000 < w then .error { a.shut s y with lim := 0x0B }
  else .ok [a, askAt 5 0 (ceilDiv (10 * yprm s y 1 * yprm s y 2 * (rateOf r).1) (rateOf r).2)]

/-- The rungs of a layout that hold an engine, other than `r`, with their engines. -/
def rungMates (s : State) (r : Nat) : List (Nat × Nat) :=
  (kids s 7 (parentKey s r)).filterMap fun q =>
    if q = r then none
    else ((getObj s q).bind fun o => o.both.find? fun v => v.code == 1).map fun v => (q, v.inst)

/-- Whether two rungs belong to one search group by their fields (R376). -/
def sameGroup (s : State) (a b : Nat) : Bool :=
  a == b || (rprm s a 7 == 1 && rprm s b 7 == 1 && rprm s a 5 == rprm s b 5 && pattern (rprm s a 6) == pattern (rprm s b 6))

/-- What rung `q` is charged on an engine that holds the rungs `l` of its layout (R59, R399, R400): the first of them
takes at least W. -/
def rungCharge (s : State) (l : List Nat) (q : Nat) : Nat :=
  let top := (sortBy (l.filter (sameGroup s q)) (rungBefore s)).headD q == q
  let e := scaleNs s 3 (encodeCostAs s q top)
  let first := (sortBy l (rungBefore s)).headD q == q
  engineShare (layoutRate s (parentKey s q)) 2 (if first then max e (windowNs s (parentKey s q)) else e)

/-- DRAM traffic of a rung (Table 13-3). -/
def rungDram (s : State) (l : List Nat) (r : Nat) : Nat :=
  let top := (sortBy (l.filter (sameGroup s r)) (rungBefore s)).headD r == r
  let y := parentKey s r
  let ls := rungLayers s r
  let p := unitSamples ls + (ls.map fun z => interSamples (yprm s y 1) (yprm s y 2) z.1 z.2.1).sum
  ceilDiv ((8 * p + (if top then rungW s r * rungH s r else 0)) * (rateOf (layoutRate s y)).1)
    ((rateOf (layoutRate s y)).2 * rprm s r 5)

/-- A rung (R58 to R60, R400): on the engine of its search group when that holds one. The amount compared counts every
rung of the layout on the engine as charged with the new one beside it. -/
def rungAsks (s : State) (r : Nat) : Except Shut (List Ask) :=
  let ms := rungMates s r
  let on := fun e => r :: (ms.filter fun m => m.2 == e).map (·.1)
  let cs := match ms.find? fun m => sameGroup s r m.1 with
    | some m => [m.2]
    | none => List.range 16
  let b := rprm s r 11
  .ok [{ code := 1, lim := 1, amt := fun e => ((on e).map (rungCharge s (on e))).sum, cands := cs, skip := ms.map (·.1) },
       askAt 5 0 (rungDram s (r :: (ms.map (·.1))) r),
       askAt 8 0 (cellsFor (b + 128 * ceilDiv b (rprm s r 17)))]

/-- Sets what the rungs of a layout are charged, engine by engine (R59). -/
def syncRungs (y : Nat) (s : State) : State :=
  let rs := (kids s 7 y).filterMap fun q =>
    ((getObj s q).bind fun o => o.both.find? fun v => v.code == 1).map fun v => (q, v.inst)
  rs.foldl (fun s q =>
    let l := (rs.filter fun m => m.2 == q.2).map (·.1)
    let f := fun (v : Resv) => if v.code = 1 then { v with amt := rungCharge s l q.1 }
      else if v.code = 5 then { v with amt := rungDram s (rs.map (·.1)) q.1 } else v
    updObj s q.1 fun o => { o with resv := o.resv.map f, resvNew := o.resvNew.map f }) s

/-- What the object with key `k` asks for; layers have nothing of their own. -/
def asksOf (s : State) (k : Nat) : Except Shut (List Ask) :=
  match k / 1048576 with
  | 3 => legAsks s k
  | 4 => streamAsks s k
  | 5 => layoutAsks s k
  | 7 => rungAsks s k
  | _ => .ok []

/-! ## Bounds (R852, Table 1-10) -/

/-- 0.5 F + 3 ms, rounded up (R58). -/
def layoutBound (s : State) (y : Nat) : Nat :=
  ceilDiv ((rateOf (layoutRate s y)).2 * secNs) (2 * (rateOf (layoutRate s y)).1) + 3000000

/-- Every subscription of a source, on any of its encodings, that holds a reservation, in the order of replication; `x`
counts too (R56, R191). -/
def fixedSubs (s : State) (x : Nat) : List Nat :=
  let es := encodings s (streamLink s x)
  let born (k : Nat) : Nat := ((getObj s k).map (·.born)).getD 0
  sortBy ((objKeys s 4).filter fun k => isOut s k && streamRole s k == 1 && streamLink s k != 0
      && es.contains (streamLink s k) && isFixed s k
      && (k == x || ((getObj s k).map fun o => !o.both.isEmpty).getD false)) fun a b => decide (born a ≤ born b)

/-- BOUND_NS of a fixed object (Table 1-10). -/
def boundOf (s : State) (k : Nat) : Nat :=
  match k / 1048576 with
  | 3 => mixPeriod s (confOfLeg s k) + 1500000
  | 4 =>
    let role := streamRole s k
    if role = 3 then 0
    else if isVideo s k then
      if isOut s k then
        if role = 1 then 25000 + 16 * ((fixedSubs s k).takeWhile (· != k)).length
        else if role = 2 && isFixed s (streamLayout s k) then layoutBound s (streamLayout s k)
        else 0
      else if isDecoded s k then
        ceilDiv ((rateOf (dprm s k 4)).2 * secNs) (rateOf (dprm s k 4)).1 + bNpNow s + tSwNow s
      else 0
    else if role = 1 then 25000 + 16 * ((fixedSubs s k).takeWhile (· != k)).length
    else mixPeriod s (confOfLeg s (legOfStream s k)) + 1500000
  | 5 => layoutBound s k
  | 6 => layoutBound s (parentKey s k)
  | 7 => layoutBound s (parentKey s k)
  | _ => 0

/-! ## Egress conditions (R49, R54, R56, R594) -/

/-- Joins neighbouring entries by whether gate `c` is open: lengths of the runs. -/
def gateRuns (c : Nat) : List (Nat × Nat) → List (Bool × Nat)
  | [] => []
  | (g, n) :: t =>
    match gateRuns c t with
    | (b, m) :: u => if b = bitOf g c then (b, n + m) :: u else (bitOf g c, n) :: (b, m) :: u
    | [] => [(bitOf g c, n)]

/-- The longest gap between possible starts, in ns times the line rate: `x8` is the frame in bits (R594). `cur` is the
length since the last possible start, none before the first. -/
def longestGap (gb x8 : Nat) : Option Nat → Option Nat → List (Bool × Nat) → Option Nat
  | _, best, [] => best
  | cur, best, (b, n) :: t =>
    if b && decide (x8 ≤ n * gb) then longestGap gb x8 (some x8) (match cur with
      | some v => some (max v (best.getD 0))
      | none => best) t
    else longestGap gb x8 (cur.map (· + n * gb)) best t

/-- G_p times the line rate; none when no start is ever possible (R594). -/
def gateGap (gb x8 c : Nat) : Option GateList → Option Nat
  | none => some 0
  | some g =>
    if alwaysOpen g c then some 0
    else longestGap gb x8 none none (gateRuns c (cycleEntries g ++ cycleEntries g ++ cycleEntries g))

/-- The lists that an admission on a port must pass with: in force, and pending (R595). -/
def gateLists (e : EthPort) : List (Option GateList) :=
  e.gates :: (match e.gatesNew with
    | some (g, _) => [if g.ents.isEmpty then none else some g]
    | none => [])

/-- B_p of a stream of class `c` on port `p`: the reserved bursts of the others in its class or above (R49, R583). -/
def otherBursts (s : State) (x p c : Nat) : Nat :=
  ((List.range 8).map fun d => if c ≤ d ∧ 5 ≤ d then held s 16 (8 * p + d) [x] + (if d = 7 then 2 * portM s p else 0) else 0).sum

/-- Whether the condition of R54 or R56 holds for stream `x` with a gap `g` (times the line rate). -/
def egressHolds (s : State) (x g : Nat) : Bool :=
  let p := legPort s (legOfStream s x)
  let gb := portGb s p
  let o := fld (getPort s p).fields (fk 0x12 7 0)
  let one : Nat := ((ofldN s x (fk 0x07 5 0) : Int) + o).toNat
  let n := (8 * ((portM s p : Int) + o)).toNat
  let b := otherBursts s x p (streamTc s x)
  if streamRole s x = 1 then
    let l := (fixedSubs s x).filter fun k => legPort s (legOfStream s k) == p
    let i := (l.takeWhile (· != x)).length + 1
    decide (7000 * gb + g + n + 8 * (b + i * one) ≤ 25000 * gb)
  else decide (3000 * gb + g + n + 8 * (b + one) ≤ 500000 * gb)

/-- Whether stream `x` has an egress condition: a fixed audio stream or subscription that holds a reservation. -/
def hasCondition (s : State) (x : Nat) : Bool :=
  isOut s x && isFixed s x && (streamRole s x == 1 || (!(isVideo s x) && streamRole s x != 3))
    && ((getObj s x).map fun o => !o.both.isEmpty).getD false && decide (legKind s (legOfStream s x) ≤ 1)

/-- The limit that refuses stream `x` under a gate list: GATE_WINDOW when it would pass without the list. -/
def egressLimit (s : State) (x : Nat) (g : Option GateList) : Option Nat :=
  let p := legPort s (legOfStream s x)
  let x8 := 8 * ((ofldN s x (fk 0x07 5 0) : Int) + fld (getPort s p).fields (fk 0x12 7 0)).toNat
  match gateGap (portGb s p) x8 (streamTc s x) g with
  | some v => if egressHolds s x v then none else if egressHolds s x 0 then some 7 else some 6
  | none => if egressHolds s x 0 then some 7 else some 6

/-- The first failing condition of port `p` under the lists `gs`: stream and limit. -/
def portFails (s : State) (p : Nat) (gs : List (Option GateList)) : Option (Nat × Nat) :=
  (((objKeys s 4).filter fun x => hasCondition s x && legPort s (legOfStream s x) == p).filterMap fun x =>
    (gs.filterMap (egressLimit s x)).head?.map fun l => (x, l)).head?

/-! ## The check -/

/-- Contexts bound, or promised to a first activation that is accepted, decoder or encoder, of a partition or of all. -/
def contextsUsed (s : State) (enc : Bool) (part : Option Nat) : Nat :=
  ((objKeys s (if enc then 7 else 4)).filter fun k =>
    (part.isNone || part == (getObj s k).map (·.part)) &&
      !(if enc then (getRung s k).surfs else (getDec s k).surfs).isEmpty).length

/-- A quota that the partition of object `k` would exceed: the resource (R64, R686). -/
def overShare (s : State) (k : Nat) : Option Nat :=
  match getObj s k with
  | none => none
  | some o =>
    [1, 2, 3, 4, 5, 6, 8].find? fun c =>
      o.resvNew.any (fun r => r.code == c) &&
        decide (quota s o.part 7 c * ceilingSum s c / 1000000 < partHeld s o.part c)

/-- Keys of the objects whose reservation an admission of `k` touches. -/
def touched (s : State) (k : Nat) : List Nat :=
  if k / 1048576 = 3 then [k, confOfLeg s k]
  else if k / 1048576 = 7 then k :: (kids s 7 (parentKey s k)).filter (· != k) else [k]

/-- Both reservations of the object with key `k`. -/
def bothOf (s : State) (k : Nat) : List Resv := ((getObj s k).map Obj.both).getD []

/-- An object's reservations are set aside. -/
def clearResv (k : Nat) (s : State) : State := updObj s k fun o => { o with resv := [], resvNew := [] }

/-- The reservation of an object is set aside and the asks are placed anew; `old` is what it held. -/
def replaceWith (old : List Resv) (k : Nat) (asks : Except Shut (List Ask)) (s : State) : Except Shut State :=
  asks.bind fun l => placeAll k old l (clearResv k s)

/-- `replaceWith` on what the object holds now. -/
def replace (k : Nat) (asks : Except Shut (List Ask)) (s : State) : Except Shut State := replaceWith (bothOf s k) k asks s

/-- Places the shared work of a conference (R463). -/
def placeConf (c : Nat) (extra : List Nat) (s : State) : Except Shut State := replace c (confAsks s c extra) s

/-- The checks that follow placement: cells (R615), the partition's share (R64; of the buffer, R615), contexts (R265),
egress (R853). -/
def afterPlacing (k : Nat) (s : State) : Except Shut State :=
  let cells := cellsHeld s
  if 78643 < cells then .error { lim := 8, inst := 0, short := ceilDiv ((cells - 78643) * 1000000) 98304 }
  else
    match overShare s k, getObj s k with
    | some c, some o =>
      .error { lim := if c = 8 then 8 else 0x0A
               inst := ((o.resvNew.find? fun r => r.code == c).map fun r => localInst c r.inst).getD 0
               short := ceilDiv ((partHeld s o.part c - quota s o.part 7 c * ceilingSum s c / 1000000) * 1000000) (capacity s c) }
    | _, _ =>
      let ps := (List.range (nPorts s)).filterMap fun p => (portFails s p (gateLists (getPort s p))).map fun f => (p, f)
      match ps with
      | [] => .ok s
      | (p, (x, l)) :: _ => .error { lim := if x = k then l else 6, inst := p, short := (shutFree 0 s).short }

/-- Admits the object `k` on the state `s`, in which it has its new fields and its class (R37 to R41): its reservation
goes into `resvNew`, what it held before is dropped. -/
def admitOne (k : Nat) (s : State) : Except Shut State :=
  (if k / 1048576 = 3 then placeConf (confOfLeg s k) [k] s else .ok s).bind fun s1 =>
  (replace k (asksOf s1 k) s1).bind fun s2 =>
  afterPlacing k (if k / 1048576 = 7 then syncRungs (parentKey s k) s2 else s2)

/-- Admits objects in order. -/
def admitAll : List Nat → State → Except Shut State
  | [], s => .ok s
  | k :: t, s => (admitOne k s).bind (admitAll t)

/-- The reservations that a trial `t` placed, held in `s` beside the old ones (R40). -/
def keepPlaced (ks : List Nat) (t s : State) : State :=
  ks.foldl (fun s k =>
    match getObj t k with
    | some o => updObj s k fun v => { v with
        resvNew := if o.resv.isEmpty then o.resvNew else v.resvNew
        resv := if o.resv.isEmpty then v.resv else o.resv }
    | none => s) { s with free := t.free }

/-- The fixed class of an object for the check. -/
def asFixed (k : Nat) (s : State) : State := updObj s k fun o => { o with fixed := true, revoked := false }

/-- Table 1-6 of an accepted object. -/
def acceptBytes (s t : State) (k : Nat) : Bytes :=
  let inst := match (getObj t k).bind fun o => o.resvNew.head? with
    | some r => localInst r.code r.inst
    | none => 0
  toLe 8 (boundOf s k) ++ toLe 1 0 ++ toLe 2 inst ++ toLe 1 0 ++ toLe 4 0

/-- Table 1-6 of a refused object. -/
def Shut.bytes (e : Shut) : Bytes := zeros 8 ++ toLe 1 e.lim ++ toLe 2 e.inst ++ zeros 1 ++ toLe 4 (min e.short 0xFFFFFFFF)

/-- The reserved cells of the queues follow the books (R615, R610): the larger of the old and the new reservation. -/
def syncResv (s : State) : State :=
  let cells := fun (k : Nat) => match getObj s k with
    | some o => if o.fixed then max (sumResv o.resv 8 0) (sumResv o.resvNew 8 0) else 0
    | none => 0
  let want := ((objKeys s 4).map fun k => (qStream k, cells k)) ++ ((objKeys s 7).map fun k => (qRung k, cells k))
    ++ ((objKeys s 3).map fun k => (qCtrl k, cells k))
    ++ ((List.range (nPorts s)).flatMap fun p => [5, 6, 7].map fun c =>
          (qClass p c, if classBound s p c = 0 then 0 else cellsFor (classBound s p c)))
    ++ (s.batten.shared.map fun e =>
          (e.1, cells e.2 / max 1 (s.batten.shared.filter fun f => f.2 == e.2).length))
  want.foldl (fun s w => if (getQ s w.1).resv = w.2 then s else setQ s w.1 { getQ s w.1 with resv := w.2 }) s

/-! ## Re-admission (R70 to R76) -/

/-- The rate row whose frame instants are the boundaries of a video stream that is no retransmission (R25). -/
def streamRate0 (s : State) (x : Nat) : Nat :=
  if !(isOut s x) then dprm s x 4
  else if streamRole s x = 2 then
    (if streamLayout s x = 0 then 8 else layoutRate s (streamLayout s x))
  else if streamRole s x = 1 && streamLink s x != 0 then dprm s (streamLink s x) 4 else 8

/-- The stream whose boundary a stream has: the primary of a retransmission, else itself (R25). -/
def boundStream (s : State) (x : Nat) : Nat :=
  if streamRole s x = 3 && (getObj s (streamLink s x)).isSome then streamLink s x else x

/-- The rate row whose frame instants are the boundaries of stream `x`; none when they are mix period boundaries (R25). -/
def streamRate (s : State) (x : Nat) : Option Nat :=
  if isVideo s (boundStream s x) then some (streamRate0 s (boundStream s x)) else none

/-- The rate row whose frame instants are the boundaries of an object; none for mix period boundaries (R25). -/
def rateOfObj (s : State) (k : Nat) : Option Nat :=
  match k / 1048576 with
  | 4 => streamRate s k
  | 5 => some (layoutRate s k)
  | 6 => some (layoutRate s (parentKey s k))
  | 7 => some (layoutRate s (parentKey s k))
  | _ => none

/-- When the boundary of leg `l` lies after the next mix period boundary, its time (R25); 0 otherwise. -/
def legDue (s : State) (l : Nat) : Nat :=
  let t := (((kids s 4 l).filterMap (streamRate s)).map fun r => ((s.time.frames[r]?).map (·.2)).getD 0).foldl max 0
  if (getConf s (confOfLeg s l)).mixNext < t then t else 0

/-- The due time of a change that takes effect at the boundary of object `k`. -/
def dueOf (s : State) (k : Nat) : Nat := if k / 1048576 = 3 then legDue s k else 0

/-- The object gives up its reservation and becomes floating at its next boundary (R72, R73). -/
def revokeOne (lim inst short : Nat) (k : Nat) (s : State) : State :=
  match getObj s k with
  | none => s
  | some o =>
    if !o.fixed then s
    else
      let s1 := updObj s k fun o => { o with resv := [], resvNew := [], pend := o.pend ++ [{ act := .revoke, due := dueOf s k }] }
      let s2 := if o.crit then detect 0x11 0xFFFF (objHandle k o) lim false true s1 else s1
      emitObj s2 k 0x021 (toLe 1 lim ++ zeros 1 ++ toLe 2 inst ++ toLe 4 short)

/-- The objects that fall with an object (R73): the fixed streams of a leg, the layers and rungs of a layout; a rung
takes its whole layout. -/
def revokeSet (s : State) (k : Nat) : List Nat :=
  if k / 1048576 = 3 then k :: (kids s 4 k).filter (isFixed s)
  else if k / 1048576 = 5 then k :: kids s 6 k ++ kids s 7 k
  else if k / 1048576 = 6 ∨ k / 1048576 = 7 then
    let y := parentKey s k
    y :: kids s 6 y ++ kids s 7 y
  else [k]

/-- Revokes an object with those it carries along. -/
def revoke (e : Shut) (k : Nat) (s : State) : State :=
  (revokeSet s k).foldl (fun s k => if stillFixed s k then revokeOne e.lim e.inst (min e.short 0xFFFFFFFF) k s else s) s

/-- FIXED_MOVED for each reservation that lies on another instance than before (R72). -/
def movedEvents (old : List Resv) (k : Nat) (s : State) : State :=
  match getObj s k with
  | none => s
  | some o =>
    (List.range (max old.length o.resv.length)).foldl (fun s i =>
      match old[i]?, o.resv[i]? with
      | some a, some b =>
        if a.code = b.code ∧ a.code ≤ 4 ∧ a.inst ≠ b.inst then
          emitObj s k 0x020 (toLe 1 a.code ++ zeros 1 ++ toLe 2 (localInst a.code b.inst) ++ toLe 2 (localInst a.code a.inst))
        else s
      | _, _ => s) s

/-- The order of R71: critical objects first, then by first activation. -/
def readmitOrder (s : State) (ks : List Nat) : List Nat :=
  let key := fun (k : Nat) => match getObj s k with
    | some o => (if o.crit then 0 else 2 ^ 64) + o.firstAct.getD 0
    | none => 0
  sortBy ks fun a b => decide (key a ≤ key b)

/-- Whether an object holds an instance that left service. -/
def lostAny (s : State) (o : Obj) : Bool :=
  o.both.any fun r => decide (1 ≤ r.code) && decide (r.code ≤ 3) && !(inService s r.code r.inst)

/-- What was placed anew is in force at once. -/
def commitResv (k : Nat) (s : State) : State := updObj s k fun o => { o with resv := o.resvNew, resvNew := [] }

/-- The shared work of a conference is placed anew for the fixed legs it has now and those of `extra` that are still to be
placed (R33, R463): less than before, so that it stays where it is. -/
def resettleWith (extra : List Nat) (c : Nat) (s : State) : State :=
  match replace c (confAsks s c extra) s with
  | .ok t => commitResv c t
  | .error _ => clearResv c s

/-- `resettleWith` when no leg is still to be placed. -/
def resettle (c : Nat) (s : State) : State := resettleWith [] c s

/-- A fault stops an ACTIVE or HELD object (Table 1-4, R768): its reservation goes, and what waited for its boundary. -/
def faultObject (k : Nat) (s : State) : State :=
  match getObj s k with
  | none => s
  | some o =>
    if o.state = .active ∨ o.state = .held then
      let s1 := updObj s k fun o => { o with state := .faulted, resv := [], resvNew := [], pend := [], bound := 0 }
      syncResv (if k / 1048576 = 3 && o.fixed then resettle (confOfLeg s k) s1
        else if k / 1048576 = 7 then syncRungs (parentKey s k) s1 else s1)
    else s

/-- One object is admitted again on what the others hold (R71, R72); `olds` is what the affected objects held. The shared
work of an affected conference goes before the first of its fixed legs, and its refusal revokes every fixed leg; a leg that
is revoked leaves the shared work (R33). -/
def readmitOne (olds : Tab (List Resv)) (k : Nat) (s : State) : State :=
  if !(stillFixed s k) then s
  else
    let c := confOfLeg s k
    let extra := Tab.keys olds
    let conf := if k / 1048576 = 3 && Tab.has olds c && (bothOf s c).isEmpty then
        (replaceWith (Tab.getD olds c []) c (confAsks s c extra) s).map fun t => movedEvents (Tab.getD olds c []) c (commitResv c t)
      else .ok s
    match conf with
    | .error e => ((kids s 3 c).filter (isFixed s)).foldl (fun s l => revoke e l s) s
    | .ok s1 =>
      match (replaceWith (Tab.getD olds k []) k (asksOf s1 k) s1).bind (afterPlacing k) with
      | .error e => if k / 1048576 = 3 then resettleWith extra c (revoke e k s1) else revoke e k s1
      | .ok s2 => movedEvents (Tab.getD olds k []) k (commitResv k s2)

/-- Re-admission of the affected objects (R71): what they hold is set aside first. -/
def readmit (ks : List Nat) (s : State) : State :=
  let olds : Tab (List Resv) := ks.foldl (fun t k => Tab.set t k (bothOf s k)) []
  let s1 := ks.foldl (fun s k => clearResv k s) s
  let s2 := (readmitOrder s (ks.filter fun k => k / 1048576 != 2)).foldl (fun s k => readmitOne olds k s) s1
  syncResv ((objKeys s2 5).foldl (fun s y => syncRungs y s) s2)

/-- Re-admission after an instance left service: the objects that hold it, and the fixed legs of a conference whose
shared work held it (R70, R71). -/
def readmitLost (s : State) : State :=
  let hit := (s.obj.objs.filter fun e => lostAny s e.2).map (·.1)
  let ls := (hit.filter fun k => k / 1048576 == 2).flatMap fun c => (kids s 3 c).filter fun l => !(bothOf s l).isEmpty
  readmit (hit ++ ls.filter fun l => !(hit.contains l)) s

/-- Re-admission of every fixed object at reduced capacity (R75). -/
def readmitEvery (s : State) : State :=
  readmit ((s.obj.objs.filter fun e => !e.2.both.isEmpty).map (·.1)) s

end Sys2Proof.Machine
end

