-- ==== Sys2Proof/Machine/Audio.lean ====
section
/-!
DEFINITION. The arithmetic of the audio graph (R415, R421 to R424, R428, R436, R437, R442, R447): sub-blocks in block
floating point, gains, levels, contributions, binaural rendering, the limiter's envelope and the conversion to samples.
-/

namespace Sys2Proof.Machine

open Sys2Proof

/-! ## Block floating point (R421, R422) -/

/-- bitlen(n) of R422. -/
def bitLen (n : Nat) : Nat := if n = 0 then 0 else Nat.log2 n + 1

/-- The largest magnitude of a list. -/
def maxAbs (v : List Int) : Nat := (v.map Int.natAbs).foldl max 0

/-- The mantissas of R422 for a shift `s`: rounded half up to the right, exact to the left. -/
def mantAt (v : List Int) (s : Int) : List Int :=
  if 0 < s then v.map fun x => (x + 2 ^ (s - 1).toNat) / 2 ^ s.toNat else v.map fun x => x * 2 ^ (-s).toNat

/-- to_bfp(v, q) of R422. Its loop runs at most twice: one step up in the exponent halves the mantissas. An exponent that
would begin above +7 begins at +7, the largest of Table 8-4 (DEDUCED, log entry 30). -/
def toBfp (v : List Int) (q : Int) : SubBlk :=
  if maxAbs v = 0 then { m := v.map fun _ => 0, e := -64 }
  else
    let e : Int := max (-64) (min 7 ((bitLen (maxAbs v) : Int) - q))
    let m := mantAt v (q + e - 19)
    let r := if maxAbs m ≤ 524287 ∨ e = 7 then (m, e) else (mantAt v (q + e - 18), e + 1)
    { m := if r.2 = 7 then r.1.map fun x => max (-524287) (min 524287 x) else r.1, e := r.2 }

/-- A sub-block of `n` zero samples. -/
def silentSub (n : Nat) : SubBlk := { m := List.replicate n 0, e := -64 }

/-- A block of `k` silent sub-blocks. -/
def silence (k : Nat) : List SubBlk := List.replicate k (silentSub 24)

/-- Splits a list into pieces of `n`, at most `k` of them. -/
def pieces {α : Type} (n : Nat) : Nat → List α → List (List α)
  | 0, _ => []
  | k + 1, l => if l.isEmpty then [] else l.take n :: pieces n k (l.drop n)

/-- `k` sub-blocks of `n` samples that the spec does not give to the bit: any normalised sub-blocks. -/
def openSubs (k n : Nat) (s : State) : List SubBlk × State :=
  ((List.range k).map fun j => toBfp ((List.range n).map fun i => signal s.free (j * n + i)) 83, { s with free := s.free + 1 })

/-- The mantissas of a sub-block re-expressed for an exponent `e` no less than its own (R442). -/
def SubBlk.reexp (b : SubBlk) (e : Int) : List Int := b.m.map fun x => x / 2 ^ (e - b.e).toNat

/-- Two channels mixed to mono (R415), both re-expressed for the larger exponent as in R442 (DEDUCED, log entry 31). -/
def downmix (a b : SubBlk) : SubBlk :=
  let e := max a.e b.e
  toBfp (List.zipWith (fun x y => (x + y) / 2) (a.reexp e) (b.reexp e)) (19 - e)

/-- The sum of two sub-blocks, both re-expressed for the larger exponent (R446). -/
def addSub (a b : SubBlk) : SubBlk :=
  let e := max a.e b.e
  toBfp (List.zipWith (· + ·) (a.reexp e) (b.reexp e)) (19 - e)

/-- Normalises a sub-block by left shifts (R515, Table 8-4). -/
def normSub (b : SubBlk) : SubBlk :=
  if maxAbs b.m = 0 then { b with e := -64 }
  else
    let n := min (19 - bitLen (maxAbs b.m)) (b.e + 64).toNat
    { m := b.m.map fun x => x * 2 ^ n, e := b.e - n }

/-! ## Gains (Table 8-4, R423) -/

/-- Whether x <= 10^(g / 1280) * 2^k, in integers: `g` is a gain in 1/64 dB. -/
def gainAtLeast (g : Int) (k x : Nat) : Bool := decide (x ^ 1280 * 10 ^ (-g).toNat ≤ 10 ^ g.toNat * 2 ^ (1280 * k))

/-- The least exponent ge, from -64 on, with 10^(g / 1280) < 2^ge. -/
def gainExp (g : Int) : Int :=
  (((List.range 80).map fun (i : Nat) => (i : Int) - 64).find? fun e =>
    if 0 ≤ e then !(gainAtLeast g 0 (2 ^ e.toNat)) else !(gainAtLeast g (-e).toNat 1)).getD 16

/-- The largest x from `x` on, raised by the powers of two below 2^n, with x <= 10^(g / 1280) * 2^k. -/
def gainBits (g : Int) (k : Nat) : Nat → Nat → Nat
  | 0, x => x
  | n + 1, x => gainBits g k n (if gainAtLeast g k (x + 2 ^ n) then x + 2 ^ n else x)

/-- Mantissa and exponent of a gain in 1/64 dB: the nearest value of Table 8-4. -/
def gainOf (g : Int) : Nat × Int :=
  let e := gainExp g
  let m := (gainBits g (20 - e).toNat 19 (2 ^ 19) + 1) / 2
  if m = 2 ^ 19 then (2 ^ 18, e + 1) else (m, e)

/-- A gain in 1/64 dB applied to a sub-block (R423). -/
def applyGain (g : Int) (b : SubBlk) : SubBlk :=
  let r := gainOf g
  toBfp (b.m.map fun x => x * r.1) (38 - b.e - r.2)

/-- A gain applied to a block; 0 dB changes no value. -/
def gainBlock (g : Int) (bs : List SubBlk) : List SubBlk :=
  if g = 0 then bs else
    let r := gainOf g
    bs.map fun b => toBfp (b.m.map fun x => x * r.1) (38 - b.e - r.2)

/-! ## Level (R428) -/

/-- The sum of the squares of a block, in 2^-166 FS^2. -/
def energy (bs : List SubBlk) : Nat := (bs.map fun b => (b.m.map fun x => x.natAbs ^ 2).sum * 2 ^ (2 * (b.e + 64)).toNat).sum

/-- The largest L from `l` on, raised by the powers of two below 2^n, with 10^(L / 640) <= (a / b)^(1 / 640). -/
def levelBits (a b : Nat) : Nat → Int → Int
  | 0, l => l
  | n + 1, l =>
    let m := l + 2 ^ n
    levelBits a b n (if b * 10 ^ m.toNat ≤ a * 10 ^ (-m).toNat then m else l)

/-- The RMS level of a block in 1/64 dB relative to FS: the two values next to the exact one are both open, since the spec
gives no rounding; -32,768 for silence (R428, Table 8-4). -/
def levelOf (bs : List SubBlk) (s : State) : Int × State :=
  let n := energy bs
  let d := (bs.map fun b => b.m.length).sum * 2 ^ 166
  if n = 0 then (-32768, s)
  else
    let a := n ^ 640
    let b := d ^ 640
    let l := levelBits a b 16 (-32768)
    if b * 10 ^ l.toNat = a * 10 ^ (-l).toNat then (l, s)
    else
      let f := takeFree 30 1 s
      (min 32767 (l + f.1), f.2)

/-! ## Contributions and sums (R436 to R438, R442) -/

/-- A 48-bit value, signed. -/
def wrap48 (v : Int) : Int := signed 48 (wrap 48 v)

/-- The contribution of a sub-block (R436). -/
def contribution (b : SubBlk) : List Int :=
  if -7 ≤ b.e then b.m.map fun x => x * 2 ^ (b.e + 7).toNat
  else b.m.map fun x => (x + 2 ^ (-b.e - 8).toNat) / 2 ^ (-b.e - 7).toNat

/-- The contributions of a block. -/
def contributions (bs : List SubBlk) : List Int := bs.flatMap contribution

/-- The sum of two signals in 48 bits. -/
def addSig (a b : List Int) : List Int := List.zipWith (fun x y => wrap48 (x + y)) a b

/-- The difference of two signals in 48 bits (R438). -/
def subSig (a b : List Int) : List Int := List.zipWith (fun x y => wrap48 (x - y)) a b

/-- A sum of signals of `n` samples (R437). -/
def sumSig (n : Nat) (l : List (List Int)) : List Int := l.foldl addSig (List.replicate n 0)

/-- One ear of a rendered sub-block (R442): `win` is the 4 sub-blocks before it and itself, `h` the HRIR. -/
def renderSub (taps : Nat) (h : Nat → Int) (win : List SubBlk) : List Int :=
  let e := (win.map (·.e)).foldl max (-64)
  let r := win.flatMap fun b => b.reexp e
  (List.range 24).map fun i =>
    let acc := wrap48 ((List.range taps).map fun k => h k * (r[96 + i - k]?.getD 0)).sum
    (acc + 2 ^ (10 - e).toNat) / 2 ^ (11 - e).toNat

/-- One ear of a rendered block; `hist` holds the 4 sub-blocks before it. -/
def renderBlock (taps : Nat) (h : Nat → Int) (hist bs : List SubBlk) : List Int :=
  let all := List.replicate (4 - hist.length) (silentSub 24) ++ hist ++ bs
  (List.range bs.length).flatMap fun j => renderSub taps h ((all.drop j).take 5)

/-- A signal in 2^-26 FS as sub-blocks (R446). -/
def fromSig (d : List Int) : List SubBlk := (pieces 24 (d.length / 24 + 1) d).map fun v => toBfp v 26

/-! ## Limiter (R447) -/

/-- 2^(-1/2400) in 2^-60. -/
def decay60 : Nat := 1152588575898316436

/-- LIM = -1 dBFS in 2^-60 FS. -/
def lim60 : Nat := 1027542372575421786

/-- The magnitude of a sample in 2^-60 FS, rounded down. -/
def mag60 (x e : Int) : Nat := if -41 ≤ e then x.natAbs * 2 ^ (e + 41).toNat else x.natAbs / 2 ^ (-41 - e).toNat

/-- The envelope over the samples of a sub-block, and whether it exceeds LIM at one of them. -/
def envRun : Nat → List Nat → Nat × Bool
  | env, [] => (env, false)
  | env, x :: t =>
    let v := max x (env * decay60 / 2 ^ 60)
    let r := envRun v t
    (r.1, r.2 || decide (lim60 < v))

/-- The limiter on the channels of one sub-block: unchanged while the envelope stays at or below LIM; where it acts, its
output is not given to the bit. -/
def limitSub (env : Nat) (chs : List SubBlk) (s : State) : Nat × Bool × List SubBlk × State :=
  let n := ((chs.head?).map fun b => b.m.length).getD 0
  let mags := (List.range n).map fun i => (chs.map fun b => mag60 (b.m[i]?.getD 0) b.e).foldl max 0
  let r := envRun env mags
  if r.2 then
    let o := openSubs chs.length n s
    (r.1, true, o.1, o.2)
  else (r.1, false, chs, s)

/-- The limiter on a block, by sub-block over channels. -/
def limitRun (env : Nat) (act : Bool) (done : List (List SubBlk)) (s : State) :
    List (List SubBlk) → Nat × Bool × List (List SubBlk) × State
  | [] => (env, act, done, s)
  | c :: t =>
    let r := limitSub env c s
    limitRun r.1 (act || r.2.1) (done ++ [r.2.2.1]) r.2.2.2 t

/-- Exchanges channels and sub-blocks. -/
def transposeSubs (l : List (List SubBlk)) : List (List SubBlk) :=
  (List.range (((l.head?).map List.length).getD 0)).map fun j => l.filterMap fun c => (c.drop j).head?

/-! ## Samples (R424) -/

/-- The samples of a block as `bits`-bit integers, clamped, with the number of samples clamped. Where a value lies between
two integers, either of them: the spec gives no rounding. -/
def toPcm (bits : Nat) (bs : List SubBlk) (s : State) : List Int × Nat × State :=
  let vs := bs.flatMap fun b =>
    let k : Int := b.e + (bits : Int) - 20
    b.m.map fun x => if 0 ≤ k then (x * 2 ^ k.toNat, true) else (x / 2 ^ (-k).toNat, x % 2 ^ (-k).toNat == 0)
  let f := if vs.all (·.2) then (0, s) else takeFree 31 vs.length s
  let hi : Int := 2 ^ (bits - 1) - 1
  let lo : Int := -(2 ^ (bits - 1))
  let ys := ((List.range vs.length).zip vs).map fun e => if e.2.2 || !(bitOf f.1 e.1) then e.2.1 else e.2.1 + 1
  (ys.map fun y => max lo (min hi y), (ys.filter fun y => decide (hi < y) || decide (y < lo)).length, f.2)

end Sys2Proof.Machine
end

