-- ==== Sys2Proof/Machine/Invoke.lean ====
section
/-!
DEFINITION. Kernel instances and their invocation (R460, R461, R510 to R516): attachment, the queue of a kernel core, and
the WORK window and registers with which PROCESS or INIT starts. What runs after that is the slot commands' effect.
-/

namespace Sys2Proof.Machine

open Sys2Proof

/-- The key of the instance at an insertion point of an object. -/
def ikey (o point : Nat) : Nat := 4 * o + point
/-- The instance with a key. -/
def getInst (s : State) (i : Nat) : Option KInst := Tab.get s.dsp.insts i
/-- Replaces an instance. -/
def setInst (s : State) (i : Nat) (k : KInst) : State := { s with dsp := { s.dsp with insts := Tab.set s.dsp.insts i k } }
/-- Changes an instance when there is one. -/
def updInst (s : State) (i : Nat) (f : KInst → KInst) : State := { s with dsp := { s.dsp with insts := Tab.upd s.dsp.insts i f } }
/-- Counts on an instance (R526). -/
def bumpInst (s : State) (i : Nat) (c : Ctr) : State := updInst s i fun k => { k with ctrs := bump k.ctrs c 1 }
/-- Removes an instance. -/
def delInst (s : State) (i : Nat) : State := { s with dsp := { s.dsp with insts := Tab.del s.dsp.insts i } }

/-- `n` free values of `w` bits. -/
def freeWords (tag n w : Nat) (s : State) : List Nat × State :=
  let f := takeFree tag (n * w) s
  ((List.range n).map fun i => f.1 / 2 ^ (w * i) % 2 ^ w, f.2)

/-! ## Buffers (R513) -/

/-- A 40-bit value as a stored word: bits [63:40] copy bit 39. -/
def word40 (v : Word40) : Bytes := toLeI 8 (signed 40 v.toNat)

/-- A sub-block as 104 bytes. -/
def subBytes (b : SubBlk) : Bytes :=
  ((List.range 12).flatMap fun w => word40 (mkLanes (b.m[2 * w]?.getD 0) (b.m[2 * w + 1]?.getD 0))) ++ toLe 8 (wrap 8 b.e)

/-- The sub-block of `n` samples that 104 bytes hold; the exponent word's low byte is signed. -/
def subOf (n : Nat) (b : Bytes) : SubBlk :=
  { m := (List.range n).map fun i => signed 20 (le b (8 * (i / 2)) 8 / 2 ^ (20 * (i % 2)) % 2 ^ 20)
    e := signed 8 (le b 96 1) }

/-- Addresses from `a` on with the bytes that are not zero. -/
def memAt (a : Nat) (b : Bytes) : Mem := ((List.range b.length).map (a + ·)).zip b |>.filter fun c => c.2 ≠ 0

/-! ## Attachment (R510, R511) -/

/-- The core of a new instance: that of its reservation, else one of the cores that qualify, as the device chooses. -/
def instCore (s : State) (o point n : Nat) (k : Kernel) : Option Nat × State :=
  match (bothOf s o).find? fun r => r.code == 32 + point with
  | some r => (some r.inst, s)
  | none =>
    let w := workBytes k (pointChans s o point) (mixPeriod s (confOf s o) / 500000)
    pickFree 32 ((kernelCores s k.part k.gauge (isCritical s o)).filter fun c => kernelFits s n (ikey o point) w c) s

/-- Brings the instance at a point in line with the kernel the object names there: a new attachment starts with zeroed
state and its INIT still to run. -/
def syncInst (o point : Nat) (s : State) : State :=
  let h := kernelAt s o point
  let i := ikey o point
  match kernelOf s h with
  | none => delInst s i
  | some k =>
    if ((getInst s i).map (·.kern)) == some (hIdx h) then
      match (bothOf s o).find? fun r => r.code == 32 + point with
      | some r => updInst s i fun v => { v with core := r.inst }
      | none => s
    else
      let c := instCore s o point (hIdx h) k
      match c.1 with
      | none => delInst c.2 i
      | some c0 => setInst c.2 i { kern := hIdx h, core := c0, pair := isCritical s o, st := zeros k.stBytes }

/-! ## Starting an invocation (R512, R514) -/

/-- The invocation block (Table 9-12). -/
def invoBlock (s : State) (i : Nat) (k : KInst) (q : InvoReq) (chans nsub limit inAt outAt stAt scAt cAt : Nat) : Bytes :=
  toLe 1 (i % 4) ++ toLe 1 chans ++ toLe 2 nsub ++ toLe 1 q.smp ++ toLe 1 (b2n (k.first && !q.init)) ++ zeros 2
    ++ toLe 8 q.mt ++ toLe 4 (handleOf s (i / 4)) ++ toLe 4 inAt ++ toLe 4 outAt ++ toLe 4 stAt ++ toLe 4 scAt ++ toLe 4 cAt
    ++ toLe 4 limit ++ zeros 4 ++ padTo 16 (q.mem.flatMap fun m => toLe 1 m.2) ++ padTo 64 (q.mem.flatMap fun m => toLe 4 m.1)

/-- Core `c` starts an invocation: CONST and WORK windows at addresses that the device chooses, the output buffer and
scratch with open contents, p0 to p3, sr and cyc as R514 gives, every other register open. -/
def startInvo (c : Nat) (q : InvoReq) (k : KInst) (kn : Kernel) (s : State) : State :=
  let i := q.inst
  let nsub := if q.init then 0 else ((q.inp.head?).map List.length).getD 0
  let chans := if q.init then pointChans s (i / 4) (i % 4) else q.inp.length
  let limit := kernelLimit kn chans nsub
  let buf := bufBytes chans nsub
  let work := 128 + 2 * buf + kn.stBytes + kn.scBytes
  let room := (229376 - (kn.const.length + work)) / 8
  let f := freeWords 33 2 32 s
  let g0 := (f.1[0]?.getD 0) % (room + 1)
  let g1 := (f.1[1]?.getD 0) % (room - g0 + 1)
  let cb := 8 * g0
  let wb := cb + kn.const.length + 8 * g1
  let inAt := wb + 128
  let outAt := inAt + buf
  let stAt := outAt + buf
  let scAt := stAt + kn.stBytes
  let o := takeFree 34 (8 * buf) f.2
  let x := takeFree 35 (8 * kn.scBytes) o.2
  let d := freeWords 36 32 40 x.2
  let a := freeWords 37 16 48 d.2
  let r := freeWords 38 28 18 a.2
  let e := freeWords 39 8 40 r.2
  let bytes := invoBlock s i k q chans nsub limit inAt outAt stAt scAt cb ++ (q.inp.flatMap fun ch => ch.flatMap subBytes)
    ++ toLe buf o.1 ++ padTo kn.stBytes k.st ++ toLe kn.scBytes x.1
  let srch := fun (n : Nat) => ({ smax := BitVec.ofNat 40 (e.1[n]?.getD 0), smin := BitVec.ofNat 40 (e.1[n + 1]?.getD 0)
                                  imax := BitVec.ofNat 16 (e.1[n + 2]?.getD 0), imin := BitVec.ofNat 16 (e.1[n + 2]?.getD 0 / 65536)
                                  icnt := BitVec.ofNat 16 (e.1[n + 3]?.getD 0) } : Srch)
  let w18 := fun (n : Nat) => BitVec.ofNat 18 (r.1[n]?.getD 0)
  let v : Invo := { inst := i, init := q.init, limit := limit, cbase := cb, clen := kn.const.length, wbase := wb, wlen := work
                    inAt := inAt, outAt := outAt, stAt := stAt, chans := chans, nsub := nsub, smp := q.smp, mt := q.mt }
  let s1 := updInst e.2 i fun k => { k with
    state := 1, init := k.init && !q.init, first := if q.init then true else false, limit := limit, time := q.mt
    ctrs := bump k.ctrs .kernelInvocations 1 }
  updCore s1 c fun k => { k with
    d := d.1.map (BitVec.ofNat 40)
    acc := (List.range 8).map fun n => (BitVec.ofNat 48 (a.1[2 * n]?.getD 0), BitVec.ofNat 48 (a.1[2 * n + 1]?.getD 0))
    p := [wb, inAt, outAt, stAt].map (BitVec.ofNat 18) ++ (List.range 4).map w18
    m := (List.range 8).map fun n => w18 (4 + n)
    cb := (List.range 8).map fun n => w18 (12 + n)
    cl := (List.range 8).map fun n => w18 (20 + n)
    lr := BitVec.ofNat 12 (e.1[7]?.getD 0), sr := 0, cyc := 0
    srch := srch 0, srchIn := srch 0, srchOld := srch 0
    mem := memAt cb kn.const ++ memAt wb bytes
    bad := [], wr := [], pc := if q.init then kn.init else kn.proc
    slot := 0, next := 0, xtra := 0, rep := none, repNew := none, dma := [], run := some v, wdog := s.time.ticks }

/-- An idle core takes the next of the invocations that wait for it; one whose instance is gone is dropped. -/
def kick (c : Nat) : Nat → State → State
  | 0, s => s
  | n + 1, s =>
    let k := getCore s c
    match k.run, k.wait with
    | none, q :: t =>
      let s1 := setCore s c { k with wait := t }
      match getInst s1 q.inst with
      | none => kick c n s1
      | some v =>
        match Tab.get s1.dsp.kerns v.kern with
        | none => kick c n s1
        | some kn => startInvo c q v kn s1
    | _, _ => s

/-- Whether one waiting invocation goes before another: fixed first, then the earlier deadline. -/
def reqBefore (a b : InvoReq) : Bool := (a.fixed && !b.fixed) || (a.fixed == b.fixed && decide (a.dead ≤ b.dead))

/-- Puts invocations into the queue of core `c`. -/
def enqueueInvo (c : Nat) (qs : List InvoReq) (s : State) : State :=
  let s1 := updCore s c fun k => { k with wait := sortBy (k.wait ++ qs) reqBefore }
  kick c ((getCore s1 c).wait.length) s1

/-- Invokes the kernel at a point of object `o` on blocks by channel (R512); after an attachment or a resume INIT comes
first. False when there is no instance, or when it is in PASS_THROUGH and the block passes through (R522). -/
def invoke (o point : Nat) (inp : List (List SubBlk)) (mt smp dead : Nat) (mem : List (Nat × Nat)) (s : State) : Bool × State :=
  let i := ikey o point
  match getInst s i with
  | none => (false, s)
  | some k =>
    if k.state = 2 then (false, bumpInst s i .kernelPassBlocks)
    else
      let q : InvoReq := { inst := i, init := false, fixed := stillFixed s o, dead := dead, inp := inp, mt := mt, smp := smp
                           mem := mem }
      (true, enqueueInvo k.core ((if k.init then [{ q with init := true, inp := [], mem := [] }] else []) ++ [q]) s)

end Sys2Proof.Machine
end

