-- ==== Sys2Proof/Machine/AudioFront.lean ====
section
/-!
DEFINITION. The front, ranking and mix phases of the audio graph (R407 to R445, R451 to R453, R458 to R461, R466, R467,
R471, R766): AUDIO_FRONT_JOB, RANKING_JOB and MIX_JOB.
-/

namespace Sys2Proof.Machine

open Sys2Proof

/-! ## Removal from service (R766) -/

/-- Cores leave service, and what was reserved on them is admitted again (R70 to R72). -/
def removeCores (cs : List Nat) (s : State) : State :=
  let new_ := (cs.map fun c => (1, c)).filter fun r => !(s.dep.removed.contains r)
  if new_.isEmpty then s else readmitLost { s with dep := { s.dep with removed := s.dep.removed ++ new_ } }

/-- Logs a reset of a kind (0 engine, 1 core) or a mismatch of a pair (2), and tells whether it is the `n`-th in `secs`
seconds (Table 16-1). -/
def noteReset (kind inst n secs : Nat) (s : State) : Bool × State :=
  let r := (s.dep.resets.filter fun e => decide (s.time.ticks < e.2.2 + 60 * tS)) ++ [(kind, inst, s.time.ticks)]
  (decide (n ≤ (r.filter fun e => e.1 == kind && e.2.1 == inst && decide (s.time.ticks < e.2.2 + secs * tS)).length),
   { s with dep := { s.dep with resets := r } })

/-- A mismatch of the lockstep pair with lower core `c`: the pair leaves service after 2 in 10 s (Table 16-1). -/
def pairMismatch (c : Nat) (s : State) : State :=
  let r := noteReset 2 c 2 10 s
  if r.1 then removeCores [c, c + 1] r.2 else r.2

/-- The lower core of the pair that serves a critical leg or conference: its Jig reservation, or its Gauge one. -/
def pairOf (s : State) (k : Nat) (gauge : Bool) : Nat :=
  let code := if gauge then 3 else 2
  match (bothOf s k).find? fun r => r.code == code with
  | some r => (if gauge then 176 else 0) + r.inst / 2 * 2
  | none => 0xFFFF

/-! ## Inputs -/

/-- The input with a key: a leg, or a stream of a trunk leg. -/
def getIn (s : State) (k : Nat) : AudIn := Tab.getD s.aud.ins k {}
/-- Replaces an input. -/
def setIn (s : State) (k : Nat) (a : AudIn) : State := { s with aud := { s.aud with ins := Tab.set s.aud.ins k a } }
/-- What the graph holds of a leg's output. -/
def getAud (s : State) (l : Nat) : LegAud := (getLeg s l).aud
/-- Replaces it. -/
def setAud (s : State) (l : Nat) (a : LegAud) : State := setLeg s l { getLeg s l with aud := a }
/-- What the graph holds of a conference. -/
def getGraph (s : State) (c : Nat) : ConfAud := (getConf s c).aud
/-- Replaces it. -/
def setGraph (s : State) (c : Nat) (a : ConfAud) : State := setConf s c { getConf s c with aud := a }

/-- Whether an input is a stream of a trunk leg. -/
def isTrunkIn (k : Nat) : Bool := k / 1048576 == 4
/-- The leg of an input. -/
def legOfIn (s : State) (k : Nat) : Nat := if isTrunkIn k then legOfStream s k else k
/-- The conference of an input. -/
def confOfIn (s : State) (k : Nat) : Nat := confOfLeg s (legOfIn s k)
/-- The ACTIVE received audio streams of a leg. -/
def liveIns (s : State) (l : Nat) : List Nat := (audioIns s l).filter (isActive s)
/-- The ACTIVE outgoing audio streams of a leg. -/
def liveOuts (s : State) (l : Nat) : List Nat := (audioOuts s l).filter (isActive s)
/-- TRUNK_INDEX of a stream. -/
def trunkIdx (s : State) (x : Nat) : Nat := ofldN s x (fk 0x04 10 0)

/-- The inputs of a conference: its ACTIVE legs, and the streams of its trunk legs. A leg's input is its first ACTIVE
received audio stream. -/
def confIns (s : State) (c : Nat) : List Nat :=
  ((kids s 3 c).filter (isActive s)).flatMap fun l => if legKind s l = 1 then liveIns s l else [l]

/-- The inputs that take part in the block with media time `mt`. -/
def blockIns (s : State) (c mt : Nat) : List Nat :=
  (confIns s c).filter fun k => (getIn s k).t == mt && (getIn s k).st != 0

/-- Sub-blocks of a block (R408). -/
def subsOf_ (s : State) (c : Nat) : Nat := mixPeriod s c / 500000

/-- Sequence number of the tag unit that the leg's block in work begins with (R468): units sent, and those of the back jobs
still to be done. -/
def tagNow (s : State) (l : Nat) : Nat :=
  let c := confOfLeg s l
  let n := ((getGraph s c).backs.filter fun j => j.legs.contains l).length
  ((getLeg s l).tagSeq + n * (mixPeriod s c / 2500000)) % 65536

/-- The period of leg `l` is sent as concealment of its previous output (R471). -/
def concealOut (l : Nat) (s : State) : State := setAud s l { getAud s l with conceal := true }

/-- A path fault of a critical leg (R467 to R471): counter, event, record and concealment. -/
def pathFault (l mech inst which : Nat) (s : State) : State :=
  concealOut l (audioFault l mech inst which (tagNow s l) s)

/-! ## Stages 1 to 3: samples of the block (R414 to R416, R425) -/

/-- Sample `i` of channel `c` of a linear packet, in 2^-23 FS; channel 15 is none. -/
def pktSample (p : JbPkt) (i c : Nat) : Int :=
  let w := if p.codec = 5 then 2 else 3
  if p.chans ≤ c then 0 else signed (8 * w) (be p.pay ((i * p.chans + c) * w) w) * (if w = 2 then 256 else 1)

/-- What channels `chs` hold at timestamp `t`; none when no packet has that sample. -/
def sampleAt (ps : List JbPkt) (chs : List Nat) (t : Int) : Option (List Int) :=
  (ps.find? fun p => decide (p.ext ≤ t) && decide (t < p.ext + p.n)).map fun p => chs.map (pktSample p (t - p.ext).toNat)

/-- Concealment sample by sample (R425): a missing sample is open for 60 ms and silent after; the 2.5 ms after a gap are a
crossfade, open too. Answers the samples (none: open), samples lost so far and samples of crossfade to come. -/
def conceal48 (zero : List Int) : Nat → Nat → List (Option (List Int)) → List (Option (List Int)) × Nat × Nat
  | loss, fade, [] => ([], loss, fade)
  | loss, _, none :: t =>
    let r := conceal48 zero (min 2880 (loss + 1)) 0 t
    ((if loss < 2880 then none else some zero) :: r.1, r.2)
  | loss, fade, some v :: t =>
    let f := if loss = 0 then fade else 120
    let r := conceal48 zero 0 (f - 1) t
    ((if f = 0 then some v else none) :: r.1, r.2)

/-- A sub-block of linear samples by channel: to_bfp(v, 23) for each channel, mixed to mono (R415, R554). -/
def linearSub (n : Nat) (v : List (List Int)) : SubBlk :=
  match (List.range n).map fun c => toBfp (v.map fun f => f[c]?.getD 0) 23 with
  | [] => silentSub 24
  | [a] => a
  | a :: b :: _ => downmix a b

/-- Blocks from samples; a sub-block with an open sample is open. -/
def linearSubs (n : Nat) (acc : List SubBlk) (s : State) : List (List (Option (List Int))) → List SubBlk × State
  | [] => (acc, s)
  | p :: t =>
    if p.all (·.isSome) then linearSubs n (acc ++ [linearSub n (p.filterMap id)]) s t
    else
      let o := openSubs 1 24 s
      linearSubs n (acc ++ o.1) o.2 t

/-- A linear block of input `k` through concealment. -/
def linearBlock (k n : Nat) (v : List (Option (List Int))) (s : State) : List SubBlk × State :=
  let a := getIn s k
  let r := conceal48 (List.replicate n 0) a.loss a.fade v
  linearSubs n [] (setIn s k { a with loss := r.2.1, fade := r.2.2 }) (pieces 24 (v.length / 24 + 1) r.1)

/-- The channels of a stream that go to the leg's input (R201). -/
def inputChans (s : State) (x : Nat) : List Nat :=
  if isAes67 s x then
    let m := ofldN s x (fk 0x04 17 4)
    [m % 16, m / 16 % 16].filter (· != 15)
  else [0]

/-- The codec of a released block: of its first packet, else the stream's first audio codec. -/
def relCodec (s : State) (x : Nat) (ps : List JbPkt) : Nat :=
  match ps.head? with
  | some p => p.codec
  | none => (((ptMap s x).map (·.2)).filter fun c => decide (1 ≤ c) && decide (c ≤ 6)).headD 1

/-- Whether a Plane instance gives zeros: it is STOPPED (Table 10-7). -/
def planeSilent (p : Plane) : Bool := p.st == 2

/-- A Plane instance has made a block: a ramp of 2 ms lies within it (R559). -/
def planeRan (p : Plane) : Plane := { p with ramp := 0 }

/-- AUD_FEC_USED (R425): a lost Opus frame may be decoded from the LBRR data of the next packet, when that is present; the
bitstream is outside this text. -/
def fecUsed (l x : Nat) (b : Int) (s : State) : State :=
  if (getJb s x).pkts.any fun p => decide (p.ext < b + 2880) then
    let f := takeFree 41 1 s
    if f.1 = 1 then bumpObj f.2 l .audFecUsed else f.2
  else s

/-- Stages 1 to 3 of a network input: decoding or concealment, downmix, conversion to 48 kHz. -/
def decodeBlock (k x nsub : Nat) (r : Rel) (s : State) : List SubBlk × State :=
  let l := legOfIn s k
  let ps := r.pkts.getD []
  let codec := relCodec s x ps
  if codec = 5 ∨ codec = 6 then
    let chs := inputChans s x
    if chs.isEmpty then (silence nsub, s)
    else linearBlock k chs.length ((List.range (24 * nsub)).map fun (i : Nat) => sampleAt ps chs (r.a + i)) s
  else
    let s1 := if codec = 1 ∧ r.pkts.isNone then fecUsed l x r.b s else s
    let a := getAud s1 l
    let s2 := if narrowCodec codec then setAud s1 l { a with planeI := planeRan a.planeI } else s1
    if narrowCodec codec && planeSilent a.planeI then (silence nsub, s2) else openSubs nsub 24 s2

/-- The block of input `k` after stage 3. PORT and HOST legs enter at stage 5 (R414): the converter of a port gives values
that are open, and a port that is not configured is silent (R554, R722). -/
def inputBlock (k nsub : Nat) (s : State) : List SubBlk × State :=
  let a := getIn s k
  let l := legOfIn s k
  if legKind s l = 2 then
    if (Tab.getD s.aud.ports (hIdx (ofldN s l (fk 0x01 15 0))) {}).st = 0 then (silence nsub, s) else openSubs nsub 24 s
  else if legKind s l = 3 then
    let n := max 1 (ofldN s l (fk 0x01 18 4))
    let v := pieces n (24 * nsub) (a.host.getD [])
    linearBlock k n ((v.map some) ++ List.replicate (24 * nsub - v.length) none) s
  else
    match if isTrunkIn k then some k else (liveIns s l).head? with
    | none => (silence nsub, s)
    | some x =>
      match a.rel with
      | none => (silence nsub, s)
      | some r => decodeBlock k x nsub r s

/-! ## Stages 5 and 6 (R426 to R430) -/

/-- The in-band detector's answer for the block that ends at `mt` (R455): a tone that ended is reported. -/
def toneStep (k mt : Nat) (tone : Option Nat) (s : State) : State :=
  let a := getIn s k
  let l := legOfIn s k
  let now_ := if lprm s l 10 = 1 && !(isTrunkIn k) then tone else none
  let same := match a.tone, now_ with
    | some (d, _), some e => d == e
    | _, _ => false
  let s1 := match a.tone with
    | some (d, t) =>
      if same then s else emitObj (bumpObj s l .dtmfRx) l 0x061 (toLe 1 d ++ toLe 1 1 ++ zeros 2 ++ toLe 4 ((mt - t) / 1000000))
    | none => s
  let rfc := (liveIns s l).any fun x => (getStream s x).te.any fun e => !e.done
  setIn s1 k { getIn s1 k with
    tone := if same then a.tone else now_.map fun d => (d, mt)
    dtmf := now_.isSome || rfc }

/-- AGC (R426): in blocks after an active one the gain moves as the device steers it, within its range and rates; `agc` is
in 1/64,000 dB. The signal is unchanged while the gain stays at 0 dB, and open otherwise. -/
def agcStep (k P : Nat) (bs : List SubBlk) (s : State) : List SubBlk × State :=
  let a := getIn s k
  let l := legOfIn s k
  let on := lprm s l 5 = 1 && !(isTrunkIn k)
  let lo : Int := -768000
  let hi : Int := lprm s l 7 * 1000
  let g0 := max lo (min hi a.agc)
  let bot := max lo (g0 - (1280000 * P / 1000000000 : Nat))
  let top := min hi (g0 + (384000 * P / 1000000000 : Nat))
  let f := takeFree 40 32 s
  let r : Int × State := if !on then (0, s) else if a.vad then (bot + (f.1 : Int) % (max 1 (top - bot + 1)), f.2) else (g0, s)
  let s1 := setIn r.2 k { getIn r.2 k with agc := r.1 }
  if a.agc = 0 ∧ r.1 = 0 then (bs, s1) else openSubs bs.length 24 s1

/-- Levels of sub-blocks, each with its media time. -/
def subLevels (mt : Nat) (acc : List (Nat × Int)) (s : State) : List SubBlk → List (Nat × Int) × State
  | [] => (acc, s)
  | b :: t =>
    let r := levelOf [b] s
    subLevels mt (acc ++ [(mt, r.1)]) r.2 t

/-- The last `n` elements of a list. -/
def lastN {α : Type} (n : Nat) (l : List α) : List α := l.drop (l.length - n)

/-- Stage 6 of input `k` (R428 to R430): level, floor, VAD, score, mix gain; its front job is complete. -/
def levelStep (k mt : Nat) (bs : List SubBlk) (s : State) : State :=
  let l := legOfIn s k
  let r := levelOf bs s
  let f := subLevels mt [] r.2 bs
  let a := getIn f.2 k
  let floors := (a.floor.filter fun e => decide (mt < e.1 + 2000000000)) ++ f.1
  let least := (floors.map (·.2)).foldl min 32767
  let met := decide (lprm s l 9 ≤ r.1 - least) && decide (-3840 < r.1)
  let at_ := if met then some mt else a.vadAt
  let vad : Bool := match at_ with
    | some t => decide (mt < t + 200000000)
    | none => false
  setIn f.2 k { a with
    st := 3, x := bs, y := gainBlock (lprm s l 1) bs, hist := lastN 4 (a.hist ++ a.y)
    level := r.1, floor := floors, vadAt := at_, vad := vad
    sc := if vad then a.sc + (r.1 - a.sc) / 4 else a.sc, pre := [] }

/-- Stages 5 and 6 of input `k` on its block. Trunk streams bypass AGC and noise suppression (R429). -/
def frontRest (k : Nat) (bs : List SubBlk) (s : State) : State :=
  let l := legOfIn s k
  let ns := !(isTrunkIn k) && lprm s l 8 != 0
  let a := agcStep k (mixPeriod s (confOfIn s k)) bs s
  let b := if ns then openSubs bs.length 24 a.2 else a
  levelStep k (getIn s k).t b.1 b.2

/-- The CSRC and presence of an input's block (R452): a concealed block keeps them. -/
def inputMark (k : Nat) (s : State) : State :=
  let a := getIn s k
  let c := match a.rel.bind (·.pkts) with
    | some (p :: _) => p.csrc.head?
    | _ => a.csrc
  setIn s k { a with csrc := c, full := !(isTrunkIn k) || c.isSome }

/-- AUDIO_FRONT_JOB (R409 to R431): the front job of input `k`. `tone` is what the in-band detector hears; `bad` a
lockstep mismatch of a critical leg (R467). -/
def execAudioFrontJob (k : Nat) (tone : Option Nat) (bad : Bool) (s : State) : Out :=
  onPart ((k / 1048576 == 3 && decide (k % 1048576 < 4096)) || (k / 1048576 == 4 && decide (k % 1048576 < 16384))) s fun s =>
    let l := legOfIn s k
    let c := confOfLeg s l
    guarded ((getIn s k).st == 1) s fun s =>
      if bad && isCritical s l then
        let p := pairOf s l false
        pairMismatch p (pathFault l 0x01 p 0 (setIn s k { getIn s k with st := 4, y := [], x := [] }))
      else
        let mt := (getIn s k).t
        let P := mixPeriod s c
        let s1 := inputMark k (toneStep k mt tone s)
        let b := inputBlock k (subsOf_ s c) s1
        let r := if legKind s l = 0 then invoke l 0 [b.1] mt 24 ((getGraph s c).t + P / 2) [] b.2 else (false, b.2)
        if r.1 then setIn r.2 k { getIn r.2 k with st := 2, pre := b.1 } else frontRest k b.1 r.2

/-! ## Ranking (R432 to R435, R441) -/

/-- A candidate of a block: its effective score and whether it is active. -/
structure Cand where
  key : Nat
  es  : Int
  act : Bool

/-- es of R434. -/
def candOf (s : State) (k : Nat) : Cand :=
  let a := getIn s k
  { key := k, es := if a.vad then a.sc + lprm s (legOfIn s k) 3 else -32768, act := a.vad }

/-- Whether an input's role makes it a candidate (R433, R453). -/
def isRanked (s : State) (k : Nat) : Bool :=
  let l := legOfIn s k
  if isTrunkIn k then lprm s l 14 == 0 && decide (1 ≤ trunkIdx s k) && (getIn s k).full else lprm s l 0 == 0

/-- Whether an input is pinned (R433, R453). -/
def isPinned (s : State) (k : Nat) : Bool :=
  let l := legOfIn s k
  if isTrunkIn k then lprm s l 14 == 1 && trunkIdx s k == 0 else lprm s l 0 == 1

/-- Leg index, then trunk index. -/
def keyOrd (s : State) (k : Nat) : Nat := legOfIn s k % 1048576 * 16 + (if isTrunkIn k then trunkIdx s k else 0)

/-- The ranked set by rank: es descending, ties to the earlier entry. -/
def byRank (l : List Rank) : List Rank :=
  sortBy l fun a b => decide (b.es < a.es) || (a.es == b.es && decide (a.entered ≤ b.entered))

/-- The member that a candidate may displace: held long enough, least es, ties to the higher leg index. -/
def weakest (ord : Nat → Nat) (t hold : Nat) (l : List Rank) : Option Rank :=
  (l.filter fun r => decide (r.entered + hold ≤ t)).foldl (fun b r => match b with
    | none => some r
    | some v => if r.es < v.es ∨ (r.es = v.es ∧ ord v.key < ord r.key) then some r else some v) none

/-- The second loop of R434. -/
def admitRanks (ord : Nat → Nat) (t hold top : Nat) (hyst : Int) : List Cand → List Rank → List Rank
  | [], l => l
  | c :: cs, l =>
    let new_ : Rank := { key := c.key, entered := t, last := t, es := c.es }
    if l.length < top then admitRanks ord t hold top hyst cs (l ++ [new_])
    else match weakest ord t hold l with
      | some v =>
        if v.es + hyst ≤ c.es then admitRanks ord t hold top hyst cs ((l.filter fun r => r.key ≠ v.key) ++ [new_]) else l
      | none => l

/-- R434 on the set `l`: `cs` are the candidates of the block. -/
def rankStep (ord : Nat → Nat) (t hold top : Nat) (hyst : Int) (cs : List Cand) (l : List Rank) : List Rank :=
  let cut := (byRank l).take top
  let l1 := (l.filter fun r => cut.any fun q => q.key == r.key).map fun r =>
    match cs.find? fun c => c.key == r.key with
    | some c => { r with es := c.es, last := if c.act then t else r.last }
    | none => { r with es := -32768 }
  let l2 := l1.filter fun r => decide (t < r.last + hold)
  let new_ := sortBy (cs.filter fun c => c.act && !(l2.any fun r => r.key == c.key)) fun a b =>
    decide (b.es < a.es) || (a.es == b.es && decide (ord a.key ≤ ord b.key))
  admitRanks ord t hold top hyst new_ l2

/-- The handle that names an input: its leg. -/
def inHandle (s : State) (k : Nat) : Nat := handleOf s (legOfIn s k)

/-- Positions of the members (R441): explicit, kept, or chosen at entry. -/
def placeMembers (s : State) (top : Nat) (mem : List Nat) (pos : Tab Nat) : Tab Nat :=
  let kept := pos.filter fun e => mem.contains e.1
  mem.foldl (fun t k =>
    let v := lprm s (legOfIn s k) 4
    if v ≠ noneV then Tab.set t k v.toNat
    else if Tab.has t k then t
    else if isPinned s k then Tab.set t k 16
    else
      let free := ((List.range top).map fun r => (2 * r + 1) * 32 / (2 * top)).find? fun p => !(t.any fun e => e.2 == p)
      Tab.set t k (free.getD 0)) kept

/-- SPEAKER_CHANGE and RANK_CHANGES (R435), SPEAKER_ENTRIES. -/
def speakerChange (c mt : Nat) (old new_ : List Rank) (s : State) : State :=
  let entered := new_.filter fun r => !(old.any fun q => q.key == r.key)
  let left := old.any fun r => !(new_.any fun q => q.key == r.key)
  if entered.isEmpty && !left then s
  else
    let s1 := entered.foldl (fun s r => bumpObj s (legOfIn s r.key) .speakerEntries) (bumpObj s c .rankChanges)
    let g := getGraph s1 c
    let due := match g.evAt with
      | some t => decide (t + 100000000 ≤ mt)
      | none => true
    if cprm s c 7 = 1 && due then
      emitObj (setGraph s1 c { g with evAt := some mt }) c 0x060
        (((byRank new_).take 4).flatMap fun r => toLe 4 (inHandle s1 r.key))
    else s1

/-- The front jobs that have not completed. -/
def unfinished (s : State) (k : Nat) : Bool := (getIn s k).st == 1 || (getIn s k).st == 2

/-- Floating inputs whose front job is not complete are absent (R412). -/
def markAbsent (ks : List Nat) (s : State) : State :=
  let late := ks.filter (unfinished s)
  let s1 := late.foldl (fun s k => setIn s k { getIn s k with st := 4, x := [], y := [] }) s
  ((late.map (legOfIn s)).eraseDups).foldl (fun s l => bumpObj s l .audLate) s1

/-- The critical legs of a conference. -/
def critLegs (s : State) (c : Nat) : List Nat := (kids s 3 c).filter fun l => isCritical s l && isActive s l

/-- RANKING_JOB (R411, R412, R434): from t + 0.5 P on, when the fixed front jobs are complete. `bad` is a lockstep
mismatch of a conference that holds a critical leg: the result is discarded, so that the set stays. -/
def execRankingJob (c : Nat) (bad : Bool) (s : State) : Out :=
  onPart (decide (c < 1024)) s fun s =>
    let c := okey 2 c
    let g := getGraph s c
    let ks := blockIns s c g.mt
    let ready := ks.all fun k => !(unfinished s k) || !(isFixed s (legOfIn s k))
    guarded (g.phase == 1 && decide (g.t + mixPeriod s c / 2 ≤ phcNs s.time) && ready) s fun s =>
      let s1 := markAbsent ks s
      let g1 := getGraph s1 c
      let crit := critLegs s1 c
      if bad && !crit.isEmpty then
        let p := pairOf s1 c true
        pairMismatch p (crit.foldl (fun s l => pathFault l 0x01 p 0 s) (setGraph s1 c { g1 with phase := 2 }))
      else
        let live := ks.filter fun k => (getIn s1 k).st == 3
        let cs := (live.filter (isRanked s1)).map (candOf s1)
        let old := g1.set_.filter fun r => ks.contains r.key && isRanked s1 r.key
        let new_ := rankStep (keyOrd s1) g1.mt (cprm s1 c 2) (cprm s1 c 1) (cprm s1 c 3) cs old
        let mem := ((byRank new_).map (·.key)).filter (live.contains ·) ++ live.filter (isPinned s1)
        let held_ := new_.map (·.key) ++ live.filter (isPinned s1)
        speakerChange c g1.mt g1.set_ new_ (setGraph s1 c { g1 with
          phase := 2, set_ := new_, mem := mem, pos := placeMembers s1 (cprm s1 c 1) held_ g1.pos })

/-! ## Clips (R457 to R459) -/

/-- Sample `i` of a clip surface, in 2^-23 FS. -/
def clipSample (u : Surf) (i : Nat) : Int :=
  if u.fmt = 0x10 then signed 16 (fromLe (Mem.read 0 u.mem (2 * i) 2)) * 256 else signed 24 (fromLe (Mem.read 0 u.mem (3 * i) 3))

/-- The next `n` samples of a clip and what is left of it; none when its last loop has ended. -/
def clipRun (u : Surf) : Nat → Clip → List Int × Option Clip
  | 0, c => ([], some c)
  | n + 1, c =>
    let v := clipSample u c.pos
    let c1 := if c.pos + 1 < u.w then some { c with pos := c.pos + 1 }
      else if c.loops = 1 then none
      else some { c with pos := 0, loops := c.loops - 1 }
    match c1 with
    | none => (v :: List.replicate n 0, none)
    | some d =>
      let r := clipRun u n d
      (v :: r.1, r.2)

/-- Whether a clip plays in the block with media time `mt`. -/
def Clip.plays (p : Clip) (mt : Nat) : Bool :=
  (match p.from_ with
   | some t => decide (t ≤ mt)
   | none => false) &&
  (match p.until_ with
   | some t => decide (mt < t)
   | none => true)

/-- CLIP_DONE (R459). -/
def clipDone (k surf cause : Nat) (s : State) : State :=
  let c := if k / 1048576 = 2 then k else confOfLeg s k
  emitObj (bumpObj s c .clipsPlayed) k 0x062 (toLe 4 (surfHandle s surf) ++ toLe 1 cause)

/-- Plays the clips of a target for one block: each playing clip with its sub-blocks after its gain, and the clips that go
on. -/
def playClips (k mt n : Nat) (out : List (Bool × List SubBlk)) (rest : List Clip) (s : State) :
    List Clip → List (Bool × List SubBlk) × List Clip × State
  | [] => (out, rest, s)
  | p :: t =>
    if p.plays mt then
      match getSurf s p.surf with
      | none => playClips k mt n out rest s t
      | some u =>
        let r := clipRun u n p
        let bs := gainBlock p.gain ((pieces 24 (n / 24 + 1) r.1).map fun v => toBfp v 23)
        match r.2 with
        | some q => playClips k mt n (out ++ [(p.repl, bs)]) (rest ++ [q]) s t
        | none => playClips k mt n (out ++ [(p.repl, bs)]) rest (clipDone k p.surf 0 s) t
    else if p.until_.isSome then playClips k mt n out rest s t
    else playClips k mt n out (rest ++ [p]) s t

/-! ## The mix (R436 to R443) -/

/-- Coefficient `k` of the HRIR of an HRTF slot, position and ear (R442, R444). -/
def hrir (s : State) (slot p ear k : Nat) : Int :=
  if slot = 0 then hrtf0 p ear k
  else match Tab.get s.aud.hrtf slot with
    | some h => h.coef[(2 * p + ear) * h.taps + k]?.getD 0
    | none => 0

/-- What a member contributes to the block: mono, left and right (R436, R442, R443). -/
def memberSig (s : State) (c k : Nat) : List Int × List Int × List Int :=
  let a := getIn s k
  let n := 24 * subsOf_ s c
  let z := List.replicate n (0 : Int)
  if a.dtmf && lprm s (legOfIn s k) 11 == 1 then (z, z, z)
  else
    let y := contributions a.y
    if cprm s c 4 = 0 then (y, z, z)
    else
      let slot := cprm s c 5
      let p := Tab.getD (getGraph s c).pos k 0
      let ear := fun e => renderBlock (hrtfTaps s slot) (hrir s slot p e) a.hist a.y
      (y, ear 0, ear 1)

/-- A leg's DTMF tone adds to its output (R456): it is sending digits in band. -/
def tonePlays (a : LegAud) : Bool :=
  match a.dtmf with
  | some d => !d.rfc
  | none => false

/-- Whether a leg's OUT instance runs its preset, or is bypassed: a leg that stopped it or runs a custom set has an output of
its own (R559, R562). -/
def planeShares (s : State) (l : Nat) : Bool :=
  let a := (getAud s l).planeO
  match ((liveOuts s l).head?).map fun x => oprm s x 0 with
  | some c => !(decide (1 ≤ c) && decide (c ≤ 3)) || (a.st == 0 && !a.custom)
  | none => true

/-- Whether a non-member takes part in a shared encoding (R439). -/
def mayShare (s : State) (l mt : Nat) : Bool :=
  let a := getAud s l
  planeShares s l &&
  legKind s l == 0 && !(liveOuts s l).isEmpty && kernelAt s l 2 == 0 && !(a.clips.any fun p => p.plays mt) && !(tonePlays a)
    && !a.conceal

/-- Whether a leg has an output at all. -/
def hasOutput (s : State) (l : Nat) : Bool :=
  match legKind s l with
  | 0 => !(liveOuts s l).isEmpty
  | 1 => !(liveOuts s l).isEmpty
  | 2 => ofldN s l (fk 0x01 16 0) != 0
  | _ => true

/-- The `i`-th SHARED_AUDIO queue of a conference, assigned now when it has none yet (Table 12-1). -/
def sharedQueue (c i : Nat) (s : State) : Nat × State :=
  match ((s.batten.shared.filter fun e => e.2 == c).map (·.1))[i]? with
  | some q => (q, s)
  | none =>
    let q := (lowestFree (Tab.keys s.batten.shared) 23104 4096).getD 27199
    (q, syncResv { s with batten := { s.batten with shared := Tab.set s.batten.shared q c } })

/-- The speakers of a trunk leg (R451): the ranked members in order of rank, without those of its own; CSRC and the block
after stage 5. -/
def speakersFor (s : State) (c l : Nat) : List (Nat × List SubBlk) :=
  let g := getGraph s c
  (((byRank g.set_).map (·.key)).filter fun k => g.mem.contains k && legOfIn s k != l).map fun k =>
    (if isTrunkIn k then (getIn s k).csrc.getD 0
     else if ofldN s k (fk 0x03 13 0) = 0 then handleOf s k else ofldN s k (fk 0x03 13 0), (getIn s k).x)

/-- The back job of one leg with its own encoder. -/
def ownJob (s : State) (c l : Nat) : BackJob :=
  let g := getGraph s c
  let mine := (g.con.filter fun e => legOfIn s e.1 == l).map (·.2)
  { t := g.t, mt := g.mt, legs := [l], shared := none
    d := mine.foldl (fun d m => subSig d m.1) g.sum_
    dl := mine.foldl (fun d m => subSig d m.2.1) g.suml
    dr := mine.foldl (fun d m => subSig d m.2.2) g.sumr
    spk := if legKind s l = 1 then speakersFor s c l else [] }

/-- The groups of non-members with one outgoing setting (R439). -/
def shareGroups (s : State) (ls : List Nat) : List (List Nat) :=
  let key := fun l => (liveOuts s l).map (setting s)
  ls.foldl (fun gs l =>
    match gs.findIdx? fun g => (g.head?.map key) == some (key l) with
    | some i => setAt gs i ((gs[i]?.getD []) ++ [l])
    | none => gs ++ [[l]]) []

/-- The status of a leg as of this block (Table 8-12). -/
def snapOf (s : State) (c l : Nat) (member shared : Bool) : AudSnap :=
  let g := getGraph s c
  let a := getIn s l
  { vad := a.vad, member := member, shared := shared, role := (lprm s l 0).toNat
    rank := if member then ((byRank g.set_).findIdx? fun r => r.key == l).getD 0 else 0
    pos := Tab.getD g.pos l (if lprm s l 4 = noneV then 0 else (lprm s l 4).toNat)
    level := a.level, agc := a.agc / 1000, score := a.sc, time := g.mt }

/-- The back jobs of a mixed block: one for each leg with an output, one for each shared encoding. -/
def makeBacks (c : Nat) (s : State) : State :=
  let g := getGraph s c
  let ls := (kids s 3 c).filter (isActive s)
  let isMem := fun l => g.mem.any fun k => legOfIn s k == l
  let s1 := ls.foldl (fun s l =>
    let a := getAud s l
    let m := isMem l
    let s2 := bumpObj s l .audBlocks
    let s3 := if a.member = m then s2 else bumpObj s2 l .mixSwitches
    setAud s3 l { a with member := m, snap := snapOf s3 c l m (!m && mayShare s3 l g.mt) }) s
  let outs := ls.filter (hasOutput s1)
  let free := outs.filter fun l => !(isMem l) && mayShare s1 l g.mt
  let gs := shareGroups s1 free
  let r := ((List.range gs.length).zip gs).foldl (fun (a : List BackJob × State) e =>
    let q := sharedQueue c e.1 a.2
    (a.1 ++ [{ t := g.t, mt := g.mt, legs := e.2, shared := some q.1, d := g.sum_, dl := g.suml, dr := g.sumr }], q.2))
    ([], s1)
  let own := (outs.filter fun l => !(free.contains l)).map (ownJob r.2 c)
  setGraph r.2 c { getGraph r.2 c with phase := 4, backs := (getGraph r.2 c).backs ++ own ++ r.1 }

/-- Stage 8 after the PRE_MIX kernel: contributions, clips and sums, then the back jobs. -/
def mixRest (c : Nat) (ys : List (List SubBlk)) (s : State) : State :=
  let g0 := getGraph s c
  let s1 := (g0.mem.zip ys).foldl (fun s e => setIn s e.1 { getIn s e.1 with y := e.2 }) s
  let n := 24 * subsOf_ s c
  let con : Tab (List Int × List Int × List Int) := g0.mem.foldl (fun t k => Tab.set t k (memberSig s1 c k)) []
  let p := playClips c g0.mt n [] [] s1 g0.clips
  let cl := p.1.map fun e => contributions e.2
  let g := getGraph p.2.2 c
  makeBacks c (setGraph p.2.2 c { g with
    con := con, clips := p.2.1
    sum_ := sumSig n (con.map (·.2.1) ++ cl)
    suml := sumSig n (con.map (·.2.2.1) ++ cl)
    sumr := sumSig n (con.map (·.2.2.2) ++ cl) })

/-- MIX_JOB (R411, R436): from t + 0.55 P on, after ranking. `bad` is a lockstep mismatch of a conference that holds a
critical leg: the mix is discarded, and every leg's period is concealment. -/
def execMixJob (c : Nat) (bad : Bool) (s : State) : Out :=
  onPart (decide (c < 1024)) s fun s =>
    let c := okey 2 c
    let g := getGraph s c
    let P := mixPeriod s c
    guarded (g.phase == 2 && decide (g.t + 11 * P / 20 ≤ phcNs s.time)) s fun s =>
      let crit := critLegs s c
      let p := pairOf s c false
      let s1 := if bad && !crit.isEmpty then
          pairMismatch p (((kids s 3 c).filter (isActive s)).foldl (fun s l => concealOut l s)
            (crit.foldl (fun s l => pathFault l 0x01 p 0 s) s))
        else s
      let ys := g.mem.map fun k => (getIn s1 k).y
      let mem := g.mem.map fun k => (inHandle s1 k, Tab.getD g.pos k 0)
      let r := if g.mem.isEmpty then (false, s1) else invoke c 1 ys g.mt 24 (g.t + 3 * P / 5) mem s1
      if r.1 then setGraph r.2 c { getGraph r.2 c with phase := 3 } else mixRest c ys r.2

end Sys2Proof.Machine
end

