-- ==== Sys2Proof/Machine/AudioBack.lean ====
section
/-!
DEFINITION. The back phase of the audio graph (R413, R438 to R440, R446 to R452, R456, R468 to R471, R554 to R564, R722):
BACK_JOB, its abandonment, missing tags, AES67 packets, and the audio commands of Table 15-17.
-/

namespace Sys2Proof.Machine

open Sys2Proof

/-! ## Audio ports and host rings -/

/-- The audio port with PORT index `p`. -/
def getAPort (s : State) (p : Nat) : APort := Tab.getD s.aud.ports p {}
/-- Replaces it. -/
def setAPort (s : State) (p : Nat) (a : APort) : State := { s with aud := { s.aud with ports := Tab.set s.aud.ports p a } }
/-- A field of an audio port (Table 10-1). -/
def aprm (s : State) (p r : Nat) : Nat := fldN (getAPort s p).fields (fk 0x0C r 0)
/-- Group delay of a port's converter in µs (R554, Table 10-6). -/
def broadDelay (phase : Nat) : Nat := if phase = 0 then 2000 else 375

/-- A 24-bit sample as a ring holds it (Table 10-4). -/
def packSample (pk : Nat) (v : Int) : Bytes :=
  let b := toLeI 3 v
  if pk = 0 then b else if pk = 1 then 0 :: b else b ++ [if bitOf (wrap 24 v) 23 then 0xFF else 0]

/-- The sample that a ring's bytes hold; the ignored bits are ignored. -/
def unpackSample (pk : Nat) (b : Bytes) : Int := signed 24 (if pk = 1 then le b 1 3 else le b 0 3)

/-- Bytes of a ring sample. -/
def packBytes (pk : Nat) : Nat := if pk = 0 then 3 else 4

/-! ## Packets of an outgoing audio stream (R417, R449, R469) -/

/-- Queues one packet on an outgoing audio stream. `tag` holds the tag units before this packet in the period and those
within it; with AUDIO_LEVEL_EXT the level and VAD bits go along. -/
def sendAudio (x pt ts : Nat) (marker : Bool) (csrc : List Nat) (pay : Bytes) (tag : Option (Nat × Nat)) (s : State) : State :=
  let l := legOfStream s x
  let lv : Option Nat × State :=
    if oprm s x 8 = 1 ∧ extId s l 4 ≠ 0 then (some (takeFree 42 8 s).1, (takeFree 42 8 s).2) else (none, s)
  let s1 := lv.2
  let d := getStream s1 x
  let r : Rtp := { pt := pt, marker := marker, seq := d.outSeq, ts := ts % 2 ^ 32, ssrc := (streamSsrc s1 x).getD 0, csrc := csrc
                   mid := streamMid s1 x, level := lv.1, pay := pay }
  let t := if isCritical s1 l then tag.map fun u =>
      ({ first := ((getLeg s1 l).tagSeq + u.1) % 65536, n := u.2, crc := crc16 pay } : Tag) else none
  pacePush x { kind := .media, len := rtpLen s1 l r pay.length, leg := l, stream := x, rtp := r, mt := now s1, tag := t } false
    (setStream s1 x { d with outSeq := (d.outSeq + 1) % 65536 })

/-- Samples of `ns` at a clock. -/
def nsSamples (clock ns : Nat) : Nat := ns * clock / 1000000000

/-- One period of a coded stream: a packet goes out when its PTIME is complete, unless DTX leaves it out; the timestamp
advances in every case (R449). -/
def codedStream (x P : Nat) (dtx : Bool) (pay : Bytes) (tag : Bool) (s : State) : State :=
  let d := getStream s x
  let codec := oprm s x 0 + 1
  let pos := d.rtpPos + P
  if pos < ptime s x then setStream s x { d with rtpPos := pos }
  else
    let s1 := setStream s x { d with rtpPos := 0, outTs := (d.outTs + nsSamples (codecClock codec) pos) % 2 ^ 32 }
    if dtx && oprm s x 7 == 1 then s1
    else sendAudio x ((ptFor s x codec).getD 0) d.outTs false [] pay (if tag then some (0, P / 2500000) else none) s1

/-- The period of a stream that is not sent (R413, R449): what its packet holds is gone, and the timestamp goes on. -/
def skipStream (P : Nat) (s : State) (x : Nat) : State :=
  let d := getStream s x
  setStream s x { d with rtpPos := 0, outTs := (d.outTs + nsSamples (codecClock (oprm s x 0 + 1)) (d.rtpPos + P)) % 2 ^ 32 }

/-- One sample frame of an AES67 packet: the output in the channels the stream names, silence in the others (R201). -/
def aesFrame (s : State) (x : Nat) (v : List Int) : Bytes :=
  let m := ofldN s x (fk 0x04 17 5)
  let w := if oprm s x 0 = 4 then 2 else 3
  let a := v[0]?.getD 0
  let b := v[1]?.getD a
  (List.range (ofldN s x (fk 0x04 17 3))).flatMap fun c =>
    toBe w (wrap (8 * w) (if c = m % 16 then a else if c = m / 16 % 16 then b else 0))

/-- A block of an AES67 stream joins the frames that wait for the packet grid (R200). -/
def aesFrames (x t : Nat) (ch : List (List Int)) (s : State) : State :=
  let d := getStream s x
  let n := ((ch.head?).map List.length).getD 0
  let ts := t * 48000 / 1000000000 + ofldN s x (fk 0x04 17 0)
  let v := ch.map (·.toArray)
  let fs := (List.range n).map fun i => ((ts + i) % 2 ^ 32, aesFrame s x (v.map fun a => a.getD i 0))
  setStream s x { d with fifo := d.fifo ++ fs }

/-- Frames from the first one on whose timestamps follow on one another, at most `n`. -/
def gridRun : Nat → List (Nat × Bytes) → List (Nat × Bytes)
  | 0, _ => []
  | _ + 1, [] => []
  | n + 1, f :: t =>
    match t with
    | [] => [f]
    | g :: _ => if g.1 = (f.1 + 1) % 2 ^ 32 then f :: gridRun n t else [f]

/-- AES67_PACKET_SEND (R198 to R200): at a sample of the grid of the packet time, the next frames of stream `x` leave as one
packet. Frames that an abandoned period cut off from those that follow are dropped. -/
def execAes67PacketSend (x : Nat) (s : State) : Out :=
  onPart (decide (x < 16384)) s fun s =>
    let x := okey 4 x
    let d := getStream s x
    let n := ofldN s x (fk 0x04 17 2)
    let slot := phcNs s.time * 48000 / 1000000000
    guarded (isActive s x && decide (n ≤ d.fifo.length) && slot % n == 0 && decide (d.rtpPos ≤ slot)) s fun s =>
      let run := gridRun n d.fifo
      let s1 := setStream s x { d with fifo := d.fifo.drop run.length, rtpPos := slot + n }
      if run.length < n then s1
      else sendAudio x ((ptFor s x (oprm s x 0 + 1)).getD 0) ((d.fifo.head?).map (·.1) |>.getD 0) false []
        (run.flatMap (·.2)) none s1

/-! ## DTMF towards a leg (R456) -/

/-- The payload of a telephone-event packet (RFC 4733); the spec gives no volume. -/
def eventPay (digit dur : Nat) (last : Bool) (s : State) : Bytes × State :=
  let f := takeFree 43 6 s
  (toBe 1 digit ++ toBe 1 (128 * b2n last + f.1) ++ toBe 2 (min dur 65535), f.2)

/-- Sends the telephone-event packets of the period that ends with digit `g` sounding for `pos` ns: one per packet time,
three when the digit has ended. -/
def eventSend (l P g pos : Nat) (d : DtmfSend) (s : State) : DtmfSend × State :=
  match (liveOuts s l).head? with
  | none => ({ d with pos := pos, ends := 1 }, s)
  | some x =>
    let sd := getStream s x
    let clk := codecClock (oprm s x 0 + 1)
    let start := wrap 32 ((sd.outTs : Int) + ((sd.rtpPos : Int) - P) * clk / 1000000000)
    let d1 := { d with pos := pos, ts := if d.pos = 0 then start else d.ts }
    if sd.rtpPos ≠ 0 ∨ d.ends ≠ 0 then (d1, s)
    else
      let pt := (ptFor s x 7).getD 0
      let mark := decide (pos ≤ ptime s x)
      let e := eventPay g (nsSamples clk (min pos d.tone)) (decide (d.tone ≤ pos)) s
      if pos < d.tone then (d1, sendAudio x pt d1.ts mark [] e.1 none e.2)
      else ({ d1 with ends := 1 },
        sendAudio x pt d1.ts false [] e.1 none (sendAudio x pt d1.ts false [] e.1 none (sendAudio x pt d1.ts mark [] e.1 none e.2)))

/-- One period of the digits a leg is sent. -/
def dtmfStep (l P : Nat) (s : State) : State :=
  match (getAud s l).dtmf with
  | none => s
  | some d =>
    match d.digits with
    | [] => setAud s l { getAud s l with dtmf := none }
    | g :: rest =>
      let pos := d.pos + P
      let r := if d.rfc then eventSend l P g pos d s else ({ d with pos := pos, ends := if d.tone ≤ pos then 1 else 0 }, s)
      let d1 := r.1
      let next := if d1.ends = 0 then some d1
        else if rest.isEmpty then none
        else if d.tone + d.gap ≤ pos then some { d1 with digits := rest, pos := pos - d.tone - d.gap, ends := 0 }
        else some d1
      setAud r.2 l { getAud r.2 l with dtmf := next }

/-! ## Stages 9 and 10 -/

/-- Whether a leg's output is binaural (R443, R553, R722). -/
def outBin (s : State) (l : Nat) : Bool :=
  let sp := cprm s (confOfLeg s l) 4 == 1
  match legKind s l with
  | 0 => (((liveOuts s l).head?).map (binaural s)).getD false
  | 2 => sp && decide (ofld s l (fk 0x01 16 2) ≠ noneV)
  | 3 => sp && ofldN s l (fk 0x01 18 4) == 2
  | _ => false

/-- Clips on one channel (R446): a REPLACE clip takes the place of the signal, MIX clips add to it. -/
def withClips (cl : List (Bool × List SubBlk)) (ch : List SubBlk) : List SubBlk :=
  let base := match (cl.filter (·.1)).getLast? with
    | some e => e.2
    | none => ch
  (cl.filter fun e => !e.1).foldl (fun b e => List.zipWith addSub b e.2) base

/-- Open channels of `k` sub-blocks of `n` samples. -/
def openChans (k n : Nat) (s : State) : Nat → List (List SubBlk) × State
  | 0 => ([], s)
  | c + 1 =>
    let a := openSubs k n s
    let b := openChans k n a.2 c
    (a.1 :: b.1, b.2)

/-- Whether a digit sounds in band in the block (R456). -/
def toneSounds (a : LegAud) : Bool :=
  match a.dtmf with
  | some d => !d.rfc && !d.digits.isEmpty && decide (d.pos < d.tone)
  | none => false

/-- Steps 1 to 3 of R446 for a job. -/
def outSignal (c : Nat) (j : BackJob) (l : Nat) (s : State) : List (List SubBlk) × State :=
  let base := if outBin s l then [fromSig j.dl, fromSig j.dr] else [fromSig j.d]
  if j.shared.isSome then (base, s)
  else
    let nsub := subsOf_ s c
    let p := playClips l j.mt (24 * nsub) [] [] s (getAud s l).clips
    let s1 := setAud p.2.2 l { getAud p.2.2 l with clips := p.2.1 }
    let ch := base.map (withClips p.1)
    if toneSounds (getAud s1 l) then openChans nsub 24 s1 ch.length else (ch, s1)

/-- OUT_GAIN and limiter (R446, R447). A shared encoding has an envelope of its own, which its legs take with them. -/
def outLimit (c : Nat) (j : BackJob) (l : Nat) (ch : List (List SubBlk)) (s : State) : List (List SubBlk) × State :=
  let g := ch.map (gainBlock (lprm s l 2))
  let env := match j.shared with
    | some q => Tab.getD (getGraph s c).senv q 0
    | none => (getAud s l).env
  let r := limitRun env false [] s (transposeSubs g)
  let s1 := r.2.2.2
  let s2 := match j.shared with
    | some q => setGraph s1 c { getGraph s1 c with senv := Tab.set (getGraph s1 c).senv q r.1 }
    | none => s1
  let s3 := j.legs.foldl (fun s l =>
    let s4 := setAud s l { getAud s l with env := r.1 }
    if r.2.1 then bumpObj s4 l .limActive else s4) s2
  (transposeSubs r.2.2.1, s3)

/-- Samples per sub-block at the leg rate, by the CODEC of the leg's first stream (R448). -/
def outSmp (s : State) (l : Nat) : Nat :=
  if legKind s l ≠ 0 then 24
  else match ((liveOuts s l).head?).map fun x => oprm s x 0 with
    | some 1 => 4
    | some 2 => 4
    | some 3 => 8
    | _ => 24

/-- Stage 10 (R448, Table 10-7): a stopped instance gives zeros. -/
def outPlane (l : Nat) (ch : List (List SubBlk)) (s : State) : List (List SubBlk) × State :=
  let n := outSmp s l
  if n = 24 then (ch, s)
  else
    let a := getAud s l
    let k := ((ch.head?).map List.length).getD 0
    let s1 := setAud s l { a with planeO := planeRan a.planeO }
    if planeSilent a.planeO then (ch.map fun b => b.map fun _ => silentSub n, s1) else openChans k n s1 ch.length

/-! ## Stage 12 -/

/-- The linear samples of a block by channel, with the number clamped in all. -/
def linearOut (bits : Nat) (s : State) : List (List SubBlk) → List (List Int) × Nat × State
  | [] => ([], 0, s)
  | b :: t =>
    let r := toPcm bits b s
    let q := linearOut bits r.2.2 t
    (r.1 :: q.1, r.2.1 + q.2.1, q.2.2)

/-- Bits of the samples that a CODEC's encoder takes. -/
def codecBits (codec : Nat) : Nat := if codec = 0 ∨ codec = 5 then 24 else 16

/-- Period `P` of a leg whose back job is done, or will not be, has been handled: tag units and digits go on. -/
def endPeriod (l P : Nat) (s : State) : State :=
  let d := getLeg s l
  dtmfStep l P (setLeg s l { d with tagSeq := (d.tagSeq + P / 2500000) % 65536, aud := { d.aud with conceal := false } })

/-- Stream 0 or a speaker stream of a trunk leg (R127, R204, R450 to R452): all packets of the block. -/
def trunkStream (x t : Nat) (csrc : List Nat) (pcm : List Int) (s : State) : State :=
  let n := if pcm.length ≤ 120 then 120 else 240
  let ps := pieces n (pcm.length / n) pcm
  let ts := t * 48000 / 1000000000
  ((List.range ps.length).zip ps).foldl (fun s e =>
    sendAudio x ((ptFor s x 6).getD 0) (ts + n * e.1) false csrc (e.2.flatMap fun v => toBe 3 (wrap 24 v))
      (if trunkIdx s x = 0 then some (n / 120 * e.1, n / 120) else none) s) s

/-- The nine streams of a trunk leg. -/
def trunkOut (l : Nat) (j : BackJob) (pcm : List Int) (s : State) : State :=
  (liveOuts s l).foldl (fun s x =>
    let k := trunkIdx s x
    if k = 0 then trunkStream x j.t [] pcm s
    else match j.spk[k - 1]? with
      | some e =>
        let r := toPcm 24 e.2 s
        trunkStream x j.t [e.1] r.1 (bumpObj r.2.2 l .outClip r.2.1)
      | none => trunkStream x j.t [] (pcm.map fun _ => 0) s) s

/-- The output channels of a PORT leg. -/
def portChans (s : State) (l : Nat) : List Nat :=
  [ofldN s l (fk 0x01 16 1)] ++ (if ofld s l (fk 0x01 16 2) = noneV then [] else [ofldN s l (fk 0x01 16 2)])

/-- The block of a PORT leg enters the transmit ring of its port through the converter, which gives open samples (R554 to
R556); a disabled channel holds 0 (R539). -/
def portOut (l P : Nat) (j : BackJob) (s : State) : State :=
  let i := hIdx (ofldN s l (fk 0x01 16 0))
  let a := getAPort s i
  let rate := fldN a.fields (fk 0x0C 3 0)
  let size := fldN a.fields (fk 0x0C 15 0)
  let slots := fldN a.fields (fk 0x0C 4 0)
  let n := (j.t + P) * rate / 1000000000 - j.t * rate / 1000000000
  let chs := portChans s l
  let f := takeFree 45 (24 * n * chs.length) s
  let s1 := f.2
  let g := 1000 * broadDelay (fldN a.fields (fk 0x0C 18 0))
  let start := if a.txCons < (getAud s1 l).prod then (getAud s1 l).prod
    else a.txCons + ceilDiv ((j.t + P + 1500000 + g - phcNs s1.time) * rate) 1000000000
  let buf := (List.range n).foldl (fun b i =>
    let k := (start + i) % size
    let fr := Tab.getD b k (List.replicate slots 0)
    Tab.set b k (((List.range chs.length).zip chs).foldl (fun fr e =>
      setAt fr e.2 (if bitOf a.tx e.2 then signed 24 (f.1 / 2 ^ (24 * (i * chs.length + e.1))) else 0)) fr)) a.txBuf
  setAud (setAPort s1 i { a with txBuf := buf }) l { getAud s1 l with prod := start + n }

/-- The block of a HOST leg enters its OUT ring (R722), or counts HOST_OUT_OVERRUN. -/
def hostOut (l : Nat) (ch : List (List Int)) (s : State) : State :=
  let d := getLeg s l
  let F := ofldN s l (fk 0x01 17 0)
  let e := fun n => ofldN s l (fk 0x01 18 n)
  let n := ((ch.head?).map List.length).getD 0
  let v := (List.range (e 4)).map fun c => ((ch[c]?).getD ((ch.head?).getD [])).toArray
  let w := packBytes (e 5)
  if e 3 < wrap 32 ((d.hostOut.1 : Int) - d.hostOut.2) + n then bumpObj s l .hostOutOverrun
  else if !(inWindow (getFn s F) (e 1) (e 3 * e 4 * w) true) then dmaFaulted F (e 1) (n * e 4 * w) 1 s
  else
    let ring := (List.range n).foldl (fun t i =>
      Tab.set t ((d.hostOut.1 + i) % e 3) (v.flatMap fun a => packSample (e 5) (a.getD i 0))) d.outRing
    let p := (d.hostOut.1 + n) % 2 ^ 32
    updFn (setLeg s l { d with outRing := ring, hostOut := (p, d.hostOut.2) }) F fun f => { f with lastWr := some (e 2 + 8, toLe 4 p) }

/-- What a network leg's streams send: linear samples by stream, and payloads. -/
def netOut (l P : Nat) (j : BackJob) (z : BackRes) (lin : List (List (List Int))) (hide : Bool) (s : State) : State :=
  let outs := liveOuts s l
  ((List.range outs.length).zip outs).foldl (fun s e =>
    let x := e.2
    if 4 ≤ oprm s x 0 then aesFrames x j.t (lin[e.1]?.getD []) s
    else if hide then codedStream x P false (concealedPayload s.free (z.pays[e.1]?.getD [])) (e.1 == 0) { s with free := s.free + 1 }
    else codedStream x P z.dtx (z.pays[e.1]?.getD []) (e.1 == 0) s) s

/-- The linear samples of the first `k` streams of leg `l`, with the number of samples clamped on the first of them. -/
def netLinear (l : Nat) (sig : List (List SubBlk)) : List Nat → State → List (List (List Int)) × Nat × State
  | [], s => ([], 0, s)
  | x :: t, s =>
    let ch := sig.take (max 1 (oprm s x 1))
    let r := linearOut (codecBits (oprm s x 0)) s ch
    let q := netLinear l sig t r.2.2
    (r.1 :: q.1, r.2.1, q.2.2)

/-- The output of one leg for a done job: `sig` is what stage 12 takes and `lin` its linear samples by stream; a leg whose
period is concealed sends open samples instead (R471). -/
def legOut (c : Nat) (j : BackJob) (z : BackRes) (sig : List (List SubBlk)) (lin : List (List (List Int))) (clips l : Nat)
    (s : State) : State :=
  if !(isActive s l) then s
  else
    let P := mixPeriod s c
    let hide := (getAud s l).conceal
    let o := if hide then openChans (subsOf_ s c) 24 s sig.length else (sig, s)
    let late := isFixed s l && decide (j.t + P + 1500000 < phcNs s.time)
    let s1 := match legKind s l with
      | 0 =>
        let r := if hide then netLinear l o.1 (liveOuts o.2 l) o.2 else (lin, clips, o.2)
        netOut l P j z r.1 hide (if r.2.1 = 0 then r.2.2 else bumpObj r.2.2 l .outClip r.2.1)
      | 1 =>
        let r := linearOut 24 o.2 (o.1.take 1)
        trunkOut l j (r.1.head?.getD []) (if r.2.1 = 0 then r.2.2 else bumpObj r.2.2 l .outClip r.2.1)
      | 2 => portOut l P j o.2
      | _ =>
        let r := linearOut 24 o.2 o.1
        hostOut l r.1 (if r.2.1 = 0 then r.2.2 else bumpObj r.2.2 l .outClip r.2.1)
    endPeriod l P (if late then promiseMiss l s1 else s1)

/-- Takes a job out of its conference. -/
def dropJob (c : Nat) (j : BackJob) (s : State) : State :=
  let g := getGraph s c
  setGraph s c { g with backs := g.backs.filter fun b => !(b.t == j.t && b.legs == j.legs) }

/-- A shared encoding passes its queue (Table 12-1); false when the queue is full, and its packets are dropped there. -/
def sharedPass (j : BackJob) (z : BackRes) (s : State) : Bool × State :=
  match j.shared with
  | none => (true, s)
  | some q =>
    let pk : Pkt := { kind := .media, len := 12 + (z.pays.map List.length).sum, mt := j.mt }
    if qFull s q pk.len then
      (false, j.legs.foldl (fun s l => bumpObj s (confOfLeg s l) .sharedDrop) (qDrop q pk.len s))
    else (true, qPop q (qPush q { pkt := pk, tick := s.time.ticks } false s))

/-- The end of a back job: stage 12 for each of its legs. A lockstep mismatch conceals its critical legs (R467, R471). -/
def backEnd (c : Nat) (j : BackJob) (sig : List (List SubBlk)) (z : BackRes) (s : State) : State :=
  let s0 := dropJob c j s
  let crit := j.legs.filter (isCritical s0)
  let s1 := if z.bad && !crit.isEmpty then
      let p := pairOf s0 (crit.headD 0) false
      pairMismatch p (crit.foldl (fun s l => pathFault l 0x01 p 0 s) s0)
    else s0
  let a := sharedPass j z s1
  let first := j.legs.headD 0
  let r := if legKind a.2 first = 0 then netLinear first sig (liveOuts a.2 first) a.2 else ([], 0, a.2)
  if a.1 then j.legs.foldl (fun s l => legOut c j z sig r.1 r.2.1 l s) r.2.2
  else
    let P := mixPeriod a.2 c
    j.legs.foldl (fun s l => endPeriod l P ((liveOuts s l).foldl (skipStream P) s)) a.2

/-- BACK_JOB (R411, R446 to R452): from t + 0.6 P on, the oldest back job that serves leg `l`. `z` is what encoding makes of
its signal, and whether the lockstep pair disagreed. -/
def execBackJob (l : Nat) (z : BackRes) (s : State) : Out :=
  onPart (decide (l < 4096)) s fun s =>
    let l := okey 3 l
    let c := confOfLeg s l
    let P := mixPeriod s c
    let ph := phcNs s.time
    match (getGraph s c).backs.find? fun j => j.legs.contains l && j.z.isNone with
    | none => s
    | some j =>
      guarded (decide (j.t + 3 * P / 5 ≤ ph) && (j.legs.any (isFixed s) || decide (ph < j.t + 2 * P))) s fun s =>
        let f := j.legs.headD l
        let a := outSignal c j f s
        let b := outLimit c j f a.1 a.2
        let d := outPlane f b.1 b.2
        let r := if j.shared.isNone && legKind s f == 0 then invoke f 2 d.1 j.mt (outSmp s f) (j.t + P + 500000) [] d.2 else (false, d.2)
        if r.1 then
          let g := getGraph r.2 c
          setGraph r.2 c { g with backs := g.backs.map fun b =>
            if b.t == j.t && b.legs == j.legs then { b with sig := d.1, z := some z } else b }
        else backEnd c j d.1 z r.2

/-- A job without leg `l`; none when that leaves no leg. -/
def BackJob.without (b : BackJob) (l : Nat) : Option BackJob :=
  let ls := b.legs.filter fun n => n != l
  if ls.isEmpty then none else some { b with legs := ls }

/-- Leg `l` leaves a back job; a job without legs is gone. -/
def leaveJob (c l : Nat) (j : BackJob) (s : State) : State :=
  let g := getGraph s c
  let bs := g.backs.filterMap fun b => if b.t == j.t && b.legs == j.legs then b.without l else some b
  setGraph s c { g with backs := bs }

/-- The period of leg `l` is abandoned (R413, R449). -/
def skipPeriod (l P : Nat) (s : State) : State :=
  let s1 := if legKind s l = 0 then ((liveOuts s l).filter fun x => decide (oprm s x 0 < 4)).foldl (skipStream P) s else s
  endPeriod l P (bumpObj s1 l .audLate)

/-- BACK_JOB_ABANDON (R413): at t + 2 P the back job of a floating leg is abandoned. -/
def execBackJobAbandon (l : Nat) (s : State) : Out :=
  onPart (decide (l < 4096)) s fun s =>
    let l := okey 3 l
    let c := confOfLeg s l
    let P := mixPeriod s c
    match (getGraph s c).backs.find? fun j => j.legs.contains l && decide (j.t + 2 * P ≤ phcNs s.time) with
    | none => s
    | some j => guarded (!(isFixed s l)) s fun s => skipPeriod l P (leaveJob c l j s)

/-! ## Missing tags (R470, R471) -/

/-- Whether a tagged result of the block in work is missing 500 µs after its phase deadline. -/
def tagMissing (s : State) (l : Nat) : Bool :=
  let c := confOfLeg s l
  let g := getGraph s c
  let P := mixPeriod s c
  let ph := phcNs s.time
  (unfinished s l && g.phase == 1 && decide (g.t + P / 2 + 500000 ≤ ph)) ||
    (g.phase == 1 && decide (g.t + 11 * P / 20 + 500000 ≤ ph)) ||
    (1 ≤ g.phase && decide (g.phase ≤ 3) && decide (g.t + 3 * P / 5 + 500000 ≤ ph))

/-- TAG_MISSING_TIMEOUT (R470): a path fault of critical leg `l`; a back job that is overdue sends its concealment now. -/
def execTagMissingTimeout (l : Nat) (s : State) : Out :=
  onPart (decide (l < 4096)) s fun s =>
    let l := okey 3 l
    let c := confOfLeg s l
    let P := mixPeriod s c
    let late_ := (getGraph s c).backs.find? fun j => j.legs.contains l && decide (j.t + P + 1000000 ≤ phcNs s.time)
    guarded (isCritical s l && isActive s l && (late_.isSome || (tagMissing s l && !(getAud s l).conceal))) s fun s =>
      let s1 := pathFault l 0x02 0xFFFF 2 s
      match late_ with
      | none => s1
      | some j => legOut c j {} [silence (subsOf_ s1 c)] [] 0 l (leaveJob c l j s1)

/-! ## Audio commands (Table 15-17) -/

/-- What the OUT instance of a leg produces: 0 for 48 kHz, 1 for 16 kHz, 2 for 8 kHz (Table 10-8). -/
def outProduces (s : State) (l : Nat) : Nat := if outSmp s l = 8 then 1 else if outSmp s l = 4 then 2 else 0

/-- The lower rate code of a leg's IN instance: 0 when it is bypassed. -/
def inRate (s : State) (l : Nat) : Nat :=
  if legKind s l ≠ 0 then 0
  else match (liveIns s l).head? with
    | none => 0
    | some x =>
      let c := relCodec s x []
      if c = 4 then 1 else if c = 2 ∨ c = 3 then 2 else 0

/-- The preset of an instance (row of Table 10-6). -/
def presetOf (prod phase : Nat) : Nat := 2 * prod + phase

/-- Group delay of a preset in µs (Table 10-6). -/
def presetDelay (n : Nat) : Nat :=
  if n = 0 ∨ n = 2 then 2000 else if n = 1 ∨ n = 3 then 375 else if n = 4 then 2500 else 500

/-- Group delay of a leg's instance in µs; 0 for one that is bypassed. -/
def planeDelay (p : Plane) (prod : Nat) (bypass : Bool) : Nat :=
  if bypass then 0
  else match p.custom, p.set_ with
    | true, some c => c.2.2.2.1
    | _, _ => presetDelay (presetOf prod p.phase)

/-- IN_DELAY of R465 and R557 in 1/16 µs. -/
def inDelay (s : State) (l : Nat) : Nat :=
  if legKind s l = 2 then 16 * (500 + broadDelay (aprm s (hIdx (ofldN s l (fk 0x01 15 0))) 18))
  else
    let r := inRate s l
    16 * planeDelay (getAud s l).planeI 0 (r == 0) + (if r = 1 then 11000 else 0)
      + (if legKind s l ≠ 1 ∧ lprm s l 8 ≠ 0 then 32000 else 0)

/-- OUT_DELAY of R465 and R557 in 1/16 µs. -/
def outDelay (s : State) (l : Nat) : Nat :=
  if legKind s l = 2 then 16 * broadDelay (aprm s (hIdx (ofldN s l (fk 0x01 16 0))) 18)
  else
    let p := outProduces s l
    let enc := match (if legKind s l = 0 then (liveOuts s l).head? else none) with
      | some x => if oprm s x 0 = 0 then (if oprm s x 5 = 0 then 40000 else 104000) else if oprm s x 0 = 3 then 11000 else 0
      | none => 0
    16 * planeDelay (getAud s l).planeO p (p == 0) + enc

/-- A delay in whole µs; between two of them, either. -/
def wholeUs (d : Nat) (s : State) : Nat × State :=
  if d % 16 = 0 then (d / 16, s)
  else
    let f := takeFree 44 1 s
    (d / 16 + f.1, f.2)

/-- AUDIO_READ (R473, Table 8-12). -/
def bodyAudioRead : Body := fun F p _ s =>
  match resolve s F 3 (le p 0 4) with
  | none => .no .badHandle []
  | some l =>
    let a := (getAud s l).snap
    let i := wholeUs (inDelay s l) s
    let o := wholeUs (outDelay s l) i.2
    let tag := if isCritical s l then ((getLeg s l).tagOut.map fun t => (t + 65535) % 65536).getD 0 else 0
    .ok (toLe 2 (b2n a.vad + 2 * b2n a.member + 4 * b2n a.shared + 8 * (a.role % 4) + 32 * (a.rank % 8) + 256 * (a.pos % 32))
      ++ toLeI 2 a.level ++ toLeI 2 a.agc ++ toLeI 2 a.score ++ toLe 2 i.1 ++ toLe 2 o.1 ++ toLe 2 tag ++ zeros 2
      ++ toLe 8 a.time ++ zeros 8) 0 o.2

/-- One member of MIX_READ. -/
def mixEntry (s : State) (g : ConfAud) (k rank role : Nat) : Bytes :=
  let a := getIn s k
  toLe 4 (inHandle s k) ++ toLe 1 rank ++ toLe 1 role ++ toLe 1 (Tab.getD g.pos k 0) ++ zeros 1 ++ toLeI 2 a.sc
    ++ toLeI 2 a.level ++ zeros 4

/-- MIX_READ (R435). -/
def bodyMixRead : Body := fun F p _ s =>
  match resolve s F 2 (le p 0 4) with
  | none => .no .badHandle []
  | some c =>
    let g := getGraph s c
    let rs := (byRank g.set_).map (·.key)
    let pin := g.mem.filter fun k => !(rs.contains k)
    .ok (toLe 1 (rs.length + pin.length) ++ zeros 7
      ++ ((List.range rs.length).zip rs).flatMap (fun e => mixEntry s g e.2 e.1 0)
      ++ pin.flatMap fun k => mixEntry s g k 0 1) 0 s

/-- Whether a conference names an HRTF slot. -/
def hrtfNamed (s : State) (slot : Nat) : Bool := (objKeys s 2).any fun c => cprm s c 5 == slot

/-- HRTF_LOAD (R444, R445): `d` is the set as read from ADDR. -/
def bodyHrtfLoad : Body := fun F p d s =>
  let slot := le p 0 1
  let addr := le p 8 8
  let n := le p 16 4
  match (getFn s F).part with
  | none => .no .unassigned []
  | some pt =>
    let own := Tab.get s.aud.hrtf slot
    let used := (s.aud.hrtf.filter fun e => e.2.part = pt).length
    let taps := le d 0 1
    let cs := (List.range (64 * taps)).map fun i => signed 32 (le d (8 + 4 * i) 4)
    let win := inWindow (getFn s F) addr n false
    checked [(decide (1 ≤ slot) && decide (slot ≤ 15) && decide (8 ≤ n), .outOfRange),
             (!win || (decide (32 ≤ taps) && decide (taps ≤ 96) && taps % 8 == 0 && le d 1 1 == 32 && le d 2 2 == 0
               && decide (n = 8 + 256 * taps) && decide (d.length = n) && le d 4 4 == crc32 (d.drop 8)
               && cs.all fun c => decide (-524288 ≤ c) && decide (c ≤ 524287)), .outOfRange),
             (!(hrtfNamed s slot) && (own.map fun h => h.part == pt).getD true, .inUse),
             (own.isSome || decide (used < quota s pt 4 2), .noResource)] fun _ =>
      if win then .ok [] 0 { s with aud := { s.aud with hrtf := Tab.set s.aud.hrtf slot { part := pt, taps := taps, coef := cs } } }
      else .dma addr n 0

/-- HRTF_UNLOAD. -/
def bodyHrtfUnload : Body := fun F p _ s =>
  let slot := le p 0 1
  match (getFn s F).part with
  | none => .no .unassigned []
  | some pt =>
    checked [(((Tab.get s.aud.hrtf slot).map fun h => h.part == pt).getD false, .badHandle), (!(hrtfNamed s slot), .inUse)] fun _ =>
      .ok [] 0 { s with aud := { s.aud with hrtf := Tab.del s.aud.hrtf slot } }

/-- The clips of a target. -/
def clipsOf (s : State) (k : Nat) : List Clip := if k / 1048576 = 2 then (getGraph s k).clips else (getAud s k).clips
/-- Replaces them. -/
def setClips (s : State) (k : Nat) (c : List Clip) : State :=
  if k / 1048576 = 2 then setGraph s k { getGraph s k with clips := c } else setAud s k { getAud s k with clips := c }

/-- PLAY_CLIP (R458). -/
def bodyPlayClip : Body := fun F p _ s =>
  let h := le p 0 4
  match (resolve s F 3 h <|> resolve s F 2 h), resolveSurf s F (le p 4 4) with
  | some k, some u =>
    let conf := k / 1048576 == 2
    let g := signed 16 (le p 10 2)
    let f := ((getSurf s u).map (·.fmt)).getD 0
    let samePart := ((getSurf s u).map (·.part)) == ((getObj s k).map (·.part))
    checked [(samePart, .badHandle),
             (decide (le p 8 1 ≤ 1) && !(conf && le p 8 1 == 1) && decide (-6144 ≤ g) && decide (g ≤ 768) && (f == 0x10 || f == 0x11),
              .outOfRange),
             (decide (((clipsOf s k).filter fun c => !c.stop).length < (if conf then 4 else 2)), .noResource)] fun _ =>
      .ok [] 0 (setClips s k (clipsOf s k ++ [{ surf := u, repl := le p 8 1 == 1, gain := g, loops := le p 9 1 }]))
  | _, _ => .no .badHandle []

/-- CLIP_STOP (R459): it stops at the next boundary. -/
def bodyClipStop : Body := fun F p _ s =>
  let h := le p 0 4
  match (resolve s F 3 h <|> resolve s F 2 h), resolveSurf s F (le p 4 4) with
  | some k, some u =>
    if (clipsOf s k).any fun c => c.surf == u && !c.stop then
      .ok [] 0 (setClips s k ((clipsOf s k).map fun c => if c.surf = u then { c with stop := true } else c))
    else .no .badState []
  | _, _ => .no .badHandle []

/-- DTMF_SEND (R456). -/
def bodyDtmfSend : Body := fun F p _ s =>
  match resolve s F 3 (le p 0 4) with
  | none => .no .badHandle []
  | some l =>
    let n := le p 4 1
    let ds := (List.range n).map fun i => le p (12 + i) 1
    checked [(decide (1 ≤ n) && decide (n ≤ 16) && decide (40 ≤ le p 6 2) && decide (le p 6 2 ≤ 2000) && decide (40 ≤ le p 8 2)
              && ds.all fun d => decide (d ≤ 15), .outOfRange),
             ((getAud s l).dtmf.isNone, .busy)] fun _ =>
      let rfc := legKind s l == 0 && (((liveOuts s l).head?).map fun x => (ptFor s x 7).isSome).getD false
      .ok [] 0 (setAud s l { getAud s l with
        dtmf := some { digits := ds, tone := le p 6 2 * 1000000, gap := le p 8 2 * 1000000, rfc := rfc } })

/-! ### Plane instances (R559 to R564) -/

/-- The instance of a leg's side. -/
def getPlane (s : State) (l side : Nat) : Plane := if side = 0 then (getAud s l).planeI else (getAud s l).planeO
/-- Replaces it. -/
def setPlane (s : State) (l side : Nat) (p : Plane) : State :=
  if side = 0 then setAud s l { getAud s l with planeI := p } else setAud s l { getAud s l with planeO := p }

/-- The leg and side a PLANE_ command names; a port converter answers PLANE_READ only. -/
def planeAt (s : State) (F : Nat) (p : Bytes) (k : Nat → Nat → Ans) : Ans :=
  match resolve s F 3 (le p 0 4) with
  | some l => if le p 4 1 ≤ 1 then k l (le p 4 1) else .no .outOfRange []
  | none =>
    match resolvePort (le p 0 4) with
    | some i => if 8 ≤ i ∧ i ≤ 19 then .no .outOfRange [] else .no .badHandle []
    | none => .no .badHandle []

/-- PLANE_STOP. -/
def bodyPlaneStop : Body := fun F p _ s => planeAt s F p fun l side =>
  let a := getPlane s l side
  .ok [] 0 (if a.st = 0 ∨ a.st = 3 then setPlane s l side { a with st := 1, ramp := 2000000, swap := false } else s)

/-- PLANE_START. -/
def bodyPlaneStart : Body := fun F p _ s => planeAt s F p fun l side =>
  let a := getPlane s l side
  let src := le p 5 1
  checked [(decide (src ≤ 1), .outOfRange), (a.st == 2 && (src == 0 || a.set_.isSome), .badState)] fun _ =>
    .ok [] 0 (setPlane s l side { a with
      st := 3, ramp := 2000000, swap := false, custom := src == 1, phase := (lprm s l 12).toNat })

/-- Whether a coefficient set is legal (R564) for an instance that produces rate `prod`. -/
def planeSetOk (d : Bytes) (prod : Nat) : Bool :=
  let taps := le d 0 1
  let cs := (List.range taps).map fun i => signed 32 (le d (12 + 4 * i) 4)
  let gd := le d 8 4
  decide (1 ≤ taps) && decide (d.length = 12 + 4 * taps) && le d 1 1 == prod && decide (le d 2 1 ≤ 1) && le d 3 1 == 0
    && le d 4 4 == crc32 (d.drop 8) && cs.all (fun c => decide (-524288 ≤ c) && decide (c ≤ 524287))
    && decide ((cs.sum - 262144).natAbs ≤ 64)
    && (if le d 2 1 = 0 then cs == cs.reverse && taps % 2 == 1 && gd == ceilDiv ((taps - 1) * 1000000) 96000
        else decide (gd ≤ ceilDiv (taps * 1000000) 48000))

/-- PLANE_LOAD: `d` is the set as read from ADDR. -/
def bodyPlaneLoad : Body := fun F p d s => planeAt s F p fun l side =>
  let a := getPlane s l side
  let addr := le p 8 8
  let n := le p 16 4
  let prod := if side = 0 then 0 else outProduces s l
  let win := inWindow (getFn s F) addr n false
  checked [(!win || (decide (d.length = n) && planeSetOk d prod), .outOfRange), (a.st == 2, .busy)] fun _ =>
    if win then .ok [] 0 (setPlane s l side { a with
        set_ := some (le d 0 1, le d 1 1, le d 2 1, le d 8 4, (List.range (le d 0 1)).map fun i => signed 32 (le d (12 + 4 * i) 4)) })
    else .dma addr n 0

/-- PLANE_READ: a leg's instance or a port converter. -/
def bodyPlaneRead : Body := fun F p _ s =>
  match resolve s F 3 (le p 0 4) with
  | some l =>
    if 1 < le p 4 1 then .no .outOfRange []
    else
      let side := le p 4 1
      let a := getPlane s l side
      let prod := if side = 0 then 0 else outProduces s l
      let bypass := if side = 0 then inRate s l == 0 else prod == 0
      .ok (toLe 1 a.st ++ toLe 1 (b2n a.custom) ++ toLe 1 (presetOf prod a.phase) ++ zeros 1 ++ toLe 4 (planeDelay a prod bypass)) 0 s
  | none =>
    match resolvePort (le p 0 4) with
    | none => .no .badHandle []
    | some i =>
      if i < 8 ∨ 19 < i then .no .badHandle []
      else if 1 < le p 4 1 then .no .outOfRange []
      else .ok (zeros 2 ++ toLe 1 (aprm s i 18) ++ zeros 1 ++ toLe 4 (broadDelay (aprm s i 18))) 0 s

/-- The state an instance takes at the end of its ramp. -/
def Plane.ended (p : Plane) (phase : Nat) : Plane :=
  if p.st = 1 then (if p.swap then { p with st := 3, ramp := 2000000, swap := false, phase := phase } else { p with st := 2 })
  else if p.st = 3 then { p with st := 0 }
  else p

/-- PLANE_RAMP_END (R559, R561): the ramp of a leg's instance has run, or no signal passes through it. -/
def execPlaneRampEnd (l side : Nat) (s : State) : Out :=
  onPart (decide (l < 4096) && decide (side < 2)) s fun s =>
    let l := okey 3 l
    let p := getPlane s l side
    guarded ((p.st == 1 || p.st == 3) && (p.ramp == 0 || !(isActive s l))) s fun s =>
      setPlane s l side (p.ended (lprm s l 12).toNat)

/-- AUDIO_READ. -/
def execAudioRead (src : Src) (s : State) : Out := serve 0x0C00 src [] bodyAudioRead s
/-- MIX_READ. -/
def execMixRead (src : Src) (s : State) : Out := serve 0x0C01 src [] bodyMixRead s
/-- HRTF_LOAD. -/
def execHrtfLoad (src : Src) (dma : Bytes) (s : State) : Out := serve 0x0C02 src dma bodyHrtfLoad s
/-- HRTF_UNLOAD. -/
def execHrtfUnload (src : Src) (s : State) : Out := serve 0x0C03 src [] bodyHrtfUnload s
/-- PLAY_CLIP. -/
def execPlayClip (src : Src) (s : State) : Out := serve 0x0C04 src [] bodyPlayClip s
/-- CLIP_STOP. -/
def execClipStop (src : Src) (s : State) : Out := serve 0x0C05 src [] bodyClipStop s
/-- DTMF_SEND. -/
def execDtmfSend (src : Src) (s : State) : Out := serve 0x0C06 src [] bodyDtmfSend s
/-- PLANE_STOP. -/
def execPlaneStop (src : Src) (s : State) : Out := serve 0x0C07 src [] bodyPlaneStop s
/-- PLANE_LOAD. -/
def execPlaneLoad (src : Src) (dma : Bytes) (s : State) : Out := serve 0x0C08 src dma bodyPlaneLoad s
/-- PLANE_START. -/
def execPlaneStart (src : Src) (s : State) : Out := serve 0x0C09 src [] bodyPlaneStart s
/-- PLANE_READ. -/
def execPlaneRead (src : Src) (s : State) : Out := serve 0x0C0A src [] bodyPlaneRead s

end Sys2Proof.Machine
end

