-- ==== Sys2Proof/Machine/APorts.lean ====
section
/-!
DEFINITION. Audio ports (chapter 10): their configuration and status, frame edges, clock faults, AES3 channel status and
muting.
-/

namespace Sys2Proof.Machine

open Sys2Proof

/-! ## Ports (R527 to R531) -/

/-- Whether a PORT index is a TDM/I2S port (R741). -/
def isTdm (p : Nat) : Bool := decide (8 ≤ p) && decide (p ≤ 15)
/-- Whether it is an AES3 input. -/
def isAesIn (p : Nat) : Bool := p == 16 || p == 17
/-- Whether it is an AES3 output. -/
def isAesOut (p : Nat) : Bool := p == 18 || p == 19
/-- Whether it is an audio port. -/
def isAudioPort (p : Nat) : Bool := decide (8 ≤ p) && decide (p ≤ 19)

/-- SLOTS of a port's fields. -/
def slotsOf (p : Nat) (fs : Tab Int) : Nat := if isTdm p then fldN fs (fk 0x0C 4 0) else 2

/-- RX_MASK (element 0) or TX_MASK (element 1): as written, else bits 0 to SLOTS - 1. -/
def maskOf (p : Nat) (fs : Tab Int) (e : Nat) : Nat :=
  if !(isTdm p) then 3 else match Tab.get fs (fk 0x0C 12 e) with
    | some v => v.toNat
    | none => 2 ^ slotsOf p fs - 1

/-- BCLK of R531. -/
def bclkOf (p : Nat) (fs : Tab Int) : Nat :=
  fldN fs (fk 0x0C 3 0) * slotsOf p fs * (if isTdm p then fldN fs (fk 0x0C 5 0) else 32)

/-- The internal AMCLK frequency of a family (R534). -/
def amclk (fam : Nat) : Nat := if fam = 0 then 49152000 else 45158400

/-- Whether a port times its own frames from the timeline: a master or an AES3 output with CLOCK_SOURCE TIMELINE (R535). -/
def onTimeline (p : Nat) (fs : Tab Int) : Bool :=
  fld fs (fk 0x0C 1 0) == 0 && (isAesOut p || (isTdm p && fld fs (fk 0x0C 0 0) == 0))

/-- Rows of Table 10-1 that a port uses (R530). -/
def portRow (p r : Nat) : Bool :=
  if isTdm p then decide (r ≤ 18) else r == 3 || (r == 1 && isAesOut p) || (decide (13 ≤ r) && decide (r ≤ 18))

/-- Whether fields fit together (R530, R531, R535, R548); the rings of a HOST-mode port lie in windows of the owner function. -/
def portFieldsOk (s : State) (p : Nat) (fs : Tab Int) : Bool :=
  let f := fun r => fld fs (fk 0x0C r 0)
  let rate := f 3
  let slots := slotsOf p fs
  let w := packBytes (f 13).toNat * slots * (f 15).toNat
  let host := f 14 == 1
  let fam : Int := s.time.mclkFam
  (rate != noneV || isAesIn p) && (!(isAesIn p) || decide (32000 ≤ rate)) &&
    (!(isTdm p) || (decide (f 6 ≤ f 5) && (f 2 == 2 || slots == 2) && decide (bclkOf p fs ≤ 49152000)
      && decide (maskOf p fs 0 < 2 ^ slots) && decide (maskOf p fs 1 < 2 ^ slots))) &&
    (!(onTimeline p fs) || ((if fam = 0 then rate % 8000 == 0 else rate % 11025 == 0) && rate != noneV
      && amclk s.time.mclkFam % max 1 (bclkOf p fs) == 0)) &&
    (!host || (
      let o := getFn s s.host.owner
      (isAesOut p || inWindow o (fldN fs (fk 0x0C 16 0)) w true) && (isAesIn p || inWindow o (fldN fs (fk 0x0C 16 1)) w false)
        && inWindow o (fldN fs (fk 0x0C 16 2)) 16 true && inWindow o (fldN fs (fk 0x0C 16 2)) 16 false))

/-- The legs that name port `p` for input or output. -/
def portLegs (s : State) (p : Nat) : List Nat :=
  (objKeys s 3).filter fun l => legKind s l == 2 &&
    [15, 16].any fun r => ofldN s l (fk 0x01 r 0) != 0 && hIdx (ofldN s l (fk 0x01 r 0)) == p

/-- A bit of the channel-status CRC of AES3, reflected: x^8 + x^4 + x^3 + x^2 + 1 (PRESUMED, log entry 40). -/
def csCrcBit (c : Nat) : Nat := if c % 2 = 1 then (c / 2) ^^^ 0xB8 else c / 2

/-- The channel-status CRC over bytes 0 to 22, from all ones. -/
def csCrc (b : Bytes) : Nat := (b.take 23).foldl (fun c x => (List.range 8).foldl (fun c _ => csCrcBit c) (c ^^^ x.toNat)) 0xFF

/-- Channel status to be sent (R552): byte 0 bit 1 clear, the CRC in professional format. -/
def csSent (b : Bytes) : Bytes :=
  let a := padTo 23 b
  let b0 := clrBit (le a 0 1) 1
  let c := toLe 1 b0 ++ a.drop 1
  c ++ toLe 1 (if b0 % 2 = 1 then csCrc c else 0)

/-- The default of R552: professional, 48 kHz, 24 bits (PRESUMED encoding of AES3, log entry 40). -/
def csDefault : Bytes := csSent ([0x81, 0x00, 0x2C] ++ zeros 20)

/-- A port with new fields: it starts afresh, RUNNING when it times itself, else in HOLD until its clock is measured. -/
def startPort (p : Nat) (fs : Tab Int) (a : APort) : APort :=
  { a with
    fields := fs, st := if onTimeline p fs then 1 else 2, rate := 0, ratio := 0, rx := maskOf p fs 0, tx := maskOf p fs 1
    newMask := none, rxProd := 0, rxCons := 0, txCons := 0, txProd := 0, rxBuf := [], txBuf := [], since := 0, good := 0
    mute := none, gate := isAesIn p, last := []
    csOut := if isAesOut p ∧ a.csOut.1.isEmpty then (csDefault, csDefault) else a.csOut }

/-- PORT_CONFIG of an audio port (R528, R530). -/
def audioConfig (p : Nat) (es : List Entry) (s : State) : Ans :=
  let a := getAPort s p
  let fs := applyEntries a.fields es
  let change := es.any fun e => fRow e.key != 12 && fld a.fields e.key != e.val
  let busy := (portLegs s p).any fun l => match getObj s l with
    | some o => o.state == .active || o.state == .held
    | none => false
  checked (entryChecks es (fun k => fTable k == 0x0C && portRow p (fRow k)) ++
      [(portFieldsOk s p fs, .outOfRange), (!change || !busy, .busy)]) fun _ =>
    if change ∨ a.st = 0 then
      let legs := portLegs s p
      .ok [] 0 (legs.foldl (fun s l => setAud s l { getAud s l with prod := 0 }) (setAPort s p (startPort p fs a)))
    else .ok [] 0 (setAPort s p { a with fields := fs, newMask := some (maskOf p fs 0, maskOf p fs 1) })

/-- PORT_CONFIG (R527, R742). -/
def bodyPortConfig : Body := fun _ p _ s =>
  let es := entries p 8 (le p 6 2)
  match resolvePort (le p 0 4) with
  | none => .no .badHandle []
  | some i => if i < 8 then ethConfig i es s else if isAudioPort i then audioConfig i es s else .no .badHandle []

/-- The status of an audio port (Table 10-9). -/
def portStatus (s : State) (p : Nat) : Bytes :=
  let a := getAPort s p
  let muted := isAesIn p && (a.gate || (match a.mute with
    | some n => decide (n < 4096)
    | none => false))
  toLe 1 (a.st + 4 * b2n muted + 8 * b2n s.time.mclkAl) ++ zeros 3 ++ toLe 4 a.rate ++ toLe 4 a.rxProd ++ toLe 4 a.txCons
    ++ toLeI 4 a.ratio ++ toLe 4 a.rx ++ toLe 4 a.tx ++ zeros 4

/-- PORT_READ (R565, R742). -/
def bodyPortRead : Body := fun _ p _ s =>
  match resolvePort (le p 0 4) with
  | none => .no .badHandle []
  | some i =>
    if i < 8 then .ok (ethStatus s i) 0 s else if isAudioPort i then .ok (portStatus s i) 0 s else .no .badHandle []

/-- PORT_SLOTS (R539): the masks act at the first frame edge from now on. -/
def bodyPortSlots : Body := fun _ p _ s =>
  match resolvePort (le p 0 4) with
  | none => .no .badHandle []
  | some i =>
    let a := getAPort s i
    let n := slotsOf i a.fields
    checked [(isAudioPort i, .badHandle),
             (isTdm i && decide (le p 4 4 < 2 ^ n) && decide (le p 8 4 < 2 ^ n), .outOfRange)] fun _ =>
      .ok [] 0 (setAPort s i { a with
        fields := Tab.set (Tab.set a.fields (fk 0x0C 12 0) (le p 4 4)) (fk 0x0C 12 1) (le p 8 4)
        newMask := some (le p 4 4, le p 8 4) })

/-- AUDIO_CLOCK (R534). -/
def bodyAudioClock : Body := fun _ p _ s =>
  let busy := s.aud.ports.any fun e => e.2.st == 1 && onTimeline e.1 e.2.fields
  checked [(decide (le p 0 1 ≤ 1) && decide (1 ≤ le p 1 1) && decide (le p 1 1 ≤ 2) && decide (le p 2 1 ≤ 1), .outOfRange),
           (!busy, .busy)] fun _ =>
    .ok [] 0 (setTime s { s.time with
      mclkFam := le p 0 1, mclkMult := le p 1 1, mclkEn := le p 2 1 == 1
      mclkAl := s.time.mclkAl && le p 0 1 == s.time.mclkFam })

/-- AES3_READ (R549). -/
def bodyAes3Read : Body := fun _ p _ s =>
  match resolvePort (le p 0 4) with
  | some i =>
    if isAesIn i then .ok (padTo 24 (getAPort s i).cs.1 ++ padTo 24 (getAPort s i).cs.2) 0 s else .no .badHandle []
  | none => .no .badHandle []

/-- AES3_OUT_STATUS (R552). -/
def bodyAes3OutStatus : Body := fun _ p _ s =>
  match resolvePort (le p 0 4) with
  | some i =>
    if isAesOut i then
      .ok [] 0 (setAPort s i { getAPort s i with csOut := (csSent ((p.drop 8).take 23), csSent ((p.drop 32).take 23)) })
    else .no .badHandle []
  | none => .no .badHandle []

/-! ## Frames (R532, R533, R537 to R540, R544) -/

/-- Counts on an audio port. -/
def bumpAPort (s : State) (p : Nat) (c : Ctr) (n : Nat := 1) : State :=
  setAPort s p { getAPort s p with ctrs := bump (getAPort s p).ctrs c n }

/-- In HOST mode the device's index words go out after every INDEX_FRAMES frames, and at once after a drop or insertion
(R538). -/
def indexWrite (p : Nat) (now_ : Bool) (s : State) : State :=
  let a := getAPort s p
  if aprm s p 14 = 0 then s
  else
    let n := a.since + 1
    if now_ ∨ aprm s p 17 ≤ n then
      let w := fldN a.fields (fk 0x0C 16 2)
      updFn (setAPort s p { a with since := 0 }) s.host.owner fun f => { f with
        lastWr := some (if isAesOut p then (w + 8, toLe 4 a.txCons) else (w, toLe 4 a.rxProd)) }
    else setAPort s p { a with since := n }

/-- A frame enters the receive ring: in HOST mode it may find it full (R540); in GRAPH mode the converter takes it at once. -/
def rxFrame (p : Nat) (fr : List Int) (s : State) : State :=
  let a := getAPort s p
  let size := aprm s p 15
  if isAesOut p then s
  else if aprm s p 14 = 1 ∧ size ≤ a.rxProd - a.rxCons then indexWrite p true (bumpAPort s p .portRxOverrun)
  else
    let n := a.rxProd + 1
    indexWrite p false (setAPort s p { a with
      rxBuf := Tab.set a.rxBuf (a.rxProd % size) fr, rxProd := n, rxCons := if aprm s p 14 = 1 then a.rxCons else n })

/-- Whether the transmit ring of a GRAPH-mode port holds a frame, and whether a leg that has sent blocks finds it empty. -/
def graphTx (s : State) (p : Nat) : Bool × Bool :=
  let a := getAPort s p
  let ps := ((portLegs s p).filter fun l => isActive s l && hIdx (ofldN s l (fk 0x01 16 0)) == p).map fun l => (getAud s l).prod
  (ps.any fun n => decide (a.txCons < n), ps.any fun n => decide (0 < n) && decide (n ≤ a.txCons))

/-- The frame that leaves the transmit ring, with whether the consumer index moves and whether the ring was empty. `host` is
the frame that host memory holds at the consumer index. -/
def txFrame (p : Nat) (host : Bytes) (s : State) : List Int × Bool × Bool :=
  let a := getAPort s p
  let n := slotsOf p a.fields
  let zero := List.replicate n (0 : Int)
  let w := packBytes (aprm s p 13)
  if aprm s p 14 = 1 then
    if a.txCons < a.txProd then
      ((List.range n).map fun c => unpackSample (aprm s p 13) ((host.drop (c * w)).take w), true, false)
    else (zero, false, true)
  else
    let g := graphTx s p
    if g.1 then (Tab.getD a.txBuf (a.txCons % aprm s p 15) zero, true, false)
    else if g.2 then (zero, false, true)
    else (zero, true, false)

/-- The transmit side of a frame edge; a frame that a glitch cuts short is abandoned (R544). -/
def txEdge (p : Nat) (good : Bool) (host : Bytes) (s : State) : State :=
  if isAesIn p then s
  else
    let a := getAPort s p
    let r := txFrame p host s
    let d16 := isTdm p && aprm s p 6 == 16
    let pins := ((List.range r.1.length).zip r.1).map fun e =>
      if bitOf a.tx e.1 && good then (if d16 then e.2 / 256 else e.2) else 0
    let s1 := setAPort s p { a with
      out := pins, txCons := if r.2.1 then a.txCons + 1 else a.txCons
      txBuf := if aprm s p 14 = 0 then Tab.del a.txBuf (a.txCons % aprm s p 15) else a.txBuf }
    if r.2.2 then indexWrite p true (bumpAPort s1 p .portTxUnderrun)
    else if isAesOut p then indexWrite p false s1 else s1

/-- Writes AES3_NONAUDIO (R551). -/
def nonaudio (p begins src : Nat) (s : State) : State := emit .owner 0x082 (portHandle p) (toLe 1 begins ++ toLe 1 src) s

/-- Whether an AES3 input is muted for the frame at hand (R551). -/
def APort.muted (a : APort) : Bool :=
  a.gate || match a.mute with
    | some n => decide (n < 4096)
    | none => false

/-- A detection of non-audio payload (R550): the frames after it are muted. -/
def aesDetect (p src : Nat) (s : State) : State :=
  let a := getAPort s p
  let s1 := setAPort s p { a with mute := some 0 }
  if a.muted then s1 else nonaudio p 1 src s1

/-- The receive side of a frame edge of an AES3 input (R548, R550, R551). -/
def aesRx (p : Nat) (f : AudFrame) (s : State) : State :=
  let a := getAPort s p
  let v := (List.range 2).map fun c =>
    if f.par.contains c then a.last[c]?.getD 0 else signed 24 (wrap 24 (f.smp[c]?.getD 0))
  let s1 := bumpAPort (bumpAPort s p .aes3Parity f.par.length) p .aes3Validity f.val.length
  let s2 := setAPort s1 p { getAPort s1 p with last := v, mute := a.mute.map (· + 1) }
  let s3 := rxFrame p (if a.muted then [0, 0] else v) (if a.muted then bumpAPort s2 p .aes3NonaudioFrames else s2)
  if wrap 24 (v[0]?.getD 0) / 256 = 0xF872 ∧ wrap 24 (v[1]?.getD 0) / 256 = 0x4E1F then aesDetect p 1 s3 else s3

/-- The receive side of a frame edge of a TDM port (R533, R539). -/
def tdmRx (p : Nat) (f : AudFrame) (s : State) : State :=
  let a := getAPort s p
  let v := (List.range (slotsOf p a.fields)).map fun c =>
    let x := f.smp[c]?.getD 0
    if bitOf a.rx c then (if aprm s p 6 = 16 then signed 16 (wrap 16 x) * 256 else signed 24 (wrap 24 x)) else 0
  rxFrame p v s

/-- AUDIO_FRAME_EDGE (R532): a frame is exchanged at port `p`. New masks act from here (R539). In HOLD and FAULT the edge only
counts towards a measurement of the clock that has returned (R545). -/
def execAudioFrameEdge (p : Nat) (f : AudFrame) (s : State) : Out :=
  onPart (isAudioPort p) s fun s =>
    let a := getAPort s p
    let n := if f.good then a.good + 1 else 0
    if a.st = 0 then s
    else if a.st ≠ 1 then setAPort s p { a with good := n }
    else
      let m := a.newMask.getD (a.rx, a.tx)
      let s1 := setAPort s p { a with good := n, rx := m.1, tx := m.2, newMask := none }
      let s2 := if f.good then (if isAesIn p then aesRx p f s1 else tdmRx p f s1)
        else rxFrame p (List.replicate (slotsOf p a.fields) 0) (bumpAPort s1 p .portGlitch)
      txEdge p f.good f.host s2

/-! ## Clock faults (R541 to R547) -/

/-- Writes PORT_CLOCK with the port's state. -/
def portClock (p : Nat) (s : State) : State :=
  let a := getAPort s p
  emit .owner 0x080 (portHandle p) (toLe 1 a.st ++ zeros 3 ++ toLe 4 a.rate) s

/-- PORT_CLOCK_LOSS (R542): the clock of a port that takes it from outside has stopped. -/
def execPortClockLoss (p : Nat) (s : State) : Out :=
  onPart (isAudioPort p) s fun s =>
    let a := getAPort s p
    guarded ((a.st == 1 || a.st == 3) && !(onTimeline p a.fields)) s fun s =>
      portClock p (bumpAPort (setAPort s p { a with st := 2, good := 0, out := a.out.map fun _ => 0 }) p .portHolds)

/-- PORT_HOLD_FRAME (R543): in HOLD and FAULT a zero frame enters the receive ring and a transmit frame is discarded. -/
def execPortHoldFrame (p : Nat) (s : State) : Out :=
  onPart (isAudioPort p) s fun s =>
    let a := getAPort s p
    guarded (a.st == 2 || a.st == 3) s fun s =>
      let s1 := rxFrame p (List.replicate (slotsOf p a.fields) 0) s
      let b := getAPort s1 p
      let some_ := if aprm s1 p 14 = 1 then decide (b.txCons < b.txProd) else true
      if isAesIn p || !some_ then s1
      else setAPort s1 p { b with
        txCons := b.txCons + 1, txBuf := if aprm s1 p 14 = 0 then Tab.del b.txBuf (b.txCons % aprm s1 p 15) else b.txBuf }

/-- Whether a measured rate in 1/16 Hz lies within 0.5 % of a rate (R545). -/
def nearRate (r rate : Nat) : Bool := decide (200 * ((r : Int) - 16 * rate).natAbs ≤ 16 * rate)

/-- The nominal rate that a measurement fits: RATE, or for AUTO a rate of Table 10-1 from 32 kHz up (R547). -/
def fitRate (s : State) (p r : Nat) : Option Nat :=
  let v := fld (getAPort s p).fields (fk 0x0C 3 0)
  if v = noneV then [32000, 44100, 48000, 88200, 96000, 176400, 192000].find? (nearRate r)
  else if nearRate r v.toNat then some v.toNat else none

/-- PORT_RATE_MEASURE (R545 to R547): 32 frames of correct length gave rate `r` in 1/16 Hz. -/
def execPortRateMeasure (p r : Nat) (s : State) : Out :=
  onPart (isAudioPort p && decide (r < 2 ^ 32)) s fun s =>
    let a := getAPort s p
    guarded (a.st != 0 && decide (32 ≤ a.good) && !(onTimeline p a.fields)) s fun s =>
      match fitRate s p r with
      | some n =>
        let b := { a with rate := r, good := 0, ratio := ((r : Int) - 16 * n) * 100000000 / (16 * n) }
        if a.st = 1 then setAPort s p b
        else
          let s1 := setAPort s p { b with st := 1, gate := isAesIn p, mute := none }
          if isAesIn p then nonaudio p 1 0 s1 else s1
      | none =>
        let b := { a with rate := r, good := 0 }
        if a.st = 3 then setAPort s p b
        else portClock p (bumpAPort (setAPort s p { b with st := 3, out := a.out.map fun _ => 0 }) p .portRateFail)

/-! ## AES3 (R549 to R551) -/

/-- Whether a channel-status block is accepted. -/
def csOk (b : Bytes) : Bool := decide (b.length = 24) && (le b 0 1 % 2 == 0 || le b 23 1 == csCrc b)

/-- Whether bytes 0 to 3 of a new block differ from those of the accepted one before it. -/
def csDiffers (new_ old : Bytes) : Bool := new_.take 4 != old.take 4

/-- AES3_CS_BLOCK (R549 to R551): the channel-status blocks of an input are complete. -/
def execAes3CsBlock (p : Nat) (a b : Bytes) (s : State) : Out :=
  onPart (isAesIn p) s fun s =>
    let q := getAPort s p
    guarded (q.st == 1) s fun s =>
      let okA := csOk a
      let okB := csOk b
      let s1 := bumpAPort s p .aes3CsCrc (b2n (!okA) + b2n (!okB))
      let s2 := setAPort s1 p { getAPort s1 p with cs := (if okA then a else q.cs.1, if okB then b else q.cs.2) }
      let dA := okA && csDiffers a q.cs.1
      let dB := okB && csDiffers b q.cs.2
      let free := match q.csAt with
        | some t => decide (t + tS ≤ s.time.ticks)
        | none => true
      let s3 := if (dA || dB) && free then
          emit .owner 0x081 (portHandle p) (toLe 1 (if dA then 0 else 1) ++ zeros 3 ++ (if dA then a else b).take 4)
            (setAPort s2 p { getAPort s2 p with csAt := some s.time.ticks })
        else s2
      let bad := (okA && bitOf (le a 0 1) 1) || (okB && bitOf (le b 0 1) 1)
      if bad then aesDetect p 0 s3
      else
        let g := getAPort s3 p
        if g.gate && (okA || okB) && g.mute.isNone then nonaudio p 0 0 (setAPort s3 p { g with gate := false }) else s3

/-- AES3_NONAUDIO_END (R551): 4,096 frames have passed without a detection. -/
def execAes3NonaudioEnd (p : Nat) (s : State) : Out :=
  onPart (isAesIn p) s fun s =>
    let a := getAPort s p
    guarded (match a.mute with
      | some n => decide (4096 ≤ n)
      | none => false) s fun s =>
        let s1 := setAPort s p { a with mute := none }
        if a.gate then s1 else nonaudio p 0 0 s1

/-- PORT_CONFIG. -/
def execPortConfig (src : Src) (s : State) : Out := serve 0x0300 src [] bodyPortConfig s
/-- PORT_READ. -/
def execPortRead (src : Src) (s : State) : Out := serve 0x0301 src [] bodyPortRead s
/-- PORT_SLOTS. -/
def execPortSlots (src : Src) (s : State) : Out := serve 0x0302 src [] bodyPortSlots s
/-- AUDIO_CLOCK. -/
def execAudioClock (src : Src) (s : State) : Out := serve 0x0303 src [] bodyAudioClock s
/-- AES3_READ. -/
def execAes3Read (src : Src) (s : State) : Out := serve 0x0304 src [] bodyAes3Read s
/-- AES3_OUT_STATUS. -/
def execAes3OutStatus (src : Src) (s : State) : Out := serve 0x0305 src [] bodyAes3OutStatus s

end Sys2Proof.Machine
end

