-- ==== Sys2Proof/Machine/Correct.lean ====
section
/-!
DEFINITION. Steps and corrections of the PHC (R112 to R116, Table 2-9), holdover and references (R118 to R121), PPS
(R122, R123), the servo (R130), and the time commands (Table 15-7).
-/

namespace Sys2Proof.Machine

open Sys2Proof

/-! ## Steps -/

/-- The streams of a step: after a forward step, blocks that would have played are discarded, and outgoing audio timestamps
advance by the samples of the skipped mix periods (Table 2-9). -/
def stepStreams (T T' : Nat) (s : State) : State :=
  (objKeys s 4).foldl (fun s x =>
    if !(isActive s x) || isVideo s x then s
    else if isOut s x then
      if streamRole s x = 0 && !(isAes67 s x) then
        let P := mixPeriod s (confOfLeg s (legOfStream s x))
        let d := getStream s x
        let clk := codecClock (ofldN s x (fk 0x06 0 0) + 1)
        setStream s x { d with outTs := (d.outTs + (T' / P - T / P) * P * clk / secNs) % 2 ^ 32 }
      else s
    else jbSkip x (now s) s) s

/-- A backward step of `d` ns moves the boundaries for which changes wait. -/
def stepPends (T T' : Nat) (s : State) : State :=
  if T ≤ T' then s
  else setObjs s (s.obj.objs.map fun e => (e.1, { e.2 with
    pend := e.2.pend.map fun p => { p with due := if p.due = 0 then 0 else max 1 (p.due - (T - T')) } }))

/-- What a step does to media: jitter buffers, outgoing audio, rungs and governors of a forward step (Table 2-9). -/
def stepMedia (T T' : Nat) (s : State) : State :=
  if T ≤ T' then stepRungs T T' (stepGovernors (T' - T) (stepStreams T T' s)) else s

/-- A step of the PHC by `c` in 2^-32 ns (R83, R116, Table 2-9). -/
def applyStep (c : Int) (s : State) : State :=
  let T := phcNs s.time
  let phc' := wrap 112 ((s.time.phc : Int) + c) % phcMod
  let T' := phc' / 2 ^ 32
  let fwd := decide (0 ≤ c)
  let t := s.time
  let t1 : TimePart := { t with
    phc := phc'
    slew := 0
    stepped := true
    eOff := if fwd then t.eOff else t.eOff - ((T - T' : Nat) : Int)
    ePrev := if fwd then t.ePrev else some t.eOff
    epoch := if fwd then t.epoch else (t.epoch + 1) % 2 ^ 32
    strokeNext := boundaryStep strokeNs T T' t.strokeNext
    skip := if fwd then (T, T') else (0, 0)
    ppsNext := T' / secNs + 1
    mclkAl := false
    frames := framesStep T T' t.frames
    ctrs := if fwd then bump t.ctrs .skippedStrokes (T' / strokeNs - T / strokeNs) else t.ctrs }
  let s1 := stepGates T T' (stepAnchors T T' (stepFrames T T' (stepConfs T T' (stepPends T T' (setTime s t1)))))
  stepEvent T T' (setTime (stepMedia T T' s1) t1)

/-! ## Corrections -/

/-- What the device does with a correction: 0 slew, 1 forward step, 2 backward step (Table 15-7). -/
def actionOf (s : State) (sum : Int) : Nat :=
  if sum.natAbs < (timePrm s 3).toNat * 2 ^ 32 then 0 else if 0 < sum then 1 else 2

/-- The remaining correction that a new one is added to (R113, R114), in 2^-32 ns. -/
def remaining (s : State) : Int := s.time.slew + s.time.deferred.getD 0

/-- Takes a correction of `c` ns (R112 to R114) and answers the action. -/
def takeCorrection (c : Int) (s : State) : Nat × State :=
  let sum := c * 2 ^ 32 + remaining s
  let a := actionOf s sum
  if a = 0 then (0, setTime s { s.time with slew := sum, deferred := none })
  else if s.time.stepped then (a, setTime s { s.time with slew := 0, deferred := some sum })
  else (a, applyStep sum (setTime s { s.time with slew := 0, deferred := none }))

/-- DEFERRED_STEP_APPLY at a stroke boundary (R114). -/
def applyDeferred (s : State) : State :=
  let s1 := setTime s { s.time with stepped := false }
  match s.time.deferred with
  | some c => applyStep c (setTime s1 { s1.time with deferred := none })
  | none => s1

/-- A correction has been applied: FREERUN or HOLDOVER ends with TIME_LOCKED (R120). -/
def corrected (c : Int) (s : State) : State :=
  let t := s.time
  let s1 := setTime s { t with lastCorr := t.ticks }
  if t.tstate = .locked then s1
  else
    let dur := if t.tstate = .holdover then (t.ticks - t.holdAt) * 5 / 4 else 0
    emit .all 0x014 0 (toLeI 8 c ++ toLe 8 dur)
      (setTime s1 { s1.time with tstate := .locked, lockedAt := t.ticks, holdLate := none })

/-- Whether a PHC_INCR value is accepted (R81). -/
def incrOk (v : Nat) : Bool := decide (0x13FAE147B ≤ v) && decide (v ≤ 0x14051EB85)

/-- Puts an increment in force and keeps the history of the last 16 s (R82, R119). -/
def setIncr (v : Nat) (s : State) : State :=
  let t := s.time
  let old := t.incrs.filter fun e => decide (t.ticks < e.2 + 16 * tS)
  let base := ((t.incrs.filter fun e => !(decide (t.ticks < e.2 + 16 * tS))).getLast?).toList
  setTime s { t with incr := v, incrs := base ++ old ++ [(v, t.ticks)] }

/-- Increment times ticks, and ticks, of a history over [from_, to_]; each entry lasts until the next begins. -/
def incrSum (from_ to_ : Nat) : List (Nat × Nat) → Nat × Nat
  | [] => (0, 0)
  | [(v, a)] => let w := to_ - max a from_; (v * w, w)
  | (v, a) :: (v', a') :: l =>
    let w := min to_ a' - max a from_
    let r := incrSum from_ to_ ((v', a') :: l)
    (v * w + r.1, w + r.2)

/-- The time-weighted mean of the increment over the last 16 s, or since LOCKED, rounded to the nearest unit (R119). -/
def meanIncr (s : State) : Nat :=
  let t := s.time
  let w := min (16 * tS) (t.ticks - t.lockedAt)
  let r := incrSum (t.ticks - w) t.ticks t.incrs
  if r.2 = 0 then t.incr else (r.1 + r.2 / 2) / r.2

/-- Enters holdover (R119). With HOLDOVER_REF CLK10M and a valid CLK10M_IN the increment is steered instead. -/
def enterHoldover (s : State) : State :=
  let steer := timePrm s 6 == 1 && s.time.clk10m
  let s1 := if steer then s else setIncr (meanIncr s) s
  emit .all 0x013 0 (toLe 8 s1.time.incr)
    (setTime s1 { s1.time with tstate := .holdover, holdAt := s1.time.ticks, steerAt := s1.time.ticks })

/-- Whether the conditions of R118 for holdover hold. -/
def holdoverDue (s : State) : Bool :=
  s.time.tstate == .locked &&
  (match timeOwner s with
   | some _ => decide (max s.time.lastCorr s.time.ownedAt + nsTicks (timePrm s 5).toNat ≤ s.time.ticks)
   | none => !(timePrm s 1 == 5) || !s.time.ppsIn)

/-- HOLDOVER_ENTRY (R118, R119, Table 2-11): under firmware ownership the command says that no parent clock is left on
any port; `clk` says whether CLK10M_IN is valid. While the sequencer runs alone the increment stays, and the event
waits for firmware with the media time of detection. -/
def execHoldoverEntry (clk : Bool) (s : State) : Out :=
  live s (fun s => guarded (holdoverDue s && s.time.holdLate.isNone) s fun s =>
    let s1 := setTime s { s.time with clk10m := clk }
    if s.time.alone then setTime s1 { s1.time with holdLate := some (now s) } else enterHoldover s1)

/-- HOLDOVER_STEER (R119): once a second in holdover the increment takes the value `v` at which the PHC follows
CLK10M_IN. -/
def execHoldoverSteer (v : Nat) (s : State) : Out :=
  live s (fun s => guarded (s.time.tstate == .holdover && timePrm s 6 == 1 && s.time.clk10m && incrOk v
      && decide (s.time.steerAt + tS ≤ s.time.ticks)) s fun s =>
    let s1 := setIncr v s
    setTime s1 { s1.time with steerAt := s1.time.ticks })

/-- REF_LOST (R121): input 0 CLK10M_IN, 1 PPS_IN has stopped. -/
def execRefLost (input : Nat) (s : State) : Out :=
  onPart (decide (input < 2)) s fun s =>
    emit .owner 0x015 0 (toLe 1 input)
      (if input = 0 then setTime s { s.time with clk10m := false } else setTime s { s.time with ppsIn := false })

/-! ## Reference inputs and outputs -/

/-- PPS_OUT_EDGE (R122): the PHC has passed a second boundary. -/
def execPpsOutEdge (s : State) : Out :=
  live s (fun s => guarded (decide (s.time.ppsNext * secNs ≤ phcNs s.time)) s fun s =>
    let t := s.time
    let t1 := { t with ppsNext := phcNs t / secNs + 1 }
    let near := match t.ppsLast with
      | some l => decide (t.ticks < l + 500 * tMs)
      | none => false
    if !t.ppsEn then setTime s t1
    else if near then setTime s { t1 with ctrs := bump t.ctrs .ppsSuppressed }
    else setTime s { t1 with ppsLast := some t.ticks, ppsOut := true })

/-- The correction that a PPS_IN edge calls for in EXTERNAL_PPS (R99, R739): to the second supplied by TIME_SET, and
from then on to the nearest second. -/
def ppsCorrection (s : State) : Option Int :=
  let n := phcNs s.time
  match s.time.extSec with
  | some sec => some ((sec * secNs : Nat) - (n : Int))
  | none => if s.time.ppsKnown then some (((n + secNs / 2) / secNs * secNs : Nat) - (n : Int)) else none

/-- PPS_IN_STAMP (R123): a rising edge of PPS_IN is stamped and delivered to the time owner; in EXTERNAL_PPS firmware
takes it as a correction. -/
def execPpsInStamp (s : State) : Out :=
  live s (fun s =>
    let t := s.time
    let s1 := setTime s { t with ppsIn := true }
    match timeOwner s with
    | some F =>
      emit (.fn F) 0x016 0 (toLe 6 (phcNs t / secNs) ++ toLe 2 (t.phc % 2 ^ 32 / 65536) ++ toLe 4 (phcNs t % secNs)
        ++ toLe 4 t.epoch) s1
    | none =>
      if timePrm s 1 == 5 && s.host.dev == .ready then
        match ppsCorrection s with
        | some c =>
          let s2 := (takeCorrection c s1).2
          corrected c (setTime s2 { s2.time with extSec := none, ppsKnown := true })
        | none => s1
      else s1)

/-- The alignment counters after one servo update with offset `off` (R130). -/
def alignUpdate (off : Int) (s : State) : State :=
  let t := s.time
  if (timePrm s 7).toNat < off.natAbs then
    let n := min 16 (t.alignBad + 1)
    let s1 := setTime s { t with alignBad := n, alignGood := 0, alignLost := t.alignLost || n == 16 }
    if n = 16 ∧ !t.alignLost then emit .all 0x017 0 (toLeI 8 off) s1 else s1
  else
    let n := min 16 (t.alignGood + 1)
    let s1 := setTime s { t with alignGood := n, alignBad := 0, alignLost := t.alignLost && n != 16 }
    if n = 16 ∧ t.alignLost then emit .all 0x018 0 (toLeI 8 off) s1 else s1

/-- FIRMWARE_SERVO_UPDATE (R99, R112, R120, R130): under firmware ownership, with firmware running, an update with
offset `off` from the parent applies the correction `c` and the increment `v`. -/
def execFirmwareServoUpdate (off c : Int) (v : Nat) (s : State) : Out :=
  live s (fun s => guarded ((timeOwner s).isNone && s.host.dev == .ready && !(timePrm s 1 == 5)) s fun s =>
    let s1 := if incrOk v && v != s.time.incr then setIncr v s else s
    alignUpdate off (corrected c (takeCorrection c s1).2))

/-- MCLK_ALIGNED (R125): the phase of MCLK_OUT has reached the second grid again. -/
def execMclkAligned (s : State) : Out := live s fun s => setTime s { s.time with mclkAl := true }

/-! ## Time commands (Table 15-7) -/

/-- The remaining slew in whole ns, toward zero. -/
def slewNs (t : TimePart) : Int := if 0 ≤ t.slew then (t.slew.natAbs / 2 ^ 32 : Nat) else -((t.slew.natAbs / 2 ^ 32 : Nat) : Int)

/-- The code of a time state (Table 2-3). -/
def TState.code : TState → Nat
  | .freerun => 0
  | .locked => 1
  | .holdover => 2

/-- TIME_GET (R79, R85). -/
def bodyTimeGet : Body := fun _ _ _ s =>
  let t := s.time
  .ok (phcBytes t.phc ++ toLe 8 (mediaTime t) ++ toLe 4 t.epoch ++ toLe 1 t.tstate.code ++ toLe 1 (b2n t.mclkAl)
    ++ toLeI 2 t.utc ++ toLeI 8 (slewNs t) ++ toLe 8 t.incr) 0 s

/-- Removes the rings of a function that stops owning time (R719). -/
def dropTimeRings (F : Nat) (s : State) : State :=
  updFn s F fun f => { f with hrings := Tab.del (Tab.del f.hrings 2) 3 }

/-- TIME_CONFIG (R96, R97, R111). -/
def bodyTimeConfig : Body := fun _ p _ s =>
  let es := entries p 8 (le p 6 2)
  let prm := applyEntries s.time.prm es
  let own := fld prm (fk 0x0B 0 0)
  let eq := fld prm (fk 0x0B 8 0)
  let eqNamed := es.any fun e => e.key = fk 0x0B 8 0
  checked (entryChecks es (fun k => fTable k == 0x0B) ++ [
    (own = noneV || decide (own < nFuncs s), .outOfRange),
    (!eqNamed || eq = noneV || (own ≠ noneV && Tab.has (getFn s own.toNat).queues eq.toNat), .outOfRange)]) fun _ =>
    let s1 := setTime s { s.time with prm := prm }
    if own = fld s.time.prm (fk 0x0B 0 0) then .ok [] 0 s1
    else
      let s2 := setTime s1 { s1.time with ownedAt := s1.time.ticks }
      .ok [] 0 (match timeOwner s with
        | some F => dropTimeRings F s2
        | none => s2)

/-- The result of TIME_SET and TIME_ADJ_PHASE: the correction and the action (R740). -/
def corrBytes (c : Int) (a : Nat) : Bytes := toLeI 8 c ++ toLe 1 a ++ zeros 7

/-- TIME_SET (R112, R739, R740). -/
def bodyTimeSet : Body := fun F p _ s =>
  let sec := le p 0 6
  let ns := le p 8 4
  checked [(decide (ns < secNs), .outOfRange)] fun _ =>
    if timeOwner s = some F then
      let c : Int := (sec * secNs + ns : Nat) - (phcNs s.time : Int)
      let r := takeCorrection c s
      .ok (corrBytes c r.1) 0 (corrected c r.2)
    else
      let c : Int := (sec * secNs : Nat) - (phcNs s.time : Int)
      .ok (corrBytes c (actionOf s (c * 2 ^ 32 + remaining s))) 0 (setTime s { s.time with extSec := some sec })

/-- TIME_ADJ_FREQ (R81, R82, R120). -/
def bodyTimeAdjFreq : Body := fun _ p _ s =>
  checked [(incrOk (le p 0 8), .outOfRange)] fun _ => .ok [] 0 (corrected 0 (setIncr (le p 0 8) s))

/-- TIME_ADJ_PHASE (R112, R740). -/
def bodyTimeAdjPhase : Body := fun _ p _ s =>
  let c := signed 64 (le p 0 8)
  let r := takeCorrection c s
  .ok (corrBytes c r.1) 0 (corrected c r.2)

/-- PORT_TIME_CORR (R89). -/
def bodyPortTimeCorr : Body := fun _ p _ s =>
  checked [(decide (le p 0 1 < 8) && decide (le p 1 1 < 4), .outOfRange)] fun _ =>
    .ok [] 0 (updPort s (le p 0 1) fun e => { e with
      corr := setAt e.corr (le p 1 1) (signed 32 (le p 4 4), signed 32 (le p 8 4)) })

/-- PPS_CONFIG (R122). -/
def bodyPpsConfig : Body := fun _ p _ s =>
  let w := le p 0 8
  checked [(decide (1000 ≤ w) && decide (w ≤ 500000000), .outOfRange)] fun _ =>
    .ok [] 0 (setTime s { s.time with ppsWidth := w, ppsEn := bitOf (le p 8 1) 0 })

/-- UTC_OFFSET_SET (R78). -/
def bodyUtcOffsetSet : Body := fun _ p _ s => .ok [] 0 (setTime s { s.time with utc := signed 16 (le p 0 2) })

/-- TIME_GET. -/
def execTimeGet (src : Src) (s : State) : Out := serve 0x0200 src [] bodyTimeGet s
/-- TIME_CONFIG. -/
def execTimeConfig (src : Src) (s : State) : Out := serve 0x0201 src [] bodyTimeConfig s
/-- TIME_SET. -/
def execTimeSet (src : Src) (s : State) : Out := serve 0x0202 src [] bodyTimeSet s
/-- TIME_ADJ_FREQ. -/
def execTimeAdjFreq (src : Src) (s : State) : Out := serve 0x0203 src [] bodyTimeAdjFreq s
/-- TIME_ADJ_PHASE. -/
def execTimeAdjPhase (src : Src) (s : State) : Out := serve 0x0204 src [] bodyTimeAdjPhase s
/-- PORT_TIME_CORR. -/
def execPortTimeCorr (src : Src) (s : State) : Out := serve 0x0205 src [] bodyPortTimeCorr s
/-- PPS_CONFIG. -/
def execPpsConfig (src : Src) (s : State) : Out := serve 0x0206 src [] bodyPpsConfig s
/-- UTC_OFFSET_SET. -/
def execUtcOffsetSet (src : Src) (s : State) : Out := serve 0x0207 src [] bodyUtcOffsetSet s

end Sys2Proof.Machine
end

