-- ==== Sys2Proof/Machine/Memory.lean ====
section
/-!
DEFINITION. Carcass (chapter 13): address mapping (R646), request queues and their pick (R647 to R649), refresh,
power-down and self-refresh (R652 to R654), drift and retraining (R659, R660), errors, poison and the log (R661 to R668),
extents and their isolation (R669 to R672), status (R673), and the memory commands of Tables 15-6 and 15-19.
-/

namespace Sys2Proof.Machine

open Sys2Proof

/-! ## Address mapping (R644, R646) -/

/-- Bytes of one channel (Table 13-1): kind 0 ×4, 1 ×8 with one rank, 2 ×8 with two ranks. -/
def chanBytes (s : State) : Nat := (if s.mem.kind = 1 then 16 else 32) * 2 ^ 30

/-- Ranks of a channel. -/
def nRanks (s : State) : Nat := if s.mem.kind = 2 then 2 else 1

/-- The set that holds a DPA and the set's base. -/
def setOf (cap : Nat) : List MemSet → Nat → Nat → Option (MemSet × Nat)
  | [], _, _ => none
  | k :: t, b, a => if a < b + k.n * cap then some (k, b) else setOf cap t (b + k.n * cap) a

/-- Where a line lies: channel, subchannel, rank, bank group, bank, row. -/
structure DramLoc where
  ch   : Nat
  sub  : Nat
  rank : Nat
  bg   : Nat
  ba   : Nat
  row  : Nat

/-- The map of R646. -/
def dramMap (s : State) (a : Nat) : Option DramLoc :=
  (setOf (chanBytes s) s.mem.sets 0 a).map fun kb =>
    let off := a - kb.2
    let g := 2 ^ kb.1.lg
    let ca := off / (g * kb.1.n) * g + off % g
    let line := ca / 64
    let row := if nRanks s = 2 then line / 2 ^ 13 else line / 2 ^ 12
    { ch := kb.1.first + off / g % kb.1.n, sub := line % 2, rank := if nRanks s = 2 then line / 2 ^ 12 % 2 else 0
      bg := Nat.xor (line / 2 ^ 7 % 8) (row % 8), ba := line / 2 ^ 10 % 4, row := row }

/-- Replaces the memory controller. -/
def setMem (s : State) (m : MemPart) : State := { s with mem := m }

/-- Counts on a channel. -/
def bumpMem (s : State) (ch : Nat) (c : Ctr) : State :=
  setMem s { s.mem with ctrs := Tab.set s.mem.ctrs ch (bump (Tab.getD s.mem.ctrs ch []) c) }

/-- A memory timer (Table 13-4) in force. -/
def mprm (s : State) (r : Nat) : Nat := fldN s.mem.prm (fk 0x0F r 0)

/-! ## The error log (R667, R668) -/

/-- The partition whose extent holds a DPA; none for device memory. -/
def extentPart (s : State) (a : Nat) : Option Nat := (Tab.get s.mem.extents (a / 2097152)).bind (·.owner)

/-- A log entry's 32 bytes (Table 13-6); `hide` clears what R668 withholds from a tenant. -/
def MemErr.bytes (e : MemErr) (hide : Bool) : Bytes :=
  let w0 := e.typ + 8 * e.ch + 64 * e.sub + 128 * e.rank + 256 * e.bg + 2048 * e.ba + 8192 * e.unit + 131072 * e.req
    + (if e.part.isNone then 2097152 else 0) + 16777216 * e.part.getD 0
  toLe 4 w0 ++ (if hide then zeros 16 else toLe 5 e.dpa ++ toLe 2 (e.row % 65536) ++ toLe 1 (e.row / 65536 % 2) ++ toLe 8 e.syn)
    ++ toLe 8 e.mt ++ zeros 4

/-- Whether an entry is of a corrected error. -/
def MemErr.corrected (e : MemErr) : Bool := e.typ == 1 || e.typ == 3

/-- Adds an entry (R667): a full log gives up its oldest corrected entry for an uncorrectable one. -/
def logAdd (e : MemErr) (s : State) : State :=
  let l := s.mem.log
  if l.length < 512 then setMem s { s.mem with log := l ++ [e] }
  else if e.corrected || !(l.any MemErr.corrected) then bumpMem s e.ch .logLost
  else
    let i := l.findIdx MemErr.corrected
    setMem s { s.mem with log := l.take i ++ l.drop (i + 1) ++ [e] }

/-- MEM_ERROR (R668): whole to the owner function, without addresses to the partition's functions. -/
def memError (e : MemErr) (s : State) : State :=
  let h := match e.part with
    | some p => partHandle s p
    | none => 0
  let s1 := emit .owner 0x0A0 h ((e.bytes false).take 16) s
  match e.part with
  | some p => ((partFns s p).filter (· != s.host.owner)).foldl (fun s F => emit (.fn F) 0x0A0 h ((e.bytes true).take 16) s) s1
  | none => s1

/-- The entry of an error at a DPA. -/
def errAt (s : State) (typ sym req a syn : Nat) : MemErr :=
  let l := (dramMap s a).getD { ch := 0, sub := 0, rank := 0, bg := 0, ba := 0, row := 0 }
  { typ := typ, ch := l.ch, sub := l.sub, rank := l.rank, bg := l.bg, ba := l.ba, unit := sym, req := req
    part := extentPart s a, dpa := a / 64 * 64, row := l.row, syn := syn, mt := now s }

/-- The key of a correction unit or lane. -/
def unitKey (e : MemErr) : Nat := e.ch * 64 + e.sub * 32 + e.rank * 16 + e.unit

/-- A corrected error (R662, R667): counted on the channel and the unit, logged at most once per unit and second;
MEM_DEVICE_DEGRADED at 64 in one scrub interval. -/
def correctedAt (e : MemErr) (s : State) : State :=
  let k := unitKey e
  let s1 := bumpMem s e.ch .dramCe
  let n := Tab.getD s1.mem.ce k 0 + 1
  let w := mprm s 3 * 3600 * tS
  let base := match Tab.get s1.mem.ceBase k with
    | some b => if w = 0 ∨ s.time.ticks < b.1 + w then b else (s.time.ticks, n - 1)
    | none => (s.time.ticks, n - 1)
  let s2 := setMem s1 { s1.mem with ce := Tab.set s1.mem.ce k n, ceBase := Tab.set s1.mem.ceBase k base }
  let s3 := if 64 ≤ n - base.2 && !(s2.mem.ceDone.contains k) then
      emit .owner 0x0A1 0 (toLe 1 e.ch ++ toLe 1 e.sub ++ toLe 1 e.rank ++ toLe 1 e.unit ++ toLe 4 n)
        (setMem s2 { s2.mem with ceDone := k :: s2.mem.ceDone })
    else s2
  match Tab.get s3.mem.ceLog k with
  | some t => if s.time.ticks < t + tS then s3 else logAdd e (setMem s3 { s3.mem with ceLog := Tab.set s3.mem.ceLog k s.time.ticks })
  | none => logAdd e (setMem s3 { s3.mem with ceLog := Tab.set s3.mem.ceLog k s.time.ticks })

/-! ## Poison (R664 to R666) -/

/-- Marks or clears a poisoned line. -/
def setPoison (a : Nat) (bad : Bool) (s : State) : State :=
  let l := s.mem.poisoned.filter (· != a / 64)
  setMem s { s.mem with poisoned := if bad then a / 64 :: l else l }

/-- What a requester does with poison (R666): the packet engine drops its packet on port `who`, Batten the items of a page of
queue `who`, a DSP core faults the audio of leg `who` (a handle), Bench the object with handle `who` (R768). The engines,
compositors and the display meet poison in their own commands. -/
def poisonTo (req who : Nat) (s : State) : State :=
  match req with
  | 2 => if hType who = 3 then audioFault (hKey who) 0x02 0xFFFF 1 0 s else s
  | 3 => bumpPort s (who % 8) .poisonDrop
  | 4 => qPoisonPage who s
  | 5 => match getObj s (hKey who) with
    | some o => if objHandle (hKey who) o = who then faultObject (hKey who) s else s
    | none => s
  | _ => s

/-- The handle a poisoned access of Bench or a DSP core concerns. -/
def poisonObj (req who : Nat) : Nat := if req = 5 ∨ req = 2 then who else 0

/-- An uncorrectable error, by type of Table 13-6: log, MEM_ERROR, fault record, the requester's reaction (R664, R752). -/
def uncorrectable (e : MemErr) (who : Nat) (s : State) : State :=
  let h := poisonObj e.req who
  poisonTo e.req who (detect 0x06 e.ch h 0 false (isCritical s (hKey h) && h != 0) (memError e (logAdd e s)))

/-! ## Request queues (R647 to R650) -/

/-- The subchannel `b` of channel `ch`. -/
def getSub (s : State) (ch b : Nat) : SubCh := Tab.getD s.mem.subs (2 * ch + b) {}
/-- Replaces a subchannel. -/
def setSub (s : State) (ch b : Nat) (x : SubCh) : State := setMem s { s.mem with subs := Tab.set s.mem.subs (2 * ch + b) x }
/-- One rank of a channel. -/
def getRank (s : State) (ch r : Nat) : RankSt := Tab.getD s.mem.ranks (2 * ch + r) {}
/-- Replaces a rank. -/
def setRank (s : State) (ch r : Nat) (x : RankSt) : State := setMem s { s.mem with ranks := Tab.set s.mem.ranks (2 * ch + r) x }

/-- The bank of a request in its subchannel. -/
def DramReq.bank (r : DramReq) : Nat := r.rank * 32 + r.bg * 4 + r.ba

/-- One request reaches its bank queue (R647, R650); one that may not touch its extent is not performed (R669). -/
def arrive (ch b : Nat) (i : DramIn) (s : State) : State :=
  match dramMap s i.dpa with
  | none => s
  | some l =>
    if l.ch ≠ ch ∨ l.sub ≠ b then s
    else if i.part.isSome && extentPart s i.dpa != i.part then
      let e := errAt s 6 15 i.unit i.dpa 0
      memError e (logAdd e s)
    else
      let x := getSub s ch b
      let r : DramReq := { id := s.time.ticks, cls := i.cls, rank := l.rank, bg := l.bg, ba := l.ba, row := l.row, dpa := i.dpa
                           write := i.write, bytes := i.bytes, unit := i.unit, part := i.part, poison := i.poison, at_ := s.time.ticks }
      let waits := (x.reqs.filter fun q => q.bank == r.bank && q.cls == 0).length
      if i.cls = 0 && decide (8 ≤ waits) then s
      else
        let k := getRank s ch l.rank
        setRank (setSub s ch b { x with reqs := x.reqs ++ [r] }) ch l.rank { k with lastReq := s.time.ticks, power := 0 }

/-- Spill bytes that one subchannel may still move ahead of FIXED requests in the microsecond (R648). -/
def spillFirst (s : State) (x : SubCh) : Bool :=
  let used := if x.win = s.time.ticks / tUs then x.spill else 0
  decide (used * 2 * s.mem.channels < spillPerUs s)

/-- The requests that may issue: the oldest of each class and bank, none past an earlier access of the other kind to its line;
after 16 row hits a bank serves its oldest (R648, R649). -/
def candidatesOf (x : SubCh) : List DramReq :=
  let idx := List.range x.reqs.length
  (idx.filter fun n =>
    match x.reqs[n]? with
    | none => false
    | some r =>
      let before := x.reqs.take n
      let mine := before.filter fun q => q.bank == r.bank
      !(mine.any fun q => q.cls == r.cls) && !(before.any fun q => q.dpa / 64 == r.dpa / 64 && q.write != r.write)
        && (decide (Tab.getD x.runs r.bank 0 < 16) || mine.isEmpty)).filterMap fun n => x.reqs[n]?

/-- The order of R648 as a number: class, row hit, bank group in rotation, age (the list is in order of age). -/
def issueKey (s : State) (x : SubCh) (r : DramReq) : Nat :=
  let cls := if r.cls = 1 then (if spillFirst s x then 0 else 2) else if r.cls = 0 then 1 else 3
  let hit := if Tab.get x.openR r.bank = some r.row then 0 else 1
  cls * 16 + hit * 8 + (r.bg + 7 - x.lastBg) % 8

/-- The request that issues next. -/
def issueNext (s : State) (x : SubCh) : Option DramReq :=
  (candidatesOf x).foldl (fun b r => match b with
    | none => some r
    | some q => if issueKey s x r < issueKey s x q then some r else some q) none

/-- What a write does when it is performed (R665): poison marks its line, a whole line clears it, a partial write to a
poisoned line is not performed. -/
def writeLine (r : DramReq) (s : State) : State :=
  if r.poison then
    let e := errAt s 7 15 r.unit r.dpa 0
    logAdd e (setPoison r.dpa true s)
  else if 64 ≤ r.bytes then setPoison r.dpa false s
  else s

/-- DRAM_REQUEST_ISSUE (R646 to R649, R665, R669): requests arrive at subchannel `b` of channel `ch`, and one bank's head
issues. -/
def execDramRequestIssue (ch b : Nat) (arr : List DramIn) (s : State) : Out :=
  onPart (decide (ch < 8) && decide (b < 2)) s fun s =>
    let s1 := arr.foldl (fun s i => arrive ch b i s) s
    let x := getSub s1 ch b
    match issueNext s1 x with
    | none => s1
    | some r =>
      let hit := Tab.get x.openR r.bank == some r.row
      let w := s.time.ticks / tUs
      let x1 : SubCh := { x with
        reqs := x.reqs.erase r, flight := if r.write then x.flight else x.flight ++ [r]
        openR := Tab.set x.openR r.bank r.row, runs := Tab.set x.runs r.bank (if hit then Tab.getD x.runs r.bank 0 + 1 else 1)
        lastBg := r.bg, win := w
        spill := (if x.win = w then x.spill else 0) + (if r.cls = 1 then r.bytes else 0) }
      let s2 := setSub s1 ch b x1
      if r.write then writeLine r s2 else s2

/-- DRAM_READ_RESPONSE (R662, R664, R665): the oldest read in flight is answered. `res`: 0 data, 1 corrected, 2 uncorrectable, 3 a
parity error that the repeat cleared, 4 one that recurs; `sym` the correction unit, `syn` the syndrome, `who` what the
requester's poison touches. -/
def execDramReadResponse (ch b res sym syn who : Nat) (s : State) : Out :=
  onPart (decide (ch < 8) && decide (b < 2)) s fun s =>
    let x := getSub s ch b
    match x.flight with
    | [] => s
    | r :: t =>
      let s1 := setSub s ch b { x with flight := t }
      let bad := s.mem.poisoned.contains (r.dpa / 64)
      if res = 4 then uncorrectable (errAt s 4 15 r.unit r.dpa syn) who s1
      else if bad ∨ res = 2 then
        uncorrectable (errAt s 2 15 r.unit r.dpa syn) who (bumpMem s1 ch .dramUe)
      else if res = 1 then correctedAt (errAt s 1 (sym % 16) r.unit r.dpa syn) s1
      else if res = 3 then logAdd (errAt s 3 15 r.unit r.dpa syn) (bumpMem s1 ch .dramCaRetry)
      else s1

/-- DRAM_COMMAND_TIMEOUT (R664): a request not answered within 2 µs gets poison. -/
def execDramCommandTimeout (ch b who : Nat) (s : State) : Out :=
  onPart (decide (ch < 8) && decide (b < 2)) s fun s =>
    let x := getSub s ch b
    let late := fun (r : DramReq) => decide (r.at_ + 2 * tUs ≤ s.time.ticks)
    match x.flight.find? late, x.reqs.find? late with
    | some r, _ =>
      uncorrectable (errAt s 5 15 r.unit r.dpa 0) who (bumpMem (setSub s ch b { x with flight := x.flight.erase r }) ch .dramTimeout)
    | none, some r =>
      uncorrectable (errAt s 5 15 r.unit r.dpa 0) who (bumpMem (setSub s ch b { x with reqs := x.reqs.erase r }) ch .dramTimeout)
    | none, none => s

/-- NOC_TIMEOUT (R752, Table 16-1): a transaction of requester `req` was unanswered for 10 µs; `n` is the instance. -/
def execNocTimeout (req who n : Nat) (s : State) : Out :=
  live s (fun s => let h := poisonObj req who
         poisonTo req who (detect 0x08 n h 0 false (isCritical s (hKey h) && h != 0) s))

/-! ## Refresh, power and training -/

/-- tREFI of a rank in ticks (R653). -/
def refi (k : RankSt) : Nat := if k.hot then 1560 else 3120

/-- Closes the rows that a refresh needs (R649): all banks of the rank, or one bank of each group. -/
def closeRows (s : State) (rank : Nat) (x : SubCh) : SubCh :=
  let n := s.time.ticks / 1560 % 4
  { x with openR := x.openR.filter fun e => e.1 / 32 != rank || (mprm s 0 == 1 && e.1 % 4 != n) }

/-- DRAM_REFRESH (R653): a rank whose interval has passed is refreshed, or postpones it, up to 4 times, while FIXED requests
wait on it. New timers take effect here (R652). -/
def execDramRefresh (ch rank : Nat) (s : State) : Out :=
  onPart (decide (ch < 8) && decide (rank < 2)) s fun s =>
    let k := getRank s ch rank
    if k.lastRef + refi k * (k.postp + 1) ≤ s.time.ticks then
      let s1 := setMem s { s.mem with prm := s.mem.prmNew.getD s.mem.prm, prmNew := none }
      let waits := [0, 1].any fun b => (getSub s ch b).reqs.any fun r => r.rank == rank && r.cls == 0
      if waits && decide (k.postp < 4) then setRank s1 ch rank { k with postp := k.postp + 1 }
      else
        setRank (setSub (setSub s1 ch 0 (closeRows s1 rank (getSub s1 ch 0))) ch 1 (closeRows s1 rank (getSub s1 ch 1))) ch rank
          { k with lastRef := s.time.ticks, postp := 0 }
    else s

/-- DRAM_TEMP_POLL (R653): mode register 4 of a rank reads `temp`; `hot` above 85 °C, `bad` above the rated range. -/
def execDramTempPoll (ch rank temp : Nat) (hot bad : Bool) (s : State) : Out :=
  onPart (decide (ch < 8) && decide (rank < 2)) s fun s =>
    let k := getRank s ch rank
    let s1 := setRank s ch rank { k with temp := temp % 256, hot := hot, tooHot := bad }
    if bad then detect 0x0C ch 0 temp true false (emit .owner 0x0A2 0 (toLe 1 ch ++ toLe 1 rank ++ toLe 1 temp) s1)
    else if k.tooHot then conditionEnd 0x0C ch 0 s1 else s1

/-- DQS_DRIFT_CHECK (R659): a lane (subchannel * 32 + rank * 16 + lane) measures a drift since its last centring. -/
def execDqsDriftCheck (ch lane : Nat) (d : Int) (s : State) : Out :=
  onPart (decide (ch < 8) && decide (lane < 64)) s fun s =>
    let k := ch * 64 + lane
    let x := Tab.getD s.mem.lanes k {}
    if 4 ≤ d.natAbs then
      bumpMem (setMem s { s.mem with lanes := Tab.set s.mem.lanes k { x with delay := x.delay + d, drift := 0 } }) ch .dramDriftAdj
    else setMem s { s.mem with lanes := Tab.set s.mem.lanes k { x with drift := d } }

/-- RETRAIN_SLICE (R660): a sweep slice of a rank, right after a refresh on the channel; at the end of the sweep `pts` holds the
new delay, Vref and width of its lanes in order (subchannel, lane). -/
def execRetrainSlice (ch rank : Nat) (pts : List (Int × Nat × Nat)) (s : State) : Out :=
  onPart (decide (ch < 8) && decide (rank < 2)) s fun s =>
    let k := getRank s ch rank
    let due := k.sweep.isSome || decide (0 < mprm s 4 ∧ k.trained + mprm s 4 * 3600 * tS ≤ s.time.ticks)
    let after := [0, 1].any fun r => (getRank s ch r).lastRef == s.time.ticks
    if !(due && after) then s
    else if pts.isEmpty then setRank s ch rank { k with sweep := some (k.sweep.getD 0 + 1) }
    else
      let s1 := setRank s ch rank { k with sweep := none, trained := s.time.ticks }
      (List.range pts.length).foldl (fun s n =>
        match pts[n]? with
        | none => s
        | some (d, v, w) =>
          let key := ch * 64 + n / 10 * 32 + rank * 16 + n % 10
          if w < 16 then emit .owner 0x0A3 0 (toLe 1 ch ++ toLe 1 rank ++ toLe 1 (n % 10) ++ toLe 1 w) s
          else setMem s { s.mem with lanes := Tab.set s.mem.lanes key { delay := d, vref := v, width := w } }) s1

/-- PATROL_SCRUB (R663): the scrub reads the next line, with an outcome as in DRAM_READ_RESPONSE. -/
def execPatrolScrub (res sym syn : Nat) (s : State) : Out :=
  live s (fun s =>
    let lines := dramBytes s / 64
    let span := mprm s 3 * 3600 * tS
    let pos := s.mem.scrubPos
    guarded (decide (0 < span) && decide (s.mem.scrubAt + pos / 64 * span / lines ≤ s.time.ticks)) s fun s =>
      let wrapped := decide (dramBytes s ≤ pos + 64)
      let s1 := setMem s { s.mem with scrubPos := if wrapped then 0 else pos + 64
                                      scrubAt := if wrapped then s.mem.scrubAt + span else s.mem.scrubAt }
      let ch := (errAt s 1 0 7 pos 0).ch
      if res = 1 then correctedAt (errAt s 1 (sym % 16) 7 pos syn) s1
      else if res = 2 ∨ s.mem.poisoned.contains (pos / 64) = true then
        uncorrectable (errAt s 2 15 7 pos syn) 0 (bumpMem (setPoison pos true s1) ch .dramUe)
      else s1)

/-- POWER_DOWN_ENTRY (R654). -/
def execPowerDownEntry (ch rank : Nat) (s : State) : Out :=
  onPart (decide (ch < 8) && decide (rank < 2)) s fun s =>
    let k := getRank s ch rank
    guarded (k.power == 0 && decide (0 < mprm s 1) && decide (k.lastReq + nsTicks (mprm s 1) ≤ s.time.ticks)
        && [0, 1].all fun b => (getSub s ch b).reqs.all fun r => r.rank != rank) s fun s =>
      setRank s ch rank { k with power := 1 }

/-- Whether a buffer of an ACTIVE or HELD fixed object, or the spill pool, may lie in a channel (R654): the model keeps
every such buffer in every channel. -/
def holdsBuffers (s : State) : Bool :=
  s.batten.pool || s.obj.objs.any fun e => e.2.fixed && (e.2.state == .active || e.2.state == .held)

/-- SELF_REFRESH_ENTRY (R654). -/
def execSelfRefreshEntry (ch : Nat) (s : State) : Out :=
  onPart (decide (ch < 8)) s fun s =>
    let ks := (List.range (nRanks s)).map fun r => getRank s ch r
    guarded (decide (0 < mprm s 2) && !(holdsBuffers s)
        && (ks.all fun k => decide (k.lastReq + nsTicks (mprm s 2) ≤ s.time.ticks))
        && [0, 1].all fun b => (getSub s ch b).reqs.isEmpty) s fun s =>
      (List.range (nRanks s)).foldl (fun s r => setRank s ch r { getRank s ch r with power := 2 }) s

/-! ## Extents (R669 to R672) -/

/-- EXTENT_ZEROING_COMPLETE (R670). -/
def execExtentZeroingComplete (e : Nat) (s : State) : Out :=
  live s (fun s => match Tab.get s.mem.extents e with
    | some x => if x.zeroing then setMem s { s.mem with extents := Tab.del s.mem.extents e } else s
    | none => s)

/-- Bytes of the pyramid buffers of a rung (R365): four pictures of 8-bit luma at half and at quarter scale for the top rung
of a search group. -/
def pyramidBytes (s : State) (r : Nat) : Nat :=
  if topRung s r = r then 4 * (rungW s r * rungH s r / 4 + rungW s r * rungH s r / 16) else 0

/-- DRAM that the objects of a partition use: surfaces, codec contexts of 24 KB and 48 KB, pyramid buffers, kernel tables. -/
def memUse (s : State) (p : Nat) : Nat :=
  ((partSurfs s p).map surfSize).sum + 24576 * contextsUsed s false (some p) + 49152 * contextsUsed s true (some p)
    + (((objKeys s 7).filter fun r => ((getObj s r).map (·.part)) == some p && !(getRung s r).surfs.isEmpty).map (pyramidBytes s)).sum
    + (s.dsp.kerns.map fun e => if e.2.part = p then e.2.table.length else 0).sum

/-- The extents of a partition. -/
def extentsOf (s : State) (p : Nat) : List Nat :=
  (s.mem.extents.filter fun e => e.2.owner == some p && !e.2.zeroing).map (·.1)

/-- Takes `n` more free extents for a partition. -/
def takeExtents (p : Nat) : Nat → State → Option State
  | 0, s => some s
  | n + 1, s =>
    match lowestFree (Tab.keys s.mem.extents) 0 (dramBytes s / 2097152) with
    | none => none
    | some e => takeExtents p n (setMem s { s.mem with extents := Tab.set s.mem.extents e { owner := some p, zeroing := false } })

/-- Gives extents back: each is zeroed first (R670). -/
def dropExtents (es : List Nat) (s : State) : State :=
  es.foldl (fun s e => setMem s { s.mem with extents := Tab.set s.mem.extents e { owner := none, zeroing := true } }) s

/-- Brings a partition's extents in line with what it uses; none when its quota, its missing key or the free DRAM forbids it
(R669, R672, R636). -/
def fitMem (p : Nat) (s : State) : Option State :=
  let need := ceilDiv (memUse s p) 2097152
  let es := extentsOf s p
  if need ≤ es.length then some (dropExtents (es.drop need) s)
  else
    match Tab.get s.obj.parts p with
    | none => none
    | some q =>
      if (q.encrypt && q.xts.isNone) || decide (quota s p 6 0 < need * 2097152 + partPages s p * 4096) then none
      else takeExtents p (need - es.length) s

/-- `fitMem` where memory is only given back. -/
def shrinkMem (p : Nat) (s : State) : State := (fitMem p s).getD s

/-! ## Commands -/

/-- The sets of a MEM_SETS payload. -/
def setItems (p : Bytes) (o : Nat) : Nat → List (MemSet × Bool)
  | 0 => []
  | n + 1 => ({ first := le p o 1, n := le p (o + 1) 1, lg := le p (o + 2) 1 }, le p (o + 3) 1 == 0) :: setItems p (o + 4) n

/-- Whether a set is one of R644's forms. -/
def memSetOk (chans : Nat) (k : MemSet) : Bool :=
  decide (8 ≤ k.lg) && decide (k.lg ≤ 16) && decide (k.first + k.n ≤ chans)
    && ((k.n == chans && k.first == 0) || (k.n == 4 && k.first % 4 == 0) || (k.n == 2 && k.first % 2 == 0))

/-- MEM_SETS (R644, R645). -/
def bodyMemSets : Body := fun _ p _ s =>
  let ks := setItems p 4 (le p 0 1)
  let chs := ks.flatMap fun k => (List.range k.1.n).map (· + k.1.first)
  checked [
    (ks.all (·.2), .unsupportedField),
    ((ks.all fun k => memSetOk s.mem.channels k.1) && decide (chs.length = s.mem.channels) && decide (chs.eraseDups.length = chs.length),
      .outOfRange),
    (!(s.batten.pool) && !(s.mem.extents.any fun e => e.2.owner.isSome), .busy)] fun _ =>
    .ok [] 0 (setMem s { s.mem with sets := ks.map (·.1) })

/-- MEM_KEY_INSTALL (R672). -/
def bodyMemKeyInstall : Body := fun _ p _ s =>
  match resolvePart s (le p 0 4) with
  | none => .no .badHandle []
  | some i =>
    checked [((extentsOf s i).isEmpty, .busy)] fun _ =>
      .ok [] 0 { s with obj := { s.obj with parts := Tab.upd s.obj.parts i fun x => { x with xts := some ((p.drop 8).take 64) } } }

/-- MEM_TIMERS (R652): ranges with a gap (Table 13-4) are checked beside the table's. -/
def bodyMemTimers : Body := fun _ p _ s =>
  let es := entries p 8 (le p 6 2)
  let fs := applyEntries (s.mem.prmNew.getD s.mem.prm) es
  checked (entryChecks es (fun k => fTable k == 0x0F) ++ [
    (es.all fun e => (e.key != fk 0x0F 1 0 || e.val == 0 || decide (32 ≤ e.val))
      && (e.key != fk 0x0F 2 0 || e.val == 0 || decide (1000000 ≤ e.val)), .outOfRange)]) fun _ =>
    .ok [] 0 (setMem s { s.mem with prmNew := some fs })

/-- What MEM_STATUS will answer, as of this stroke boundary (R673). -/
def memSnapshot (s : State) : State :=
  setMem s { s.mem with snap := { ranks := s.mem.ranks, lanes := s.mem.lanes, ce := s.mem.ce, ctrs := s.mem.ctrs } }

/-- The block of one channel (Table 15-19). -/
def chanStatus (s : State) (ch : Nat) : Bytes :=
  let n := s.mem.snap
  let rk := fun r => Tab.getD n.ranks (2 * ch + r) {}
  let keys := [0, 1].flatMap fun b => [0, 1].flatMap fun r => (List.range 10).map fun l => ch * 64 + b * 32 + r * 16 + l
  let cs := Tab.getD n.ctrs ch []
  toLe 2 s.mem.rate ++ toLe 1 (rk 0).temp ++ toLe 1 (rk 1).temp ++ toLe 1 (rk 0).power ++ toLe 1 (rk 1).power ++ zeros 2
    ++ (keys.flatMap fun k =>
          let l := Tab.getD n.lanes k {}
          toLeI 2 l.delay ++ toLe 2 l.vref ++ toLe 2 l.width ++ zeros 2)
    ++ (keys.flatMap fun k => toLe 4 (min 0xFFFFFFFF (Tab.getD n.ce k 0)))
    ++ ([Ctr.dramCe, .dramUe, .dramCaRetry, .dramTimeout, .dramDriftAdj, .logLost].flatMap fun c => toLe 8 (ctr cs c))
    ++ zeros 488

/-- MEM_STATUS (R673). -/
def bodyMemStatus : Body := fun F p _ s =>
  let a := le p 0 8
  let d := (List.range s.mem.channels).flatMap (chanStatus s)
  if inWindow (getFn s F) a d.length true then
    .ok (toLe 4 d.length) 0 (updFn s F fun f => { f with lastWr := some (a, d) })
  else .dma a d.length 1

/-- The entries a function sees (R668). -/
def logSeen (s : State) (F : Nat) : List Bytes :=
  if isOwner s F then s.mem.log.map fun e => e.bytes false
  else (s.mem.log.filter fun e => e.part.isSome && e.part == (getFn s F).part).map fun e => e.bytes true

/-- MEM_LOG_READ (R668). -/
def bodyMemLogRead : Body := fun F p _ s =>
  let l := ((logSeen s F).drop (le p 0 2)).take 32
  .ok (toLe 1 l.length ++ zeros 7 ++ l.flatten) 0 s

/-- MEM_LOG_CLEAR (R668). -/
def bodyMemLogClear : Body := fun _ p _ s => .ok [] 0 (setMem s { s.mem with log := s.mem.log.drop (le p 0 2 + 1) })

/-- MEM_SETS. -/
def execMemSets (src : Src) (s : State) : Out := serve 0x0107 src [] bodyMemSets s
/-- MEM_KEY_INSTALL. -/
def execMemKeyInstall (src : Src) (s : State) : Out := serve 0x0108 src [] bodyMemKeyInstall s
/-- MEM_TIMERS. -/
def execMemTimers (src : Src) (s : State) : Out := serve 0x0109 src [] bodyMemTimers s
/-- MEM_STATUS. -/
def execMemStatus (src : Src) (s : State) : Out := serve 0x0E0B src [] bodyMemStatus s
/-- MEM_LOG_READ. -/
def execMemLogRead (src : Src) (s : State) : Out := serve 0x0E0C src [] bodyMemLogRead s
/-- MEM_LOG_CLEAR. -/
def execMemLogClear (src : Src) (s : State) : Out := serve 0x0E0D src [] bodyMemLogClear s

end Sys2Proof.Machine
end

