-- ==== Sys2Proof/Machine/Kernel.lean ====
section
/-!
DEFINITION. Jig and Gauge cores as a kernel sees them (chapter 9): one command for each slot instruction, the end and the stop
of an invocation, kernel DMA, core interrupts and watchdogs, and the kernel commands.
-/

namespace Sys2Proof.Machine

open Sys2Proof

/-! ## The end of an invocation (R515, R520 to R523) -/

/-- A core without an invocation. -/
def Core.idle (k : Core) : Core :=
  { k with run := none, dma := [], wr := [], bad := [], rep := none, repNew := none, slot := 0, xtra := 0 }

/-- The block of instance `i` with media time `mt` is back from its kernel: the output by channel, or none when the input
passes through. A block that the graph no longer waits for is dropped. -/
def kernelDone (i mt : Nat) (out : Option (List (List SubBlk))) (s : State) : State :=
  let o := i / 4
  if i % 4 = 0 then
    let a := getIn s o
    if a.st = 2 ∧ a.t = mt then frontRest o ((out.bind (·.head?)).getD a.pre) s else s
  else if i % 4 = 1 then
    let g := getGraph s o
    if g.phase = 3 ∧ g.mt = mt then mixRest o (out.getD (g.mem.map fun k => (getIn s k).y)) s else s
  else
    let c := confOfLeg s o
    match (getGraph s c).backs.find? fun j => j.legs == [o] && j.z.isSome && j.mt == mt with
    | some j => backEnd c j (out.getD j.sig) (j.z.getD {}) s
    | none => s

/-- The handle of a loaded kernel. -/
def kernelHandle (s : State) (n : Nat) : Nat := mkHandle 0xA (((Tab.get s.dsp.kerns n).map (·.gen)).getD 0) n

/-- An instance enters PASS_THROUGH with a cause (R521, R524): counters, KERNEL_FAULT with cyc and bundle index. -/
def passThrough (i cause cyc pc : Nat) (s : State) : State :=
  match getInst s i with
  | none => s
  | some k =>
    let s1 := setInst s i { k with state := 2, cause := cause, ctrs := bump (bump k.ctrs .kernelStops 1) (.kernelCause cause) 1 }
    emit (.part (((Tab.get s.dsp.kerns k.kern).map (·.part)).getD 0)) 0x070 (kernelHandle s k.kern)
      (toLe 4 (handleOf s (i / 4)) ++ toLe 1 cause ++ zeros 3 ++ toLe 4 cyc ++ toLe 2 pc) s1

/-- The waiting invocations of instance `i` on core `c` pass through. -/
def passWaiting (c i : Nat) (s : State) : State :=
  let k := getCore s c
  let qs := k.wait.filter fun q => q.inst == i && !q.init
  qs.foldl (fun s q => kernelDone i q.mt none (bumpInst s i .kernelPassBlocks))
    (setCore s c { k with wait := k.wait.filter fun q => q.inst != i })

/-- The kernel on core `c` stops (R520, R521): its block passes through, and the core takes the next invocation. -/
def stopKernel (c cause : Nat) (s : State) : State :=
  let k := getCore s c
  match k.run with
  | none => s
  | some v =>
    let cyc := k.cyc.toNat % 2 ^ 32
    let s1 := updInst (setCore s c k.idle) v.inst fun n => { n with last := cyc, max_ := max n.max_ cyc }
    let s2 := passThrough v.inst cause cyc k.pc s1
    let s3 := if v.init then s2 else kernelDone v.inst v.mt none (bumpInst s2 v.inst .kernelPassBlocks)
    let s4 := passWaiting c v.inst s3
    kick c (getCore s4 c).wait.length s4

/-- The output of an invocation by channel (R513). -/
def outputOf (k : Core) (v : Invo) : List (List SubBlk) :=
  (List.range v.chans).map fun ch => (List.range v.nsub).map fun j =>
    subOf v.smp (Mem.read 0 k.mem (v.outAt + 104 * (ch * v.nsub + j)) 104)

/-- A lockstep mismatch of a kernel pair (R523, R471): its legs are sent as concealment. -/
def kernelMismatch (c o : Nat) (s : State) : State :=
  let ls := if o / 1048576 = 2 then critLegs s o else [o]
  pairMismatch c (ls.foldl (fun s l => pathFault l 0x03 c 0 s) s)

/-- KRET (R512, R515): the state is kept, the output is checked, normalised and given to the graph. -/
def endInvo (c : Nat) (bad : Bool) (s : State) : State :=
  let k := getCore s c
  match k.run with
  | none => s
  | some v =>
    let i := v.inst
    let cyc := k.cyc.toNat % 2 ^ 32
    let paired := ((getInst s i).map (·.pair)).getD false
    let done := fun (s : State) => updInst (setCore s c k.idle) i fun q => { q with last := cyc, max_ := max q.max_ cyc }
    if bad && paired then
      let s1 := kernelMismatch c (i / 4) (done s)
      let s2 := if v.init then s1 else kernelDone i v.mt none s1
      kick c (getCore s2 c).wait.length s2
    else
      let out := outputOf k v
      if !v.init && out.any fun ch => ch.any fun b => !(decide (-64 ≤ b.e) && decide (b.e ≤ 7)) then stopKernel c 6 s
      else
        let s1 := updInst (done s) i fun q => { q with st := Mem.read 0 k.mem v.stAt q.st.length }
        let s2 := if v.init then s1 else kernelDone i v.mt (some (out.map fun ch => ch.map normSub)) s1
        kick c (getCore s2 c).wait.length s2

/-! ## Issuing a slot (R483 to R490, R516, R517, R520) -/

/-- The code and table length of the kernel that a core runs. -/
def runCode (s : State) (v : Invo) : Option (Bytes × Nat) :=
  ((getInst s v.inst).bind fun n => Tab.get s.dsp.kerns n.kern).map fun k => (k.code, k.table.length)

/-- Core `c` issues its next slot, when that slot holds the instruction of the command: `f` is its effect, or the cause for
which it stops; `fin` what follows the end of the bundle. A bundle at which cyc has reached LIMIT does not issue, one that
faults stops the kernel, and one that stalls takes a cycle (R490). -/
def slotStep (c : Nat) (isOp : Nat → Nat → Bool) (f : Nat → Core → State → Except Nat Core × State) (fin : State → State)
    (s : State) : Out :=
  onPart (decide (c < 192)) s fun s =>
    let k := getCore s c
    match k.run with
    | none => s
    | some v =>
      match runCode s v with
      | none => s
      | some (code, tbl) =>
        if k.slot = 0 ∧ k.rep.isNone ∧ v.limit ≤ k.cyc.toNat then s
        else
          match (if k.slot = 0 then bundleFault (isGauge c) k v code tbl else none), bundleAt code k.pc with
          | some cause, _ => stopKernel c cause s
          | none, none => s
          | none, some b =>
            if k.slot = 0 ∧ stalls k b = true then (if isOp 3 b.ac then setCore s c k.cycle else s)
            else if isOp k.slot (b.at_ k.slot) then
              let k1 := if k.slot = 0 then { k with next := k.pc + 1, xtra := 0 } else k
              match f (b.at_ k.slot) k1 s with
              | (.error cause, s1) => stopKernel c cause s1
              | (.ok k2, s1) => if k.slot = 3 then fin (setCore s1 c k2.retire) else setCore s1 c { k2 with slot := k.slot + 1 }
            else s

/-- An instruction of the arithmetic slots with opcode `o`. -/
def arith (c o : Nat) (f : Nat → Core → Core) (s : State) : Out :=
  slotStep c (fun n w => decide (n < 2) && aOpc w == o) (fun w k s => (.ok (f w k), s)) id s

/-- An instruction of the address and control slot with opcode `o`. -/
def ctl (c o : Nat) (f : Nat → Core → Core) (s : State) : Out :=
  slotStep c (fun n w => n == 3 && cOpc w == o) (fun w k s => (.ok (f w k), s)) id s

/-- A branch to a bundle index: one cycle more. -/
def Core.jump (k : Core) (t : Nat) : Core := { k with next := t, xtra := 1 }

/-! ## Arithmetic slots (Table 9-6) -/

/-- NOP of any slot. -/
def execSlotNop (c : Nat) (s : State) : Out :=
  slotStep c (fun n w => if n < 2 then aOpc w == 0 else if n = 2 then lOpc w == 0 else cOpc w == 0) (fun _ k s => (.ok k, s)) id s
/-- ADD. -/
def execAdd (c : Nat) (s : State) : Out := arith c 0x01 (fun w k => k.lanes2 w 1 (· + ·)) s
/-- SUB. -/
def execSub (c : Nat) (s : State) : Out := arith c 0x02 (fun w k => k.lanes2 w 1 (· - ·)) s
/-- ADDI. -/
def execAddi (c : Nat) (s : State) : Out := arith c 0x03 (fun w k => k.lanes2 w 1 fun a _ => a + signed 9 (aX w)) s
/-- NEG. -/
def execNeg (c : Nat) (s : State) : Out := arith c 0x04 (fun w k => k.lanes2 w 1 fun a _ => -a) s
/-- ABS. -/
def execAbs (c : Nat) (s : State) : Out := arith c 0x05 (fun w k => k.lanes2 w 1 fun a _ => (a.natAbs : Int)) s
/-- MIN. -/
def execMin (c : Nat) (s : State) : Out := arith c 0x06 (fun w k => k.lanes2 w 1 min) s
/-- MAX. -/
def execMax (c : Nat) (s : State) : Out := arith c 0x07 (fun w k => k.lanes2 w 1 max) s
/-- AND. -/
def execAnd (c : Nat) (s : State) : Out := arith c 0x08 (fun w k => k.plain w 1 (k.rd (aSa w) &&& k.rd (aSb w))) s
/-- OR. -/
def execOr (c : Nat) (s : State) : Out := arith c 0x09 (fun w k => k.plain w 1 (k.rd (aSa w) ||| k.rd (aSb w))) s
/-- XOR. -/
def execXor (c : Nat) (s : State) : Out := arith c 0x0A (fun w k => k.plain w 1 (k.rd (aSa w) ^^^ k.rd (aSb w))) s
/-- SHLI. -/
def execShli (c : Nat) (s : State) : Out := arith c 0x0B (fun w k => k.lanes2 w 1 fun a _ => a * 2 ^ (aX w % 64)) s
/-- SHRI. -/
def execShri (c : Nat) (s : State) : Out :=
  arith c 0x0C (fun w k => k.lanes2 w 1 fun a _ => shiftRight (bitOf (aX w) 8) a (aX w % 64)) s
/-- SHLE: the shift is lane 0 of sb, clamped to -40 to 40 (R492). -/
def execShle (c : Nat) (s : State) : Out :=
  arith c 0x0D (fun w k => k.lanes2 w 1 fun a _ => shle a (max (-40) (min 40 (laneOf (k.rd (aSb w)) false)))) s
/-- MUL. -/
def execMul (c : Nat) (s : State) : Out := arith c 0x0E (fun w k => k.lanes2 w 2 fun a b => (a * b + 2 ^ 18) / 2 ^ 19) s
/-- The products of the lanes of sa and sb. -/
def Core.products (k : Core) (w : Nat) : Int × Int :=
  (laneOf (k.rd (aSa w)) false * laneOf (k.rd (aSb w)) false, laneOf (k.rd (aSa w)) true * laneOf (k.rd (aSb w)) true)
/-- MAC. -/
def execMac (c : Nat) (s : State) : Out :=
  arith c 0x0F (fun w k => k.accum w 2 ((k.ra (aDst w)).1 + (k.products w).1) ((k.ra (aDst w)).2 + (k.products w).2)) s
/-- MSU. -/
def execMsu (c : Nat) (s : State) : Out :=
  arith c 0x10 (fun w k => k.accum w 2 ((k.ra (aDst w)).1 - (k.products w).1) ((k.ra (aDst w)).2 - (k.products w).2)) s
/-- CLRA. -/
def execClra (c : Nat) (s : State) : Out := arith c 0x11 (fun w k => k.accum w 1 0 0) s
/-- LDA. -/
def execLda (c : Nat) (s : State) : Out :=
  arith c 0x12 (fun w k => k.accum w 1 (laneOf (k.rd (aSa w)) false * 2 ^ (aX w % 64)) (laneOf (k.rd (aSa w)) true * 2 ^ (aX w % 64))) s
/-- ADDA. -/
def execAdda (c : Nat) (s : State) : Out :=
  arith c 0x13 (fun w k => k.accum w 1 ((k.ra (aDst w)).1 + (k.ra (aSa w)).1) ((k.ra (aDst w)).2 + (k.ra (aSa w)).2)) s
/-- EXT. -/
def execExt (c : Nat) (s : State) : Out :=
  arith c 0x14 (fun w k =>
    let r0 := narrow 20 (aSat w) (shiftRight true (k.ra (aSa w)).1 (aX w % 64))
    let r1 := narrow 20 (aSat w) (shiftRight true (k.ra (aSa w)).2 (aX w % 64))
    (k.put 2 (.d (aDst w) (mkLanes r0.1 r1.1))).setSat 2 (r0.2 || r1.2)) s
/-- NORM (R493). -/
def execNorm (c : Nat) (s : State) : Out :=
  arith c 0x15 (fun w k =>
    let a := k.rd (aSa w)
    k.plain w 2 (if aWide w then mkWide (normOf 40 (wide a)) else mkLanes (normOf 20 (laneOf a false)) (normOf 20 (laneOf a true)))) s
/-- EXPB (R494). -/
def execExpb (c : Nat) (s : State) : Out :=
  arith c 0x16 (fun w k =>
    let n : Int := expb k (aSa w) (aX w % 16)
    k.plain w 2 (mkLanes n n)) s
/-- CMP. -/
def execCmp (c : Nat) (s : State) : Out :=
  arith c 0x17 (fun w k =>
    let a := if aWide w then wide (k.rd (aSa w)) else laneOf (k.rd (aSa w)) false
    let b := if aWide w then wide (k.rd (aSb w)) else laneOf (k.rd (aSb w)) false
    let n := bits (aX w) 6 5
    k.put 1 (.c (bits (aX w) 8 7) (if n = 0 then a == b else if n = 1 then decide (a < b) else if n = 2 then decide (a ≤ b) else a != b))) s
/-- SEL. -/
def execSel (c : Nat) (s : State) : Out :=
  arith c 0x18 (fun w k => k.plain w 1 (if k.rc (aX w % 4) then k.rd (aSa w) else k.rd (aSb w))) s
/-- MOV. -/
def execMov (c : Nat) (s : State) : Out :=
  arith c 0x19 (fun w k =>
    let a := k.rd (aSa w)
    k.plain w 1 (if bitOf (aX w) 0 then mkLanes (laneOf a true) (laneOf a false) else a)) s
/-- PACK. -/
def execPack (c : Nat) (s : State) : Out :=
  arith c 0x1A (fun w k => k.plain w 1 (mkLanes (laneOf (k.rd (aSa w)) false) (laneOf (k.rd (aSb w)) false))) s
/-- RDSR (Table 9-3). -/
def execRdsr (c : Nat) (s : State) : Out := arith c 0x1B (fun w k => k.plain w 1 (BitVec.ofNat 40 (k.readSr (isGauge c)))) s
/-- WRSR. -/
def execWrsr (c : Nat) (s : State) : Out := arith c 0x1C (fun w k => k.put 1 (.sr (BitVec.ofNat 5 (k.rd (aSa w)).toNat))) s
/-- MAXI (R495, R496). -/
def execMaxi (c : Nat) (s : State) : Out := arith c 0x20 (fun w k => k.search w true) s
/-- MINI. -/
def execMini (c : Nat) (s : State) : Out := arith c 0x21 (fun w k => k.search w false) s
/-- RDS. -/
def execRds (c : Nat) (s : State) : Out :=
  arith c 0x22 (fun w k =>
    let q := k.srchOld
    let n := aX w % 4
    k.plain w 1 (if n = 0 then q.smax else if n = 1 then q.imax.zeroExtend 40 else if n = 2 then q.smin else q.imin.zeroExtend 40)) s
/-- MOVI (Table 9-5). -/
def execMovi (c : Nat) (s : State) : Out :=
  arith c 0x3E (fun w k => k.put 1 (.lane (bits w 24 20) (bitOf w 25) (BitVec.ofNat 20 w))) s

/-! ## Load/store slot (R487, R488, Table 9-8) -/

/-- The post-modified pointers of a slot, seen by the next bundle. -/
def Core.postMods (k : Core) (w : Nat) : Core :=
  let one := fun (k : Core) (n md mv : Nat) =>
    if md = 0 then k
    else match postMod k n md mv (k.rp n) with
      | some p => k.put 1 (.p n (BitVec.ofNat 18 p))
      | none => k
  let k1 := one k (lPa w) (lMa w) (lMsa w)
  if lOpc w = 2 then one k1 (lPb w) (lMb w) (lMsb w) else k1

/-- Whether the 8-byte words of a load are poisoned. -/
def Core.poisoned (k : Core) (w : Nat) : Bool :=
  k.bad.contains (k.rp (lPa w) / 8) || (lOpc w == 2 && k.bad.contains (k.rp (lPb w) / 8))

/-- A load; `ue` says that a word it reads has an uncorrectable error: it is detected, and poison stops the kernel (R479). -/
def load (c o : Nat) (ue : Bool) (f : Nat → Core → State → Core × State) (s : State) : Out :=
  slotStep c (fun n w => n == 2 && lOpc w == o) (fun w k s =>
    let obj := ((k.run.map fun v => v.inst / 4)).getD 0
    if ue then (.error 5, detect 0x07 c (handleOf s obj) 0 false (isCritical s obj) s)
    else if k.poisoned w then (.error 5, s)
    else
      let r := f w k s
      (.ok (r.1.postMods w), r.2)) id s

/-- LD. -/
def execLd (c : Nat) (ue : Bool) (s : State) : Out :=
  load c 1 ue (fun w k s => (k.put 3 (.d (lDa w) (BitVec.ofNat 40 (fromLe (Mem.read 0 k.mem (k.rp (lPa w)) 8)))), s)) s
/-- LD2. With DA = DB the value that stands is open: the spec names no order. -/
def execLd2 (c : Nat) (ue : Bool) (s : State) : Out :=
  load c 2 ue (fun w k s =>
    let a := BitVec.ofNat 40 (fromLe (Mem.read 0 k.mem (k.rp (lPa w)) 8))
    let b := BitVec.ofNat 40 (fromLe (Mem.read 0 k.mem (k.rp (lPb w)) 8))
    if lDa w = lDb w then
      let f := takeFree 46 40 s
      (k.put 3 (.d (lDa w) (BitVec.ofNat 40 f.1)), f.2)
    else ((k.put 3 (.d (lDa w) a)).put 3 (.d (lDb w) b), s)) s
/-- LDW. -/
def execLdw (c : Nat) (ue : Bool) (s : State) : Out :=
  load c 4 ue (fun w k s => (k.put 3 (.d (lDa w) (mkWide (signed 32 (fromLe (Mem.read 0 k.mem (k.rp (lPa w)) 4))))), s)) s

/-- ST. -/
def execSt (c : Nat) (s : State) : Out :=
  slotStep c (fun n w => n == 2 && lOpc w == 3) (fun w k s =>
    let a := k.rp (lPa w)
    (.ok ({ k with mem := Mem.write 0 k.mem a (word40 (k.rd (lDa w))), bad := k.bad.filter (· != a / 8) }.postMods w), s)) id s
/-- STW. -/
def execStw (c : Nat) (s : State) : Out :=
  slotStep c (fun n w => n == 2 && lOpc w == 5) (fun w k s =>
    (.ok ({ k with mem := Mem.write 0 k.mem (k.rp (lPa w)) (toLe 4 (k.rd (lDa w)).toNat) }.postMods w), s)) id s

/-! ## Address and control slot (Table 9-9) -/

/-- BR. -/
def execBr (c : Nat) (s : State) : Out := ctl c 0x01 (fun w k => k.jump (bits w 11 0)) s
/-- BRC. -/
def execBrc (c : Nat) (s : State) : Out :=
  ctl c 0x02 (fun w k => if k.rc (bits w 26 25) = bitOf w 24 then k.jump (bits w 11 0) else k) s
/-- CALL. -/
def execCall (c : Nat) (s : State) : Out :=
  ctl c 0x03 (fun w k => (k.put 1 (.lr (BitVec.ofNat 12 (k.pc + 1)))).jump (bits w 11 0)) s
/-- RET. -/
def execRet (c : Nat) (s : State) : Out := ctl c 0x04 (fun _ k => k.jump k.lr.toNat) s
/-- REP (R497). -/
def execRep (c : Nat) (s : State) : Out := ctl c 0x05 (fun w k => { k with repNew := some (bits w 9 0 + 1) }) s
/-- REPR. -/
def execRepr (c : Nat) (s : State) : Out := ctl c 0x06 (fun w k => { k with repNew := some (reprCount k w).toNat }) s
/-- SETP. -/
def execSetp (c : Nat) (s : State) : Out := ctl c 0x07 (fun w k => k.put 1 (.p (cK w) (BitVec.ofNat 18 w))) s
/-- ADDP. -/
def execAddp (c : Nat) (s : State) : Out :=
  ctl c 0x08 (fun w k => k.put 1 (.p (cK w) (BitVec.ofNat 18 (k.rp (cK w) + w)))) s
/-- SETM. -/
def execSetm (c : Nat) (s : State) : Out := ctl c 0x09 (fun w k => k.put 1 (.m (cK w) (BitVec.ofNat 18 w))) s
/-- SETCB. -/
def execSetcb (c : Nat) (s : State) : Out :=
  ctl c 0x0A (fun w k => k.put 1 (.cb (cK w) (BitVec.ofNat 18 (k.rp (cK w))) (BitVec.ofNat 18 w))) s
/-- MOVP. -/
def execMovp (c : Nat) (s : State) : Out :=
  ctl c 0x0B (fun w k => k.put 1 (.p (cK w) (BitVec.ofNat 18 (k.rd (cD w)).toNat))) s
/-- MOVD. -/
def execMovd (c : Nat) (s : State) : Out := ctl c 0x0C (fun w k => k.put 1 (.d (cD w) (BitVec.ofNat 40 (k.rp (cK w))))) s
/-- DMAQ (R500, R501): the descriptor is read now. -/
def execDmaq (c : Nat) (s : State) : Out :=
  ctl c 0x0D (fun w k =>
    let d := dmaDesc k (k.rp (cK w))
    { k with dma := k.dma ++ [{ tag := bits w 3 0, off := bits d 31 0, local_ := bits d 49 32, len := bits d 80 64 }] }) s
/-- DMAWAIT. -/
def execDmawait (c : Nat) (s : State) : Out := ctl c 0x0E (fun _ k => k) s
/-- SRCHI (R495). -/
def execSrchi (c : Nat) (s : State) : Out := ctl c 0x0F (fun _ k => { k with srch := srchInit }) s
/-- RDCYC. -/
def execRdcyc (c : Nat) (s : State) : Out := ctl c 0x10 (fun w k => k.put 1 (.d (cD w) (BitVec.ofNat 40 k.cyc.toNat))) s
/-- KRET: `bad` is a signature mismatch of a lockstep pair (R523). -/
def execKret (c : Nat) (bad : Bool) (s : State) : Out :=
  slotStep c (fun n w => n == 3 && cOpc w == 0x11) (fun _ k s => (.ok k, s)) (endInvo c bad) s

/-! ## What happens to a core (R501 to R503, R516) -/

/-- KERNEL_OVERRUN (R516): cyc has reached LIMIT at a bundle boundary outside a repetition run. -/
def execKernelOverrun (c : Nat) (s : State) : Out :=
  onPart (decide (c < 192)) s fun s =>
    let k := getCore s c
    match k.run with
    | some v => guarded (k.slot == 0 && k.rep.isNone && decide (v.limit ≤ k.cyc.toNat)) s (stopKernel c 1)
    | none => s

/-- KERNEL_DMA_COMPLETE (R500, R501): outstanding transfer `n` of core `c` brings its table data; `bad` says that DRAM gave
poison, which stops the kernel at the next bundle boundary. -/
def execKernelDmaComplete (c n : Nat) (bad : Bool) (s : State) : Out :=
  onPart (decide (c < 192)) s fun s =>
    let k := getCore s c
    match k.run, k.dma[n]? with
    | some v, some t =>
      guarded (k.slot == 0 && (!bad || k.rep.isNone)) s fun s =>
        if bad then stopKernel c 5 s
        else
          let tbl := (((getInst s v.inst).bind fun i => Tab.get s.dsp.kerns i.kern).map (·.table)).getD []
          setCore s c { k with
            dma := k.dma.eraseIdx n
            mem := Mem.write 0 k.mem t.local_ ((tbl.drop t.off).take t.len)
            bad := k.bad.filter fun w => !(decide (t.local_ ≤ 8 * w) && decide (8 * w < t.local_ + t.len)) }
    | _, _ => s

/-- CORE_INTERRUPT (R502): taken at a bundle boundary outside a repetition run; a kernel cannot observe it. -/
def execCoreInterrupt (c _n : Nat) (s : State) : Out := onPart (decide (c < 192)) s fun s => s

/-- The legs whose work a core holds: those reserved on it or on its pair, and every leg of a conference reserved on it. -/
def coreLegs (s : State) (c : Nat) (legs : Bool) : List Nat :=
  let on := fun k => (bothOf s k).any fun r =>
    (r.code == 2 && (r.inst == c || (isCritical s k && r.inst + 1 == c))) ||
    (r.code == 3 && (176 + r.inst == c || (isCritical s k && 177 + r.inst == c)))
  if legs then (objKeys s 3).filter on else (objKeys s 2).filter on

/-- A leg's job of the current period is lost with its core (R767): its front result is absent, its output is concealment. -/
def loseJob (s : State) (l : Nat) : State :=
  let c := confOfLeg s l
  let a := getIn s l
  let s1 := if a.st = 1 then setIn s l { a with st := 4, x := [], y := [] } else s
  let s2 := concealOut l (bumpObj s1 l .audLate)
  let s3 := if isFixed s l then promiseMiss l s2 else s2
  match (getGraph s3 c).backs.find? fun j => j.legs.contains l && j.z.isNone with
  | some j => legOut c j {} [silence (subsOf_ s3 c)] [] 0 l (leaveJob c l j s3)
  | none => s3

/-- Whether a leg waits for a job of the current period. -/
def awaits (s : State) (l : Nat) : Bool :=
  (getIn s l).st == 1 || (getGraph s (confOfLeg s l)).backs.any fun j => j.legs.contains l && j.z.isNone

/-- A conference's ranking or mix job of the current period is lost: every output is concealment. -/
def loseMix (s : State) (c : Nat) : State :=
  let g := getGraph s c
  if 1 ≤ g.phase ∧ g.phase ≤ 3 then
    let ls := (kids s 3 c).filter fun l => isActive s l && hasOutput s l
    ls.foldl (fun s l =>
      let s1 := concealOut l (bumpObj s l .audLate)
      let s2 := if isFixed s l then promiseMiss l s1 else s1
      legOut c { t := g.t, mt := g.mt, legs := [l], shared := none, d := [], dl := [], dr := [] } {}
        [silence (subsOf_ s2 c)] [] 0 l s2) (setGraph s c { g with phase := 4 })
  else s

/-- Every instance on core `c` enters pass-through with cause CORE_RESET (R503). -/
def resetInstances (c : Nat) (s : State) : State :=
  let is := (s.dsp.insts.filter fun e => (e.2.core == c || (e.2.pair && e.2.core + 1 == c)) && e.2.state != 2).map (·.1)
  let s1 := stopKernel c 7 { s with dsp := { s.dsp with cores := Tab.upd s.dsp.cores c fun k => { k with wait := [] } } }
  (is.filter fun i => ((getInst s1 i).map (·.state)).getD 2 != 2).foldl (fun s i => passThrough i 7 0 0 s) s1

/-- DSP_WATCHDOG_EXPIRY (R503, R767): a core has not finished a job in 5 ms and is reset; the third reset in 60 s removes it
(Table 16-1). On a vendor core it is due while a job of an object reserved there is outstanding 5 ms after its boundary. -/
def execDspWatchdogExpiry (c : Nat) (s : State) : Out :=
  onPart (decide (c < 192)) s fun s =>
    let k := getCore s c
    let ph := phcNs s.time
    let ls := (coreLegs s c true).filter fun l => awaits s l && decide ((getGraph s (confOfLeg s l)).t + 5000000 ≤ ph)
    let cs := (coreLegs s c false).filter fun o =>
      let g := getGraph s o
      decide (1 ≤ g.phase) && decide (g.phase ≤ 3) && decide (g.t + 5000000 ≤ ph)
    let hung := k.run.isSome && decide (k.wdog + 5 * tMs ≤ s.time.ticks)
    guarded (hung || !ls.isEmpty || !cs.isEmpty) s fun s =>
      let waiting := k.wait.filter fun q => !q.init
      let s1 := if k.part.isSome then resetInstances c s else s
      let s2 := waiting.foldl (fun s q => kernelDone q.inst q.mt none (bumpInst s q.inst .kernelPassBlocks)) s1
      let s3 := cs.foldl loseMix (ls.foldl loseJob s2)
      let crit := (ls ++ cs.flatMap (critLegs s)).any (isCritical s)
        || ((k.run.map fun v => isCritical s (v.inst / 4)).getD false)
      let s4 := detect 0x04 c 0 0 false crit (updCore s3 c fun k => { k with wdog := s.time.ticks })
      let r := noteReset 1 c 3 60 s4
      if r.1 then removeCores [c] r.2 else r.2

/-! ## Kernel commands (R504 to R511, R522, R525) -/

/-- Entries of KERNEL_CORES: core and partition handle. -/
def coreItems (p : Bytes) (o : Nat) : Nat → List (Nat × Nat)
  | 0 => []
  | n + 1 => (le p o 2, le p (o + 4) 4) :: coreItems p (o + 8) n

/-- A core passes to a partition or to vendor work; its kernel regions are zeroed (R505). -/
def giveCore (c : Nat) (part : Option Nat) (s : State) : State :=
  updCore s c fun k => if k.part = part then k else { k.idle with part := part, mem := [], wait := [] }

/-- KERNEL_CORES (R504, R505). -/
def bodyKernelCores : Body := fun _ p _ s =>
  let es := coreItems p 8 (le p 0 1)
  let ok := fun c => (decide (152 ≤ c) && decide (c ≤ 175)) || c == 190 || c == 191
  let dest := fun h => if h = 0 then none else resolvePart s h
  let free := fun c part =>
    (getCore s c).part == part ||
      (if (getCore s c).part.isSome then !(s.dsp.insts.any fun e => e.2.core == c || (e.2.pair && e.2.core + 1 == c))
       else held s (if isGauge c then 3 else 2) (if isGauge c then c - 176 else c) [] == 0)
  checked [(es.all fun e => ok e.1, .outOfRange),
           (decide ((es.map (·.1)).Nodup), .outOfRange),
           (es.all fun e => e.2 == 0 || (dest e.2).isSome, .badHandle),
           (es.all fun e => free e.1 (dest e.2), .busy)] fun _ =>
    .ok [] 0 (es.foldl (fun s e => giveCore e.1 (dest e.2) s) s)

/-- Whether an image is well formed (R508, Table 9-11). -/
def imageOk (d : Bytes) : Bool :=
  let code := le d 12 4
  let const := le d 16 4
  let tbl := le d 28 4
  let m8 := fun o hi => le d o 4 % 8 == 0 && decide (le d o 4 ≤ hi)
  le d 0 4 == 0x4E4B5947 && le d 4 1 == 1 && decide (le d 5 1 ≤ 1) && decide (1 ≤ le d 6 1) && decide (le d 7 1 < 8)
    && le d 10 2 == 0 && code % 16 == 0 && decide (16 ≤ code) && decide (code ≤ 57344) && m8 16 32768 && m8 20 16384
    && m8 24 32768 && m8 28 16777216 && decide (le d 32 4 ≤ 800000) && decide (le d 36 4 ≤ 800000)
    && decide (le d 40 2 < code / 16) && decide (le d 42 2 < code / 16) && decide (d.length = 48 + code + const + tbl)
    && le d 44 4 == crc32 (d.drop 48)

/-- The kernel an image holds. -/
def imageKernel (d : Bytes) (gen part : Nat) : Kernel :=
  let code := le d 12 4
  let const := le d 16 4
  { gen := gen, part := part, gauge := le d 5 1 == 1, points := le d 7 1, stBytes := le d 20 4, scBytes := le d 24 4
    base := le d 32 4, sub := le d 36 4, init := le d 40 2, proc := le d 42 2
    code := (d.drop 48).take code, const := (d.drop (48 + code)).take const, table := d.drop (48 + code + const) }

/-- KERNEL_LOAD (R507 to R509): `d` is the image as read from ADDR. -/
def bodyKernelLoad : Body := fun F p d s =>
  let addr := le p 0 8
  let n := le p 8 4
  match (getFn s F).part with
  | none => .no .unassigned []
  | some pt =>
    let win := inWindow (getFn s F) addr n false
    let used := (s.dsp.kerns.filter fun e => e.2.part = pt).length
    let idx := (lowestFree (Tab.keys s.dsp.kerns) 0 16).getD 0
    let gen := nextGen (Tab.get s.dsp.kgens idx)
    let s1 := { s with dsp := { s.dsp with kerns := Tab.set s.dsp.kerns idx (imageKernel d gen pt), kgens := Tab.set s.dsp.kgens idx gen } }
    let fits := decide (s.dsp.kerns.length < 16) && decide (used < quota s pt 4 0) && (fitMem pt s1).isSome
    checked [(!win || (imageOk d && decide (d.length = n)), .badImage),
             (!win || (decide (le d 6 1 ≤ isaLevel) && le d 8 1 == s.boot.kabi % 256 && decide (le d 9 1 ≤ s.boot.kabi / 256)),
              .versionMismatch),
             (!win || fits, .noResource)] fun _ =>
      if win then .ok (toLe 4 (mkHandle 0xA gen idx)) (mkHandle 0xA gen idx) (shrinkMem pt s1) else .dma addr n 0

/-- The index of the kernel that a handle names for function `F`. -/
def resolveKernel (s : State) (F h : Nat) : Option Nat :=
  if hType h = 0xA then
    match Tab.get s.dsp.kerns (hIdx h) with
    | some k => if k.gen = hGen h && sees s F k.part then some (hIdx h) else none
    | none => none
  else none

/-- Whether a leg or conference names kernel `n` (R509). -/
def kernelNamed (s : State) (n : Nat) : Bool :=
  (s.dsp.insts.any fun e => e.2.kern == n) ||
    ((objKeys s 3).any fun l => [0, 2].any fun q => kernelAt s l q != 0 && hIdx (kernelAt s l q) == n) ||
    (objKeys s 2).any fun c => kernelAt s c 1 != 0 && hIdx (kernelAt s c 1) == n

/-- KERNEL_UNLOAD (R509). -/
def bodyKernelUnload : Body := fun F p _ s =>
  match resolveKernel s F (le p 0 4) with
  | none => .no .badHandle []
  | some n =>
    if kernelNamed s n then .no .inUse []
    else .ok [] 0 (shrinkMem (((Tab.get s.dsp.kerns n).map (·.part)).getD 0)
      { s with dsp := { s.dsp with kerns := Tab.del s.dsp.kerns n } })

/-- The instance that kernel and object handles name. -/
def instanceAt (s : State) (F : Nat) (p : Bytes) : Option Nat :=
  (resolveKernel s F (le p 0 4)).bind fun n =>
    (resolve s F 3 (le p 4 4) <|> resolve s F 2 (le p 4 4)).bind fun k =>
      ([0, 1, 2].map (ikey k)).find? fun i => ((getInst s i).map (·.kern)) == some n

/-- KERNEL_READ (R525, Table 9-15). -/
def bodyKernelRead : Body := fun F p _ s =>
  match (instanceAt s F p).bind (getInst s) with
  | none => .no .badHandle []
  | some k =>
    .ok (toLe 1 (k.state + 4 * k.cause + 32 * b2n k.pair) ++ toLe 1 k.core ++ zeros 2 ++ toLe 4 k.limit ++ toLe 4 k.last
      ++ toLe 4 k.max_ ++ toLe 8 k.time ++ zeros 8) 0 s

/-- KERNEL_RESUME (R522): it acts at the instance's next mix period boundary. -/
def bodyKernelResume : Body := fun F p _ s =>
  match instanceAt s F p with
  | none => .no .badHandle []
  | some i =>
    checked [(((getInst s i).map fun k => k.state == 2).getD false, .badState)] fun _ =>
      .ok [] 0 (updInst s i fun k => { k with resume := true })

/-- The boundary's part of a resume (R522): zeroed state, INIT to run. -/
def resumeInst (i : Nat) (s : State) : State :=
  updInst s i fun k => if k.resume then
    { k with resume := false, state := 0, init := true, first := true, max_ := 0, st := zeros k.st.length } else k

/-- KERNEL_CORES. -/
def execKernelCores (src : Src) (s : State) : Out := serve 0x010B src [] bodyKernelCores s
/-- KERNEL_LOAD. -/
def execKernelLoad (src : Src) (dma : Bytes) (s : State) : Out := serve 0x0D00 src dma bodyKernelLoad s
/-- KERNEL_UNLOAD. -/
def execKernelUnload (src : Src) (s : State) : Out := serve 0x0D01 src [] bodyKernelUnload s
/-- KERNEL_READ. -/
def execKernelRead (src : Src) (s : State) : Out := serve 0x0D02 src [] bodyKernelRead s
/-- KERNEL_RESUME. -/
def execKernelResume (src : Src) (s : State) : Out := serve 0x0D03 src [] bodyKernelResume s

end Sys2Proof.Machine
end

