-- ==== Sys2Proof/Machine/Transport.lean ====
section
/-!
DEFINITION. The host transport of chapter 14: doorbells and mailboxes (R690 to R695), BAR0 writes (R688, R689), rings
(R698 to R705), event queues (R707 to R715), fences (R724), function and host port resets (R676, R681), and the
identity and transport commands of Table 15-4.
-/

namespace Sys2Proof.Machine

open Sys2Proof

/-! ## Mailboxes -/

/-- Counts a refused doorbell or write (R692). -/
def refuse (F : Nat) (m : Mb) (s : State) : State :=
  let b := getMb s F m
  setMb s F m { b with refused := (b.refused + 1) % 2 ^ 32 }

/-- A doorbell write (R691 to R693). -/
def doorbell (F : Nat) (m : Mb) (seq : Nat) (s : State) : State :=
  let b := getMb s F m
  if s.host.dev == .notReady || s.host.dev == .resetting || s.host.dev == .failed || b.state ≠ .ready
      || seq % 65536 = b.seq then refuse F m s
  else
    let h := Mem.read 0 b.area 0 8
    let n := le h 4 2
    let b1 := { b with
      state := .pending, seq := seq % 65536, result := 0, since := s.time.ticks
      op := le h 0 2, hdrSeq := le h 2 2, len := n, flags := le h 6 2
      pay := Mem.read 0 b.area 8 (min n 2040) }
    let s1 := setMb s F m b1
    if serving s then
      match r693 s F m b1 with
      | some st => completeMb F m st [] s1
      | none => s1
    else s1

/-- DOORBELL_WRITE (R691). -/
def execDoorbellWrite (f : Nat) (m : Mb) (seq : Nat) (s : State) : Out :=
  onPart (decide (f < 256)) s (doorbell f m seq)

/-- The owner function's acknowledge of FW_ACTIVATE makes the activation reset due (R825). -/
def ackActivation (F : Nat) (b : Mbox) (s : State) : State :=
  if b.op = 0x0F04 && b.result = 0 && isOwner s F && s.boot.actReset.isSome then
    { s with boot := { s.boot with actReset := some s.time.ticks } }
  else s

/-- ACK_WRITE (R691). -/
def execAckWrite (f : Nat) (m : Mb) (seq : Nat) (s : State) : Out :=
  onPart (decide (f < 256)) s fun s =>
    let b := getMb s f m
    guarded (b.state == .done && b.seq == seq % 65536) s fun s =>
      ackActivation f b (setMb s f m { b with state := .ready, result := 0 })

/-- COMMAND_AREA_WRITE (R692): a write inside the 2 KB area, ignored and counted while PENDING. -/
def execCommandAreaWrite (f : Nat) (m : Mb) (off : Nat) (data : Bytes) (s : State) : Out :=
  onPart (decide (f < 256) && decide (off + data.length ≤ 2048)) s fun s =>
    let b := getMb s f m
    if b.state == .pending then refuse f m s
    else setMb s f m { b with area := Mem.write 0 b.area off data }

/-- The service time in ms of the command a mailbox holds (R694, R730, Tables 15-16, 15-18, 15-20). -/
def serviceMs (m : Mb) (b : Mbox) : Nat :=
  if b.op = 0x0A03 ∨ b.op = 0x0A04 then 5 + ceilDiv (le b.pay 4 4) 4194304
  else if b.op = 0x0D00 then 100 + 10 * ceilDiv (le b.pay 8 4) 1048576
  else if b.op = 0x0F02 then 4000
  else if b.op = 0x0F03 then 2000
  else if m = .media then 5 else 100

/-- The flash operations that a function's command still asked for are given up; one in progress ends (R694, R789). -/
def dropFlash (F : Nat) (s : State) : State :=
  { s with boot := { s.boot with jobs := s.boot.jobs.filter fun j => !(decide (j.kind < 2) && j.fn == F) } }

/-- MAILBOX_SERVICE_TIMEOUT (R694): the command completes with TIMEOUT and no effect. -/
def execMailboxServiceTimeout (f : Nat) (m : Mb) (s : State) : Out :=
  onPart (decide (f < 256)) s fun s =>
    let b := getMb s f m
    guarded (serving s && b.state == .pending && decide (b.since + serviceMs m b * tMs ≤ s.time.ticks)) s
      (fun s => completeMb f m .timeout [] (if m = .admin then dropFlash f s else s))

/-! ## BAR0 -/

/-- HOST_IFACE_WRITE (R696). -/
def execHostIfaceWrite (f : Nat) (v : Nat) (s : State) : Out :=
  onPart (decide (f < 256)) s fun s => updFn s f fun g => { g with iface := v % 2 ^ 32 }

/-- FUNC_STATUS_CLEAR (R689, R12): writing 1 to a bit clears it. -/
def execFuncStatusClear (f : Nat) (v : Nat) (s : State) : Out :=
  onPart (decide (f < 256)) s fun s =>
    updFn s f fun g => { g with status := (List.range 7).foldl (fun x i => if bitOf v i then clrBit x i else x) g.status }

/-- Whether the vector exists: 134 for a PF, 6 for a VF (R679). -/
def vecOk (F v : Nat) : Bool := if F % 64 = 0 then v < 134 else v < 6

/-- Sends the messages of pending vectors that are unmasked, when MSI-X is enabled (R679). -/
def sendPending (f : Func) : Func :=
  if f.msixEn then
    let go := f.pba.filter fun v => f.unmasked.contains v
    go.foldl (fun f v => { f with sent := Tab.set f.sent v (Tab.getD f.sent v 0 + 1) })
      { f with pba := f.pba.filter fun v => !(f.unmasked.contains v) }
  else f

/-- A write to the MSI-X table: dwords 0 to 2 are address and data, bit 0 of dword 3 masks the vector (R679). -/
def msixWrite (F off : Nat) (data : Bytes) (f : Func) : Func :=
  let v := (off - 0x8000) / 16
  if !(vecOk F v) then f
  else if off % 16 = 12 then
    (if bitOf (le data 0 4) 0 then { f with unmasked := f.unmasked.filter fun x => x ≠ v } else f)
  else { f with msixTab := Tab.set f.msixTab (off / 4) (le data 0 4) }

/-- REGISTER_WRITE (R688): FUNC_STATUS_MASK and the MSI-X table take the value; every other register without a
behaviour of its own, and every reserved offset, ignores it. -/
def execRegisterWrite (f : Nat) (off : Nat) (data : Bytes) (s : State) : Out :=
  onPart (decide (f < 256) && decide (off < 65536)) s fun s =>
    updFn s f fun g =>
      if (data.length = 4 ∨ data.length = 8) ∧ off % data.length = 0 then
        if off = 0x30 then { g with mask := le data 0 4 % 128 }
        else if 0x8000 ≤ off ∧ off < 0x8000 + 16 * 134 then
          (if data.length = 8 then msixWrite f (off + 4) (data.drop 4) (msixWrite f off (data.take 4) g)
           else msixWrite f off data g)
        else g
      else g

/-- MSIX_UNMASK (R679): a pending message is sent once the vector is unmasked with MSI-X enabled. -/
def execMsixUnmask (f v : Nat) (s : State) : Out :=
  onPart (decide (f < 256) && vecOk f v) s fun s =>
    updFn s f fun g => sendPending { g with unmasked := if g.unmasked.contains v then g.unmasked else v :: g.unmasked }

/-! ## Rings and event queues -/

/-- Puts a ring in ERROR: RING_ERROR is set and the event written (R701, R727); `cause` 0 TAIL, 1 DMA. -/
def ringError (F k cause tailW : Nat) (s : State) : State :=
  match Tab.get (getFn s F).rings k with
  | none => s
  | some r =>
    emit (.fn F) 0x003 0 (toLe 1 k ++ toLe 1 cause ++ zeros 2 ++ toLe 4 r.head ++ toLe 4 tailW)
      (updFn s F fun f => setStatus { f with rings := Tab.set f.rings k { r with state := .error } } 3)

/-- RING_TAIL_WRITE (R701, R704): ignored while STOPPED or ERROR. -/
def execRingTailWrite (f k : Nat) (v : Nat) (s : State) : Out :=
  onPart (decide (f < 256) && decide (k < 64)) s fun s =>
    match Tab.get (getFn s f).rings k with
    | none => s
    | some r =>
      if r.state ≠ .running then s
      else if r.size < wrap 32 ((v : Int) - r.head) then ringError f k 0 (v % 2 ^ 32) s
      else updFn s f fun g => { g with rings := Tab.set g.rings k { r with tail := v % 2 ^ 32 } }

/-- HEAD_WRITEBACK (R705): 8 bytes to HEAD_WB. -/
def execHeadWriteback (f k : Nat) (s : State) : Out :=
  onPart (decide (f < 256) && decide (k < 64)) s fun s =>
    match Tab.get (getFn s f).rings k with
    | none => s
    | some r =>
      guarded r.wbDue.isSome s fun s =>
        updFn s f fun g => { g with
          rings := Tab.set g.rings k { r with wbDue := none }
          lastWr := some (r.headWb, toLe 4 r.head ++ zeros 4) }

/-- EQ_HEAD_WRITE (R710). -/
def execEqHeadWrite (f q : Nat) (v : Nat) (s : State) : Out :=
  onPart (decide (f < 256) && decide (q < 64)) s fun s =>
    match Tab.get (getFn s f).queues q with
    | none => s
    | some e =>
      if wrap 32 ((e.tail : Int) - v) ≤ e.size then
        updFn s f fun g => { g with queues := Tab.set g.queues q { e with head := v % 2 ^ 32 } }
      else bumpFn s f .eqHeadErr

/-- EVENT_BACKLOG_DRAIN (R714). -/
def execEventBacklogDrain (f : Nat) (s : State) : Out :=
  onPart (decide (f < 256)) s fun s =>
    let g := getFn s f
    let g1 := (Tab.keys g.queues).foldl (fun g q => eqLost s.time.ticks (now s) g q) g
    setFn s f (eqDrain s.time.ticks (now s) g1 [] g1.backlog)

/-- COALESCE_TIMEOUT (R715). -/
def execCoalesceTimeout (f q : Nat) (s : State) : Out :=
  onPart (decide (f < 256) && decide (q < 64)) s fun s =>
    match Tab.get (getFn s f).queues q with
    | none => s
    | some e =>
      guarded (decide (0 < e.u) && decide (e.t0 + e.time * tUs ≤ s.time.ticks)) s fun s =>
        updFn s f fun g => signalVec { g with queues := Tab.set g.queues q { e with u := 0 } } e.vector

/-! ## Fences -/

/-- FENCE_WRITE (R724). -/
def execFenceWrite (f i : Nat) (data : Bytes) (s : State) : Out :=
  onPart (decide (f < 256) && decide (i < 256)) s fun s =>
    match Tab.get (getFn s f).fences i with
    | none => bumpFn s f .fenceBadWrite
    | some v =>
      if data.length ≠ 8 then bumpFn s f .fenceBadWrite
      else if le data 0 8 < v then bumpFn s f .fenceBackward
      else updFn s f fun g => { g with fences := Tab.set g.fences i (le data 0 8) }

/-- FENCE_ADD_WRITE (R724): saturates at 2^64 - 1. -/
def execFenceAddWrite (f i : Nat) (data : Bytes) (s : State) : Out :=
  onPart (decide (f < 256) && decide (i < 256)) s fun s =>
    match Tab.get (getFn s f).fences i with
    | none => bumpFn s f .fenceBadWrite
    | some v =>
      if data.length ≠ 8 then bumpFn s f .fenceBadWrite
      else updFn s f fun g => { g with fences := Tab.set g.fences i (min (2 ^ 64 - 1) (v + le data 0 8)) }

/-! ## Host ring indices -/

/-- A consumer index write (R717): not ahead of the producer, not more than `slots` behind. -/
def consumerWrite (F kind v : Nat) (s : State) : State :=
  match Tab.get (getFn s F).hrings kind with
  | none => bumpFn s F .hostRingIndexErr
  | some r =>
    if wrap 32 ((r.tail : Int) - v) ≤ r.slots then
      updFn s F fun f => { f with hrings := Tab.set f.hrings kind { r with head := v % 2 ^ 32 } }
    else bumpFn s F .hostRingIndexErr

/-- A producer index write (R718): not behind the consumer, not more than the ring ahead of it. -/
def producerWrite (F kind v : Nat) (s : State) : State :=
  match Tab.get (getFn s F).hrings kind with
  | none => bumpFn s F .hostRingIndexErr
  | some r =>
    if wrap 32 ((v : Int) - r.head) ≤ r.slots then
      updFn s F fun f => { f with hrings := Tab.set f.hrings kind { r with tail := v % 2 ^ 32 } }
    else bumpFn s F .hostRingIndexErr

/-- EXC_HEAD_WRITE (R717). -/
def execExcHeadWrite (f : Nat) (v : Nat) (s : State) : Out := onPart (decide (f < 256)) s (consumerWrite f 0 v)
/-- HTX_TAIL_WRITE (R718). -/
def execHtxTailWrite (f : Nat) (v : Nat) (s : State) : Out := onPart (decide (f < 256)) s (producerWrite f 1 v)
/-- TEX_HEAD_WRITE (R719). -/
def execTexHeadWrite (f : Nat) (v : Nat) (s : State) : Out := onPart (decide (f < 256)) s (consumerWrite f 2 v)
/-- TTX_TAIL_WRITE (R719). -/
def execTtxTailWrite (f : Nat) (v : Nat) (s : State) : Out := onPart (decide (f < 256)) s (producerWrite f 3 v)

/-! ## Resets and configuration space -/

/-- A mailbox after a reset of its function (R681, R691): a PENDING command still completes, its result discarded. -/
def resetMb (b : Mbox) : Mbox :=
  { refused := b.refused
    area := b.area
    res := b.res
    orphan := if b.state == .pending then some (b.op, b.pay) else b.orphan }

/-- The effects of a function reset (Table 14-2). -/
def resetFunc (f : Func) : Func :=
  { f with
    iface := 0, admin := resetMb f.admin, media := resetMb f.media
    rings := [], queues := [], backlog := [], pendLoss := [], route := [], q0 := false, hrings := [], wins := []
    unmasked := [], pba := [], msixEn := false }

/-- FUNCTION_LEVEL_RESET (R681). -/
def execFunctionLevelReset (f : Nat) (s : State) : Out := onPart (decide (f < 256)) s fun s => updFn s f resetFunc

/-- HOST_PORT_RESET (R676): PERST_N[p] falls (`low`) with the effects of a function reset on the port's functions, or
rises. A port that the host port mode does not use ignores it (R796). -/
def execHostPortReset (p : Nat) (low : Bool) (s : State) : Out :=
  onAon (decide (p < 4)) s fun s =>
    guarded (decide (64 * p < nFuncs s)) s fun s =>
      let s1 := { s with host := { s.host with perst := setAt s.host.perst p (low, s.time.ticks + 100 * tMs) } }
      if low then { s1 with host := { s1.host with
        fns := s1.host.fns.map fun e => if e.1 / 64 = p then (e.1, resetFunc e.2) else e } }
      else s1

/-- CONFIG_REQUEST (R678, R796): Retry Status until 100 ms after the later of the PORST_N and PERST_N rising edges. -/
def execConfigRequest (f : Nat) (c : CfgOp) (s : State) : Out :=
  onAon (decide (f < nFuncs s)) s fun s =>
    let pr := s.host.perst[f / 64]?.getD (true, 0)
    if pr.1 || s.boot.porstLow || decide (s.time.ticks < pr.2) then
      { s with host := { s.host with cfg := .retry } }
    else
      match c with
      | .deviceId => { s with host := { s.host with cfg := .data (if f % 64 = 0 then 0x4096 else 0x4097) } }
      | .classCode => { s with host := { s.host with cfg := .data 0x048000 } }
      | .bar0Size => { s with host := { s.host with cfg := .data 65536 } }
      | .msixEnable on => updFn { s with host := { s.host with cfg := .data 0 } } f fun g => sendPending { g with msixEn := on }

/-- OWNER_TRANSFER_EXPIRY (R682). -/
def execOwnerTransferExpiry (s : State) : Out :=
  live s (fun s => match s.host.transfer with
    | some (_, t) => if t + 10 * tS ≤ s.time.ticks then { s with host := { s.host with transfer := none } } else s
    | none => s)

/-! ## Identity and transport commands (Table 15-4) -/

/-- IDENT of a function (Table 14-5). -/
def identWord (s : State) (F : Nat) : Nat :=
  0x4096 + 0xA1 * 2 ^ 16 + F * 2 ^ 24 + F / 64 * 2 ^ 32 + b2n (decide (F % 64 = 0)) * 2 ^ 34
    + b2n (isOwner s F) * 2 ^ 35 + b2n (timeOwner s == some F) * 2 ^ 36

/-- NOP: a ring-only entry without effect. -/
def bodyNop : Body := fun _ _ _ s => .ok [] 0 s

/-- IDENTIFY (R737, Table 15-5). -/
def bodyIdentify : Body := fun F _ _ s =>
  .ok (toLe 8 (identWord s F) ++ toLe 1 fuseOrdering ++ toLe 1 s.host.mode ++ toLe 1 (ethMode s)
    ++ toLe 1 s.mem.channels ++ toLe 4 s.host.version ++ toLe 4 s.host.bundle ++ toLe 1 isaLevel ++ toLe 1 isaLevel
    ++ toLe 1 (s.boot.kabi % 256) ++ toLe 1 (s.boot.kabi / 256) ++ toLe 8 fuseSerial ++ toLe 8 (dramBytes s)
    ++ toLe 2 s.mem.rate ++ toLe 1 s.boot.booted ++ toLe 1 s.boot.mismatch ++ zeros 4) 0 s

/-- RING_CREATE (R698): the event queue need not exist yet (R850 does not cover this command). -/
def bodyRingCreate : Body := fun F p _ s =>
  let f := getFn s F
  let k := le p 0 1
  let size := le p 4 4
  let base := le p 8 8
  let wb := le p 16 8
  checked [
    (decide (k < 64) && decide (le p 1 1 < 64) && decide (64 ≤ size) && decide (size ≤ 65536)
      && decide (2 ^ Nat.log2 size = size) && decide (base % 64 = 0) && decide (wb % 8 = 0), .outOfRange),
    (!(Tab.has f.rings k), .conflict)] fun _ =>
  if !(inWindow f base (64 * size) false) then .dma base (64 * size) 0
  else if wb ≠ 0 && !(inWindow f wb 8 true) then .dma wb 8 1
  else .ok [] 0 (setFn s F { f with rings := Tab.set f.rings k { base := base, size := size, eq := le p 1 1, headWb := wb } })

/-- RING_DELETE (R850): posted entries are discarded. -/
def bodyRingDelete : Body := fun F p _ s =>
  let f := getFn s F
  checked [(Tab.has f.rings (le p 0 1), .badHandle)] fun _ =>
    .ok [] 0 (setFn s F { f with rings := Tab.del f.rings (le p 0 1) })

/-- RING_RESTART (R704). -/
def bodyRingRestart : Body := fun F p _ s =>
  let f := getFn s F
  match Tab.get f.rings (le p 0 1) with
  | none => .no .badHandle []
  | some r =>
    checked [
      (decide (wrap 32 ((le p 4 4 : Int) - r.head) ≤ r.size), .outOfRange),
      (r.state ≠ .running, .badState)] fun _ =>
      let r1 : Ring := { r with tail := le p 4 4, fetch := r.head, state := .running }
      .ok [] 0 (setFn s F { f with rings := Tab.set f.rings (le p 0 1) r1 })

/-- EQ_CREATE (R707, R711). -/
def bodyEqCreate : Body := fun F p _ s =>
  let f := getFn s F
  let q := le p 0 1
  let size := le p 4 4
  let base := le p 8 8
  checked [
    (decide (q < 64) && decide (64 ≤ size) && decide (size ≤ 65536) && decide (2 ^ Nat.log2 size = size)
      && decide (base % 32 = 0) && vecOk F (le p 2 2) && decide (1 ≤ le p 16 2), .outOfRange),
    (!(Tab.has f.queues q), .conflict)] fun _ =>
  if !(inWindow f base (32 * size) true) then .dma base (32 * size) 1
  else .ok [] 0 (setFn s F { f with
    queues := Tab.set f.queues q { base := base, size := size, vector := le p 2 2, count := le p 16 2, time := le p 18 2 }
    q0 := f.q0 || q == 0 })

/-- EQ_DELETE: refused while a ring or STAMP_EQ names the queue. -/
def bodyEqDelete : Body := fun F p _ s =>
  let f := getFn s F
  let q := le p 0 1
  checked [
    (Tab.has f.queues q, .badHandle),
    (!(f.rings.any fun e => e.2.eq = q) && !(timeOwner s == some F && fld s.time.prm (fk 0x0B 8 0) == (q : Int)), .inUse)] fun _ =>
    .ok [] 0 (setFn s F { f with
      queues := Tab.del f.queues q, pendLoss := Tab.del f.pendLoss q
      backlog := f.backlog.filter fun e => e.1 ≠ q
      ctrs := bump f.ctrs .evtUnrouted (f.backlog.filter fun e => e.1 = q).length })

/-- The items of EVENT_ROUTE: type and queue. -/
def routeItems (p : Bytes) (o : Nat) : Nat → List (Nat × Nat)
  | 0 => []
  | n + 1 => (le p o 2 % 4096, le p (o + 2) 1) :: routeItems p (o + 4) n

/-- Whether the reserved bits of EVENT_ROUTE are zero: of its flag byte and of `n` items. -/
def routeClean (p : Bytes) (n : Nat) : Bool :=
  decide (le p 2 1 ≤ 1) && (List.range n).all fun i => decide (le p (4 + 4 * i) 2 < 4096) && le p (7 + 4 * i) 1 == 0

/-- EVENT_ROUTE (R711). -/
def bodyEventRoute : Body := fun F p _ s =>
  let its := routeItems p 4 (le p 0 2)
  checked [(routeClean p (le p 0 2), .unsupportedField), (its.all fun e => decide (e.2 < 64) || e.2 == 255, .outOfRange)] fun _ =>
    .ok [] 0 (updFn s F fun f => { f with
      route := its.foldl (fun t e => Tab.set t e.1 e.2) f.route, ownerAll := bitOf (le p 2 1) 0 })

/-- Bytes of one slot of a host ring. -/
def slotBytesOf (c : Nat) : Nat := if c = 0 then 2048 else if c = 1 then 4096 else 10240

/-- Whether some function already holds the ring of this kind for the partition (R716), or the function for kinds 2
and 3. -/
def hringTaken (s : State) (F kind : Nat) : Bool :=
  if kind < 2 then
    s.host.fns.any fun e => match Tab.get e.2.hrings kind with
      | some r => r.part == (getFn s F).part
      | none => false
  else Tab.has (getFn s F).hrings kind

/-- HOST_RING_CREATE (R716, R718, R719). -/
def bodyHostRingCreate : Body := fun F p _ s =>
  let f := getFn s F
  let kind := le p 0 1
  let slots := le p 4 4
  let base := le p 8 8
  let bytes := slots * (if kind = 1 ∨ kind = 3 then 32 else slotBytesOf (le p 1 1))
  checked [
    (2 ≤ kind || f.part.isSome || (kind = 0 && isOwner s F), .unassigned),
    (kind < 2 || timeOwner s == some F, .notOwner),
    (decide (kind < 4) && decide (le p 1 1 < 3) && decide (64 ≤ slots) && decide (slots ≤ 16384)
      && decide (2 ^ Nat.log2 slots = slots), .outOfRange),
    (!(hringTaken s F kind) && !(Tab.has f.hrings kind), .conflict)] fun _ =>
  if !(inWindow f base bytes (kind = 0 || kind = 2)) then .dma base bytes (b2n (kind = 0 || kind = 2))
  else
    let r : HostRing := { base := base, slots := slots, slotBytes := slotBytesOf (le p 1 1), part := f.part }
    .ok [] 0 (setFn s F { f with hrings := Tab.set f.hrings kind r })

/-- HOST_RING_DELETE (R850). -/
def bodyHostRingDelete : Body := fun F p _ s =>
  let f := getFn s F
  checked [(Tab.has f.hrings (le p 0 1), .badHandle)] fun _ =>
    .ok [] 0 (setFn s F { f with hrings := Tab.del f.hrings (le p 0 1) })

/-- DMA_WINDOW_ADD (R726). -/
def bodyDmaWindowAdd : Body := fun F p _ s =>
  let f := getFn s F
  let fl := le p 16 1
  checked [
    (decide (le p 0 8 % 4096 = 0) && decide (le p 8 8 % 4096 = 0) && decide (0 < le p 8 8)
      && decide (1 ≤ fl) && decide (le p 0 8 + le p 8 8 ≤ 2 ^ 64), .outOfRange),
    (decide (fl ≤ 3), .unsupportedField),
    ((lowestFree (Tab.keys f.wins) 0 64).isSome, .noResource)] fun _ =>
    let i := (lowestFree (Tab.keys f.wins) 0 64).getD 0
    let w : Window := { base := le p 0 8, len := le p 8 8, read := bitOf fl 0, write := bitOf fl 1 }
    .ok (toLe 1 i ++ zeros 7) 0 (setFn s F { f with wins := Tab.set f.wins i w })

/-- Whether [a, a + n) lies in a window. -/
def Window.holds (w : Window) (a n : Nat) : Bool := decide (w.base ≤ a) && decide (a + n ≤ w.base + w.len)

/-- Whether a ring, event queue, host ring or HEAD_WB lies in the window (R726). -/
def windowUsed (f : Func) (w : Window) : Bool :=
  (f.rings.any fun e => w.holds e.2.base (64 * e.2.size) || (e.2.headWb ≠ 0 && w.holds e.2.headWb 8)) ||
  (f.queues.any fun e => w.holds e.2.base (32 * e.2.size)) ||
  (f.hrings.any fun e => w.holds e.2.base (e.2.slots * (if e.1 = 1 ∨ e.1 = 3 then 32 else e.2.slotBytes)))

/-- DMA_WINDOW_REMOVE (R726). -/
def bodyDmaWindowRemove : Body := fun F p _ s =>
  let f := getFn s F
  match Tab.get f.wins (le p 0 1) with
  | none => .no .badHandle []
  | some w =>
    checked [(!(windowUsed f w), .inUse)] fun _ => .ok [] 0 (setFn s F { f with wins := Tab.del f.wins (le p 0 1) })

/-- NOP. -/
def execNop (src : Src) (s : State) : Out := serve 0x0000 src [] bodyNop s
/-- IDENTIFY. -/
def execIdentify (src : Src) (s : State) : Out := serve 0x0001 src [] bodyIdentify s
/-- RING_CREATE. -/
def execRingCreate (src : Src) (s : State) : Out := serve 0x0010 src [] bodyRingCreate s
/-- RING_DELETE. -/
def execRingDelete (src : Src) (s : State) : Out := serve 0x0011 src [] bodyRingDelete s
/-- RING_RESTART. -/
def execRingRestart (src : Src) (s : State) : Out := serve 0x0012 src [] bodyRingRestart s
/-- EQ_CREATE. -/
def execEqCreate (src : Src) (s : State) : Out := serve 0x0013 src [] bodyEqCreate s
/-- EQ_DELETE. -/
def execEqDelete (src : Src) (s : State) : Out := serve 0x0014 src [] bodyEqDelete s
/-- EVENT_ROUTE. -/
def execEventRoute (src : Src) (s : State) : Out := serve 0x0015 src [] bodyEventRoute s
/-- HOST_RING_CREATE. -/
def execHostRingCreate (src : Src) (s : State) : Out := serve 0x0016 src [] bodyHostRingCreate s
/-- HOST_RING_DELETE. -/
def execHostRingDelete (src : Src) (s : State) : Out := serve 0x0017 src [] bodyHostRingDelete s
/-- DMA_WINDOW_ADD. -/
def execDmaWindowAdd (src : Src) (s : State) : Out := serve 0x0018 src [] bodyDmaWindowAdd s
/-- DMA_WINDOW_REMOVE. -/
def execDmaWindowRemove (src : Src) (s : State) : Out := serve 0x0019 src [] bodyDmaWindowRemove s

end Sys2Proof.Machine
end

