-- ==== Sys2Proof/Machine/Faults.lean ====
section
/-!
DEFINITION. Faults, watchdogs and recovery (chapter 16): the engine watchdog (R293), losing the Bench (R772 to R774, R135
to R137), device recovery (R775, R776), the monitors (R756, R757, R847 to R849), the margin plan (R777 to R786), the fault
commands and AUDIT_READ (R764, R765, R793).
-/

namespace Sys2Proof.Machine

open Sys2Proof

/-- Replaces the dependability part. -/
def setDep (s : State) (d : DepPart) : State := { s with dep := d }

/-! ## Engine watchdog (R293, R766) -/

/-- Whether an instance holds a reservation of a critical object. -/
def critOn (s : State) (code inst : Nat) : Bool :=
  s.obj.objs.any fun e => e.2.crit && e.2.both.any fun r => r.code == code && r.inst == inst

/-- Codec contexts bound to an engine. -/
def boundOn (s : State) (e : Nat) : Nat :=
  (s.obj.streams.filter fun x => x.2.dec.st != 0 && x.2.dec.engine == e).length
    + (s.obj.rungs.filter fun x => x.2.st != 0 && x.2.engine == e).length

/-- Where floating work goes (R48, R66): the engine with the fewest contexts among those in service that may run it, the
lowest on a tie. -/
def idleEngine (s : State) (k : Nat) : Nat :=
  let es := (List.range 16).filter fun e => !(s.dep.removed.contains (0, e))
  let ok := es.filter fun e => mayRun s e k
  let l := if ok.isEmpty then es else ok
  l.foldl (fun b e => if boundOn s e < boundOn s b then e else b) (l.headD 0)

/-- The engine of the fixed reservation of a stream or rung. -/
def engineHeld (s : State) (k : Nat) : Option Nat :=
  ((bothOf s k).reverse.find? fun r => r.code == 1).map (·.inst)

/-- The engine a stream or rung is to run on: its reservation's, else where it is while that is in service. -/
def engineFor (s : State) (k cur : Nat) : Nat :=
  let rest := match (getObj s k).bind (·.migAt) with
    | some t => decide (t + tS ≤ s.time.ticks)
    | none => true
  (engineHeld s k).getD (if s.dep.removed.contains (0, cur) || (!(mayRun s cur k) && rest) then idleEngine s k else cur)

/-- Moves a codec context with its ready items to engine `e` (R67, R68). -/
def moveEngine (k cur e : Nat) (s : State) : State :=
  if cur = e then s
  else
    let g := getEng s cur
    let its := (g.chain ++ g.ready).filter fun i => i.k == k
    let s1 := updEng (dropItems cur (fun i => i.k == k) s) e fun h => { h with ready := h.ready ++ its }
    let s2 := updObj s1 k fun o => if o.fixed then o else { o with migr := (o.migr + 1) % 2 ^ 32, migAt := some s.time.ticks }
    if k / 1048576 = 4 then setDec s2 k { getDec s2 k with engine := e } else setRung s2 k { getRung s2 k with engine := e }

/-- The contexts whose boundary is an instant of rate `r` leave engines that are out of service, and fixed ones follow their
reservation (R67, R72, R766). -/
def rehome (r : Nat) (s : State) : State :=
  let xs := (s.obj.streams.filter fun x => x.2.dec.st != 0 && dprm s x.1 4 == r).map fun x => (x.1, x.2.dec.engine)
  let rs := (s.obj.rungs.filter fun x => x.2.st != 0 && layoutRate s (parentKey s x.1) == r).map fun x => (x.1, x.2.engine)
  (xs ++ rs).foldl (fun s e => moveEngine e.1 e.2 (engineFor s e.1 e.2) s) s

/-- The watchdog time of an engine's item in ns (Tables 5-6 and 7-10): twice the frame period, at most 100 ms. -/
def watchdogNs (s : State) (i : EngItem) : Nat :=
  min 100000000 (2 * (if i.enc then rprm s i.k 5 * framePeriod (layoutRate s (parentKey s i.k)) else decPeriod s i.k))

/-- The item of a reset engine: a frame is LOST, a picture is given back and the next begins a cycle. -/
def loseItem (i : EngItem) (s : State) : State :=
  if i.enc then
    let d0 := getRung s i.k
    let s1 := match d0.run with
      | some p => discardPicture i.k p s
      | none => s
    let d := getRung s1 i.k
    setRung s1 i.k { d with st := if d.st = 1 then 1 else 3, pos := 0, cycReq := max 1 d.cycReq }
  else
    let d := getDec s i.k
    match d.handed.find? fun f => f.ts = i.id with
    | none => s
    | some f =>
      takeCredits i.k 8 (lostFrame i.k 9 f.info.isRef (setDec s i.k { d with handed := d.handed.filter fun g => g.ts ≠ i.id }))

/-- ENGINE_WATCHDOG_EXPIRY (R293, R402, R766): the engine is reset for at most 200 µs, its item dropped, ENGINE_RESET
written; the third reset in 60 s removes it. -/
def execEngineWatchdogExpiry (e : Nat) (s : State) : Out :=
  onPart (decide (e < 16)) s fun s =>
    match (getEng s e).run with
    | none => s
    | some i =>
      guarded (decide ((getEng s e).startAt + nsTicks (watchdogNs s i) ≤ s.time.ticks)) s fun s =>
        let s1 := updEng s e fun g => { g with run := none, resetTo := some (s.time.ticks + 200 * tUs) }
        let s2 := emitObj (loseItem i s1) i.k 0x042 (toLe 1 e ++ toLe 1 (b2n i.enc))
        let s3 := detect 0x05 e (handleOf s2 i.k) 0 false (isCritical s2 i.k || critOn s2 1 e) s2
        let r := noteReset 0 e 3 60 s3
        if r.1 && !(s.dep.removed.contains (0, e)) then
          readmitLost (setDec_ r.2 e)
        else r.2
where
  /-- the engine leaves service -/
  setDec_ (s : State) (e : Nat) : State := setDep s { s.dep with removed := s.dep.removed ++ [(0, e)] }

/-- ENGINE_RESET_END (R293): the engine returns to its ready list. -/
def execEngineResetEnd (e : Nat) (s : State) : Out :=
  onPart (decide (e < 16)) s fun s => updEng s e fun g => { g with resetTo := none }

/-! ## Losing the Bench (R772 to R774) -/

/-- FIRMWARE_HEARTBEAT (R772). -/
def execFirmwareHeartbeat (s : State) : Out :=
  live s fun s => guarded (serving s) s fun s => setDep s { s.dep with hbFw := s.time.ticks }

/-- CLAMP_HEARTBEAT (R773): the Clamp's own heartbeat, and the confirmation of the firmware's latest. -/
def execClampHeartbeat (s : State) : Out :=
  live s fun s => setDep s { s.dep with hbClamp := s.time.ticks, confirmed := s.dep.hbFw }

/-- The flash operations of commands end with the firmware that serves them; those of the device's own stay. -/
def dropCommandJobs (s : State) : State :=
  { s with boot := { s.boot with jobs := s.boot.jobs.filter fun j => decide (2 ≤ j.kind) } }

/-- BENCH_WATCHDOG_EXPIRY (R772, R135): a warm restart; the sequencer runs alone and a shadow bank being written is
discarded. -/
def execBenchWatchdogExpiry (s : State) : Out :=
  live s fun s => guarded (s.host.dev == .ready && decide (s.dep.hbFw + tS ≤ s.time.ticks)) s fun s =>
    let s1 := detect 0x0E 0xFFFF 0 0 false false s
    let s2 := { s1 with host := { s1.host with dev := .fwRestarting } }
    let s3 := setDep s2 { s2.dep with restartAt := some s.time.ticks }
    dropCommandJobs (setTime s3 { s3.time with alone := true, aloneAt := s.time.ticks, shadow := [], commit := false })

/-- Sets a bit of FUNC_STATUS of every function (Table 14-7). -/
def allStatus (n : Nat) (s : State) : State :=
  { s with host := { s.host with fns := s.host.fns.map fun e => (e.1, setStatus e.2 n) } }

/-- The mailboxes that are PENDING, in order of arrival. -/
def pendingMbs (s : State) : List (Nat × Mb) :=
  let l := s.host.fns.flatMap fun e =>
    (if e.2.admin.state == .pending then [(e.2.admin.since, e.1, Mb.admin)] else []) ++
    (if e.2.media.state == .pending then [(e.2.media.since, e.1, Mb.media)] else [])
  (sortBy l fun a b => decide (a.1 ≤ b.1)).map (·.2)

/-- The service time of a waiting command did not run since tick `r`, when firmware went away (R694). -/
def Mbox.shift (now_ r : Nat) (b : Mbox) : Mbox :=
  if b.state == .pending then { b with since := b.since + (now_ - max b.since r) } else b

/-- A waiting command that R693 refuses completes once firmware is back. -/
def refuseWaiting (s : State) (e : Nat × Mb) : State :=
  match r693 s e.1 e.2 (getMb s e.1 e.2) with
  | some st => completeMb e.1 e.2 st [] s
  | none => s

/-- FW_RESTARTED (R774, R136): firmware re-attaches; the commands that wait are served in order of arrival, and a holdover
found meanwhile is reported with its media time. -/
def execFwRestarted (s : State) : Out :=
  live s fun s => guarded (s.host.dev == .fwRestarting) s fun s =>
    let us := (s.time.ticks - s.dep.restartAt.getD s.time.ticks) / tUs
    let n := (s.host.restarts + 1) % 2 ^ 32
    let sh := fun (f : Func) => { f with
      admin := f.admin.shift s.time.ticks (s.dep.restartAt.getD s.time.ticks)
      media := f.media.shift s.time.ticks (s.dep.restartAt.getD s.time.ticks) }
    let s1 := { s with host := { s.host with
      dev := .ready, restarts := n, replay := pendingMbs s, fns := s.host.fns.map fun e => (e.1, sh e.2) } }
    let s2 := setDep s1 { s1.dep with restartAt := none, hbFw := s.time.ticks }
    let s3 := setTime s2 { s2.time with alone := false, stopped := false }
    let s4 := (pendingMbs s).foldl refuseWaiting
      (emit .all 0x007 0 (toLe 4 n ++ toLe 4 (min us 0xFFFFFFFF)) (allStatus 1 (conditionEnd 0x0F 0xFFFF 0 s3)))
    match s4.time.holdLate with
    | some _ => enterHoldover s4
    | none => s4

/-- SEQUENCER_ALONE_EXPIRY (R137): firmware still absent after 1 s. -/
def execSequencerAloneExpiry (s : State) : Out :=
  live s fun s => guarded (s.time.alone && !s.time.stopped && decide (s.time.aloneAt + tS ≤ s.time.ticks)) s fun s =>
    detect 0x0F 0xFFFF 0 0 true true (setTime s { s.time with stopped := true })

/-- FIRMWARE_TASK_TIMEOUT (R771): the task of the command in a mailbox, or one that serves none, is ended. -/
def execFirmwareTaskTimeout (cmd : Option (Nat × Mb)) (s : State) : Out :=
  live s fun s => guarded (serving s) s fun s =>
    let s1 := bumpDev s .fwTaskTimeout
    match cmd with
    | some (f, m) =>
      if (getMb s1 f m).state == .pending then completeMb f m .timeout [] (if m = .admin then dropFlash f s1 else s1) else s1
    | none => s1

/-! ## Device recovery (R775) -/

/-- A codec context across a recovery (Table 16-5): decoders enter SYNC_WAIT, encoders START. -/
def resetContexts (s : State) : State :=
  let s1 := s.obj.streams.foldl (fun s x => if (getDec s x.1).st = 0 then s else syncWait x.1 s) s
  { s1 with obj := { s1.obj with
    rungs := s1.obj.rungs.map fun e => (e.1, if e.2.st = 0 then e.2 else
      { e.2 with st := 1, wait := none, run := none, pos := 0 })
    streams := s1.obj.streams.map fun e => (e.1, { e.2 with jb := {}, te := [], fifo := [] })
    legs := s1.obj.legs.map fun e => (e.1, { e.2 with aud := { e.2.aud with clips := [], dtmf := none, conceal := false } })
    confs := s1.obj.confs.map fun e => (e.1, { e.2 with aud := { core := e.2.aud.core, gauge := e.2.aud.gauge } })
    layouts := s1.obj.layouts.map fun e => (e.1, { e.2 with due := none, run := none, bands := 0 }) } }

/-- The domains reset: cores, engines, compositors, ports, queues and requests lose what they held. -/
def resetDomains (s : State) : State :=
  let s1 := (List.range 8).foldl (fun s p => updPort (linkDrop p s) p fun e => { e with fifo := [], held := none, pausedTo := [] }) s
  let s2 := (Tab.keys s1.batten.queues).foldl (fun s q => qDiscard q (fun _ => true) s) s1
  { s2 with
    vid := { s2.vid with
      engines := []
      comps := []
      disp := { s2.vid.disp with link := if s2.vid.disp.hpd then 1 else 0, locked := false, good := 0, bad := 0, shown := none } }
    dsp := { s2.dsp with
      cores := s2.dsp.cores.map fun e => (e.1, { part := e.2.part, wdog := s2.time.ticks })
      insts := s2.dsp.insts.map fun e => (e.1, { e.2 with state := 0, cause := 0, init := true, first := true, resume := false }) }
    aud := { s2.aud with
      ins := []
      ports := s2.aud.ports.map fun e => (e.1, if e.2.st = 0 then e.2 else startPort e.1 e.2.fields e.2) }
    mem := { s2.mem with subs := [], ranks := s2.mem.ranks.map fun e => (e.1, { e.2 with power := 2 }) }
    obj := { s2.obj with parts := s2.obj.parts.map fun e => (e.1, { e.2 with excQ := [] }) } }

/-- A device recovery begins (R775, Table 16-5): every domain but AON, TIMER and the PCIe configuration logic is reset. -/
def beginRecovery (cause : Nat) (s : State) : State :=
  if s.host.dev == .ready || s.host.dev == .fwRestarting || s.host.dev == .recovery then
    let s1 := { s with host := { s.host with dev := .resetting, replay := [] } }
    let s2 := setDep s1 { s1.dep with recoverBy := some (cause, s.time.ticks), restartAt := none }
    let s3 := setTime s2 { s2.time with alone := false, stopped := false, deferred := none, commit := false, shadow := [] }
    let s4 := (Tab.keys s3.obj.objs).foldl (fun s k => faultObject k s) s3
    dropCommandJobs (resetDomains (resetContexts s4))
  else s

/-- What a function finds after a recovery (R695): PENDING commands ABORTED, rings STOPPED. -/
def abortFn (s : State) (F : Nat) : State :=
  let s1 := [Mb.admin, Mb.media].foldl (fun s m =>
    if (getMb s F m).state == .pending then completeMb F m .aborted [] s else setMb s F m { getMb s F m with orphan := none }) s
  updFn s1 F fun f => setStatus { f with
    rings := f.rings.map fun e => (e.1, { e.2 with fetch := e.2.head, state := if e.2.state == .running then .stopped else e.2.state }) } 0

/-- CAPACITY_REDUCED of a domain (R780, R781): the rate at `k` steps and before. -/
def capacityReduced (d new_ old : Nat) (s : State) : State :=
  emit .all 0x023 0 (toLe 1 d ++ zeros 3 ++ toLe 4 new_ ++ toLe 4 old) s

/-- The rated clock of a domain in kHz (Table 16-6); none where the table gives no rate. -/
def ratedKhz (d : Nat) : Option Nat :=
  [100000, 2000000, 1800000, 1250000, 1600000, 1000000, 1500000, 1000000, 1330000, 800000, 800000, 800000, 800000, 800000,
   600000][d]? |>.orElse fun _ => if d = 16 then some 200000 else none

/-- The clock of a domain after `k` steps. -/
def steppedKhz (d k : Nat) : Nat := (ratedKhz d).getD 0 * (64 - k) / 64

/-- CAPACITY_REDUCED at READY for each domain whose clock is reduced (R780). -/
def reportReduced (s : State) : State :=
  (s.dep.k.filter fun e => 0 < e.2).foldl (fun s e => capacityReduced e.1 (steppedKhz e.1 e.2) (steppedKhz e.1 0) s) s

/-- DEVICE_RECOVERED (R695, R766, R776, R815): the recovery ends, at most 1.5 s after it began; `bad` lists the instances
that fail BIST as (0 engine, 1 core, 2 other) and index. A removed instance that passes returns to service. -/
def execDeviceRecovered (bad : List (Nat × Nat)) (s : State) : Out :=
  live s fun s =>
    match s.dep.recoverBy with
    | none => s
    | some (cause, _) =>
      if s.host.dev != .resetting then s
      else if bad.any fun b => !(s.dep.removed.contains b) then
        { s with host := { s.host with dev := .failed, bootStat := 0x0105 } }
      else
        let n := (s.host.recoveries + 1) % 2 ^ 32
        let s1 := { s with
          host := { s.host with dev := .ready, recoveries := n }
          mem := { s.mem with ranks := s.mem.ranks.map fun e => (e.1, { e.2 with power := 0, lastReq := s.time.ticks, lastRef := s.time.ticks }) }
          dep := { s.dep with
            recoverBy := none, removed := s.dep.removed.filter fun r => bad.contains r
            hbFw := s.time.ticks, hbClamp := s.time.ticks, confirmed := s.time.ticks, off := [] } }
        let s2 := (List.range 18).foldl (fun s d => conditionEnd 0x09 d 0 s) (conditionEnd 0x0F 0xFFFF 0 s1)
        let s3 := (Tab.keys s2.host.fns).foldl abortFn s2
        reportReduced (emit .all 0x006 0 (toLe 4 n ++ toLe 4 cause) s3)

/-- DEVICE_WATCHDOG_EXPIRY (R773): 4 s without a confirmed firmware heartbeat, or without one of the Clamp. -/
def execDeviceWatchdogExpiry (s : State) : Out :=
  live s fun s => guarded ((s.host.dev == .ready || s.host.dev == .fwRestarting)
      && (decide (s.dep.confirmed + 4 * tS ≤ s.time.ticks) || decide (s.dep.hbClamp + 4 * tS ≤ s.time.ticks))) s fun s =>
    beginRecovery 0x10 (detect 0x10 0xFFFF 0 0 false true s)

/-- CLAMP_LOCKSTEP_MISMATCH (Table 16-1, 0x0D). -/
def execClampLockstepMismatch (s : State) : Out :=
  live s fun s => beginRecovery 0x0D (detect 0x0D 0xFFFF 0 0 false true s)

/-! ## Power failure (R790) -/

/-- POWER_FAIL (R790, R849): PWRFAIL_N has been low for 2 µs: store mode, unless THERMTRIP_N is asserted. The flash is
write-disabled when no operation is in progress, else when that ends. -/
def execPowerFail (s : State) : Out :=
  onAon true s fun s => guarded (!s.boot.porstLow && s.dep.pfAt.isNone) s fun s =>
    let s1 := detect 0x13 0xFFFF 0 0 true true s
    let s2 := setDep s1 { s1.dep with
      pfAt := some s.time.ticks, storeMode := !s1.dep.thermtrip, writeDis := s1.dep.writeDis || s1.boot.flashOp.isNone }
    if s2.dep.storeMode then
      { s2 with mem := { s2.mem with ranks := s2.mem.ranks.map fun e => (e.1, { e.2 with power := 2 }) } }
    else s2

/-- POWER_RESTORE (R790): PWRFAIL_N has been high for 100 ms while the device has power. -/
def execPowerRestore (s : State) : Out :=
  onAon true s fun s => guarded s.dep.pfAt.isSome s fun s =>
    let s1 := conditionEnd 0x13 0xFFFF 0 s
    if s1.dep.thermtrip then setDep s1 { s1.dep with pfAt := none }
    else beginRecovery 0x13 (setDep s1 { s1.dep with pfAt := none, storeMode := false, writeDis := false })

/-! ## Monitors (R756, R757, R847 to R849) -/

/-- Writes MONITOR_FAULT, at most once per site per second (R757). -/
def monitorEvent (kind site : Nat) (reading : Int) (s : State) : State :=
  let k := kind * 256 + site
  if (match Tab.get s.dep.monAt k with
      | some t => decide (s.time.ticks < t + tS)
      | none => false) then s
  else emit .owner 0x0B1 0 (toLe 1 kind ++ toLe 1 site ++ zeros 2 ++ toLeI 4 reading)
    (setDep s { s.dep with monAt := Tab.set s.dep.monAt k s.time.ticks })

/-- A monitor's condition begins at a site: MONITOR_FAULT and the record of mechanism 0x09 + kind. -/
def monitorBegin (kind site : Nat) (reading : Int) (s : State) : State :=
  if s.dep.monBad.contains (kind * 256 + site) then s
  else
    let s1 := detect (0x09 + kind) site 0 (wrap 32 reading) true true s
    monitorEvent kind site reading (setDep s1 { s1.dep with monBad := s1.dep.monBad ++ [kind * 256 + site] })

/-- It ends. -/
def monitorEnd (kind site : Nat) (reading : Int) (s : State) : State :=
  if s.dep.monBad.contains (kind * 256 + site) then
    let s1 := conditionEnd (0x09 + kind) site 0 s
    monitorEvent kind site reading (setDep s1 { s1.dep with monBad := s1.dep.monBad.filter (· != kind * 256 + site) })
  else s

/-- CLOCK_MONITOR_FAULT (Table 16-1, 0x09): a PLL out of lock, or domain `d` at `khz`, outside 2 % of its set frequency.
DISP and DBG stand still alone; any other domain calls for a device recovery. -/
def execClockMonitorFault (d khz : Nat) (s : State) : Out :=
  onAon (decide (d ≤ 17)) s fun s => guarded (!s.boot.porstLow && !(s.dep.off.contains d)) s fun s =>
    let s1 := detect 0x09 d 0 khz true true s
    let s2 := monitorEvent 0 d khz s1
    if d = 14 ∨ d = 17 then setDep s2 { s2.dep with off := s2.dep.off ++ [d] }
    else if halted s2 then s2
    else beginRecovery 0x09 s2

/-- Nominal voltage of a rail in mV (Table 18-4, R830). -/
def railMv (s : State) (rail : Nat) : Nat :=
  if 6 ≤ rail then (if bitOf s.boot.straps (rail - 6) then 1800 else 3300)
  else ([s.dep.v, 800, 1100, 750, 1200, 1800][rail]?).getD 0

/-- Whether a rail lies in its window (R756). -/
def inRail (s : State) (rail mv : Nat) : Bool :=
  let n := railMv s rail
  if rail = 0 then decide (n ≤ mv + 30) && decide (mv ≤ n + 30) else decide (95 * n ≤ 100 * mv) && decide (100 * mv ≤ 105 * n)

/-- VOLTAGE_MONITOR_FAULT (R756): `rail` reads `mv`, outside its window. -/
def execVoltageMonitorFault (rail mv : Nat) (s : State) : Out :=
  onAon (decide (rail ≤ 8)) s fun s => guarded (!s.boot.porstLow && !(inRail s rail mv)) s (monitorBegin 1 rail mv)

/-- MONITOR_FAULT_END (R757): `rail` reads `mv`, inside its window again. -/
def execMonitorFaultEnd (rail mv : Nat) (s : State) : Out :=
  onAon (decide (rail ≤ 8)) s fun s => guarded (!s.boot.porstLow && inRail s rail mv) s (monitorEnd 1 rail mv)

/-- AVS_READBACK_CHECK (R756): the setpoint reads back as `mv` 1 ms after a change. -/
def execAvsReadbackCheck (mv : Nat) (s : State) : Out :=
  live s fun s =>
    match s.dep.avsSet with
    | none => s
    | some t =>
      guarded (decide (t + tMs ≤ s.time.ticks)) s fun s =>
        let s1 := setDep s { s.dep with avsSet := none }
        if s.dep.v ≤ mv + 15 ∧ mv ≤ s.dep.v + 15 then s1 else monitorBegin 1 0 mv s1

/-- The ordered maximum junction temperature in 1/16 °C (R848). -/
def tjOrdered : Int := if fuseOrdering = 1 then 105 * 16 else 95 * 16

/-- THERMTRIP (R848, R849): the record, FAILED, every domain but AON and TIMER stopped, the flash write-disabled once an
operation in progress has ended. -/
def trip (n : Nat) (reading : Int) (s : State) : State :=
  if s.dep.thermtrip then s
  else
    let s1 := detect 0x0B n 0 (wrap 32 reading) true true s
    setDep { s1 with host := { s1.host with dev := .failed } } { s1.dep with
      thermtrip := true, storeMode := false, recoverBy := none, writeDis := s1.dep.writeDis || s1.boot.flashOp.isNone }

/-- The hottest junction sensor (R847). -/
def hottest (l : List Int) : Int := l.foldl max (l.headD 0)

/-- One sensor reading (TEMP_MONITOR, THERMTRIP). -/
def senseOne (s : State) (n : Nat) : State :=
  let v := (s.dep.sensors[n]?).getD 0
  let s1 := if tjOrdered < v then monitorBegin 2 n v s else monitorEnd 2 n v s
  let runs := if tjOrdered + 240 ≤ v then (s1.dep.hotRuns[n]?).getD 0 + 1 else 0
  let s2 := setDep s1 { s1.dep with hotRuns := setAt s1.dep.hotRuns n (min runs 2) }
  if 2 ≤ runs then trip n v s2 else s2

/-- JUNCTION_SENSOR_SAMPLE (R847, R848): the 16 junction sensors read `ts`, in 1/16 °C. -/
def execJunctionSensorSample (ts : List Int) (s : State) : Out :=
  onAon (ts.length == 16) s fun s => guarded (!s.boot.porstLow) s fun s =>
    let h := hottest ts
    (List.range 16).foldl senseOne (setDep s { s.dep with
      sensors := ts, tjDay := some (match s.dep.tjDay with
        | some t => max t h
        | none => h) })

/-- PMBUS_TELEMETRY_POLL (R843): the regulator's telemetry. -/
def execPmbusTelemetryPoll (data : Bytes) (s : State) : Out :=
  live s fun s => setDep s { s.dep with telem := data }

/-! ## Margin plan (R777 to R784) -/

/-- GUARD and HYST (R778). -/
def guardBand : Int := 72
/-- HYST. -/
def hystBand : Int := 24

/-- The planned domains (Table 16-6). -/
def planned : List Nat := [1, 2, 3, 4, 5, 6, 7, 8, 9, 10, 11, 12, 13, 14, 16]

/-- Whether the plan may reduce a domain's clock. -/
def reducible (d : Nat) : Bool := decide (1 ≤ d) && decide (d ≤ 6)

/-- Slack of a domain (R778): the least 1,024 − r over its sites; the latest one when no site reports. -/
def slackOf (rs : List (Nat × Nat)) (old : Tab Int) (d : Nat) : Int :=
  match ((rs.filter fun e => e.1 = d).map fun e => (1024 : Int) - e.2).min? with
  | some v => v
  | none => Tab.getD old d 1024

/-- Keeps the least value of the day for each key. -/
def dayLeast (t : Tab Int) (l : List (Nat × Int)) : Tab Int :=
  l.foldl (fun t e => Tab.set t e.1 (min e.2 (Tab.getD t e.1 e.2))) t

/-- The domains that cannot keep their guard at the voltage cap (R779): those that take a clock step, those that cannot. -/
def capped (s : State) (sl : Tab Int) : List Nat × List Nat :=
  let low := planned.filter fun d => decide (Tab.getD sl d 1024 < guardBand)
  (low.filter fun d => reducible d && decide (clockK s d < 4), low.filter fun d => !(reducible d && decide (clockK s d < 4)))

/-- The voltage step and clock steps of one run (R779, R781). -/
def planStep (s : State) : State :=
  let sl := s.dep.slack
  let low := planned.any fun d => decide (Tab.getD sl d 1024 < guardBand)
  let roomy := planned.all fun d => decide (guardBand + hystBand ≤ Tab.getD sl d 1024)
  let cap := s.boot.hdr.vCap
  if low then
    let s1 := setDep s { s.dep with runsUp := 0 }
    if s.dep.v < cap then setDep s1 { s1.dep with v := min cap (s.dep.v + 5), avsSet := some s.time.ticks }
    else
      let c := capped s sl
      let s2 := c.1.foldl (fun s d => capacityReduced d (steppedKhz d (clockK s d + 1)) (steppedKhz d (clockK s d)) s) s1
      let s3 := c.1.foldl (fun s d => setDep s { s.dep with kNext := Tab.set s.dep.kNext d (clockK s d + 1) }) s2
      let s4 := c.2.foldl (fun s d =>
        if s.dep.exhausted.contains d then s
        else detect 0x12 d 0 0 true true (setDep s { s.dep with exhausted := s.dep.exhausted ++ [d] })) s3
      if c.1.isEmpty then s4 else readmitEvery s4
  else if roomy then
    let n := s.dep.runsUp + 1
    if 6 ≤ n ∧ fuseVBase < s.dep.v then setDep s { s.dep with v := s.dep.v - 5, runsUp := 0, avsSet := some s.time.ticks }
    else setDep s { s.dep with runsUp := n }
  else setDep s { s.dep with runsUp := 0 }

/-- Records of exhausted domains whose guard holds again end; SRAM margin (R782). -/
def planRecords (vmin : List Nat) (s : State) : State :=
  let back := s.dep.exhausted.filter fun d => decide (guardBand ≤ Tab.getD s.dep.slack d 1024)
  let s1 := back.foldl (fun s d => conditionEnd 0x12 d 0 s) (setDep s { s.dep with
    exhausted := s.dep.exhausted.filter fun d => !(back.contains d) })
  let top := vmin.foldl max 0
  let m := (vmin.takeWhile fun v => v != top).length
  let s2 := (List.range 16).foldl (fun s n => if n = m ∧ s.dep.sram < 40 then s else conditionEnd 0x12 (32 + n) 0 s) s1
  if s2.dep.sram < 40 && !(s2.dep.recs.any fun e => e.2.mech == 0x12 && e.2.inst == 32 + m && e.2.active) then
    detect 0x12 (32 + m) 0 0 true true s2
  else s2

/-- Whether a run of the plan is due (R779). -/
def planDue (s : State) : Bool :=
  match s.dep.lastRunTk with
  | none => true
  | some t =>
    decide (t + 600 * tS ≤ s.time.ticks) || decide (160 ≤ (hottest s.dep.sensors - s.dep.lastTj).natAbs) ||
    ((planned.any fun d => decide (Tab.getD s.dep.slack d 1024 < guardBand)) && decide (t + 60 * tS ≤ s.time.ticks))

/-- The daily figures as they stand (R784): of each planned domain, and of SRAM (0xFE). -/
def figures (s : State) : List (Nat × Int) :=
  (planned.map fun d => (d, Tab.getD s.dep.slack d 1024 - guardBand + 8 * ((s.boot.hdr.vCap : Int) - s.dep.v) / 5))
    ++ [(0xFE, s.dep.sram - 40)]

/-- MARGIN_PLAN_RUN (R779 to R784): `rs` are the Shim readings as domain and r, `vmin` the 16 Vmin monitors and `vs` the
measured VDD_SRAM in mV, `eye` the least Ethernet eye height in mV. -/
def execMarginPlanRun (rs : List (Nat × Nat)) (vmin : List Nat) (vs eye : Nat) (s : State) : Out :=
  live s fun s => guarded (serving s && planDue s) s fun s =>
    let sl : Tab Int := planned.foldl (fun t d => Tab.set t d (slackOf rs s.dep.slack d)) s.dep.slack
    let s1 := setDep s { s.dep with
      slack := sl
      sram := (vs : Int) - (vmin.foldl max 0 : Nat)
      dramEye := ((s.mem.lanes.map fun e => e.2.width).min?).getD 0
      ethEye := eye
      lastRun := now s, lastRunTk := some s.time.ticks, lastTj := hottest s.dep.sensors }
    let s2 := planRecords vmin (planStep s1)
    let fs := figures s2
    setDep s2 { s2.dep with
      dayMin := dayLeast s2.dep.dayMin fs
      daySlack := dayLeast s2.dep.daySlack ((planned.map fun d => (d, Tab.getD s2.dep.slack d 1024)) ++ [(0xFE, s2.dep.sram)]) }

/-- The clock steps that wait are applied at a stroke boundary (R781). -/
def applyClockSteps (s : State) : State :=
  if s.dep.kNext.isEmpty then s
  else setDep s { s.dep with k := s.dep.kNext.foldl (fun t e => Tab.set t e.1 e.2) s.dep.k, kNext := [] }

/-- Where the least-squares line through (time, figure) pairs reaches 0 (R784): numerator and denominator, in the pairs'
unit of time; none when it does not fall. -/
def lineZero (l : List (Nat × Int)) : Option (Int × Int) :=
  let n : Int := l.length
  let st : Int := (l.map fun e => (e.1 : Int)).sum
  let sm : Int := (l.map (·.2)).sum
  let stt : Int := (l.map fun e => (e.1 : Int) * e.1).sum
  let stm : Int := (l.map fun e => (e.1 : Int) * e.2).sum
  let fall := st * sm - n * stm
  if 0 < fall then some (sm * stt - st * stm, fall) else none

/-- The projected end of margin of a key in PTP seconds, 0 for none; the rounding to a second is open. -/
def project (d : Nat) (s : State) : State :=
  let l := Tab.getD s.dep.daily d []
  if l.length < 14 then setDep s { s.dep with endOf := Tab.set s.dep.endOf d 0 }
  else
    match lineZero l with
    | none => setDep s { s.dep with endOf := Tab.set s.dep.endOf d 0 }
    | some (n, f) =>
      let r := takeFree 50 1 s
      let t := (n / f).toNat + (if n % f = 0 then 0 else r.1)
      setDep r.2 { r.2.dep with endOf := Tab.set r.2.dep.endOf d t }

/-- MARGIN_PROJECTION (R784): the end lies within 180 days; at most once per domain in 7 days. -/
def projectionEvent (d : Nat) (s : State) : State :=
  let e := Tab.getD s.dep.endOf d 0
  let near := decide (0 < e) && decide (e ≤ phcNs s.time / 1000000000 + 180 * 86400)
  let late := match Tab.get s.dep.projAt d with
    | some t => decide (t + 7 * 86400 * tS ≤ s.time.ticks)
    | none => true
  if near && late then
    emit .owner 0x0B2 0 (toLe 1 d ++ zeros 7 ++ toLe 8 e) (setDep s { s.dep with projAt := Tab.set s.dep.projAt d s.time.ticks })
  else s

/-- The day closes (R784, R785): its figures join the history and the projections are made anew. -/
def closeDay (s : State) : State :=
  let sec := phcNs s.time / 1000000000
  let s1 := s.dep.dayMin.foldl (fun s e => setDep s { s.dep with
    daily := Tab.set s.dep.daily e.1 ((Tab.getD s.dep.daily e.1 [] ++ [(sec, e.2)]).reverse.take 90).reverse
    margin := Tab.set s.dep.margin e.1 e.2 }) s
  let s2 := (Tab.keys s1.dep.dayMin).foldl (fun s d => projectionEvent d (project d s)) s1
  setDep s2 { s2.dep with dayMin := [], daySlack := [], tjDay := none, storedAt := s.time.ticks }

/-! ## Commands -/

/-- HEALTH_READ of a domain (Table 16-7). -/
def healthBytes (d : Nat) (s : State) : Bytes × State :=
  let k := Tab.getD s.dep.k d 0
  let f := takeFree 51 32 s
  let g := takeFree 52 32 f.2
  let known := (ratedKhz d).isSome
  let rated := (ratedKhz d).getD g.1
  let cur := if d = 16 then s.boot.hdr.xspiMhz * 1000 else if d = 14 ∨ !known then f.1 else rated * (64 - k) / 64
  let s1 := if known && d != 14 then s else g.2
  let pl := planned.contains d || d == 0xFE
  let fl := b2n pl + 2 * b2n (reducible d) + 4 * b2n (decide (s.boot.hdr.vCap ≤ s.dep.v)) +
    8 * b2n (s.dep.exhausted.contains d || (d == 0xFE && decide (s.dep.sram < 40)))
  (toLe 1 d ++ toLe 1 fl ++ toLe 1 k ++ zeros 1 ++ toLe 4 cur ++ toLe 4 rated
    ++ toLeI 2 (if d = 0xFE then s.dep.sram else Tab.getD s.dep.slack d 0) ++ toLeI 2 (Tab.getD s.dep.margin d 0)
    ++ toLe 2 s.dep.v ++ toLe 2 fuseVBase ++ toLe 2 s.boot.hdr.vCap ++ toLeI 2 s.dep.lastTj
    ++ toLe 8 (Tab.getD s.dep.endOf d 0) ++ toLe 8 s.dep.lastRun ++ toLe 2 s.dep.dramEye ++ toLe 2 s.dep.ethEye, s1)

/-- HEALTH_READ (R765, R786). -/
def bodyHealthRead : Body := fun _ p _ s =>
  let d := le p 0 1
  if d = 0xFF then checked [(decide (le p 1 1 < 64), .outOfRange)] fun _ => .ok (recordsRead s (le p 1 1)) 0 s
  else checked [(decide (d ≤ 17) || d == 0xFE, .outOfRange)] fun _ =>
    let r := healthBytes d s
    .ok r.1 0 r.2

/-- FAULT_ACK (R764). -/
def bodyFaultAck : Body := fun _ p _ s =>
  let i := le p 0 4
  checked [(decide (i < 64), .outOfRange), (((Tab.get s.dep.recs i).map fun r => !r.active).getD false, .badState)] fun _ =>
    let rs := Tab.del s.dep.recs i
    .ok [] 0 (setDep s { s.dep with recs := rs, lostHolds := s.dep.lostHolds && !rs.isEmpty })

/-- AUDIT_READ (R793). -/
def bodyAuditRead : Body := fun _ _ _ s =>
  .ok (toLe 8 s.dep.auditAt ++ (List.range 15).flatMap fun n =>
    let b := (s.dep.audit.find? fun b => b.code == n + 1).getD { code := n + 1, bad := 0, first := 0, diff := 0 }
    toLe 1 b.code ++ toLe 1 (b2n (decide (0 < b.bad))) ++ zeros 2 ++ toLe 4 b.bad ++ toLe 4 b.first ++ zeros 4 ++ toLeI 8 b.diff) 0 s

/-- HEALTH_READ. -/
def execHealthRead (src : Src) (s : State) : Out := serve 0x0E0F src [] bodyHealthRead s
/-- FAULT_ACK. -/
def execFaultAck (src : Src) (s : State) : Out := serve 0x0E10 src [] bodyFaultAck s
/-- AUDIT_READ. -/
def execAuditRead (src : Src) (s : State) : Out := serve 0x0E0E src [] bodyAuditRead s

end Sys2Proof.Machine
end

