-- ==== Sys2Proof/Machine/Boot.lean ====
section
/-!
DEFINITION. The flash and its hold-up check (R787 to R789), firmware slots and updates (R804 to R811, R819 to R825), debug
unlock (R816 to R818), reset and start-up (R794 to R803, R812 to R815, R655 to R657), and the SMBus slave and JTAG port (R844,
R845).
-/

namespace Sys2Proof.Machine

open Sys2Proof

/-- Replaces the boot part. -/
def setBoot (s : State) (b : BootPart) : State := { s with boot := b }

/-! ## Hold-up energy (R787, R788) -/

/-- V of R788 in mV: the lowest of the last 8 samples, scaled, times 0.99, rounded down. -/
def bankMv (s : State) : Nat := ((s.dep.holdup.min?).getD 0) * s.boot.hdr.holdRatio * 99 / (1024 * 1000 * 100)

/-- E_avail in units of 10^-6 / 2 µJ. -/
def availRaw (s : State) : Nat :=
  if bankMv s ≤ s.boot.hdr.holdVmin then 0 else s.boot.hdr.holdC * (bankMv s ^ 2 - s.boot.hdr.holdVmin ^ 2)

/-- Worst-case time of an operation in µs (Table 16-8). -/
def opTime (s : State) (code : Nat) : Nat :=
  if code = 1 then s.boot.hdr.tPp else if code = 2 then s.boot.hdr.tSe else s.boot.hdr.tBe

/-- E_need in units of 1/4,000 µJ. -/
def needRaw (s : State) (code : Nat) : Nat := 5 * (1000 * s.boot.hdr.storeEntry + s.boot.hdr.storePower * opTime s code)

/-- Whether an operation may start on the energy there is (R788). -/
def energyOk (s : State) (code : Nat) : Bool :=
  s.boot.hdr.holdC == 0 || decide (2000000 * needRaw s code ≤ 4000 * availRaw s)

/-- HOLDUP_SAMPLE (R788): HOLDUP_SENSE reads `uv` µV. -/
def execHoldupSample (uv : Nat) (s : State) : Out :=
  live s fun s => setDep s { s.dep with holdup := ((s.dep.holdup ++ [uv]).reverse.take 8).reverse }

/-! ## Flash operations (R789, R820) -/

/-- Erased flash. -/
def erased : Byte := 0xFF

/-- Bytes of the flash. -/
def flashRead (s : State) (a n : Nat) : Bytes := Mem.read erased s.boot.flash a n

/-- Whether an operation may start at all (R790, R849). -/
def flashReady (s : State) : Bool := s.boot.flashOp.isNone && !s.dep.writeDis && !(halted s) && s.dep.pfAt.isNone

/-- STORE_DEFERRED, at most once per second (R789); the rounding of the energies to µJ is open. -/
def deferEvent (code : Nat) (s : State) : State :=
  if (match s.dep.defEvAt with
      | some t => decide (s.time.ticks < t + tS)
      | none => false) then s
  else
    let r := takeFree 54 2 s
    let a := availRaw s / 2000000 + (if availRaw s % 2000000 = 0 then 0 else r.1 % 2)
    let n := needRaw s code / 4000 + (if needRaw s code % 4000 = 0 then 0 else r.1 / 2)
    emit .owner 0x0B3 0 (toLe 1 code ++ zeros 3 ++ toLe 4 (min a 0xFFFFFFFF) ++ toLe 4 (min n 0xFFFFFFFF))
      (setDep r.2 { r.2.dep with defEvAt := some s.time.ticks })

/-- The completion of a firmware command whose flash operations end: its mailbox's, or that of a command orphaned by a
function reset. -/
def completeFw (F : Nat) (st : Status) (out : Bytes) (s : State) : State :=
  let b := getMb s F .admin
  if b.state == .pending && isFirmware b.op then completeMb F .admin st out s
  else setMb s F .admin { b with orphan := none }

/-- An erase of a block is one BLOCK_ERASE when that passes the check, else 16 sector erases (R820). -/
def splitErase (s : State) : List FlashOp → List FlashOp
  | o :: rest =>
    if o.code = 3 ∧ !(energyOk s 3) then
      (List.range 16).map (fun n => ({ code := 2, addr := o.addr + 4096 * n, data := [] } : FlashOp)) ++ rest
    else o :: rest
  | [] => []

/-- Starts the next operation of the first job, or defers it (R789). A daily history that is deferred waits an hour (R785). -/
def nextOp (s : State) : State :=
  if !(flashReady s) then s
  else
    match s.boot.jobs with
    | [] => s
    | j :: js =>
      match splitErase s j.ops with
      | [] => s
      | o :: rest =>
        if energyOk s o.code then
          let s1 := if s.boot.hdr.holdC = 0 then bumpDev s .storeUnguarded else s
          setBoot s1 { s1.boot with
            flashOp := some o
            jobs := { j with ops := rest, busy := true, since := none
                             total := j.total + (s.time.ticks - j.since.getD s.time.ticks) } :: js }
        else
          let s1 := deferEvent o.code s
          if j.kind = 4 then
            setDep (setBoot s1 { s1.boot with jobs := js }) { s1.dep with histRetry := some (s.time.ticks + 3600 * tS) }
          else setBoot s1 { s1.boot with
            jobs := { j with ops := o :: rest, since := some (j.since.getD s.time.ticks), check := s.time.ticks } :: js }

/-- Adds a job: a command's goes before the device's own while none of theirs is in progress. -/
def addJob (j : FlashJob) (s : State) : State :=
  let js := s.boot.jobs
  let l := if 2 ≤ j.kind then js ++ [j]
    else js.takeWhile (fun k => decide (k.kind < 2) || k.busy) ++ [j] ++ js.dropWhile (fun k => decide (k.kind < 2) || k.busy)
  nextOp (setBoot s { s.boot with jobs := l })

/-- What a job leaves when its last operation has ended: the read-back of FW_UPDATE_DATA (R820), the reset that FW_ACTIVATE
makes due (R825), the stored records. -/
def endJob (j : FlashJob) (s : State) : State :=
  if j.kind = 0 then
    if flashRead s j.addr j.data.length = j.data then
      let n := j.data.length / 65536
      let s1 := setBoot s { s.boot with session := s.boot.session.map fun z => { z with
        blocks := z.blocks ++ (List.range n).map fun i => (j.addr - 0x800000) % 0x1C00000 / 65536 + i } }
      completeFw j.fn .ok [] s1
    else completeFw j.fn .badState [] s
  else if j.kind = 1 then completeFw j.fn .ok [] (setBoot s { s.boot with actReset := some (s.time.ticks + tS) })
  else if j.kind = 2 then
    setBoot s { s.boot with
      copies := (1 - s.boot.copies.1, s.boot.copies.2)
      trainRec := some { rate := s.mem.rate, chans := s.mem.channels, kind := s.mem.kind, lanes := s.mem.lanes } }
  else if j.kind = 5 then
    setBoot s { s.boot with copies := (s.boot.copies.1, 1 - s.boot.copies.2), marginRec := some (s.dep.v, s.dep.k) }
  else s

/-- What an operation makes of the flash; `got` is what its range holds when it did not take as asked. -/
def flashEffect (o : FlashOp) (got : Option Bytes) (m : Mem) : Mem :=
  let n := if o.code = 1 then o.data.length else if o.code = 2 then 4096 else 65536
  let m1 := if o.code = 1 then Mem.write erased m o.addr o.data else Mem.clear m o.addr (o.addr + n)
  match got with
  | some b => Mem.write erased (Mem.clear m1 o.addr (o.addr + n)) o.addr (b.take n)
  | none => m1

/-- What follows the end of a flash operation: the job it belongs to goes on, or ends. -/
def afterFlashOp (s : State) : State :=
  let s1 := if s.dep.pfAt.isSome || s.dep.thermtrip then setDep s { s.dep with writeDis := true } else s
  match s1.boot.jobs with
  | [] => s1
  | j :: js =>
    if !j.busy then nextOp s1
    else if j.ops.isEmpty then nextOp (endJob j (setBoot s1 { s1.boot with jobs := js }))
    else nextOp (setBoot s1 { s1.boot with jobs := { j with busy := false } :: js })

/-- FLASH_OPERATION_COMPLETE (R820, R790): the operation in progress ends. After a power failure or a thermal trip the flash
is then write-disabled. -/
def execFlashOperationComplete (got : Option Bytes) (s : State) : Out :=
  match s.boot.flashOp with
  | none => .next s
  | some o => onAon true (setBoot s { s.boot with flashOp := none, flash := flashEffect o got s.boot.flash }) afterFlashOp

/-- STORE_RETRY (R789, R822): the deferred operation is checked again every 10 ms; a firmware command whose deferrals reach
1 s completes with STORE_DEFERRED. -/
def execStoreRetry (s : State) : Out :=
  live s fun s =>
    match s.boot.jobs with
    | [] => s
    | j :: js =>
      match j.since with
      | none => s
      | some t =>
        guarded (flashReady s && decide (j.check + 10 * tMs ≤ s.time.ticks)) s fun s =>
          let ok := (j.ops.head?).any fun o => energyOk s o.code
          if !ok && decide (j.kind < 2) && decide (tS ≤ j.total + (s.time.ticks - t)) then
            nextOp (completeFw j.fn .storeDeferred [] (setBoot s { s.boot with jobs := js }))
          else nextOp s

/-! ## Stores of the device's own (R785, R801) -/

/-- Bytes of a record whose layout the spec does not give. -/
def openRecord (n : Nat) (s : State) : Bytes × State :=
  let r := takeFree 55 (8 * n) s
  (toLe n r.1, r.2)

/-- A record of `pages` pages goes to the log partition, which is written circularly; a sector is erased as it is entered. -/
def storeLogPages (kind pages : Nat) (s : State) : State :=
  let at_ := fun i => 0x400000 + (s.boot.logPos - 0x400000 + 256 * i) % 0x400000
  let r := openRecord (256 * pages) s
  let ops := (List.range pages).flatMap fun i =>
    (if at_ i % 4096 = 0 then [({ code := 2, addr := at_ i, data := [] } : FlashOp)] else [])
      ++ [({ code := 1, addr := at_ i, data := (r.1.drop (256 * i)).take 256 } : FlashOp)]
  addJob { kind := kind, ops := ops } (setBoot r.2 { r.2.boot with logPos := at_ pages })

/-- A record goes to the copy of its region that is not in force (R807). -/
def storeCopy (kind base : Nat) (s : State) : State :=
  let c := if kind = 2 then s.boot.copies.1 else s.boot.copies.2
  let a := base + 0x10000 * (1 - c)
  let r := openRecord 256 s
  addJob { kind := kind, ops := [{ code := 2, addr := a, data := [] }, { code := 1, addr := a, data := r.1 }] } r.2

/-- BOOT_STORE (R801): after READY, the training record of a full training and the boot log. -/
def execBootStore (s : State) : Out :=
  live s fun s => guarded (serving s) s fun s =>
    let s1 := if s.boot.storeTrain then storeCopy 2 0x20000 s else s
    let s2 := if s.boot.storeLog then storeLogPages 3 2 s1 else s1
    setBoot s2 { s2.boot with storeTrain := false, storeLog := false }

/-- DAILY_HISTORY_STORE (R784, R785): once a day; hourly while the store is deferred. -/
def execDailyHistoryStore (s : State) : Out :=
  live s fun s => guarded (serving s) s fun s =>
    let day := decide (s.dep.storedAt + 86400 * tS ≤ s.time.ticks)
    let again := match s.dep.histRetry with
      | some t => decide (t ≤ s.time.ticks)
      | none => false
    if day || again then
      let s1 := if day then storeCopy 5 0x40000 (closeDay s) else s
      storeLogPages 4 1 (setDep s1 { s1.dep with histRetry := none })
    else s

/-! ## Slots (R807 to R811) -/

/-- Where slot `n` begins (Table 17-3). -/
def slotBase (n : Nat) : Nat := if n = 0 then 0x800000 else 0x2400000

/-- Bytes of a slot. -/
def slotRead (s : State) (n off len : Nat) : Bytes := flashRead s (slotBase n + off) len

/-- A number of a slot's manifest (Table 17-5). -/
def manNum (s : State) (n off len : Nat) : Nat := fromLe (slotRead s n off len)

/-- Where component `c` of the manifest is described. -/
def compAt (c : Nat) : Nat := 40 + 64 * c

/-- Whether every field of a manifest lies within its range (R809). -/
def manifestOk (s : State) (n : Nat) : Bool :=
  manNum s n 0 4 == 0x57465947 && manNum s n 4 2 == 1 && manNum s n 6 2 == 624 && decide (manNum s n 18 1 ≤ 3) &&
  decide (1 ≤ manNum s n 19 1) && decide (manNum s n 19 1 ≤ 16) && decide (manNum s n 20 4 ≤ 29360128) &&
  manNum s n 32 8 == 0 &&
  ([(0, 3145728), (1, 1048576), (2, 2097152)].all fun e =>
    let o := manNum s n (compAt e.1 + 4) 4
    let l := manNum s n (compAt e.1 + 8) 4
    o % 4096 == 0 && decide (4096 ≤ o) && decide (l ≤ e.2) && decide (o + l ≤ manNum s n 20 4)
      && manNum s n (compAt e.1 + 12) 4 == 0)

/-- Whether a slot verifies (R809): fields, fused key digest, signature, the digest of each component. -/
def verifies (s : State) (n : Nat) : Bool :=
  manifestOk s n &&
  sha384 (slotRead s n 520 97) == fuseKeyDigest (manNum s n 18 1) && !(fuseRevoked (manNum s n 18 1)) &&
  ecdsaOk (slotRead s n 520 97) (slotRead s n 424 96) (sha384 (slotRead s n 0 424)) &&
  ([0, 1, 2].all fun c =>
    sha384 (slotRead s n (manNum s n (compAt c + 4) 4) (manNum s n (compAt c + 8) 4)) == slotRead s n (compAt c + 16) 48)

/-- Whether STEPPINGS lists this device's stepping, A1 (R810). -/
def steppingOk (s : State) (n : Nat) : Bool := (slotRead s n 24 8).contains 0xA1

/-- Whether the component versions equal an entry of SETS (R810). -/
def setOk (s : State) (n : Nat) : Bool :=
  (List.range (manNum s n 19 1)).any fun i =>
    [0, 1, 2].all fun c => manNum s n (232 + 12 * i + 4 * c) 4 == manNum s n (compAt c) 4

/-- Table 17-6 of a slot. -/
def mismatchOf (s : State) (n : Nat) : Nat :=
  if !(verifies s n) then 3 else if !(steppingOk s n) then 1 else if !(setOk s n) then 2 else 0

/-- Whether a slot is bootable (R810). -/
def bootable (s : State) (n : Nat) : Bool := mismatchOf s n == 0

/-- The state of a slot as start-up finds it (R824). -/
def slotFound (s : State) (n : Nat) : SlotSt :=
  if manNum s n 0 4 = 0xFFFFFFFF then .empty else if verifies s n then .valid else .invalid

/-- The state of slot `n`. -/
def slotState (s : State) (n : Nat) : SlotSt := if n = 0 then s.boot.slots.1 else s.boot.slots.2

/-- Changes the state of slot `n`. -/
def setSlot (n : Nat) (x : SlotSt) (s : State) : State :=
  setBoot s { s.boot with slots := if n = 0 then (x, s.boot.slots.2) else (s.boot.slots.1, x) }

/-- Activation record `i` of the 256 that two sectors hold (R807): SEQUENCE and slot, when its CRC is right. -/
def actRecord (s : State) (i : Nat) : Option (Nat × Nat) :=
  let b := flashRead s (0x10000 + 32 * i) 32
  if crc32 (b.take 28) = le b 28 4 ∧ le b 4 1 ≤ 1 then some (le b 0 4, le b 4 1) else none

/-- The valid activation record with the highest SEQUENCE, with its place. -/
def actCurrent (s : State) : Option (Nat × Nat × Nat) :=
  (List.range 256).foldl (fun best i =>
    match actRecord s i, best with
    | some (q, n), none => some (q, n, i)
    | some (q, n), some (q0, n0, i0) => if q0 < q then some (q, n, i) else some (q0, n0, i0)
    | none, b => b) none

/-- The active slot (R807): that of the current record; slot A without one. -/
def activeSlot (s : State) : Nat := ((actCurrent s).map (·.2.1)).getD 0

/-- The operations that program a new activation record (R807): the other sector is erased when it has no room left. -/
def actOps (s : State) (slot : Nat) : List FlashOp :=
  let cur := actCurrent s
  let q := ((cur.map (·.1)).getD 0 + 1) % 2 ^ 32
  let sec := match cur with
    | some (_, _, i) => 1 - i / 128
    | none => 0
  let body := toLe 4 q ++ toLe 1 slot ++ zeros 23
  let rec_ := body ++ toLe 4 (crc32 body)
  match (List.range 128).find? fun i => (flashRead s (0x10000 + 4096 * sec + 32 * i) 32).all (· == erased) with
  | some i => [{ code := 1, addr := 0x10000 + 4096 * sec + 32 * i, data := rec_ }]
  | none => [{ code := 2, addr := 0x10000 + 4096 * sec, data := [] }, { code := 1, addr := 0x10000 + 4096 * sec, data := rec_ }]

/-! ## Firmware commands (Table 15-20) -/

/-- Codes of slot states. -/
def SlotSt.code : SlotSt → Nat
  | .empty => 0
  | .valid => 1
  | .invalid => 2
  | .writing => 3

/-- FW_INFO. -/
def bodyFwInfo : Body := fun _ _ _ s =>
  .ok ([0, 1].flatMap fun n => slotRead s n 8 4 ++ toLe 1 (slotState s n).code ++ toLe 1 (b2n (s.boot.booted == n)) ++ zeros 2
    ++ slotRead s n 20 4 ++ zeros 4) 0 s

/-- FW_UPDATE_BEGIN (R819): a session on the slot that did not boot. -/
def bodyFwUpdateBegin : Body := fun _ p _ s =>
  checked [(decide (le p 0 8 ≤ 29360128), .outOfRange), (s.boot.actReset.isNone, .busy)] fun _ =>
    let n := 1 - s.boot.booted
    let s1 := match s.boot.session with
      | some z => if z.slot = n then s else setSlot z.slot .invalid s
      | none => s
    .ok [] 0 (setSlot n .writing (setBoot s1 { s1.boot with session := some { slot := n, len := le p 0 8 } }))

/-- The operations of a block (R820). -/
def blockOps (a : Nat) (d : Bytes) : List FlashOp :=
  { code := 3, addr := a, data := [] } ::
    (List.range 256).map fun i => { code := 1, addr := a + 256 * i, data := (d.drop (256 * i)).take 256 }

/-- FW_UPDATE_DATA (R820 to R822): the command goes on with its flash operations. -/
def bodyFwUpdateData : Body := fun F p d s =>
  let a := le p 0 8
  let n := le p 8 4
  let off := le p 12 4
  match s.boot.session with
  | none => .no .badState []
  | some z =>
    if s.boot.jobs.any fun j => j.kind == 0 && j.fn == F then .later s
    else
      checked [(n % 65536 == 0 && decide (n ≤ 1048576) && off % 65536 == 0 && decide (off + n ≤ roundUp z.len 65536),
        .outOfRange)] fun _ =>
        if !(inWindow (getFn s F) a n false) then .dma a n 0
        else
          let base := slotBase z.slot + off
          let img := padTo n d
          let bs := (List.range (n / 65536)).map fun i => off / 65536 + i
          let s1 := setBoot s { s.boot with session := some { z with blocks := z.blocks.filter fun b => !(bs.contains b) } }
          if n = 0 then .ok [] 0 s1
          else .later (addJob { kind := 0, fn := F, addr := base, data := img
                                ops := (List.range (n / 65536)).flatMap fun i =>
                                  blockOps (base + 65536 * i) ((img.drop (65536 * i)).take 65536) } s1)

/-- FW_UPDATE_COMMIT (R824). -/
def bodyFwUpdateCommit : Body := fun _ _ _ s =>
  match s.boot.session with
  | none => .no .badState []
  | some z =>
    let n := z.slot
    if (List.range (ceilDiv (max 1 (if z.blocks.contains 0 then manNum s n 20 4 else 1)) 65536)).any
        fun b => !(z.blocks.contains b) then .no .badState []
    else
      let done := fun x => setSlot n x (setBoot s { s.boot with session := none })
      match mismatchOf s n with
      | 0 => .ok (slotRead s n 8 4) 0 (done .valid)
      | 3 => .part .signatureFail (done .invalid)
      | _ => .part .versionMismatch (done .invalid)

/-- FW_ACTIVATE (R825). -/
def bodyFwActivate : Body := fun F p _ s =>
  if s.boot.jobs.any fun j => j.kind == 1 && j.fn == F then .later s
  else
    checked [(decide (le p 0 1 ≤ 1), .outOfRange), (slotState s (le p 0 1) == .valid, .badState)] fun _ =>
      .later (addJob { kind := 1, fn := F, ops := actOps s (le p 0 1) } s)

/-! ## Debug unlock (R816 to R818) -/

/-- The challenge in force: 60 s old at most. -/
def challengeNow (s : State) : Option Bytes :=
  s.boot.challenge.bind fun c => if s.time.ticks < c.2 + 60 * tS then some c.1 else none

/-- DEBUG_CHALLENGE (R817): 16 bytes of the random source, the serial number, the count with this one. -/
def bodyDebugChallenge : Body := fun _ _ _ s =>
  let r := takeFree 56 128 s
  let n := (s.boot.challenges + 1) % 2 ^ 32
  let c := toLe 16 r.1 ++ toLe 8 fuseSerial ++ toLe 4 n ++ zeros 4
  .ok c 0 (setBoot r.2 { r.2.boot with challenge := some (c, s.time.ticks), challenges := n })

/-- The key stores of R156 and R672 are erased (R818). -/
def eraseKeys (s : State) : State :=
  { s with obj := { s.obj with
    legs := s.obj.legs.map fun e => (e.1, { e.2 with keyPrev := none, keyCur := none, keyNext := none, outCur := none, outNext := none })
    parts := s.obj.parts.map fun e => (e.1, { e.2 with xts := none }) } }

/-- DEBUG_UNLOCK (R818). -/
def bodyDebugUnlock : Body := fun _ p _ s =>
  if 8 ≤ s.boot.dbgFails then .no .signatureFail []
  else
    match challengeNow s with
    | none => .no .badState []
    | some c =>
      let s1 := setBoot s { s.boot with challenge := none }
      if ecdsaOk fuseDebugKey (p.take 96) (sha384 c) then
        let s2 := eraseKeys s1
        .ok [] 0 (setBoot s2 { s2.boot with jtagOpen := true })
      else .part .signatureFail (setBoot s1 { s1.boot with dbgFails := s.boot.dbgFails + 1 })

/-- DEBUG_CHALLENGE_EXPIRY (R817). -/
def execDebugChallengeExpiry (s : State) : Out :=
  live s fun s => if (challengeNow s).isNone then setBoot s { s.boot with challenge := none } else s

/-- FW_INFO. -/
def execFwInfo (src : Src) (s : State) : Out := serve 0x0F00 src [] bodyFwInfo s
/-- FW_UPDATE_BEGIN. -/
def execFwUpdateBegin (src : Src) (s : State) : Out := serve 0x0F01 src [] bodyFwUpdateBegin s
/-- FW_UPDATE_DATA. -/
def execFwUpdateData (src : Src) (dma : Bytes) (s : State) : Out := serve 0x0F02 src dma bodyFwUpdateData s
/-- FW_UPDATE_COMMIT. -/
def execFwUpdateCommit (src : Src) (s : State) : Out := serve 0x0F03 src [] bodyFwUpdateCommit s
/-- FW_ACTIVATE. -/
def execFwActivate (src : Src) (s : State) : Out := serve 0x0F04 src [] bodyFwActivate s
/-- DEBUG_CHALLENGE. -/
def execDebugChallenge (src : Src) (s : State) : Out := serve 0x0F05 src [] bodyDebugChallenge s
/-- DEBUG_UNLOCK. -/
def execDebugUnlock (src : Src) (s : State) : Out := serve 0x0F06 src [] bodyDebugUnlock s

/-! ## Start-up (R794 to R803) -/

/-- Host ports of a HOST_LANES mode (Table 14-1). -/
def lanePorts (m : Nat) : Nat := if m = 0 then 1 else if m = 1 then 2 else 4

/-- The boot block copy at an address, when it is valid (R805, R806). -/
def headerAt (s : State) (a : Nat) : Option Header :=
  let b := flashRead s a 256
  let f := fun o n => le b o n
  let mhz := f 14 1
  let rate8 := if f 12 1 = 0 then mhz else if f 12 1 = 1 then 4 * mhz else if f 12 1 = 2 then 8 * mhz else 16 * mhz
  if f 0 4 = 0x48435947 ∧ f 4 2 = 1 ∧ f 6 2 = 256 ∧ f 8 4 = crc32 (b.drop 12) ∧ f 12 1 ≤ 3 ∧ f 13 1 ≤ 31 ∧ 25 ≤ mhz ∧ mhz ≤ 200
      ∧ f 15 1 ≤ 2 ∧ f 16 1 < lanePorts (f 15 1) ∧ f 17 1 ≤ 1 ∧ [2, 4, 8].contains (f 18 1) = true ∧ f 19 1 ≤ 2
      ∧ [4800, 5600, 6400].contains (f 20 2) = true ∧ fuseVBase ≤ f 22 2 ∧ f 22 2 ≤ 850 ∧ 64 ≤ f 64 4 ∧ 128 ≤ rate8 then
    some { xspiMode := f 12 1, xspiMhz := mhz, lanes := f 15 1, ownerPort := f 16 1, fastBoot := f 17 1, channels := f 18 1
           kind := f 19 1, rate := f 20 2, vCap := f 22 2, mac := f 24 6, holdC := f 32 4, holdVmin := f 36 4, holdRatio := f 40 4
           storePower := f 44 4, storeEntry := f 48 4, tPp := f 52 4, tSe := f 56 4, tBe := f 60 4, flashMb := f 64 4
           boardId := f 68 4 }
  else none

/-- The longest run of passing delays (R656): where it begins and ends, as indices from delay −64; the first on a tie. -/
def longestRun : Nat → Option (Nat × Nat) → Option Nat → List Bool → Option (Nat × Nat)
  | _, best, none, [] => best
  | i, best, some b, [] => better best b i
  | i, best, cur, true :: rest => longestRun (i + 1) best (some (cur.getD i)) rest
  | i, best, none, false :: rest => longestRun (i + 1) best none rest
  | i, best, some b, false :: rest => longestRun (i + 1) (better best b i) none rest
where
  /-- a run from b to before e takes the place of a shorter one -/
  better (best : Option (Nat × Nat)) (b e : Nat) : Option (Nat × Nat) :=
    match best with
    | none => some (b, e - 1)
    | some (lo, hi) => if hi - lo < e - 1 - b then some (b, e - 1) else some (lo, hi)

/-- The point of a lane (R656): none when no Vref passes or the width is below 16. -/
def bestPoint (eye : List (Nat × List Bool)) : Option Lane :=
  let b := eye.foldl (fun best e =>
    match longestRun 0 none none e.2, best with
    | none, _ => best
    | some (lo, hi), none => some ({ delay := ((lo : Int) + hi - 128) / 2, vref := e.1, width := hi - lo } : Lane)
    | some (lo, hi), some (k : Lane) =>
      if k.width < hi - lo then some { delay := ((lo : Int) + hi - 128) / 2, vref := e.1, width := hi - lo } else best) none
  b.bind fun k => if k.width < 16 then none else some k

/-- Full training (R655, R656): the points of all lanes, or the channel, rank and lane that fail. -/
def trainAll (env : BootEnv) (chans : Nat) : Except (Nat × Nat × Nat) (Tab Lane) :=
  match env.t7 with
  | some f => .error f
  | none =>
    (env.eyes.filter fun e => decide (e.1 / 64 < chans)).foldl (fun r e =>
      match r, bestPoint e.2 with
      | .ok t, some k => .ok (Tab.set t e.1 k)
      | .ok _, none => .error (e.1 / 64, e.1 / 16 % 2, e.1 % 16)
      | .error f, _ => .error f) (.ok [])

/-- Adds a boot log entry (R803): at most 32. -/
def bootLog (env : BootEnv) (step code : Nat) (detail : Nat) (s : State) : State :=
  let n := s.boot.log.length
  if 32 ≤ n then s
  else setBoot s { s.boot with log := s.boot.log ++ [{ us := (env.us[n]?).getD 0, step := step, code := code, detail := detail }] }

/-- Start-up fails (R802). -/
def bootFail (env : BootEnv) (step code detail : Nat) (s : State) : State :=
  bootLog env step code detail { s with host := { s.host with dev := .failed, bootStat := code } }

/-- Step 6 (Table 17-1, R780, R800, R812, R813): the margin plan is restored, the heartbeats start, READY or RECOVERY. -/
def bootReady (env : BootEnv) (mis : Nat) (s : State) : State :=
  let n := s.boot.booted
  let rec_ := mis != 0
  let s1 := { s with
    host := { s.host with
      dev := if rec_ then .recovery else .ready
      bootStat := if rec_ then 0x0200 + mis else 0
      version := if rec_ then 0x10000 else manNum s n 12 4
      bundle := if rec_ then 0 else manNum s n 8 4 }
    dep := { s.dep with
      v := ((s.boot.marginRec.map (·.1)).getD fuseVBase)
      k := (s.boot.marginRec.map (·.2)).getD []
      hbFw := s.time.ticks, hbClamp := s.time.ticks, confirmed := s.time.ticks, storedAt := s.time.ticks }
    boot := { s.boot with kabi := if rec_ then 0 else manNum s n 16 2, mismatch := mis, storeLog := true } }
  let s2 := bootLog env 6 (if rec_ then 0x0200 + mis else 0) 0 s1
  if rec_ then s2 else reportReduced s2

/-- Steps 3 to 6 (R798, R801, R814, R815, R642, R655 to R657); `mis` is 0, or the mismatch that leaves recovery firmware. -/
def bootMemory (env : BootEnv) (mis : Nat) (s : State) : State :=
  let h := s.boot.hdr
  let s1 := bootLog env 3 0x0013 0 { s with mem := { s.mem with
    channels := h.channels, rate := h.rate, kind := h.kind, sets := [{ first := 0, n := h.channels, lg := 8 }] } }
  if !env.spd then bootFail env 3 0x0103 0 s1
  else
    let kept := match s1.boot.trainRec with
      | some r => if mis = 0 ∧ h.fastBoot = 1 ∧ env.stored = true ∧ r.rate = h.rate ∧ r.chans = h.channels ∧ r.kind = h.kind then
          some r.lanes else none
      | none => none
    let lanes : Except (Nat × Nat × Nat) (Tab Lane) := match kept with
      | some l => .ok l
      | none => trainAll env h.channels
    match lanes with
    | .error (c, r, l) => bootFail env 3 0x0104 (c + 256 * r + 65536 * l) s1
    | .ok l =>
      let s2 := { s1 with mem := { s1.mem with lanes := l }, boot := { s1.boot with storeTrain := kept.isNone } }
      let s3 := if mis = 0 then bootLog env 4 0x0014 0 s2 else s2
      let s4 := bootLog env 5 0x0015 0 s3
      match env.bist with
      | some i => bootFail env 5 0x0105 i s4
      | none =>
        let s5 := bootLog env 6 0x0016 0 s4
        if !env.plls then bootFail env 6 0x0106 0 s5 else bootReady env mis s5

/-- Steps 1 and 2 (R798, R805, R807 to R811), then the rest. A fall-back is in the boot log under a code that Table 17-2 does
not give. -/
def bootFrom (env : BootEnv) (s : State) : State :=
  let s0 := bootLog env 1 0x0011 0 (setDep s { s.dep with v := fuseVBase })
  if !env.xspi then bootFail env 1 0x0102 0 s0
  else
    match (headerAt s0 0).orElse fun _ => headerAt s0 0x8000 with
    | none => bootFail env 1 0x0101 0 s0
    | some h =>
      let s1 := { s0 with
        boot := { s0.boot with hdr := h }
        host := { s0.host with mode := h.lanes, ownerPort := h.ownerPort, owner := 64 * h.ownerPort } }
      let s2 := bootLog env 2 0x0012 0 s1
      let a := activeSlot s2
      let s3 := setBoot s2 { s2.boot with slots := (slotFound s2 0, slotFound s2 1), booted := a }
      if bootable s3 a then bootMemory env 0 s3
      else if bootable s3 (1 - a) then
        let r := takeFree 57 16 s3
        bootMemory env 0 (bootLog env 2 r.1 0 (setBoot r.2 { r.2.boot with booted := 1 - a }))
      else bootMemory env (mismatchOf s3 a) s3

/-- What is left of the device by a reset (R794): the flash, and the levels of the PERST_N balls. An operation that it cuts
short leaves its range open. -/
def coldState (s : State) : State :=
  let cut := match s.boot.flashOp with
    | none => (s.boot.flash, s)
    | some o =>
      let n := if o.code = 1 then o.data.length else if o.code = 2 then 4096 else 65536
      let r := openRecord n s
      (Mem.write erased (Mem.clear s.boot.flash o.addr (o.addr + n)) o.addr r.1, r.2)
  { State.reset with
    pending := s.pending
    free := cut.2.free
    host := { State.reset.host with perst := s.host.perst.map fun e => (e.1, 100 * tMs) }
    boot := { State.reset.boot with
      flash := cut.1, trainRec := s.boot.trainRec, marginRec := s.boot.marginRec, logPos := s.boot.logPos, copies := s.boot.copies } }

/-- PORST_FALL (R794, R795). -/
def execPorstFall (s : State) : Out := .next (coldState s)

/-- The flash as the board has programmed it: regions it wrote hold no record of the device. -/
def boardFlash (segs : List (Nat × Bytes)) (s : State) : State :=
  let hit := fun lo hi => segs.any fun e => decide (e.1 < hi) && decide (lo < e.1 + e.2.length)
  setBoot s { s.boot with
    flash := segs.foldl (fun m e => Mem.write erased m e.1 e.2) s.boot.flash
    trainRec := if hit 0x20000 0x40000 then none else s.boot.trainRec
    marginRec := if hit 0x40000 0x60000 then none else s.boot.marginRec }

/-- PORST_RISE (R797): the start-up steps, up to READY, RECOVERY or FAILED. -/
def execPorstRise (env : BootEnv) (s : State) : Out :=
  if s.boot.porstLow then
    let s1 := boardFlash env.flash s
    onAon true (setBoot s1 { s1.boot with porstLow := false, straps := env.straps }) (bootFrom env)
  else .next s

/-- ACTIVATION_RESET (R825): as PORST_N, but the PCIe links and the configuration space stay. -/
def execActivationReset (env : BootEnv) (s : State) : Out :=
  live s fun s =>
    match s.boot.actReset with
    | none => s
    | some t =>
      guarded (decide (t ≤ s.time.ticks) && s.boot.flashOp.isNone) s fun s =>
        let c := coldState s
        let c1 := { c with
          host := { c.host with
            perst := s.host.perst.map fun e => (e.1, 0)
            fns := s.host.fns.map fun e => (e.1, { msixEn := e.2.msixEn }) }
          boot := { c.boot with porstLow := false, straps := s.boot.straps } }
        bootFrom env c1

/-! ## SMBus and JTAG (R816, R844, R845) -/

/-- Answers an SMBus command: from 10 ms after PORST_N rises; NACK otherwise. -/
def smbAnswer (f : State → State × Option Bytes) (s : State) : Out :=
  onAon true s fun s =>
    if s.boot.porstLow || decide (s.time.ticks < 10 * tMs) then setBoot s { s.boot with smb := none }
    else
      let r := f s
      setBoot r.1 { r.1.boot with smb := r.2 }

/-- A block read: the byte count, then the bytes. -/
def smbBlock (f : State → Bytes) : State → Out := smbAnswer fun s => (s, some (toLe 1 (f s).length ++ f s))

/-- PAGE: written with `wr` when it is some, else read; `bad` says that the master's PEC was wrong. -/
def execPage (wr : Option Nat) (bad : Bool) (s : State) : Out :=
  smbAnswer (fun s =>
    if bad then (s, none)
    else
      match wr with
      | some v => (setBoot s { s.boot with page := v % 256 }, some [])
      | none => (s, some (toLe 1 s.boot.page))) s

/-- Codes of DEVICE_STATE (Table 14-6). -/
def DevState.code : DevState → Nat
  | .notReady => 0
  | .ready => 1
  | .recovery => 2
  | .fwRestarting => 3
  | .resetting => 4
  | .failed => 5

/-- STATE: DEVICE_STATE, with the COMPAT of function 0. -/
def execState (s : State) : Out :=
  smbBlock (fun s => toLe 8 (s.host.dev.code + 8 * compat s 0 + 65536 * s.host.bootStat)) s

/-- IDENT. -/
def execIdent (s : State) : Out :=
  smbBlock (fun s => toLe 8 (identWord s 0) ++ toLe 4 s.boot.hdr.boardId ++ toLeI 2 (hottest s.dep.sensors) ++ zeros 2) s

/-- FAULTS: records PAGE to PAGE + 6 in the layout of R765; those past 63 as FREE ones. -/
def execFaults (s : State) : Out :=
  smbBlock (fun s => padTo 232 (recordsRead s s.boot.page 7)) s

/-- A boot log entry (R803). -/
def BootEntry.bytes (e : BootEntry) : Bytes := toLe 4 e.us ++ toLe 1 e.step ++ toLe 2 e.code ++ toLe 8 e.detail

/-- BOOT_LOG. -/
def execBootLog (s : State) : Out :=
  smbBlock (fun s => toLe 1 s.boot.log.length ++ (List.range 16).flatMap fun n =>
    ((s.boot.log[s.boot.page + n]?).map BootEntry.bytes).getD (zeros 15)) s

/-- TEMPS. -/
def execTemps (s : State) : Out := smbBlock (fun s => s.dep.sensors.flatMap fun v => toLeI 2 v) s

/-- SMBUS_ALERT_RESPONSE (R845): the device's own address 0x5A, while SMB_ALERT_N is asserted. -/
def execSmbusAlertResponse (s : State) : Out :=
  onAon true s fun s =>
    let up := !(s.boot.porstLow || decide (s.time.ticks < 10 * tMs))
    setBoot s { s.boot with ara := if up && faultN s then some 0x5A else none }

/-- JTAG_ACCESS (R816): while locked the port answers IDCODE (`op` 0) and BYPASS (1) only; what it answers when open is not
given. -/
def execJtagAccess (op : Nat) (s : State) : Out :=
  onAon true s fun s =>
    if op = 0 then setBoot s { s.boot with jtag := some fuseIdcode }
    else if op = 1 then setBoot s { s.boot with jtag := some 0 }
    else if s.boot.jtagOpen && !(s.dep.off.contains 17) then
      let r := takeFree 58 64 s
      setBoot r.2 { r.2.boot with jtag := some r.1 }
    else setBoot s { s.boot with jtag := none }

end Sys2Proof.Machine
end

