-- ==== Sys2Proof/Machine/Pending.lean ====
section
/-!
DEFINITION. What a boundary does to an object (R23 to R25, R28, R40, R72, R73, R851): the changes that wait for it take
effect in order of acceptance, with what becoming ACTIVE or HELD, a new value of a field, or becoming FREE brings about.
-/

namespace Sys2Proof.Machine

open Sys2Proof

/-! ## The header -/

/-- The header of an object after a change. A revoked object keeps its critical mark for its return (log entry 50). -/
def Obj.act (o : Obj) : PendAct → Obj
  | .state st => { o with state := st }
  | .modify fs fx cr _ =>
    { o with fields := fs.foldl (fun t e => Tab.set t e.1 e.2) o.fields, fixed := fx.getD o.fixed
             revoked := if fx == some true then false else o.revoked
             crit := if o.revoked then false else cr.getD o.crit, kept := if o.revoked then cr.getD o.kept else false }
  | .bound n => { o with bound := n }
  | .revoke => { o with fixed := false, revoked := true, bound := 0, kept := o.crit, crit := false }
  | .refix => { o with fixed := true, revoked := false, crit := o.kept, kept := false }
  | .desc _ => o
  | .free => o

/-- The object once everything accepted has taken effect (R851). -/
def Obj.future (o : Obj) : Obj := { o.pend.foldl (fun o p => o.act p.act) o with pend := [] }

/-- The state against which checks are made: every accepted change in effect. -/
def future (s : State) : State :=
  { s with obj := { s.obj with
    objs := s.obj.objs.map fun e => (e.1, e.2.future)
    layers := s.obj.layers.map fun e => (e.1, { e.2 with desc := latestDesc s e.1, ndesc := none, flip := none, took := none }) } }

/-! ## Becoming ACTIVE and HELD -/

/-- What the audio graph holds of leg `l` begins anew; Plane sets and the core stay. -/
def freshAudio (l : Nat) (s : State) : State :=
  let d := getLeg s l
  setLeg { s with aud := { s.aud with ins := Tab.del s.aud.ins l } } l { d with
    tagSeq := 0, tagOut := none, hostIn := (0, 0), hostInOld := 0, hostOut := (0, 0), hostPkt := (0, 0), outRing := [], pktRing := []
    aud := { planeI := d.aud.planeI, planeO := d.aud.planeO, core := d.aud.core } }

/-- The device's words of INDEX_ADDR are written as 0 when a HOST leg becomes ACTIVE (R721): the last write is the packet
ring's. -/
def hostWords (l : Nat) (s : State) : State :=
  if legKind s l = 3 then
    updFn s (ofldN s l (fk 0x01 17 0)) fun f => { f with lastWr := some (ofldN s l (fk 0x01 18 2) + 16, zeros 4) }
  else s

/-- A leg becomes ACTIVE (R233, R468, R721). -/
def startLeg (l : Nat) (s : State) : State :=
  ((kids s 4 l).filter fun x => isOut s x && isActive s x && !(isFixed s x)).foldl
    (fun s x => writePacer x (startPace s l) false s) (startGov l (hostWords l (freshAudio l s)))

/-- Binds the decoder of a decoded stream that has none (R264). -/
def bindIfDecoded (x : Nat) (s : State) : State :=
  if isDecoded s x && (getDec s x).st == 0 && !(getDec s x).surfs.isEmpty then
    bindDecoder x ((engineHeld s x).getD (idleEngine s x)) s
  else s

/-- A stream becomes ACTIVE (R170, R233, R264): `again` after HELD. -/
def startStream (x : Nat) (again : Bool) (s : State) : State :=
  let d := getStream s x
  if isOut s x then
    let s1 := setStream s x { d with
      sub := { d.sub with want := none, eff := none, started := [], pendAt := none, asked := false, restrict := false }
      bind := none, wantBind := none }
    if isFixed s x then (if again then s1 else startPacer x s1)
    else if isActive s (legOfStream s x) then startPacer x s1 else s1
  else
    bindIfDecoded x (setStream { s with aud := { s.aud with ins := Tab.del s.aud.ins x } } x { d with
      jb := {}, te := [], gaps := [], arrs := [], meas := [], srcHi := none, rxBase := none, rxGot := 0, rxExpP := 0, rxGotP := 0 })

/-- A layout becomes ACTIVE: a compositor that admission or the device chose (R61, R66, R348); after HELD its rungs begin a
refresh cycle (R368). -/
def startLayout (y : Nat) (again : Bool) (s : State) : State :=
  let r := match (bothOf s y).reverse.find? fun v => v.code == 4 with
    | some v => (some (if 32 ≤ v.inst then v.inst - 32 else v.inst), s)
    | none =>
      if again || y == dispLayout s then (some (getLayout s y).inst, s)
      else pickFree 24 (List.range (if isMarq s y then 4 else 32)) s
  let s1 := setLayout r.2 y { getLayout r.2 y with inst := r.1.getD 0 }
  if again then
    ((kids s1 7 y).filter (isActive s1)).foldl (fun s q =>
      setRung s q { getRung s q with cycReq := max 1 (getRung s q).cycReq }) s1
  else s1

/-- A rung becomes ACTIVE: its context is bound, or its next picture begins a refresh cycle (R365, R368). -/
def startRung (r : Nat) (s : State) : State :=
  if (getRung s r).st = 0 then bindEncoder r ((engineHeld s r).getD (idleEngine s r)) s
  else setRung s r { getRung s r with cycReq := max 1 (getRung s r).cycReq }

/-- The first activation of an object (R71). -/
def markFirst (k : Nat) (s : State) : State :=
  match getObj s k with
  | some o =>
    if o.firstAct.isSome then s
    else updObj { s with obj := { s.obj with actSeq := s.obj.actSeq + 1 } } k fun o => { o with firstAct := some s.obj.actSeq }
  | none => s

/-- What becoming ACTIVE brings about. -/
def started (k : Nat) (was : ObjSt) (s : State) : State :=
  let s1 := markFirst k s
  let again := was == ObjSt.held
  match k / 1048576 with
  | 3 => startLeg k s1
  | 4 => startStream k again s1
  | 5 => startLayout k again s1
  | 7 => startRung k s1
  | _ => s1

/-- Drops what a queue holds. -/
def emptyQueue (q : Nat) (s : State) : State := if Tab.has s.batten.queues q then qDiscard q (fun _ => true) s else s

/-- What becoming HELD brings about (R270, Table 1-3): a decoder waits for an entry point; what a stream's queue holds is
dropped. -/
def suspended (k : Nat) (s : State) : State :=
  if k / 1048576 = 4 then
    let s1 := emptyQueue (qStream k) s
    if (getDec s k).st = 0 then s1
    else syncWait k (dropItems (getDec s1 k).engine (fun i => !i.enc && i.k == k) s1)
  else if k / 1048576 = 3 then
    (kids s 4 k).foldl (fun s x => emptyQueue (qStream x) s) s
  else s

/-- A change of state at the boundary. -/
def enter (k : Nat) (st : ObjSt) (s : State) : State :=
  match getObj s k with
  | none => s
  | some o =>
    let s1 := updObj s k fun o => o.act (.state st)
    if st = .active ∧ o.state ≠ .active then started k o.state s1
    else if st = .held ∧ o.state ≠ .held then suspended k s1 else s1

/-! ## New values of fields -/

/-- Buckets of a stream whose fields change (R596, R597): `b` is the pacer as it stood. -/
def pacerChange (x : Nat) (fs : Tab Int) (zero : Bool) (b : Bucket) (s : State) : State :=
  let d := getStream s x
  if isFixed s x && Tab.has fs (fk 0x07 3 0) then
    let s1 := setStream s x { d with pacer := Bucket.write (ofldN s x (fk 0x07 3 0)) (paceBurst s x) s.time.ticks zero }
    if b.forgiven = 0 then s1 else bumpObj s1 x .forgivenBytes b.forgiven
  else if Tab.has fs (fk 0x07 (if isFixed s x then 4 else 1) 0) then
    setStream s x { d with pacer := b.clamp (paceBurst s x) }
  else s

/-- What new values of a stream's fields bring about: buckets, a new SSRC, source or layout, DECODE set while ACTIVE. -/
def streamChange (x : Nat) (fs : Tab Int) (zero : Bool) (b : Bucket) (s : State) : State :=
  let s1 := if isOut s x then pacerChange x fs zero b s else s
  let d := getStream s1 x
  let s2 := if Tab.has fs (fk 0x04 3 0) then setStream s1 x { d with ssrc := none } else s1
  let d2 := getStream s2 x
  let s3 := if Tab.has fs (fk 0x04 7 0) then setStream s2 x { d2 with sub := { d2.sub with want := none, eff := none, pendAt := none } }
    else s2
  let d3 := getStream s3 x
  let s4 := if Tab.has fs (fk 0x04 8 0) then setStream s3 x { d3 with bind := none, wantBind := none } else s3
  if isActive s4 x then bindIfDecoded x s4 else s4

/-- What new values of a leg's fields bring about: the shaper's size (R597), a new remote address (R151). -/
def legChange (l : Nat) (fs : Tab Int) (b : Bucket) (s : State) : State :=
  let s1 := if Tab.has fs (fk 0x01 12 0) then
      setLeg s l { getLeg s l with shaper := b.clamp (ofldN s l (fk 0x01 12 0)) } else s
  if [fk 0x01 4 0, fk 0x01 4 1, fk 0x01 5 0, fk 0x01 6 0].any (Tab.has fs) then setLeg s1 l { getLeg s1 l with latched := none } else s1

/-- The next mix period boundary of a conference whose P is `P` (R103). -/
def nextMix (s : State) (P : Nat) : Nat := if P = 0 then 0 else (phcNs s.time / P + 1) * P

/-- Fields, class and critical mark change. -/
def modified (k : Nat) (fs : Tab Int) (fx cr : Option Bool) (zero : Bool) (s : State) : State :=
  let pb := pacerNow s k
  let sb := shaperNow s k
  let s1 := updObj s k fun o => o.act (.modify fs fx cr zero)
  match k / 1048576 with
  | 2 => if Tab.has fs (fk 0x08 0 0) then setConf s1 k { getConf s1 k with mixNext := nextMix s1 (mixPeriod s1 k) } else s1
  | 3 => legChange k fs sb s1
  | 4 => streamChange k fs zero pb s1
  | _ => s1

/-! ## Becoming FREE (R28) -/

/-- A Batten queue whose object is gone: its items are dropped, it leaves its group (R626, R627). -/
def freeQueue (q : Nat) (s : State) : State :=
  let s1 := emptyQueue q s
  let g := (getQ s1 q).group
  let s2 := { s1 with batten := { s1.batten with queues := Tab.del s1.batten.queues q } }
  match g with
  | some g => groupCheck g s2
  | none => s2

/-- An input that is gone leaves its conference's block and ranked set. -/
def forgetInput (c k : Nat) (s : State) : State :=
  let d := getConf s c
  let a := d.aud
  setConf { s with aud := { s.aud with ins := Tab.del s.aud.ins k } } c { d with aud := { a with
    set_ := a.set_.filter fun r => r.key != k
    pos := Tab.del a.pos k, mem := a.mem.filter fun m => m != k, con := Tab.del a.con k
    backs := (a.backs.map fun j => { j with legs := j.legs.filter fun m => m != k }).filter fun j => !j.legs.isEmpty } }

/-- Engines forget a context that is gone. -/
def dropContext (e k : Nat) (s : State) : State :=
  updEng (dropItems e (fun i => i.k == k) s) e fun g => { g with run := g.run.filter fun i => i.k != k }

/-- Layers that show a surface of the list show it no longer. -/
def unshow (ns : List Nat) (s : State) : State :=
  let gone := fun (c : Option Shown) => c.filter fun v => !(ns.contains v.surf)
  { s with obj := { s.obj with layers := s.obj.layers.map fun e => (e.1, { e.2 with cur := gone e.2.cur, next := gone e.2.next }) } }

/-- What an object held beside its header goes with it. -/
def freeDyn (k : Nat) (s : State) : State :=
  let o := s.obj
  match k / 1048576 with
  | 2 =>
    let qs := (s.batten.shared.filter fun e => e.2 == k).map (·.1)
    let s1 := qs.foldl (fun s q => freeQueue q s) (delInst s (ikey k 1))
    { s1 with obj := { s1.obj with confs := Tab.del s1.obj.confs k }
              batten := { s1.batten with shared := s1.batten.shared.filter fun e => e.2 != k } }
  | 3 =>
    let s1 := freeQueue (qCtrl k) (forgetInput (confOfLeg s k) k (delInst (delInst s (ikey k 0)) (ikey k 2)))
    { s1 with obj := { s1.obj with legs := Tab.del s1.obj.legs k } }
  | 4 =>
    let d := getDec s k
    let s1 := freeQueue (qStream k) (forgetInput (confOfLeg s (legOfStream s k)) k (unshow d.surfs
      (unbindDecoder k (if d.st = 0 then s else dropContext d.engine k s))))
    { s1 with obj := { s1.obj with streams := Tab.del s1.obj.streams k } }
  | 5 =>
    let shown := dispLayout s == k
    let s1 := if shown then updDisp s fun d => { d with fields := Tab.set d.fields (fk 0x11 0 0) 0, shown := none, frame := [] } else s
    { s1 with obj := { o with layouts := Tab.del o.layouts k }
              vid := { s1.vid with comps := s1.vid.comps.filter fun e => e.2 != k } }
  | 6 => { s with obj := { o with layers := Tab.del o.layers k } }
  | 7 =>
    let d := getRung s k
    let s1 := freeQueue (qRung k) (unbindEncoder k (if d.st = 0 then s else dropContext d.engine k s))
    { s1 with obj := { s1.obj with
      rungs := Tab.del s1.obj.rungs k
      streams := s1.obj.streams.map fun e => (e.1, { e.2 with
        bind := e.2.bind.filter fun r => r != k, wantBind := e.2.wantBind.filter fun r => r != k }) } }
  | _ => s

/-- The object becomes FREE: its handle is stale, its reservation released, its memory given back. -/
def freeObject (k : Nat) (s : State) : State :=
  match getObj s k with
  | none => s
  | some o =>
    let par := hKey o.parent
    let s1 := freeDyn k s
    let s2 := setObjs s1 (Tab.del s1.obj.objs k)
    let s3 := if k / 1048576 = 3 && !o.both.isEmpty then resettle par s2 else if k / 1048576 = 7 then syncRungs par s2 else s2
    shrinkMem o.part s3

/-! ## Boundaries -/

/-- Whether a change alters the class as a whole (R24, R72). -/
def PendAct.isClass : PendAct → Bool
  | .revoke => true
  | .refix => true
  | _ => false

/-- Whether a change of class waits on the object. -/
def classWaits (s : State) (k : Nat) : Bool := ((getObj s k).map fun o => o.pend.any fun p => p.act.isClass).getD false

/-- The reservation placed for an object is in force once nothing waits on it any more (R40). -/
def commitIdle (k : Nat) (s : State) : State :=
  match getObj s k with
  | some o => if o.pend.isEmpty && !o.resvNew.isEmpty then commitResv k s else s
  | none => s

/-- A change takes effect; a change of a leg's or layout's class takes that of its streams, layers and rungs along (R24,
R73). -/
def applyAct (k : Nat) (s : State) : PendAct → State
  | .state st => enter k st s
  | .modify fs fx cr zero => modified k fs fx cr zero s
  | .bound n => updObj s k fun o => o.act (.bound n)
  | .desc d => setLayer s k { getLayer s k with desc := d, ndesc := none }
  | .revoke => updObj s k fun o => o.act .revoke
  | .refix => updObj s k fun o => o.act .refix
  | .free => freeObject k s

/-- The class changes that wait on a child of `k` take effect with those of `k`. -/
def childClass (s : State) (q : Nat) : State :=
  match getObj s q with
  | none => s
  | some o =>
    commitIdle q ((o.pend.filter fun p => p.act.isClass).foldl (fun s p => applyAct q s p.act)
      (updObj s q fun o => { o with pend := o.pend.filter fun p => !p.act.isClass }))

/-- Whether a change that waits on object `k` is due at a boundary of it at PHC time `t`: a layer of a layout that composes
waits for a readiness check (R317), and a change of class for that of the parent. -/
def dueAt (s : State) (k t : Nat) (p : Pend) : Bool :=
  decide (p.due ≤ t) &&
    (k / 1048576 != 6 || p.due != 0 || !(isActive s (parentKey s k))) &&
    !(p.act.isClass && (classWaits s (parentKey s k)))

/-- What waits on object `k`, is due at its boundary at PHC time `t` and satisfies `f` takes effect. -/
def settleIf (f : Pend → Bool) (t : Nat) (s : State) (k : Nat) : State :=
  match getObj s k with
  | none => s
  | some o =>
    let due := o.pend.filter fun p => f p && dueAt s k t p
    if due.isEmpty then s
    else
      let s1 := updObj s k fun o => { o with pend := o.pend.filter fun p => !(due.contains p) }
      let s2 := due.foldl (fun s p => applyAct k s p.act) s1
      let s3 := if due.any fun p => p.act.isClass then (kids s2 4 k ++ kids s2 6 k ++ kids s2 7 k).foldl childClass s2 else s2
      let s4 := commitIdle k s3
      syncResv (if k / 1048576 = 7 then syncRungs (parentKey s4 k) s4 else if k / 1048576 = 5 then syncRungs k s4 else s4)

/-- Everything that waits on object `k` and is due at its boundary at PHC time `t` takes effect. -/
def settleAt (t : Nat) (s : State) (k : Nat) : State := settleIf (fun _ => true) t s k

/-- The objects whose boundaries are the instants of rate row `r`, and the legs, whose boundary may be one (R25): streams
first, then legs, layouts, layers and rungs. -/
def instantObjs (s : State) (r : Nat) : List Nat :=
  ((s.obj.objs.filter fun e => !e.2.pend.isEmpty && (e.1 / 1048576 != 2) && (e.1 / 1048576 != 3)
      && rateOfObj s e.1 == some r).map (·.1))
    ++ ((s.obj.objs.filter fun e => e.1 / 1048576 == 3 && e.2.pend.any fun p => p.due != 0).map (·.1))

/-- What waits for the frame instant of rate row `r` at PHC time `x`. A leg takes what waits for a time that has come. -/
def instantChanges (r x : Nat) (s : State) : State :=
  (instantObjs s r).foldl (fun s k => settleIf (fun p => k / 1048576 != 3 || p.due != 0) x s k) s

/-- What waits for the mix period boundary of conference `c` at PHC time `t`: its audio streams, its legs, itself; the shared
work's new reservation is in force once no leg waits any more (R40). -/
def mixChanges (c t : Nat) (s : State) : State :=
  let ls := kids s 3 c
  let xs := ls.flatMap fun l => (kids s 4 l).filter fun x => (streamRate s x).isNone
  let s1 := (xs ++ ls ++ [c]).foldl (settleAt t) s
  match getObj s1 c with
  | some o =>
    if !o.resvNew.isEmpty && (kids s1 3 c).all (fun l => ((getObj s1 l).map fun o => o.resvNew.isEmpty).getD true) then
      syncResv (commitResv c s1)
    else s1
  | none => s1

end Sys2Proof.Machine
end

