-- ==== Sys2Proof/Machine/Partitions.lean ====
section
/-!
DEFINITION. Partitions, functions and ownership (R682 to R687, R738, R745), gate lists and Kerf fields of a port (R588 to
R595), policers (R599, R600), surfaces (R27, R305, R747) and fences (R724, R725).
-/

namespace Sys2Proof.Machine

open Sys2Proof

/-! ## Quotas (Table 14-3) -/

/-- The objects of type `t` of a partition that are not FREE. -/
def partObjs (s : State) (p t : Nat) : List Nat :=
  (s.obj.objs.filter fun e => e.1 / 1048576 == t && e.2.part == p).map (·.1)

/-- The legs of a kind of a partition. -/
def partLegs (s : State) (p kind : Nat) : List Nat := (partObjs s p 3).filter fun l => legKind s l == kind

/-- The policers a partition uses: up to the highest index that a stream of it names. -/
def policersUsed (s : State) (p : Nat) : Nat :=
  ((partObjs s p 4).map fun x => if ofld s x (fk 0x04 13 0) = noneV then 0 else ofldN s x (fk 0x04 13 0) + 1).foldl max 0

/-- The classes the outgoing streams of a partition use, as PORT_CLASSES has them. -/
def classesUsed (s : State) (p : Nat) : Nat :=
  ((partObjs s p 4).filter (isOut s)).foldl (fun m x =>
    let b := 8 * legPort s (legOfStream s x) + streamTc s x
    setBit m b) 0

/-- Surfaces of a partition: those there are, and the buffers of contexts among them. -/
def surfsUsed (s : State) (p : Nat) : Nat := (partSurfs s p).length

/-- What a partition uses of the quota with key `k`; 0 for a rate. -/
def partUse (s : State) (p k : Nat) : Nat :=
  match fRow k, fElem k with
  | 0, _ => (partObjs s p 3).length
  | 1, e => (partLegs s p (e + 1)).length
  | 2, 0 => (partObjs s p 2).length
  | 2, 1 => (partObjs s p 5).length
  | 2, 2 => (partObjs s p 4).length
  | 2, _ => surfsUsed s p
  | 3, 0 => contextsUsed s false (some p)
  | 3, _ => contextsUsed s true (some p)
  | 4, 0 => (s.dsp.kerns.filter fun e => e.2.part == p).length
  | 4, 1 => (s.vid.coefs.filter fun e => e.2.part == p).length
  | 4, _ => (s.aud.hrtf.filter fun e => e.2.part == p).length
  | 5, 0 => policersUsed s p
  | 5, _ => (s.batten.groups.filter fun e => e.2.part == some p).length
  | 6, _ => partExtents s p + 4096 * partPages s p
  | 7, e => ceilDiv (partHeld s p e * 1000000) (max 1 (ceilingSum s e))
  | 8, _ => classesUsed s p
  | _, _ => 0

/-- Whether a new quota value covers what the partition uses (R685). -/
def covers (s : State) (p k v : Nat) : Bool :=
  if fRow k = 8 then (List.range 64).all fun b => !(bitOf (partUse s p k) b) || bitOf v b
  else decide (partUse s p k ≤ v)

/-- The device total of a quota (R685); none where several partitions may hold the same. -/
def quotaTotal (s : State) (k : Nat) : Option Nat :=
  if fRow k = 6 then some (dramBytes s)
  else if 8 ≤ fRow k then none
  else (fieldSpec k).map fun f => f.hi.toNat

/-- Whether every quota adds up over partitions (R685). -/
def totalsOk (s : State) : Bool :=
  (tableKeys 0x10).all fun k => match quotaTotal s k with
    | some t => decide ((s.obj.parts.map fun e => fldN e.2.quota k).sum ≤ t)
    | none => true

/-- The quota list of a partition replaced. -/
def setQuota (p : Nat) (q : Tab Int) (s : State) : State :=
  { s with obj := { s.obj with parts := Tab.upd s.obj.parts p fun x => { x with quota := q } } }

/-! ## Partitions -/

/-- PARTITION_CREATE (R28, R612, R671, R684, R685). -/
def bodyPartitionCreate : Body := fun _ p _ s =>
  let es := entries p 8 (le p 6 2)
  let q := applyEntries [] es
  let slot := lowestFree (Tab.keys s.obj.parts) 0 256
  let i := slot.getD 0
  let g := nextGen (Tab.get s.obj.gens (okey 1 i))
  let lim : Bucket := Bucket.write (fldN q (fk 0x10 9 0)) (fldN q (fk 0x10 9 1)) s.time.ticks false
  let s1 := { s with
    obj := { s.obj with
      parts := Tab.set s.obj.parts i { gen := g, quota := q, encrypt := bitOf (le p 0 1) 0, lim := lim }
      gens := Tab.set s.obj.gens (okey 1 i) g }
    batten := { s.batten with pool := true } }
  checked (entryChecks es (fun k => fTable k == 0x10) ++
    [(decide (fldN q (fk 0x10 6 0) ≤ dramBytes s), .outOfRange), (slot.isSome, .noResource), (totalsOk s1, .noResource)]) fun _ =>
    .ok (toLe 4 (mkHandle 1 g i) ++ zeros 4) (mkHandle 1 g i) s1

/-- PARTITION_MODIFY (R596, R597, R685). -/
def bodyPartitionModify : Body := fun _ p _ s =>
  match resolvePart s (le p 0 4) with
  | none => .no .badHandle []
  | some i =>
    let es := entries p 8 (le p 6 2)
    let x := (Tab.get s.obj.parts i).getD { gen := 0 }
    let q := applyEntries x.quota es
    let b := limiterNow s i
    let named := fun (k : Nat) => es.any fun e => e.key = k
    let s1 := setQuota i q s
    let s2 :=
      if named (fk 0x10 9 0) then
        let s2 := setLimiter s1 i (Bucket.write (fldN q (fk 0x10 9 0)) (fldN q (fk 0x10 9 1)) s.time.ticks false)
        if b.forgiven = 0 then s2 else bumpPart s2 i .forgivenBytes b.forgiven
      else if named (fk 0x10 9 1) then setLimiter s1 i (b.clamp (fldN q (fk 0x10 9 1))) else s1
    checked (entryChecks es (fun k => fTable k == 0x10) ++
      [(decide (fldN q (fk 0x10 6 0) ≤ dramBytes s), .outOfRange),
       (es.all fun e => covers s i e.key e.val.toNat, .inUse), (totalsOk s1, .noResource)]) fun _ => .ok [] 0 s2

/-- What a deleted partition held besides objects goes: keys, extents, policers, slots, cores, groups, table entries, queues
(R670, R672, R687, log entry 51). -/
def dropPartition (i : Nat) (s : State) : State :=
  let s1 := freeQueue (qHtx i) (freeQueue (qExc i) (dropExtents (extentsOf s i) s))
  let parts := Tab.del s1.obj.parts i
  { s1 with
    obj := { s1.obj with parts := parts }
    eth := { s1.eth with
      pol := s1.eth.pol.filter fun e => e.1 / 8192 != i
      mcast := s1.eth.mcast.filter fun e => e.2.2 != i
      addrs := s1.eth.addrs.filter fun e => e.2.part != i }
    vid := { s1.vid with coefs := s1.vid.coefs.filter fun e => e.2.part != i }
    aud := { s1.aud with hrtf := s1.aud.hrtf.filter fun e => e.2.part != i }
    dsp := { s1.dsp with cores := s1.dsp.cores.map fun e => (e.1, if e.2.part == some i then { e.2 with part := none } else e.2) }
    batten := { s1.batten with
      groups := s1.batten.groups.map fun e => (e.1, if e.2.part == some i then { e.2 with part := none } else e.2)
      pool := s1.batten.pool && !parts.isEmpty } }

/-- PARTITION_DELETE (R687, R738). -/
def bodyPartitionDelete : Body := fun _ p _ s =>
  match resolvePart s (le p 0 4) with
  | none => .no .badHandle []
  | some i =>
    let full := (s.obj.objs.any fun e => e.2.part == i) || (s.vid.surfs.any fun e => e.2.part == i)
      || (s.dsp.kerns.any fun e => e.2.part == i) || !(partFns s i).isEmpty
    checked [(!full, .notEmpty)] fun _ => .ok [] 0 (dropPartition i s)

/-- PARTITION_READ (Table 15-6): the quotas, then the use. -/
def bodyPartitionRead : Body := fun F p _ s =>
  match resolvePart s (le p 0 4) with
  | none => .no .badHandle []
  | some i =>
    let ks := tableKeys 0x10
    checked [(sees s F i, .badHandle)] fun _ =>
      .ok (toLe 2 ks.length ++ zeros 6 ++ (ks.flatMap fun k => entryBytes k (quota s i (fRow k) (fElem k)))
        ++ ks.flatMap fun k => entryBytes k (partUse s i k)) 0 s

/-- FUNCTION_ASSIGN (R683). -/
def bodyFunctionAssign : Body := fun _ p _ s =>
  let F := le p 0 1
  let h := le p 4 4
  let f := getFn s F
  let pt := if h = 0 then some none else (resolvePart s h).map some
  let busy := !f.rings.isEmpty || !f.queues.isEmpty || !f.hrings.isEmpty || !f.wins.isEmpty || !f.fences.isEmpty
  checked [(pt.isSome, .badHandle), (decide (F < nFuncs s), .outOfRange), (!busy, .busy)] fun _ =>
    let q := pt.getD none
    .ok [] 0 (if f.part = q then s else setFn s F (setStatus { f with part := q } 5))

/-- OWNER_TRANSFER (R682). -/
def bodyOwnerTransfer : Body := fun _ p _ s =>
  checked [(decide (le p 0 1 < nFuncs s), .outOfRange)] fun _ =>
    .ok [] 0 { s with host := { s.host with transfer := some (le p 0 1, s.time.ticks) } }

/-- OWNER_ACCEPT (R682): within 10 s of the transfer. -/
def bodyOwnerAccept : Body := fun F _ _ s =>
  let ok := match s.host.transfer with
    | some (G, t) => G == F && decide (s.time.ticks ≤ t + 10 * tS)
    | none => false
  checked [(ok, .notOwner)] fun _ =>
    let old := s.host.owner
    let s1 := updFn { s with host := { s.host with owner := F, transfer := none } } F fun f => setStatus f 6
    .ok [] 0 (if old = F then s1 else updFn s1 old fun f => setStatus f 6)

/-- PARTITION_CREATE. -/
def execPartitionCreate (src : Src) (s : State) : Out := serve 0x0100 src [] bodyPartitionCreate s
/-- PARTITION_MODIFY. -/
def execPartitionModify (src : Src) (s : State) : Out := serve 0x0101 src [] bodyPartitionModify s
/-- PARTITION_DELETE. -/
def execPartitionDelete (src : Src) (s : State) : Out := serve 0x0102 src [] bodyPartitionDelete s
/-- PARTITION_READ. -/
def execPartitionRead (src : Src) (s : State) : Out := serve 0x0103 src [] bodyPartitionRead s
/-- FUNCTION_ASSIGN. -/
def execFunctionAssign (src : Src) (s : State) : Out := serve 0x0104 src [] bodyFunctionAssign s
/-- OWNER_TRANSFER. -/
def execOwnerTransfer (src : Src) (s : State) : Out := serve 0x0105 src [] bodyOwnerTransfer s
/-- OWNER_ACCEPT. -/
def execOwnerAccept (src : Src) (s : State) : Out := serve 0x0106 src [] bodyOwnerAccept s

/-! ## Kerf on a port -/

/-- A refusal of a port's change (R595): GATE_WINDOW or EGRESS_PORT, the port, and an open SHORTFALL. -/
def portShut (s : State) (i lim : Nat) : Ans :=
  .no .admissionRefused (Shut.bytes { lim := lim, inst := i, short := (shutFree lim s).short })

/-- KERF_PORT_CONFIG (R570, R582, R584, R595): a change of OVERHEAD checks the fixed objects of the port again. -/
def bodyKerfPortConfig : Body := fun _ p _ s =>
  match resolvePort (le p 0 4) with
  | none => .no .badHandle []
  | some i =>
    let es := entries p 8 (le p 6 2)
    let s1 := updPort s i fun e => { e with fields := applyEntries e.fields es }
    checked (entryChecks es (fun k => fTable k == 0x12 && decide (7 ≤ fRow k)) ++ [(decide (i < 8), .outOfRange)]) fun _ =>
      match portFails (future s1) i (gateLists (getPort s1 i)) with
      | some f => portShut s i f.2
      | none => .ok (zeros 16) 0 s1

/-- The change time of a new gate list (R590): the first cycle boundary of it at or after the next stroke boundary. -/
def changeTime (s : State) (base cycle : Nat) : Nat :=
  let t := s.time.strokeNext
  if t ≤ base then base else base + ceilDiv (t - base) cycle * cycle

/-- GATE_LIST_SET (R588 to R591, R595): `d` is the list as read from ADDR. -/
def bodyGateListSet : Body := fun F p d s =>
  match resolvePort (le p 0 4) with
  | none => .no .badHandle []
  | some i =>
    let n := le p 4 2
    let addr := le p 24 8
    let cyc := le p 20 4
    let base := le p 8 6 * secNs + le p 16 4
    let ents := gateEntries d 0 n
    let dmaOk := n == 0 || inWindow (getFn s F) addr (8 * n) false
    let e := getPort s i
    checked [
      (!dmaOk || (List.range n).all fun j => le d (8 * j + 1) 3 == 0, .unsupportedField),
      (decide (i < 8) && decide (n ≤ 256) && decide (1000 ≤ cyc) && decide (cyc ≤ 1000000000) && decide (le p 16 4 < secNs)
        && (!dmaOk || ents.all fun x => decide (8 ≤ x.2) && decide (x.2 ≤ 1000000000)), .outOfRange)] fun _ =>
      if !dmaOk then .dma addr (8 * n) 0
      else
        let g : GateList := { base := base, cycle := cyc, ents := ents }
        match portFails (future s) i [e.gates, if n = 0 then none else some g] with
        | some f => portShut s i f.2
        | none =>
          let s1 := if e.gatesNew.isSome then bumpPort s i .gateListReplaced else s
          .ok (zeros 16) 0 (updPort s1 i fun e => { e with gatesNew := some (g, changeTime s base cyc) })

/-- KERF_PORT_CONFIG. -/
def execKerfPortConfig (src : Src) (s : State) : Out := serve 0x0306 src [] bodyKerfPortConfig s
/-- GATE_LIST_SET. -/
def execGateListSet (src : Src) (dma : Bytes) (s : State) : Out := serve 0x0307 src dma bodyGateListSet s

/-! ## Policers -/

/-- A policer's fields as POLICER_CONFIG leaves them: RESET belongs to the command. -/
def polFields (s : State) (pt n : Nat) (es : List Entry) : Tab Int :=
  applyEntries (((getPol s pt n).map (·.fields)).getD []) (es.filter fun e => e.key ≠ fk 0x0D 7 0)

/-- The policer that POLICER_CONFIG leaves: every bucket full, or empty with RESET ZERO unless ALGORITHM changes (R600). -/
def polWrite (s : State) (pt n : Nat) (es : List Entry) : Policer :=
  let old := (getPol s pt n).getD (fullPol [] s.time.ticks)
  let fs := polFields s pt n es
  let x := fullPol fs s.time.ticks
  let zero := fld (applyEntries [] es) (fk 0x0D 7 0) == 1 && fld fs (fk 0x0D 0 0) == fld old.fields (fk 0x0D 0 0)
  if zero then { x with tc := 0, te := 0, tp := 0, ctrs := old.ctrs } else { x with ctrs := old.ctrs }

/-- The fixed received streams that name a policer and hold a reservation. -/
def polStreams (s : State) (pt n : Nat) : List Nat :=
  (partObjs s pt 4).filter fun x => !(isOut s x) && ofld s x (fk 0x04 13 0) == (n : Int) && !(bothOf s x).isEmpty

/-- POLICER_CONFIG (R599, R600). -/
def bodyPolicerConfig : Body := fun F p _ s =>
  match (getFn s F).part with
  | none => .no .unassigned []
  | some pt =>
    let n := le p 0 2
    let es := entries p 8 (le p 6 2)
    let fs := polFields s pt n es
    let old := (getPol s pt n).getD (fullPol [] s.time.ticks)
    let two := fld fs (fk 0x0D 0 0) == 1
    let s1 := { s with eth := { s.eth with pol := Tab.set s.eth.pol (pt * 8192 + n) (polWrite s pt n es) } }
    checked (entryChecks es (fun k => fTable k == 0x0D) ++
      [(decide (n < quota s pt 5 0), .outOfRange),
       (!two || (decide (fldN fs (fk 0x0D 2 0) ≤ polPir fs) && decide (fldN fs (fk 0x0D 3 0) ≤ fldN fs (fk 0x0D 6 0))),
        .outOfRange)]) fun _ =>
      if fldN fs (fk 0x0D 3 0) = fldN old.fields (fk 0x0D 3 0) then .ok (zeros 16) 0 s1
      else
        let xs := polStreams (future s) pt n
        match admitAll xs (future s1) with
        | .error e => .no .admissionRefused e.bytes
        | .ok t => .ok (zeros 16) 0 (syncResv (xs.foldl (fun s x => commitIdle x s) (keepPlaced xs t s1)))

/-- POLICER_CONFIG. -/
def execPolicerConfig (src : Src) (s : State) : Out := serve 0x0607 src [] bodyPolicerConfig s

/-! ## Surfaces -/

/-- Whether a surface is shown, named by a pending flip, or a playing clip (R27, R747). -/
def surfBusy (s : State) (n : Nat) : Bool :=
  let h := surfHandle s n
  (s.obj.layers.any fun e => Tab.has s.obj.objs e.1 &&
    ((e.2.cur.map (·.surf)) == some n || (e.2.next.map (·.surf)) == some n || (e.2.flip.map (·.src)) == some h || (e.2.took.map (·.src)) == some h
      || (showsStandin e.2 && dStandSurf e.2.desc && dStandIn e.2.desc == h)))
    || (s.obj.legs.any fun e => e.2.aud.clips.any fun c => c.surf == n)
    || (s.obj.confs.any fun e => e.2.aud.clips.any fun c => c.surf == n)

/-- Whether a layer that is not FREE names the surface as SOURCE or STANDIN_SURFACE (R27). -/
def surfNamed (s : State) (n : Nat) : Bool :=
  let h := surfHandle s n
  s.obj.layers.any fun e => Tab.has s.obj.objs e.1 &&
    ([e.2.desc, latestDesc s e.1].any fun d => dSource d == h || (dStandSurf d && dStandIn d == h))

/-- The size checks of a new surface (R305, R457). -/
def surfOk (f w h n : Nat) : Bool :=
  if isClip f then decide (480 ≤ n) && decide (n ≤ 16777216)
  else decide (f ≤ 3) && w % 2 == 0 && decide (16 ≤ w) && decide (w ≤ 4096) && h % 2 == 0 && decide (4 ≤ h) && decide (h ≤ 2304)

/-- SURFACE_CREATE (R28, R305, R686). -/
def bodySurfaceCreate : Body := fun F p _ s =>
  match partOr s F (le p 0 4) with
  | .error st => .no st []
  | .ok pt =>
    let f := le p 4 1
    let w := if isClip f then le p 12 4 else le p 8 2
    let h := if isClip f then 1 else le p 10 2
    let r := newSurf pt f w h 0 s
    let t := r.bind fun a => (fitMem pt a.2).map fun s2 => (a.1, s2)
    checked [(surfOk f (le p 8 2) (le p 10 2) (le p 12 4), .outOfRange),
             (decide (surfsUsed s pt < quota s pt 2 3) && t.isSome, .noResource)] fun _ =>
      match t with
      | none => .no .noResource []
      | some (n, s2) =>
        let hd := surfHandle s2 n
        .ok (toLe 4 hd ++ zeros 4 ++ toLe 8 (((getSurf s2 n).map surfSize).getD 0)) hd s2

/-- SURFACE_DELETE (R27). -/
def bodySurfaceDelete : Body := fun F p _ s =>
  match resolveSurf s F (le p 0 4) with
  | none => .no .badHandle []
  | some n =>
    let u := getSurf s n
    checked [(!(surfBusy s n) && !(surfNamed s n) && ((u.map fun u => u.owner == 0).getD false), .inUse)] fun _ =>
      .ok [] 0 (shrinkMem ((u.map (·.part)).getD 0) (freeSurfs [n] s))

/-- The geometry of one plane (Table 6-3). -/
def planeInfo (u : Surf) (alpha : Bool) : Bytes :=
  let b := planeBase u.fmt u.w u.h alpha
  toLe 8 b.1 ++ toLe 8 b.2 ++ toLe 2 (tilesX u.w) ++ toLe 2 (tilesY u.h) ++ toLe 4 (hdrPitch u.w)

/-- SURFACE_INFO (Table 15-16): a clip has no planes. -/
def bodySurfaceInfo : Body := fun F p _ s =>
  match (resolveSurf s F (le p 0 4)).bind (getSurf s) with
  | none => .no .badHandle []
  | some u =>
    .ok (toLe 8 (surfSize u) ++ (if isClip u.fmt then [] else planeInfo u false ++ (if fmtAlpha u.fmt then planeInfo u true else [])))
      0 s

/-- SURFACE_WRITE (R747): `d` is what the DMA read. -/
def bodySurfaceWrite : Body := fun F p d s =>
  match resolveSurf s F (le p 0 4) with
  | none => .no .badHandle []
  | some n =>
    let len := le p 4 4
    let off := le p 8 8
    let addr := le p 16 8
    match getSurf s n with
    | none => .no .badHandle []
    | some u =>
      checked [(decide (off + len ≤ surfSize u), .outOfRange), (!(surfBusy s n) && u.owner == 0, .inUse)] fun _ =>
        if len ≠ 0 && !(inWindow (getFn s F) addr len false) then .dma addr len 0
        else .ok [] 0 { s with vid := { s.vid with surfs := Tab.set s.vid.surfs n { u with
          mem := Mem.write 0 u.mem off (padTo len d) } } }

/-- SURFACE_READ (R747). -/
def bodySurfaceRead : Body := fun F p _ s =>
  match (resolveSurf s F (le p 0 4)).bind (getSurf s) with
  | none => .no .badHandle []
  | some u =>
    let len := le p 4 4
    let off := le p 8 8
    let addr := le p 16 8
    checked [(decide (off + len ≤ surfSize u), .outOfRange)] fun _ =>
      if len ≠ 0 && !(inWindow (getFn s F) addr len true) then .dma addr len 1
      else .ok [] 0 (if len = 0 then s else updFn s F fun f => { f with lastWr := some (addr, Mem.read 0 u.mem off len) })

/-- SURFACE_CREATE. -/
def execSurfaceCreate (src : Src) (s : State) : Out := serve 0x0A00 src [] bodySurfaceCreate s
/-- SURFACE_DELETE. -/
def execSurfaceDelete (src : Src) (s : State) : Out := serve 0x0A01 src [] bodySurfaceDelete s
/-- SURFACE_INFO. -/
def execSurfaceInfo (src : Src) (s : State) : Out := serve 0x0A02 src [] bodySurfaceInfo s
/-- SURFACE_WRITE. -/
def execSurfaceWrite (src : Src) (dma : Bytes) (s : State) : Out := serve 0x0A03 src dma bodySurfaceWrite s
/-- SURFACE_READ. -/
def execSurfaceRead (src : Src) (s : State) : Out := serve 0x0A04 src [] bodySurfaceRead s

/-! ## Fences -/

/-- The handle of fence `i` of function `F` with generation `g` (R724). -/
def fenceHandle (F i g : Nat) : Nat := mkHandle 9 g (256 * F + i)

/-- The function and index of a fence that exists. -/
def resolveFence (s : State) (h : Nat) : Option (Nat × Nat) := (fenceValue s h).map fun _ => (hIdx h / 256, hIdx h % 256)

/-- Whether a fence is named by a layer that is not FREE or a pending flip (R27). -/
def fenceNamed (s : State) (h : Nat) : Bool :=
  s.obj.layers.any fun e => Tab.has s.obj.objs e.1 &&
    (dFence e.2.desc == h || dFence (latestDesc s e.1) == h || (e.2.flip.map (·.fence)) == some h || (e.2.took.map (·.fence)) == some h)

/-- FENCE_CREATE (R724): a fence of a function that belongs to no partition would belong to none (R17). -/
def bodyFenceCreate : Body := fun F p _ s =>
  let f := getFn s F
  let slot := lowestFree (Tab.keys f.fences) 0 256
  let i := slot.getD 0
  let g := nextGen (Tab.get f.fgens i)
  checked [(f.part.isSome, .unassigned), (slot.isSome, .noResource)] fun _ =>
    .ok (toLe 4 (fenceHandle F i g) ++ zeros 4) (fenceHandle F i g)
      (setFn s F { f with fences := Tab.set f.fences i (le p 0 8), fgens := Tab.set f.fgens i g })

/-- FENCE_DELETE (R27, R747). -/
def bodyFenceDelete : Body := fun F p _ s =>
  let h := le p 0 4
  match resolveFence s h with
  | none => .no .badHandle []
  | some (G, i) =>
    checked [(decide (G = F), .badHandle), (!(fenceNamed s h), .inUse)] fun _ =>
      .ok [] 0 (updFn s F fun f => { f with fences := Tab.del f.fences i })

/-- FENCE_SIGNAL (R725): a ring entry of any function of the fence's partition writes as FENCE[i] does. -/
def bodyFenceSignal : Body := fun F p _ s =>
  let h := le p 0 4
  match resolveFence s h with
  | none => .no .badHandle []
  | some (G, i) =>
    let v := (fenceValue s h).getD 0
    let w := le p 8 8
    let seen := match (getFn s G).part with
      | some pt => sees s F pt
      | none => decide (G = F) || isOwner s F
    checked [(seen, .badHandle)] fun _ =>
      .ok [] 0 (if w < v then bumpFn s G .fenceBackward
        else updFn s G fun f => { f with fences := Tab.set f.fences i w })

/-- FENCE_CREATE. -/
def execFenceCreate (src : Src) (s : State) : Out := serve 0x0B00 src [] bodyFenceCreate s
/-- FENCE_DELETE. -/
def execFenceDelete (src : Src) (s : State) : Out := serve 0x0B01 src [] bodyFenceDelete s
/-- FENCE_SIGNAL. -/
def execFenceSignal (src : Src) (s : State) : Out := serve 0x0B02 src [] bodyFenceSignal s

end Sys2Proof.Machine
end

