-- ==== Sys2Proof/Machine/ObjChecks.lean ====
section
/-!
DEFINITION. What a life-cycle command checks: which fields an object holds (Table 15-11), and for each type whether the
object may be as a CREATE or MODIFY would leave it. Every check is made on a trial state, in which everything accepted has
taken effect (R851) and the object stands as it would.
-/

namespace Sys2Proof.Machine

open Sys2Proof

/-- A check: what must hold, and the status when it does not. -/
abbrev Check := Bool × Status

/-- The value a change leaves in a field differs from what stood there. -/
def alters (t0 t1 : State) (k key : Nat) : Bool := ofld t0 k key != ofld t1 k key

/-- The state in the header of an object; on a trial, its pending state (R851). -/
def stateOf (s : State) (k : Nat) : ObjSt := ((getObj s k).map (·.state)).getD .idle

/-- Whether an object exists on the trial before the change and is not IDLE. -/
def busyObj (t0 : State) (k : Nat) : Bool := ((getObj t0 k).map fun o => o.state != .idle).getD false

/-- The class an object is judged by: a revoked object's parameters are those of the fixed class (R73). -/
def judgedFixed (s : State) (k : Nat) : Bool := ((getObj s k).map fun o => o.fixed || o.revoked).getD false

/-- Whether a field is stored with an object. -/
def named (s : State) (k key : Nat) : Bool := ((getObj s k).map fun o => Tab.has o.fields key).getD false

/-! ## Fields an object holds -/

/-- Whether an object of type `ty` holds a field (Table 15-11); `out` and `vid` are DIRECTION and MEDIA of a stream. -/
def holdsKey (ty : Nat) (out vid : Bool) (key : Nat) : Bool :=
  match ty with
  | 2 => fTable key == 0x08
  | 3 => fTable key == 0x01 || fTable key == 0x03 || (fTable key == 0x02 && govRowOk 3 (fRow key))
  | 4 =>
    (fTable key == 0x04 && (fRow key != 13 || !out)) || (fTable key == 0x05 && !out && vid) || (fTable key == 0x06 && out && !vid)
      || (fTable key == 0x07 && out) || (fTable key == 0x02 && govRowOk 4 (fRow key) && !out)
  | 5 => fTable key == 0x09
  | 7 => fTable key == 0x0A || (fTable key == 0x02 && govRowOk 7 (fRow key))
  | _ => false

/-- The tables of an object type, in order. -/
def tablesOf (ty : Nat) : List Nat :=
  match ty with
  | 2 => [0x08]
  | 3 => [0x01, 0x02, 0x03]
  | 4 => [0x02, 0x04, 0x05, 0x06, 0x07]
  | 5 => [0x09]
  | 7 => [0x02, 0x0A]
  | _ => []

/-- Every field an object holds, in table and row order. -/
def fieldsHeld (s : State) (k : Nat) : List Nat :=
  ((tablesOf (k / 1048576)).flatMap tableKeys).filter (holdsKey (k / 1048576) (isOut s k) (isVideo s k))

/-! ## Kernels at insertion points (R510, R511, R519) -/

/-- The kernel that a handle names in a partition (R510). -/
def kernelIn (s : State) (p h : Nat) : Option Kernel :=
  if hType h = 0xA then (Tab.get s.dsp.kerns (hIdx h)).bind fun q => if q.gen = hGen h ∧ q.part = p then some q else none else none

/-- The checks of the kernel named at a point of an object: a floating attachment needs a core that takes it. -/
def kernelChecks (s : State) (o point : Nat) (fixed : Bool) : List Check :=
  let h := kernelAt s o point
  let part := ((getObj s o).map (·.part)).getD 0
  if h = 0 then []
  else
    match kernelIn s part h with
    | none => [(false, .badHandle)]
    | some q =>
      [(bitOf q.points point, .outOfRange),
       (match kernelAsks s o point false with
        | .ok (a :: _) => if fixed || !a.cands.isEmpty then (true, .ok) else (false, .noResource)
        | .ok [] => (true, .ok)
        | .error _ => (fixed, .outOfRange))]

/-! ## Streams -/

/-- Whether a stream's partition may use its class on the port of its leg (R686). -/
def classAllowed (s : State) (x : Nat) : Bool :=
  let l := legOfStream s x
  legKind s l ≥ 2 || bitOf (quota s (((getObj s x).map (·.part)).getD 0) 8 0) (8 * legPort s l + streamTc s x)

/-- The audio settings of an outgoing stream under its conference's period (Table 8-3, R417, R419). -/
def audioOk (s : State) (x : Nat) : Bool :=
  let P := mixPeriod s (confOfLeg s (legOfStream s x))
  let c := oprm s x 0
  isVideo s x || !(isOut s x) ||
    ((oprm s x 1 == 1 || c == 0 || c == 4 || c == 5) && (ptime s x % max 1 P == 0) &&
      (c != 0 || oprm s x 5 == 0 || decide (10000000 ≤ P)))

/-- A handle that a stream field names: 0, or a live object of the stream's partition with the type. -/
def linkNamed (s : State) (x row ty : Nat) : Bool :=
  let h := ofldN s x (fk 0x04 row 0)
  h == 0 || (hType h == ty &&
    (match getObj s (liveKey s h) with
     | some o => ((getObj s x).map (·.part)) == some o.part
     | none => false))

/-- The relations between what a stream names (Table 15-14). -/
def linksFit (s : State) (x : Nat) : Bool :=
  let k := streamLink s x
  (k == 0 ||
    (if streamRole s x = 3 then
      legOfStream s k == legOfStream s x && isOut s k == isOut s x && streamRole s k != 3 && k != x
    else !(isOut s k) && isVideo s k == isVideo s x)) &&
    (streamRung s x == 0 || parentKey s (streamRung s x) == streamLayout s x)

/-- Whether a stream's ROLE is one its direction and medium have (Table 15-14). -/
def roleOk (s : State) (x : Nat) : Bool :=
  let r := streamRole s x
  if isOut s x then
    (r != 2 || isVideo s x) && (r != 4 || !(isVideo s x)) && (r != 0 || !(isVideo s x))
  else r == 0 || r == 3

/-- Whether MAX_REFS suits the codec, and the AES67 play-out delay its packet time (Table 5-3, R199). -/
def streamRanges (s : State) (x : Nat) : Bool :=
  let n := dprm s x 6
  let a := ofldN s x (fk 0x04 17 1)
  (n == 0 || (videoCodec s x != 11 || n == 8) && (videoCodec s x != 8 || n == 3)) &&
    decide (250000 ≤ a) && decide (a ≤ 100000000) && decide (ofldN s x (fk 0x04 17 2) * 1000000 ≤ 48 * a)

/-- Limits that the port of a stream's leg sets (Table 11-2). -/
def portLimits (s : State) (x : Nat) : Bool :=
  let p := legPort s (legOfStream s x)
  !(isOut s x) || legKind s (legOfStream s x) ≥ 2 ||
    ((!(named s x (fk 0x07 3 0)) || decide (ofldN s x (fk 0x07 3 0) ≤ portGb s p * 800000000)) &&
      decide (ofldN s x (fk 0x07 5 0) ≤ portM s p))

/-- Whether a critical leg sends without DTX (R472). -/
def dtxOk (s : State) (l : Nat) : Bool := !(isCritical s l) || (audioOuts s l).all fun x => oprm s x 7 == 0

/-- Whether TC suits the class of a stream (R572). -/
def tcOk (s : State) (x : Nat) : Bool :=
  match (getObj s x).bind fun o => Tab.get o.fields (fk 0x07 0 0) with
  | some v => if judgedFixed s x then decide (5 ≤ v) else decide (v ≤ 4)
  | none => true

/-- The checks of a stream. -/
def streamChecks (t0 t : State) (x : Nat) : List Check :=
  let part := ((getObj t x).map (·.part)).getD 0
  let l := legOfStream t x
  let pol := ofld t x (fk 0x04 13 0)
  [(linkNamed t x 7 4 && linkNamed t x 8 5 && linkNamed t x 9 7, .badHandle),
   (roleOk t x && linksFit t x && streamRanges t x && audioOk t x && portLimits t x && dtxOk t l, .outOfRange),
   (pol == noneV || decide (pol < quota t part 5 0), .outOfRange),
   (!(isOut t x) || classAllowed t x, .outOfRange),
   (tcOk t x && (!(isFixed t x) || isFixed t l), .invalidClass),
   (!(busyObj t0 x) || !([1, 2, 3, 6].any fun r => alters t0 t x (fk 0x05 r 0)), .badState),
   (decide ((partObjs t part 4).length ≤ quota t part 2 2), .noResource)]

/-! ## Legs -/

/-- One side of a PORT leg (R553): the PORT handle and its channels. -/
def portSide (s : State) (l r : Nat) : Option (Nat × List Nat) :=
  if named s l (fk 0x01 r 0) then
    (resolvePort (ofldN s l (fk 0x01 r 0))).map fun p =>
      (p, ofldN s l (fk 0x01 r 1) :: (if ofld s l (fk 0x01 r 2) = noneV then [] else [ofldN s l (fk 0x01 r 2)]))
  else none

/-- The checks of a PORT leg (R529, R553). -/
def portLegChecks (s : State) (l : Nat) : List Check :=
  let rx := portSide s l 15
  let tx := portSide s l 16
  let fs := fun (p : Nat) => (getAPort s p).fields
  let ok := fun (r : Nat) (v : Option (Nat × List Nat)) => match v with
    | some (p, cs) => isAudioPort p && !(isAesOut p && r == 15) && !(isAesIn p && r == 16) && cs.all fun c => decide (c < slotsOf p (fs p))
    | none => !(named s l (fk 0x01 r 0))
  let graph := fun (v : Option (Nat × List Nat)) => match v with
    | some (p, _) => fld (fs p) (fk 0x0C 14 0) == 0
    | none => true
  let clash := match tx with
    | some (p, cs) => (objKeys s 3).any fun m => m != l && legKind s m == 2 &&
        (match portSide s m 16 with
         | some (q, ds) => q == p && ds.any cs.contains
         | none => false)
    | none => false
  let pair := match rx, tx with
    | some (p, _), some (q, _) => p == q || (isAesIn p && isAesOut q)
    | _, _ => true
  [(ok 15 rx && ok 16 tx && pair, .outOfRange), (graph rx && graph tx, .badState), (!clash, .conflict)]

/-- The local address of a leg: an entry of its partition and a port in its range (R147). -/
def localOk (s : State) (l : Nat) : Bool :=
  if named s l (fk 0x01 2 0) || named s l (fk 0x01 3 0) then
    match Tab.get s.eth.addrs (ofldN s l (fk 0x01 2 0)) with
    | some a =>
      ((getObj s l).map (·.part)) == some a.part
        && decide (a.lo ≤ ofldN s l (fk 0x01 3 0)) && decide (ofldN s l (fk 0x01 3 0) ≤ a.hi)
    | none => false
  else true

/-- The checks of a leg (R21, R30, R433, R472, R686). -/
def legChecks (t : State) (l : Nat) : List Check :=
  let part := ((getObj t l).map (·.part)).getD 0
  let kind := legKind t l
  let xs := kids t 4 l
  let fn := ofldN t l (fk 0x01 17 0)
  let dev := [4096, 256, 64, 256][kind]?.getD 0
  let all := (objKeys t 3).filter fun m => legKind t m == kind
  kernelChecks t l 0 (isFixed t l) ++ kernelChecks t l 2 (isFixed t l) ++
  (if kind = 2 then portLegChecks t l else []) ++
  [((kind != 0 && kind != 1) || localOk t l, .outOfRange),
   (kind != 3 || !(named t l (fk 0x01 17 0)) || (getFn t fn).part == some part, .outOfRange),
   (govConsistent (((getObj t l).map (·.fields)).getD []), .outOfRange),
   (dtxOk t l && (xs.all fun x => !(isOut t x) || (classAllowed t x && portLimits t x)), .outOfRange),
   (isFixed t l || !(xs.any (isFixed t)), .invalidClass),
   (decide (pinnedIn t (confOfLeg t l) ≤ 8), .noResource),
   (decide (all.length ≤ dev) && decide ((partObjs t part 3).length ≤ quota t part 0 0)
      && (kind == 0 || decide ((partLegs t part kind).length ≤ quota t part 1 (kind - 1))), .noResource)]

/-! ## Conferences -/

/-- The checks of a conference (R407, R417, R419, R433). -/
def confChecks (t0 t : State) (c : Nat) : List Check :=
  let part := ((getObj t c).map (·.part)).getD 0
  let ls := kids t 3 c
  kernelChecks t c 1 (ls.any (isFixed t)) ++
  [(!(busyObj t0 c) || !(alters t0 t c (fk 0x08 0 0)), .badState),
   (ls.all fun l => (kids t 4 l).all (audioOk t), .outOfRange),
   (decide ((partObjs t part 2).length ≤ quota t part 2 0), .noResource)]

/-! ## Layouts, layers and rungs -/

/-- Whether RATE / d is a rate of Table 2-7. -/
def rateDivides (r d : Nat) : Bool :=
  (List.range rateTab.length).any fun q => (rateOf q).1 * d * (rateOf r).2 == (rateOf r).1 * (rateOf q).2

/-- The values of a rung's fields (Table 7-4, R361, R363). -/
def rungOk (s : State) (r : Nat) : Bool :=
  let y := parentKey s r
  let c := rprm s r 0
  let S := spatial (rprm s r 6)
  let w := rungW s r
  let h := rungH s r
  (decide (128 ≤ w) && decide (w ≤ yprm s y 1) && w % (16 * 2 ^ (S - 1)) == 0) &&
    (decide (72 ≤ h) && decide (h ≤ yprm s y 2) && h % (4 * 2 ^ (S - 1)) == 0) &&
    (rprm s r 2 == 8 || c == 2) && rateDivides (layoutRate s y) (rprm s r 5) &&
    decide (rprm s r 9 ≤ rprm s r 10) && decide (rprm s r 13 ≤ rprm s r 14) &&
    (rprm s r 16 == 0 || decide (rprm s r 15 ≤ rprm s r 16)) &&
    (decide (rprm s r 6 ≤ 2) || (c == 2 && decide (rprm s r 6 ≤ 4))) && (if c = 0 then decide (rprm s r 1 ≤ 1) else rprm s r 1 == 2) &&
    decide (cMin c (rungLayers s r) ≤ 8 * rprm s r 11)

/-- The checks of a rung (R20, R361, R363, R364). -/
def rungChecks (t0 t : State) (r : Nat) : List Check :=
  [(rungOk t r, .outOfRange),
   (!(busyObj t0 r) || !((List.range 8).any fun n => alters t0 t r (fk 0x0A n 0)), .badState),
   (decide ((kids t 7 (parentKey t r)).length ≤ 4), .noResource)]

/-- The descriptors of a layout's layers on a trial. -/
def layoutDescs (t : State) (y : Nat) : List (Nat × Nat) := (kids t 6 y).map fun z => (z, (getLayer t z).desc)

/-- Whether the layers of a layout keep to the limits of its class (R303, Table 6-1). -/
def layersWithin (t : State) (y : Nat) : Bool :=
  let ks := (layoutDescs t y).map fun e => dKind e.2
  let m := isMarq t y
  decide ((ks.filter fun v => v == 0).length ≤ if m then 8 else 6) && decide ((ks.filter fun v => v != 0).length ≤ if m then 8 else 2)

/-- The checks of a layout (R35, R312, R325, Table 6-1): what it holds must still fit. -/
def layoutChecks (t0 t : State) (y : Nat) : List Check :=
  let part := ((getObj t y).map (·.part)).getD 0
  let w := yprm t y 1
  let h := yprm t y 2
  let ds := layoutDescs t y
  [((if isMarq t y then decide (w ≤ 3840) && decide (h ≤ 2160) else decide (w ≤ 1920) && decide (h ≤ 1080))
      && (ds.all fun e => descOk t y e.2) && layoutFits t y ds && ((kids t 7 y).all (rungOk t)), .outOfRange),
   (!(busyObj t0 y) || !(alters t0 t y (fk 0x09 0 0)), .badState),
   (layersWithin t y && decide ((partObjs t part 5).length ≤ quota t part 2 1), .noResource)]

/-- Whether the reserved bits of a descriptor are zero (Table 6-5). -/
def descClean (d : Nat) : Bool :=
  bits d 15 14 == 0 && bits d 63 41 == 0 && bits d 335 330 == 0 && bits d 351 346 == 0 && bits d 383 362 == 0 && d / 2 ^ 416 == 0

/-- The checks of a layer (R303, R314, R316, R325). -/
def layerChecks (t : State) (z : Nat) : List Check :=
  let y := parentKey t z
  let d := (getLayer t z).desc
  [(descClean d, .unsupportedField),
   (namesOk t (((getObj t z).map (·.part)).getD 0) d, .badHandle),
   (descOk t y d && layoutFits t y (layoutDescs t y), .outOfRange),
   (decide (((layoutDescs t y).map fun e => dZ e.2).Nodup), .conflict),
   (layersWithin t y, .noResource)]

/-! ## All types -/

/-- The checks of an object's type: `t0` is the trial before the change, `t` with it. -/
def typeChecks (t0 t : State) (k : Nat) : List Check :=
  match k / 1048576 with
  | 2 => confChecks t0 t k
  | 3 => legChecks t k
  | 4 => streamChecks t0 t k
  | 5 => layoutChecks t0 t k
  | 6 => layerChecks t k
  | 7 => rungChecks t0 t k
  | _ => []

/-- The checks on the critical mark (R34): only a fixed object has it, a conference never. -/
def critChecks (t : State) (ks : List Nat) : List Check :=
  [(ks.all fun k => !(isCritical t k) || isFixed t k, .invalidClass)]

end Sys2Proof.Machine
end

