-- ==== Sys2Proof/Machine/Objects.lean ====
section
/-!
DEFINITION. The life-cycle commands of conferences, legs, streams, layouts, layers and rungs (R22 to R44, R743 to R745,
R851): one body for each of CREATE, MODIFY, ACTIVATE, HOLD, DELETE and READ, taken by every type.
-/

namespace Sys2Proof.Machine

open Sys2Proof

/-! ## Shared parts -/

/-- A change is accepted and waits for the object's boundary. -/
def queueAct (k : Nat) (a : PendAct) (due : Nat) (s : State) : State :=
  updObj s k fun o => { o with pend := o.pend ++ [{ act := a, due := due }] }

/-- The objects `ks` are admitted on the trial `t`; what that places is held in `s` beside the old (R39, R40). -/
def admitInto (ks : List Nat) (t s : State) : Except Shut State :=
  if ks.isEmpty then .ok s
  else (admitAll ks t).map fun u => syncResv (keepPlaced (ks.flatMap (touched t)) u s)

/-- Whether an object holds a reservation. -/
def hasResv (s : State) (k : Nat) : Bool := !(bothOf s k).isEmpty

/-- The reservations placed for objects that nothing else waits on take effect at their boundaries, with their bounds. -/
def queueBounds (t : State) (ks : List Nat) (s : State) : State :=
  ks.foldl (fun s k => queueAct k (.bound (boundOf t k)) (dueOf s k) s) s

/-- Table 1-6 of object `k` as admitted: `t` has its parameters, `u` its reservations. -/
def grantBytes (t u : State) (k : Nat) : Bytes :=
  let r := match getObj u k with
    | some o => o.resvNew.head?.or o.resv.head?
    | none => none
  toLe 8 (boundOf t k) ++ toLe 1 0 ++ toLe 2 ((r.map fun r => localInst r.code r.inst).getD 0) ++ toLe 1 0 ++ toLe 4 0

/-- The surfaces of the first activation of object `k`, a decoded stream or a rung, are created on `s`; refused with a
limit code (R264, R265, R365). -/
def allot (k : Nat) (s : State) : Except Nat State :=
  let dec := k / 1048576 == 4 && isDecoded s k && (getDec s k).surfs.isEmpty
  let enc := k / 1048576 == 7 && (getRung s k).surfs.isEmpty
  let p := ((getObj s k).map (·.part)).getD 0
  if !dec && !enc then .ok s
  else if 2048 ≤ contextsUsed s enc none then .error 9
  else if quota s p 3 (b2n enc) ≤ contextsUsed s enc (some p) then .error 0x0A
  else
    match if dec then allotDecoder k s else allotEncoder k s with
    | none => .error 9
    | some t =>
      if quota s p 2 3 < surfsUsed t p then .error 0x0A
      else match fitMem p t with
        | none => .error 0x0A
        | some u => .ok u

/-- `allot` with the header and fields of object `k` as `o` has them. -/
def allotAs (k : Nat) (o : Obj) (s : State) : Except Nat State :=
  match getObj s k with
  | none => .ok s
  | some v => (allot k (updObj s k fun _ => o)).map fun t => updObj t k fun _ => v

/-- The answer when contexts or the partition's memory do not suffice (R265). -/
def noContext (fixed : Bool) (lim : Nat) (s : State) : Ans :=
  if fixed then .no .admissionRefused (shutFree lim s).bytes else .no .noResource []

/-! ## CREATE -/

/-- The most objects of a type (Table 1-1). -/
def typeMax (ty : Nat) : Nat :=
  match ty with
  | 2 => 1024
  | 3 => 4096
  | 4 => 16384
  | 5 => 512
  | 6 => 8192
  | _ => 2048

/-- The type of the parent of an object (Table 15-11). -/
def parentType (ty : Nat) : Nat := if ty = 3 ∨ ty = 5 then 2 else if ty = 4 then 3 else 5

/-- The parent that a CREATE names: partition, and handle (R745). -/
def parentOf (F ty h : Nat) (s : State) : Except Status (Nat × Nat) :=
  if ty = 2 then (partOr s F h).map fun p => (p, partHandle s p)
  else match resolve s F (parentType ty) h with
    | some k => .ok (((getObj s k).map (·.part)).getD 0, h)
    | none => .error .badHandle

/-- PROFILE that goes with CODEC (Table 7-4). -/
def profileOf (codec : Int) : Int := if codec = 0 then 0 else 2

/-- The fields a command writes on a rung: with CODEC, PROFILE (R364). -/
def rungEntries (es : Tab Int) : Tab Int :=
  match Tab.get es (fk 0x0A 0 0) with
  | some c => if Tab.has es (fk 0x0A 1 0) then es else Tab.set es (fk 0x0A 1 0) (profileOf c)
  | none => es

/-- A field of a new rung that was not named takes its default. -/
def setDefault (k : Nat) (v : Int) (fs : Tab Int) : Tab Int := if Tab.has fs k then fs else Tab.set fs k v

/-- The fields of a new object: a rung takes the profile of its codec and the size of its layout (Table 7-4). -/
def newFields (ty y : Nat) (es : Tab Int) (s : State) : Tab Int :=
  if ty = 7 then
    setDefault (fk 0x0A 3 0) (yprm s y 1) (setDefault (fk 0x0A 4 0) (yprm s y 2)
      (setDefault (fk 0x0A 1 0) (profileOf (fld es (fk 0x0A 0 0))) es))
  else es

/-- The state with a new object. -/
def addObject (k gen pt par : Nat) (fixed crit : Bool) (fs : Tab Int) (d : Nat) (s : State) : State :=
  let s1 := { s with obj := { s.obj with
    objs := Tab.set s.obj.objs k { gen := gen, part := pt, parent := par, fixed := fixed, crit := crit, fields := fs, born := s.obj.bornSeq }
    gens := Tab.set s.obj.gens k gen
    bornSeq := s.obj.bornSeq + 1 } }
  if k / 1048576 = 2 then setConf s1 k { mixNext := nextMix s1 (mixPeriod s1 k) }
  else if k / 1048576 = 6 then setLayer s1 k { desc := d }
  else s1

/-- CREATE of type `ty` (R28, R29, R34, R744, R745). -/
def bodyCreate (ty : Nat) : Body := fun F p _ s =>
  let es := if ty = 6 then [] else entries p 8 (le p 6 2)
  let tab := applyEntries [] es
  let d := if ty = 6 then le p 8 64 else 0
  let fl := le p 5 1
  let keys := es.map (·.key)
  let vid := fld tab (fk 0x04 1 0) == 1
  let out := fld tab (fk 0x04 0 0) == 1
  let slot := lowestFree ((objKeys s ty).map fun k => k % 1048576) 0 (typeMax ty)
  let i := slot.getD 0
  let k := okey ty i
  let g := nextGen (Tab.get s.obj.gens k)
  let flags : List Check := [(fl / 2 == 0, .unsupportedField), (ty == 2 || decide (6 ≤ ty) || decide (le p 4 1 ≤ 1), .outOfRange)]
  let common := entryChecks es (holdsKey ty out vid) ++ flags
  match parentOf F ty (le p 0 4) s with
  | .error st => checked (common ++ [(false, st)]) fun _ => .no st []
  | .ok (pt, par) =>
    let t0 := future s
    let fixed := if ty = 2 then false else if 6 ≤ ty then isFixed t0 (hKey par) else le p 4 1 == 1
    let add := addObject k g pt par fixed (bitOf fl 0) (newFields ty (hKey par) tab t0) d
    let t := add t0
    checked (common ++ [(slot.isSome, .noResource), (ty == 2 || stateOf s (hKey par) != .draining, .badState)]
        ++ (if keys.all fun q => (fieldSpec q).isSome then typeChecks t0 t k else []) ++ critChecks t [k]) fun _ =>
      .ok (toLe 4 (mkHandle ty g i) ++ zeros 4) (mkHandle ty g i) (add s)

/-! ## MODIFY -/

/-- Whether a field is used in the admission check of its object (R37). -/
def checkKey (key : Nat) : Bool :=
  match fTable key with
  | 0x01 => fRow key == 1 || fRow key == 15 || fRow key == 16
  | 0x03 => [0, 2, 8, 10, 14, 15].contains (fRow key)
  | 0x04 => [2, 6, 7, 8, 13, 16].contains (fRow key)
  | 0x05 => true
  | 0x06 => true
  | 0x07 => [0, 3, 4, 5].contains (fRow key)
  | 0x08 => [0, 1, 4, 5, 6].contains (fRow key)
  | 0x09 => decide (fRow key ≤ 3)
  | 0x0A => decide (fRow key ≤ 7) || fRow key == 11 || fRow key == 17
  | _ => false

/-- The objects whose reservations a MODIFY of `k` checks again (R37, R39, R432): those it changes that hold one. -/
def recheck (t : State) (k : Nat) (es : Tab Int) : List Nat :=
  if !((Tab.keys es).any checkKey) then []
  else
    (match k / 1048576 with
     | 2 => kids t 3 k
     | 4 => [k] ++ (if isVideo t k then [] else [legOfStream t k])
     | 5 => k :: kids t 7 k
     | _ => [k]).filter fun q => isFixed t q && hasResv t q

/-- A fixed leg whose critical mark `changes` is checked again too (R37, R53, R466): its work moves to a lockstep pair, or
from one. -/
def remark (t : State) (k : Nat) (es : Tab Int) (changes : Bool) : List Nat :=
  if changes && k / 1048576 == 3 && isFixed t k && hasResv t k && !((recheck t k es).contains k) then [k] else []

/-- The pending changes of a MODIFY: an audio field of a leg takes effect at the mix period boundary (R431), everything
else at the object's boundary. -/
def queueModify (k : Nat) (es : Tab Int) (fx cr : Option Bool) (zero : Bool) (s : State) : State :=
  if k / 1048576 = 3 then
    let a := es.filter fun e => fTable e.1 == 0x03
    let b := es.filter fun e => fTable e.1 != 0x03
    let s1 := if a.isEmpty then s else queueAct k (.modify a none none zero) 0 s
    if b.isEmpty && fx.isNone && cr.isNone then s1 else queueAct k (.modify b fx cr zero) (dueOf s k) s1
  else if es.isEmpty && fx.isNone && cr.isNone then s
  else queueAct k (.modify es fx cr zero) 0 s

/-- The layers and rungs of a layout, which take its class (R29). -/
def classKids (s : State) (k : Nat) : List Nat := if k / 1048576 = 5 then kids s 6 k ++ kids s 7 k else []

/-- MODIFY of type `ty` (R24, R34, R35, R37, R39, R40, R744). -/
def bodyModify (ty : Nat) : Body := fun F p _ s =>
  match resolve s F ty (le p 0 4) with
  | none => .no .badHandle []
  | some k =>
    let t0 := future s
    let o := (getObj t0 k).getD {}
    let ents := if ty = 6 then [] else entries p 8 (le p 6 2)
    let es := if ty = 7 then rungEntries (applyEntries [] ents) else applyEntries [] ents
    let cb := le p 4 1
    let fl := le p 5 1
    let classed := decide (3 ≤ ty) && decide (ty ≤ 5)
    let fx := if classed && cb != 0xFF && (cb == 1) != o.fixed then some (cb == 1) else none
    let cr := if bitOf fl 1 then some (bitOf fl 0) else none
    let zero := bitOf fl 2
    let cs := if fx.isSome then classKids s k else []
    let t1 := cs.foldl (fun t q => updObj t q fun o => o.act (.modify [] fx none false))
      (updObj t0 k fun o => o.act (.modify es fx cr zero))
    let t := if ty = 6 then setLayer t1 k { getLayer t1 k with desc := le p 8 64 } else t1
    checked (entryChecks ents (holdsKey ty (isOut s k) (isVideo s k)) ++
        [(fl / 8 == 0, .unsupportedField),
         (ents.all fun e => !(((fieldSpec e.key).map (·.fixed)).getD false), .outOfRange),
         (!classed || cb == 0xFF || decide (cb ≤ 1), .outOfRange),
         (o.state != .draining, .badState),
         (fx.isNone || (o.state == .idle && cs.all fun q => stateOf t0 q == .idle), .badState),
         (ty != 2 || cr != some true, .invalidClass),
         (!o.revoked || cr != some true || fx.isSome, .invalidClass)]
        ++ (if ents.all fun e => (fieldSpec e.key).isSome then typeChecks t0 t k else []) ++ critChecks t (k :: cs)) fun _ =>
      let fixed := isFixed t k
      match (if o.state = .active then allotAs k ((getObj t k).getD o) s else .ok s) with
      | .error lim => noContext fixed lim s
      | .ok s1 =>
        let ks := recheck t k es ++ remark t k es (cr.isSome && cr != some o.crit)
        match admitInto ks t s1 with
        | .error e => .no .admissionRefused e.bytes
        | .ok s2 =>
          let s3 := queueModify k es fx cr zero s2
          let s4 := cs.foldl (fun s q => queueAct q (.modify [] fx none false) 0 s) s3
          let s5 := if ty = 6 then queueAct k (.desc (le p 8 64)) 0 s4 else s4
          let s6 := queueBounds t ks s5
          .ok (if fixed && hasResv s2 k then grantBytes t s2 k else zeros 16) 0 s6

/-! ## ACTIVATE -/

/-- Whether an ACTIVATE returns a revoked object to the fixed class (R24): `o` is the object as it will be. -/
def returns (o : Obj) : Bool := o.revoked && (o.state == .active || o.state == .held)

/-- The objects that return with `k` (R24, R73): a leg's revoked streams; a layout's layers and rungs. -/
def returnSet (t : State) (k : Nat) : List Nat :=
  match k / 1048576 with
  | 3 => k :: (kids t 4 k).filter fun x => ((getObj t x).map (·.revoked)).getD false
  | 5 => k :: (kids t 6 k ++ kids t 7 k)
  | 6 => parentKey t k :: (kids t 6 (parentKey t k) ++ kids t 7 (parentKey t k))
  | 7 => parentKey t k :: (kids t 6 (parentKey t k) ++ kids t 7 (parentKey t k))
  | _ => [k]

/-- The part of a ring of a HOST leg that lies in no window with the access it needs: address, length, access (R720). -/
def ringOutside (s : State) (l : Nat) : Option (Nat × Nat × Nat) :=
  let f := getFn s (ofldN s l (fk 0x01 17 0))
  let a := fun (e : Nat) => ofldN s l (fk 0x01 18 e)
  let n := a 3 * a 4 * packBytes (a 5)
  if legKind s l ≠ 3 then none
  else [(a 0, n, 0), (a 1, n, 1), (a 2, 24, 0), (a 2, 24, 1)].find? fun w => !(inWindow f w.1 w.2.1 (w.2.2 == 1))

/-- An object whose class was restored, on a trial. -/
def restored (ks : List Nat) (t : State) : State :=
  ks.foldl (fun t k => updObj t k fun o => { o with fixed := true, revoked := false, crit := o.crit || o.kept }) t

/-- The objects of a return set that admission checks: those that are, or will be, ACTIVE or HELD. -/
def admitted (t : State) (ks : List Nat) : List Nat :=
  ks.filter fun k => stateOf t k == .active || stateOf t k == .held

/-- ACTIVATE of type `ty` (R23, R24, R37 to R44, R264, R265, R365, R720). -/
def bodyActivate (ty : Nat) : Body := fun F p _ s =>
  match resolve s F ty (le p 0 4) with
  | none => .no .badHandle []
  | some k =>
    let t0 := future s
    let o := (getObj t0 k).getD {}
    let ret := returns o
    let allowed := o.state == .idle || o.state == .held || o.state == .faulted || ret
    let ssrc := ty != 4 || !(isOut t0 k) || ofld t0 k (fk 0x04 3 0) != noneV
    checked [(allowed && ssrc, .badState), (!ret || ty != 4 || isFixed t0 (legOfStream t0 k), .invalidClass)] fun _ =>
      match if ty = 3 then ringOutside t0 k else none with
      | some (a, n, c) => .dma a n c
      | none =>
        let fixed := o.fixed || ret
        match allotAs k { o with fixed := fixed } s with
        | .error lim => noContext fixed lim s
        | .ok s1 =>
          let set_ := if ret then returnSet t0 k else [k]
          let t := if ret then restored set_ (future s1) else future s1
          let leg := if ty = 4 && !(isVideo t k) && hasResv t (legOfStream t k) && isFixed t (legOfStream t k) then [legOfStream t k] else []
          let ks := (if ret then admitted t set_ else if o.fixed && o.state != .held then [k] else []) ++ leg
          match admitInto ks t s1 with
          | .error e => .no .admissionRefused e.bytes
          | .ok s2 =>
            let due := dueOf s k
            let s3 := if ret then set_.foldl (fun s q => queueAct q (.bound (boundOf t q)) due (queueAct q .refix due s)) s2 else s2
            let s4 := if ret && o.state == .active then s3 else queueAct k (.state .active) due s3
            let s5 := if o.fixed && o.state != .held then queueAct k (.bound (boundOf t k)) due s4 else s4
            .ok (if fixed then grantBytes t s2 k else zeros 16) 0 (queueBounds t leg s5)

/-! ## HOLD, DELETE -/

/-- HOLD of type `ty` (R23). -/
def bodyHold (ty : Nat) : Body := fun F p _ s =>
  match resolve s F ty (le p 0 4) with
  | none => .no .badHandle []
  | some k =>
    checked [(willActive s k, .badState)] fun _ => .ok [] 0 (queueAct k (.state .held) (dueOf s k) s)

/-- The children of an object that are not FREE (R26). -/
def children (s : State) (k : Nat) : List Nat :=
  match k / 1048576 with
  | 2 => kids s 3 k ++ kids s 5 k
  | 3 => kids s 4 k
  | 5 => kids s 6 k ++ kids s 7 k
  | _ => []

/-- An object becomes DRAINING: what waited for it is dropped, with the reservation placed for it (R851). -/
def drain (k : Nat) (s : State) : State :=
  match getObj s k with
  | none => s
  | some o =>
    let s1 := updObj s k fun o => { o with state := .draining, pend := [{ act := .free, due := dueOf s k }], resvNew := [] }
    if o.resvNew.isEmpty then s1
    else syncResv (if k / 1048576 = 3 then resettle (parentKey s k) s1
      else if k / 1048576 = 7 then syncRungs (parentKey s k) s1 else s1)

/-- DELETE of type `ty` (R23, R26, R851). -/
def bodyDelete (ty : Nat) : Body := fun F p _ s =>
  match resolve s F ty (le p 0 4) with
  | none => .no .badHandle []
  | some k =>
    checked [(stateOf s k != .draining, .badState), ((children s k).isEmpty, .notEmpty)] fun _ => .ok [] 0 (drain k s)

/-! ## READ -/

/-- The code of a state (Table 1-3). -/
def ObjSt.code : ObjSt → Nat
  | .idle => 1
  | .active => 2
  | .held => 3
  | .draining => 4
  | .faulted => 5

/-- The header of a READ (Table 15-13). -/
def headerBytes (k : Nat) (o : Obj) : Bytes :=
  toLe 4 (objHandle k o) ++ toLe 1 o.state.code ++ toLe 1 (b2n o.fixed) ++ toLe 1 (b2n o.crit + 2 * b2n o.revoked) ++ zeros 1
    ++ toLe 8 (if o.fixed then o.bound else 0) ++ toLe 8 o.migr ++ toLe 8 o.miss

/-- The value of a field as READ reports it: defaults that depend on the object are filled in. -/
def shownField (s : State) (k key : Nat) : Int :=
  let miss := !(named s k key)
  if key = fk 0x07 0 0 ∧ miss then (if judgedFixed s k then 6 else 2)
  else if key = fk 0x06 2 0 then ptime s k
  else if key = fk 0x05 6 0 then maxRefs s k
  else if key = fk 0x03 13 0 ∧ ofld s k key = 0 then handleOf s k
  else ofld s k key

/-- The status record of an object (R744): Table 7-11 for a rung, the descriptor for a layer. -/
def statusBytes (s : State) (k : Nat) : Bytes :=
  match k / 1048576 with
  | 6 => toLe 64 (getLayer s k).desc
  | 7 => rungStatus s k
  | _ => []

/-- READ of type `ty` (R744). -/
def bodyRead (ty : Nat) : Body := fun F p _ s =>
  match (resolve s F ty (le p 0 4)).bind fun k => (getObj s k).map fun o => (k, o) with
  | none => .no .badHandle []
  | some (k, o) =>
    let fs := fieldsHeld s k
    .ok (headerBytes k o ++ statusBytes s k ++ toLe 2 fs.length ++ zeros 6 ++ fs.flatMap fun q => entryBytes q (shownField s k q)) 0 s

/-! ## The commands -/

/-- CONFERENCE_CREATE. -/
def execConferenceCreate (src : Src) (s : State) : Out := serve 0x0400 src [] (bodyCreate 2) s
/-- CONFERENCE_MODIFY. -/
def execConferenceModify (src : Src) (s : State) : Out := serve 0x0401 src [] (bodyModify 2) s
/-- CONFERENCE_ACTIVATE. -/
def execConferenceActivate (src : Src) (s : State) : Out := serve 0x0402 src [] (bodyActivate 2) s
/-- CONFERENCE_HOLD. -/
def execConferenceHold (src : Src) (s : State) : Out := serve 0x0403 src [] (bodyHold 2) s
/-- CONFERENCE_DELETE. -/
def execConferenceDelete (src : Src) (s : State) : Out := serve 0x0404 src [] (bodyDelete 2) s
/-- CONFERENCE_READ. -/
def execConferenceRead (src : Src) (s : State) : Out := serve 0x0405 src [] (bodyRead 2) s
/-- LEG_CREATE. -/
def execLegCreate (src : Src) (s : State) : Out := serve 0x0500 src [] (bodyCreate 3) s
/-- LEG_MODIFY. -/
def execLegModify (src : Src) (s : State) : Out := serve 0x0501 src [] (bodyModify 3) s
/-- LEG_ACTIVATE. -/
def execLegActivate (src : Src) (s : State) : Out := serve 0x0502 src [] (bodyActivate 3) s
/-- LEG_HOLD. -/
def execLegHold (src : Src) (s : State) : Out := serve 0x0503 src [] (bodyHold 3) s
/-- LEG_DELETE. -/
def execLegDelete (src : Src) (s : State) : Out := serve 0x0504 src [] (bodyDelete 3) s
/-- LEG_READ. -/
def execLegRead (src : Src) (s : State) : Out := serve 0x0505 src [] (bodyRead 3) s
/-- STREAM_CREATE. -/
def execStreamCreate (src : Src) (s : State) : Out := serve 0x0600 src [] (bodyCreate 4) s
/-- STREAM_MODIFY. -/
def execStreamModify (src : Src) (s : State) : Out := serve 0x0601 src [] (bodyModify 4) s
/-- STREAM_ACTIVATE. -/
def execStreamActivate (src : Src) (s : State) : Out := serve 0x0602 src [] (bodyActivate 4) s
/-- STREAM_HOLD. -/
def execStreamHold (src : Src) (s : State) : Out := serve 0x0603 src [] (bodyHold 4) s
/-- STREAM_DELETE. -/
def execStreamDelete (src : Src) (s : State) : Out := serve 0x0604 src [] (bodyDelete 4) s
/-- STREAM_READ. -/
def execStreamRead (src : Src) (s : State) : Out := serve 0x0605 src [] (bodyRead 4) s
/-- LAYOUT_CREATE. -/
def execLayoutCreate (src : Src) (s : State) : Out := serve 0x0700 src [] (bodyCreate 5) s
/-- LAYOUT_MODIFY. -/
def execLayoutModify (src : Src) (s : State) : Out := serve 0x0701 src [] (bodyModify 5) s
/-- LAYOUT_ACTIVATE. -/
def execLayoutActivate (src : Src) (s : State) : Out := serve 0x0702 src [] (bodyActivate 5) s
/-- LAYOUT_HOLD. -/
def execLayoutHold (src : Src) (s : State) : Out := serve 0x0703 src [] (bodyHold 5) s
/-- LAYOUT_DELETE. -/
def execLayoutDelete (src : Src) (s : State) : Out := serve 0x0704 src [] (bodyDelete 5) s
/-- LAYOUT_READ. -/
def execLayoutRead (src : Src) (s : State) : Out := serve 0x0705 src [] (bodyRead 5) s
/-- LAYER_CREATE. -/
def execLayerCreate (src : Src) (s : State) : Out := serve 0x0800 src [] (bodyCreate 6) s
/-- LAYER_MODIFY. -/
def execLayerModify (src : Src) (s : State) : Out := serve 0x0801 src [] (bodyModify 6) s
/-- LAYER_ACTIVATE. -/
def execLayerActivate (src : Src) (s : State) : Out := serve 0x0802 src [] (bodyActivate 6) s
/-- LAYER_HOLD. -/
def execLayerHold (src : Src) (s : State) : Out := serve 0x0803 src [] (bodyHold 6) s
/-- LAYER_DELETE. -/
def execLayerDelete (src : Src) (s : State) : Out := serve 0x0804 src [] (bodyDelete 6) s
/-- LAYER_READ. -/
def execLayerRead (src : Src) (s : State) : Out := serve 0x0805 src [] (bodyRead 6) s
/-- RUNG_CREATE. -/
def execRungCreate (src : Src) (s : State) : Out := serve 0x0900 src [] (bodyCreate 7) s
/-- RUNG_MODIFY. -/
def execRungModify (src : Src) (s : State) : Out := serve 0x0901 src [] (bodyModify 7) s
/-- RUNG_ACTIVATE. -/
def execRungActivate (src : Src) (s : State) : Out := serve 0x0902 src [] (bodyActivate 7) s
/-- RUNG_HOLD. -/
def execRungHold (src : Src) (s : State) : Out := serve 0x0903 src [] (bodyHold 7) s
/-- RUNG_DELETE. -/
def execRungDelete (src : Src) (s : State) : Out := serve 0x0904 src [] (bodyDelete 7) s
/-- RUNG_READ. -/
def execRungRead (src : Src) (s : State) : Out := serve 0x0905 src [] (bodyRead 7) s

end Sys2Proof.Machine
end

