-- ==== Sys2Proof/Machine/Instants.lean ====
section
/-!
DEFINITION. What the sequencer issues (R101 to R104, R131 to R134): the stroke boundary with its actions, the mix period
boundary of a conference, which releases its blocks (R169 to R176, R205, R409, R722), and the frame instants (R336 to R342).
-/

namespace Sys2Proof.Machine

open Sys2Proof

/-! ## The schedule (R131, R134) -/

/-- The entries that the grids in use need: stroke actions, conferences by period, layouts by rate, gate lists, the display. -/
def scheduleOf (s : State) : List SchedEntry :=
  [{ grid := 0, rate := strokeNs, queue := 0 }]
    ++ ((objKeys s 2).filter (isActive s)).map (fun c => { grid := 1, rate := mixPeriod s c, queue := handleOf s c })
    ++ ((objKeys s 5).filter (isActive s)).map (fun y => { grid := 2, rate := layoutRate s y, queue := handleOf s y })
    ++ ((List.range 8).filterMap fun p => (getPort s p).gates.map fun g => { grid := 3, rate := g.cycle, queue := portHandle p })
    ++ (if dispLayout s = 0 then [] else [{ grid := 4, rate := layoutRate s (dispLayout s), queue := portHandle 20 }])

/-- A requested commit takes effect at the stroke boundary; firmware, while it runs, then brings the shadow bank in line with
the grids in use and requests the next (R134). -/
def commitSchedule (s : State) : State :=
  let t := s.time
  let s1 := setTime s { t with sched := if t.commit then t.shadow else t.sched, commit := false }
  if t.alone then s1
  else
    let want := scheduleOf s1
    setTime s1 { s1.time with shadow := want, commit := want != s1.time.sched }

/-! ## Frame instants (R104, R336 to R342) -/

/-- The layouts whose rate is row `r`. -/
def layoutsAt (s : State) (r : Nat) : List Nat := (objKeys s 5).filter fun y => layoutRate s y == r

/-- A layout composes at an instant; the composition of the previous one, when it never started, is skipped with its rungs'
pictures (R342, R369), and a fixed one has missed its bound (R74). -/
def composeAt (k x : Nat) (s : State) (y : Nat) : State :=
  match (getLayout s y).due with
  | none => instantLayout y k x s
  | some j => instantLayout y k x (skipRungs y j.k (promiseMiss y s))

/-- FRAME_INSTANT (R104): the next instant of rate row `r` (Table 2-7) is issued: readiness checks not yet made, changes that
wait for it, compositions, and the moves of codec contexts that are due. -/
def execFrameInstant (r : Nat) (s : State) : Out :=
  onPart (decide (r < 13)) s fun s =>
    let kx := (s.time.frames[r]?).getD (0, 0)
    guarded (!s.time.stopped && decide (kx.2 ≤ phcNs s.time)) s fun s =>
      let s1 := setTime s { s.time with frames := setAt s.time.frames r (kx.1 + 1, frameAt r (kx.1 + 1)) }
      let ys := layoutsAt s1 r
      let s2 := (ys.filter fun y => willActive s1 y && (getLayout s1 y).checked != some kx.1).foldl
        (fun s y => readiness y kx.1 kx.2 s) s1
      let s3 := instantChanges r kx.2 s2
      let s4 := (ys.filter fun y => layoutRate s3 y == r && isActive s3 y).foldl (composeAt kx.1 kx.2) s3
      if s4.time.alone then s4 else rehome r s4

/-! ## Mix period boundaries (R103, R409) -/

/-- A change of PLANE_PHASE reaches an instance of a leg (R561): that of a leg that was not ACTIVE takes it at once, one that
runs its preset ramps to 0 first. -/
def planePhase (l side : Nat) (was : Bool) (s : State) : State :=
  let p := getPlane s l side
  let v := (lprm s l 12).toNat
  if p.custom || p.phase == v || p.swap then s
  else if !was then setPlane s l side { p with phase := v }
  else if p.st = 0 ∨ p.st = 3 then setPlane s l side { p with st := 1, ramp := 2000000, swap := true }
  else s

/-- The core of floating audio work: it leaves a core that is out of service or assigned to kernels, for the lowest that is
not (R66, R67, R766). -/
def homeCore (gauge : Bool) (cur : Nat) (s : State) : Nat :=
  let ok := if gauge then (gaugeCores s false).filter (inService s 3) else (jigCores s false).filter (inService s 2)
  if ok.contains cur then cur else ok.headD cur

/-- Counts a migration of a floating object (R69). -/
def countMove (k : Nat) (s : State) : State :=
  updObj s k fun o => if o.fixed then o else { o with migr := (o.migr + 1) % 2 ^ 64, migAt := some s.time.ticks }

/-- The floating audio work of conference `c` moves off cores that serve it no longer. -/
def rehomeAudio (c : Nat) (s : State) : State :=
  let g := getGraph s c
  let a := homeCore false g.core s
  let b := homeCore true g.gauge s
  let s1 := if a = g.core ∧ b = g.gauge then s else countMove c (setGraph s c { g with core := a, gauge := b })
  ((kids s1 3 c).filter fun l => !(isFixed s1 l)).foldl (fun s l =>
    let d := getAud s l
    let n := homeCore false d.core s
    if n = d.core then s else countMove l (setAud s l { d with core := n })) s1

/-- The clips of a target at the boundary with media time `mt` (R458, R459): new ones begin, stopped ones end. -/
def clipBounds (k mt : Nat) (s : State) : State :=
  let ends := (clipsOf s k).filter fun c => c.stop && c.until_.isNone
  let cs := (clipsOf s k).filter fun c => match c.until_ with
    | some u => decide (mt ≤ u)
    | none => true
  let s1 := setClips s k (cs.map fun c => { c with
    from_ := some (c.from_.getD mt), until_ := if c.stop then some (c.until_.getD mt) else none })
  ends.foldl (fun s c => clipDone k c.surf 1 s) s1

/-- The block that the jitter buffer, the AES67 clock or the trunk releases for stream `x` at the boundary with media time
`mt` (R127 to R129, R169 to R176, R199, R205); `hide` conceals it (R116). -/
def releaseIn (x mt : Nat) (quiet hide : Bool) (s : State) : Rel × State :=
  let trunk := legKind s (legOfStream s x) == 1
  let lin := trunk || isAes67 s x
  let r := if trunk then trunkRelease x mt s else if isAes67 s x then aesRelease x mt s else jbRelease x mt quiet s
  ({ clock := if lin then 48000 else jbClock s x, a := r.1.a, b := r.1.b, pkts := if hide then none else r.1.pkts }, r.2)

/-- The front job of input `k` is due for the block with media time `mt`. -/
def startIn (k mt : Nat) (r : Option Rel) (h : Option (List Int)) (s : State) : State :=
  setIn s k { getIn s k with st := 1, t := mt, rel := r, host := h }

/-- The block of an ENDPOINT leg: every ACTIVE received audio stream releases, the first enters the graph. -/
def netBlock (l mt : Nat) (hide : Bool) (s : State) : State :=
  let quiet := !((getIn s l).vad)
  let r := (liveIns s l).foldl (fun (a : Option Rel × State) x =>
    let b := releaseIn x mt quiet hide a.2
    (some (a.1.getD b.1), b.2)) (none, s)
  startIn l mt r.1 none r.2

/-- The blocks of a trunk leg. -/
def trunkBlocks (l mt : Nat) (hide : Bool) (s : State) : State :=
  (liveIns s l).foldl (fun s x =>
    let b := releaseIn x mt false hide s
    startIn x mt (some b.1) none b.2) s

/-- HOST_IN_BLOCK_TAKE (R722): the next block of the IN ring; `data` holds the ring's bytes from the consumer index on. -/
def hostBlock (l P mt : Nat) (data : Bytes) (hide : Bool) (s : State) : State :=
  let d := getLeg s l
  let F := ofldN s l (fk 0x01 17 0)
  let e := fun n => ofldN s l (fk 0x01 18 n)
  let n := 48 * P / 1000000
  let w := packBytes (e 5)
  let ahead := wrap 32 ((d.hostInOld : Int) - d.hostIn.2)
  let have_ := if ahead ≤ e 3 then min ahead n else 0
  let ok := inWindow (getFn s F) (e 0) (e 3 * e 4 * w) false
  let got := if ok then have_ else 0
  let v := (List.range (got * e 4)).map fun i => unpackSample (e 5) ((data.drop (i * w)).take w)
  let cons := (d.hostIn.2 + n) % 2 ^ 32
  let s1 := setLeg s l { d with hostIn := (d.hostIn.1, cons) }
  let s2 := updFn s1 F fun f => { f with lastWr := some (e 2 + 4, toLe 4 cons) }
  let s3 := if got < n then bumpObj s2 l .hostInUnderrun (n - got) else s2
  let s4 := if ok || have_ = 0 then s3 else dmaFaulted F (e 0) (have_ * e 4 * w) 0 s3
  startIn l mt none (some (if hide then [] else v)) s4

/-- The inputs of leg `l` for the block of the boundary with media time `mt`. -/
def legBlock (c mt : Nat) (ins : List (Nat × Bytes)) (hide : Bool) (s : State) (l : Nat) : State :=
  match legKind s l with
  | 0 => netBlock l mt hide s
  | 1 => trunkBlocks l mt hide s
  | 2 => startIn l mt none none s
  | _ => hostBlock l (mixPeriod s c) mt (Tab.getD ins (l % 1048576) []) hide s

/-- Back jobs whose kernel instance is gone end without it. -/
def rescueBacks (c : Nat) (s : State) : State :=
  ((getGraph s c).backs.filter fun j => j.z.isSome && (getInst s (ikey (j.legs.headD 0) 2)).isNone).foldl
    (fun s j => backEnd c j j.sig (j.z.getD {}) s) s

/-- The kernel instances of conference `c` and its ENDPOINT legs follow what their objects name (R510, R522). -/
def mixKernels (c : Nat) (ls : List Nat) (s : State) : State :=
  let at_ := fun (s : State) (o p : Nat) => syncInst o p (resumeInst (ikey o p) s)
  (ls.filter fun l => legKind s l == 0).foldl (fun s l => at_ (at_ s l 0) l 2) (at_ s c 1)

/-- A block that was not mixed by the next boundary: every leg's period is skipped, and a fixed one has missed its bound. -/
def abandonBlock (c : Nat) (ls : List Nat) (s : State) : State :=
  let ph := (getGraph s c).phase
  if ph = 0 ∨ ph = 4 then s else ls.foldl (fun s l => skipPeriod l (mixPeriod s c) (promiseMiss l s)) s

/-- The block of boundary `t` (media time `mt`) of conference `c` begins. -/
def beginBlock (c t mt : Nat) (ins : List (Nat × Bytes)) (s : State) : State :=
  let ls := (kids s 3 c).filter (isActive s)
  let s1 := rescueBacks c (mixKernels c ls (abandonBlock c ls s))
  let hide := (getConf s1 c).conceal
  let d := getConf s1 c
  let s2 := setConf s1 c { d with conceal := false, aud := { d.aud with phase := 1, t := t, mt := mt } }
  (c :: ls).foldl (fun s k => clipBounds k mt s) (ls.foldl (legBlock c mt ins hide) s2)

/-- MIX_PERIOD_BOUNDARY (R103, R409): the next boundary of conference `c` is issued; `ins` holds, by HOST leg index, what its IN
ring holds from its consumer index on. -/
def execMixPeriodBoundary (c : Nat) (ins : List (Nat × Bytes)) (s : State) : Out :=
  onPart (decide (c < 1024)) s fun s =>
    let c := okey 2 c
    let t := (getConf s c).mixNext
    let P := mixPeriod s c
    guarded ((getObj s c).isSome && !s.time.stopped && decide (0 < P) && decide (t ≤ phcNs s.time)) s fun s =>
      let mt := wrap 64 ((t : Int) - s.time.eOff)
      let was := (kids s 3 c).filter (isActive s)
      let s1 := mixChanges c t (setConf s c { getConf s c with mixNext := boundaryAfter s.time P t })
      let s2 := (kids s1 3 c).foldl (fun s l => planePhase l 1 (was.contains l) (planePhase l 0 (was.contains l) s)) s1
      let s3 := if s2.time.alone then s2 else rehomeAudio c s2
      if isActive s3 c then beginBlock c t mt ins s3
      else setGraph s3 c { getGraph s3 c with phase := 0 }

/-! ## Stroke boundaries (R101, Table 2-6) -/

/-- The host's index words of a HOST leg as read at a stroke boundary (R721). A word is taken when no more than the ring's
size then lies between the two indices of its ring; an IN producer may lag behind after an underrun. -/
def takeLegIdx (l : Nat) (v : HostIdx) (s : State) : State :=
  let d := getLeg s l
  let size := ofldN s l (fk 0x01 18 3)
  let slots := ofldN s l (fk 0x01 19 1)
  let okIn := decide ((signed 32 (wrap 32 ((v.inP : Int) - d.hostIn.2))).natAbs ≤ size)
  let okOut := decide (wrap 32 ((d.hostOut.1 : Int) - v.outC) ≤ size)
  let okPkt := decide (wrap 32 ((d.hostPkt.1 : Int) - v.pktC) ≤ slots)
  let bad := b2n (!okIn) + b2n (!okOut) + b2n (!okPkt)
  let s1 := setLeg s l { d with
    hostInOld := d.hostIn.1
    hostIn := (if okIn then v.inP % 2 ^ 32 else d.hostIn.1, d.hostIn.2)
    hostOut := (d.hostOut.1, if okOut then v.outC % 2 ^ 32 else d.hostOut.2)
    hostPkt := (d.hostPkt.1, if okPkt then v.pktC % 2 ^ 32 else d.hostPkt.2) }
  if bad = 0 then s1 else bumpObj s1 l .hostIndexErr bad

/-- The host's index words of a HOST-mode audio port as read at a stroke boundary (R538). -/
def takePortIdx (p : Nat) (v : HostIdx) (s : State) : State :=
  let a := getAPort s p
  let size := aprm s p 15
  let prod := a.txCons + wrap 32 ((v.inP : Int) - a.txCons)
  let lag := wrap 32 ((a.rxProd : Int) - v.outC)
  let okIn := decide (prod ≤ a.txCons + size)
  let okOut := decide (lag ≤ size) && decide (lag ≤ a.rxProd)
  let bad := b2n (!okIn) + b2n (!okOut)
  setAPort s p { a with
    txProd := if okIn then prod else a.txProd
    rxCons := if okOut then a.rxProd - lag else a.rxCons
    ctrs := if bad = 0 then a.ctrs else bump a.ctrs .portIndexErr bad }

/-- HOST_INDEX_POLL (R538, R721): the words of the ACTIVE HOST legs and of the HOST-mode audio ports. A leg whose words the
list does not hold reads what it last took. -/
def hostPoll (idx : List HostIdx) (s : State) : State :=
  let ls := (objKeys s 3).filter fun l => legKind s l == 3 && isActive s l
  let ps := (Tab.keys s.aud.ports).filter fun p => (getAPort s p).st != 0 && aprm s p 14 == 1
  let s1 := ls.foldl (fun s l =>
    match idx.find? fun v => v.key == l with
    | some v => takeLegIdx l v s
    | none => setLeg s l { getLeg s l with hostInOld := (getLeg s l).hostIn.1 }) s
  ps.foldl (fun s p =>
    match idx.find? fun v => v.key == p with
    | some v => takePortIdx p v s
    | none => s) s1

/-- The objects with a reservation on an instance whose total exceeds its ceiling (R792). -/
def overCeiling (s : State) : List Nat :=
  (s.obj.objs.filter fun e => e.2.both.any fun r => decide (r.code ≤ 6) && decide (ceiling s r.code < held s r.code r.inst [])).map (·.1)

/-- The rebuild of the reserved totals that an audit asked for (R792): the totals are those of the accepted objects, and the
objects of an instance that they overload are admitted again. -/
def rebuildTotals (s : State) : State :=
  if s.dep.rebuild && !s.time.alone then
    let s1 := setDep s { s.dep with rebuild := false }
    let hit := overCeiling s1
    let ls := (hit.filter fun k => k / 1048576 == 2).flatMap fun c => (kids s1 3 c).filter fun l => !(bothOf s1 l).isEmpty
    if hit.isEmpty then syncResv s1 else readmit (hit ++ ls.filter fun l => !(hit.contains l)) s1
  else s

/-- The clock steps that wait are applied, and the margin plan is stored (R781, R786). -/
def strokeClocks (s : State) : State :=
  if s.dep.kNext.isEmpty then s else storeCopy 5 0x40000 (applyClockSteps s)

/-- STROKE_BOUNDARY (R101, R133): the next stroke boundary is issued; `idx` is what host memory holds of the index words. -/
def execStrokeBoundary (idx : List HostIdx) (s : State) : Out :=
  live s fun s => guarded (!s.time.stopped && decide (s.time.strokeNext ≤ phcNs s.time)) s fun s =>
    let b := s.time.strokeNext
    let mt := wrap 64 ((b : Int) - s.time.eOff)
    let s1 := evaluateDue s
    let s2 := setTime s1 { s1.time with
      strokes := (s1.time.strokes + 1) % 2 ^ 64, strokeNext := boundaryAfter s1.time strokeNs b }
    let s3 := strokeClocks (applyDeferred (commitSchedule s2))
    let s4 := governorUpdate mt (hostPoll idx s3)
    let s5 := sampleQueues (memSnapshot s4)
    rebuildTotals { s5 with batten := { s5.batten with snap := battenTerms s5 } }

end Sys2Proof.Machine
end

