-- ==== Sys2Proof/Machine/Readout.lean ====
section
/-!
DEFINITION. The conservation audit (R791, R792, Table 16-10), STATS_READ with the counters of every scope (R748), and the
execution of command ring entries (R699 to R706).
-/

namespace Sys2Proof.Machine

open Sys2Proof

/-! ## The audit books (Table 16-10) -/

/-- A failing instance of an equation: index and left side minus right side. -/
def eqFail (i : Nat) (l r : Int) : Option (Nat × Int) := if l = r then none else some (i, l - r)

/-- A failing instance of a bound. -/
def leFail (i : Nat) (l r : Int) : Option (Nat × Int) := if l ≤ r then none else some (i, l - r)

/-- BATTEN_QUEUE: PUSHED = POPPED + DEPTH + DROPPED of each queue, in items, then in bytes. -/
def queueFails (s : State) : List (Nat × Int) :=
  s.batten.queues.filterMap fun e =>
    let c := fun (n : Ctr) => (ctr e.2.ctrs n : Int)
    (eqFail e.1 (c .pushedItems) (c .poppedItems + e.2.items.length + c .droppedItems)).or
      (eqFail e.1 (c .pushedBytes) (c .poppedBytes + qDepth e.2 + c .qDroppedBytes))

/-- BATTEN_RESERVED: the reserved cells are those of the fixed queues and at most 78,643. -/
def reservedFails (s : State) : List (Nat × Int) := (leFail 0 (resvCells s.batten) 78643).toList

/-- BATTEN_PARTITION: the pages of a partition's queues are within its memory quota for spill. -/
def pageFails (s : State) : List (Nat × Int) :=
  s.obj.parts.filterMap fun e => leFail e.1 (partPages s e.1) ((quota s e.1 6 0 / 4096 : Nat))

/-- RING_CREDITS: free + posted + in service = SIZE of each ring, keyed function * 64 + ring. -/
def ringFails (s : State) : List (Nat × Int) :=
  s.host.fns.flatMap fun f => f.2.rings.filterMap fun r =>
    leFail (64 * f.1 + r.1) (wrap 32 ((r.2.tail : Int) - r.2.head)) r.2.size

/-- PARTITION_LEGS: legs of each kind within their quota, keyed partition * 4 + kind; then the sum over partitions. -/
def legFails (s : State) : List (Nat × Int) :=
  (s.obj.parts.flatMap fun e => (List.range 4).filterMap fun k =>
    leFail (4 * e.1 + k) (partLegs s e.1 k).length (if k = 0 then quota s e.1 0 0 else quota s e.1 1 (k - 1)))
    ++ (eqFail 1024 ((s.obj.parts.map fun e => (partObjs s e.1 3).length).sum : Nat) (objKeys s 3).length).toList

/-- The instances of the fixed resources: engines, Jig and Gauge cores, compositors, DRAM, Ethernet ports. -/
def fixedInstances (s : State) : List (Nat × Nat) :=
  (List.range 16).map (1, ·) ++ (List.range 176).map (2, ·) ++ (List.range 16).map (3, ·) ++ (List.range 36).map (4, ·)
    ++ [(5, 0)] ++ (List.range (nPorts s)).map (6, ·)

/-- FIXED_RESERVATIONS: the total of each instance is within its ceiling; keyed code * 1,024 + instance. -/
def resvFails (s : State) : List (Nat × Int) :=
  (fixedInstances s).filterMap fun c => leFail (1024 * c.1 + c.2) (held s c.1 c.2 []) (ceiling s c.1)

/-- QUOTA_TOTALS: what the partitions hold of each quota is within the device total; keyed by field. -/
def quotaFails (s : State) : List (Nat × Int) :=
  (tableKeys 0x10).filterMap fun k => (quotaTotal s k).bind fun t =>
    leFail (k % 65536) ((s.obj.parts.map fun e => fldN e.2.quota k).sum : Nat) t

/-- What the audit itself computes of a book. The books that are not listed here hold in every state of this model, which
keeps one count of what they equate (R606, R636). -/
def bookFails (s : State) (code : Nat) : List (Nat × Int) :=
  match code with
  | 0x03 => queueFails s
  | 0x04 => reservedFails s
  | 0x05 => pageFails s
  | 0x0C => ringFails s
  | 0x0D => legFails s
  | 0x0E => resvFails s
  | 0x0F => quotaFails s
  | _ => []

/-- A book as the audit finds it: by its own terms, else as a fault of the counting logic has left it. -/
def bookOf (s : State) (found : List (Nat × Nat × Nat × Int)) (code : Nat) : Book :=
  match bookFails s code with
  | (i, d) :: t => { code := code, bad := t.length + 1, first := i, diff := d }
  | [] =>
    match found.find? fun e => e.1 == code with
    | some e => { code := code, bad := e.2.1, first := e.2.2.1, diff := e.2.2.2 }
    | none => { code := code, bad := 0, first := 0, diff := 0 }

/-- AUDIT_MISMATCH (R792): the event, the record, and, for FIXED_RESERVATIONS, the rebuild at the next stroke boundary. -/
def auditMismatch (b : Book) (s : State) : State :=
  if b.bad = 0 then s
  else
    let s1 := emit .owner 0x0B4 0 (toLe 1 b.code ++ zeros 7 ++ toLeI 8 b.diff) (detect 0x14 b.code 0 (wrap 32 b.diff) false false s)
    if b.code = 0x0E then setDep s1 { s1.dep with rebuild := true } else s1

/-- CONSERVATION_AUDIT (R791): at a stroke with STROKE_COUNT mod 2,000 = 0; `found` holds the imbalances that faults of the
counting logic have caused: book, failing instances, the first of them, its difference. -/
def execConservationAudit (found : List (Nat × Nat × Nat × Int)) (s : State) : Out :=
  live s fun s =>
    guarded (decide (0 < s.time.strokes) && s.time.strokes % 2000 == 0 && s.dep.auditAt != s.time.strokes) s fun s =>
      let bs := (List.range 15).map fun n => bookOf s found (n + 1)
      bs.foldl (fun s b => auditMismatch b s) (setDep s { s.dep with audit := bs, auditAt := s.time.strokes })

/-! ## STATS_READ (R748) -/

/-- Counters of the device (Table 2-9, R122, Tables 2-11 and 3-9, R793). -/
def deviceCtrs : List (String × Ctr) := [
  ("SKIPPED_STROKES", .skippedStrokes), ("PPS_SUPPRESSED", .ppsSuppressed), ("PTP_DROPPED", .ptpDropped),
  ("EPOCH_STALE", .epochStale), ("EXC_NO_PARTITION", .excNoPartition), ("FAULT_RECORDS_LOST", .faultRecordsLost),
  ("FW_TASK_TIMEOUT", .fwTaskTimeout), ("STORE_UNGUARDED", .storeUnguarded)]

/-- Counters of an Ethernet port (R93, R207, R607, R639, R666). -/
def portCtrs : List (String × Ctr) := [
  ("STAMP_LOST", .stampLost), ("RX_RUNT", .rxRunt), ("RX_OVERSIZE", .rxOversize), ("RX_FCS_ERR", .rxFcsErr),
  ("RX_MAC_FILTERED", .rxMacFiltered), ("RX_PAUSE", .rxPause), ("RX_MALFORMED", .rxMalformed),
  ("GATE_LIST_REPLACED", .gateListReplaced), ("RX_FIFO_DROP", .rxFifoDrop), ("PFC_SENT", .pfcSent), ("PAUSE_SENT", .pauseSent),
  ("POISON_DROP", .poisonDrop)]

/-- Counters of a class of an Ethernet port (R607). -/
def classCtrs : List (String × Ctr) := [
  ("ENQUEUED_BYTES", .enqueuedBytes), ("TX_PACKETS", .txPackets), ("TX_BYTES", .txBytes), ("GATE_WAIT", .gateWait),
  ("GATE_OVERSIZE_DROP", .gateOversizeDrop), ("LINK_DOWN_DROP", .linkDownDrop)]

/-- Counters of an audio port (R566). -/
def audioPortCtrs : List (String × Ctr) := [
  ("PORT_RX_OVERRUN", .portRxOverrun), ("PORT_TX_UNDERRUN", .portTxUnderrun), ("PORT_GLITCH", .portGlitch),
  ("PORT_HOLDS", .portHolds), ("PORT_RATE_FAIL", .portRateFail), ("PORT_INDEX_ERR", .portIndexErr),
  ("AES3_PARITY", .aes3Parity), ("AES3_VALIDITY", .aes3Validity), ("AES3_CS_CRC", .aes3CsCrc),
  ("AES3_NONAUDIO_FRAMES", .aes3NonaudioFrames)]

/-- Counters of the display (R354). -/
def displayCtrs : List (String × Ctr) := [("DISP_REPEAT", .dispRepeat), ("DISP_SKIP", .dispSkip)]

/-- Counters of a partition (R207, R607, R718). -/
def partCtrs : List (String × Ctr) := [
  ("EXC_DROP", .excDrop), ("EXC_NO_CONTEXT", .exc 1), ("EXC_STUN", .exc 2), ("EXC_DTLS", .exc 3), ("EXC_PTP", .exc 4),
  ("EXC_ARP_ND", .exc 5), ("EXC_IGMP_MLD", .exc 6), ("EXC_IP_FRAGMENT", .exc 7), ("EXC_IP_OPTIONS", .exc 8),
  ("EXC_NON_UDP", .exc 9), ("EXC_UNKNOWN_DEMUX", .exc 10), ("EXC_RTCP_COPY", .exc 12), ("EXC_OTHER_L3", .exc 13),
  ("HOST_TX_HELD", .hostTxHeld), ("FORGIVEN_BYTES", .forgivenBytes), ("HTX_BAD", .htxBad), ("HTX_STAMP_IGNORED", .htxStampIgnored)]

/-- Counters of a conference (Table 2-9, R474, R639). -/
def confCtrs : List (String × Ctr) := [
  ("SKIPPED_MIX", .skippedMix), ("RANK_CHANGES", .rankChanges), ("CLIPS_PLAYED", .clipsPlayed), ("SHARED_DROP", .sharedDrop)]

/-- Counters of a leg (R207, R259, R474, R607, R639, R723). -/
def legCtrs : List (String × Ctr) := [
  ("RX_MALFORMED", .rxMalformed), ("RX_AUTH_FAIL", .rxAuthFail), ("RX_REPLAY", .rxReplay), ("TRUNK_LATE", .trunkLate),
  ("GOV_CUTS", .govCuts), ("GOV_LOSS_CUTS", .govLossCuts), ("PROBES", .probes), ("FB_STALLS", .fbStalls),
  ("FB_IGNORED", .fbIgnored), ("FB_UNMATCHED", .fbUnmatched), ("RTX_SENT", .rtxSent), ("RTX_MISS", .rtxMiss),
  ("RTX_BUDGET_DROP", .rtxBudgetDrop), ("NACK_SENT", .nackSent), ("UNDER_FLOOR", .underFloor), ("REBINDS", .rebinds),
  ("AUD_BLOCKS", .audBlocks), ("AUD_LATE", .audLate), ("AUD_FEC_USED", .audFecUsed), ("OUT_CLIP", .outClip),
  ("LIM_ACTIVE", .limActive), ("MIX_SWITCHES", .mixSwitches), ("SPEAKER_ENTRIES", .speakerEntries), ("DTMF_RX", .dtmfRx),
  ("CRIT_MISMATCH", .critMismatch), ("CRIT_CRC", .critCrc), ("CRIT_MISSING", .critMissing),
  ("ADMITTED_BYTES", .admittedBytes), ("SENT_BYTES", .sentBytes), ("DROPPED_BYTES", .droppedBytes),
  ("FORGIVEN_BYTES", .forgivenBytes), ("FIXED_OVER_SHAPER", .fixedOverShaper), ("CTRL_DROP", .ctrlDrop),
  ("HOST_IN_UNDERRUN", .hostInUnderrun), ("HOST_OUT_OVERRUN", .hostOutOverrun), ("HOST_PKT_DROP", .hostPktDrop),
  ("HOST_INDEX_ERR", .hostIndexErr)]

/-- Counters of a stream up to chapter 3 (R207). -/
def streamCtrs1 : List (String × Ctr) := [
  ("RX_PACKETS", .rxPackets), ("RX_BYTES", .rxBytes), ("RX_YELLOW", .rxYellow), ("RX_RED", .rxRed),
  ("RX_UNKNOWN_PT", .rxUnknownPt), ("JB_LATE", .jbLate), ("JB_EARLY", .jbEarly), ("JB_DUP", .jbDup), ("JB_SLIP", .jbSlip),
  ("JB_CONCEAL", .jbConceal), ("DD_UNKNOWN", .ddUnknown)]

/-- Counters of a subscription (R207, R259): those of chapter 3, those of chapter 4. -/
def subCtrs : List (String × Ctr) × List (String × Ctr) := (
  [("FWD_SENT", .fwdSent), ("FWD_WITHHELD", .fwdWithheld), ("FWD_QUEUE_DROP", .fwdQueueDrop), ("FWD_REORDER_DROP", .fwdReorderDrop)],
  [("SUB_PAUSED", .subPaused), ("SWITCHES", .switches)])

/-- Counters of a stream from chapter 4 on (R255, R259, R300, R474, R607, R639). -/
def streamCtrs2 : List (String × Ctr) := [
  ("REFRESH_FAILED", .refreshFailed), ("REFRESH_SENT", .refreshSent), ("REFRESH_MERGED", .refreshMerged),
  ("DEC_FRAMES", .decFrames), ("DEC_PUBLISHED", .decPublished), ("DEC_PRE_SYNC", .decPreSync),
  ("DEC_QUEUE_DROP", .decQueueDrop), ("DEC_SLOT_WAIT", .decSlotWait), ("DEC_LATE", .decLate), ("DEC_DAMAGED", .decDamaged),
  ("DEC_LOST", .decCause 0), ("DEC_MISSING_REF", .decCause 1), ("DEC_INCOMPLETE", .decCause 2), ("DEC_SYNTAX", .decCause 3),
  ("DEC_OVERSIZE", .decCause 4), ("DEC_UNSUPPORTED", .decCause 5), ("DEC_POISON_BITSTREAM", .decCause 6),
  ("DEC_POISON_REF", .decCause 7), ("DEC_POISON_CONTEXT", .decCause 8), ("DEC_WATCHDOG", .decCause 9),
  ("RX_FRAME_OVER", .rxFrameOver), ("ADMITTED_BYTES", .admittedBytes), ("SENT_BYTES", .sentBytes),
  ("DROPPED_BYTES", .droppedBytes), ("PACE_QUEUE_DROP", .paceQueueDrop), ("PACE_HELD_FIXED", .paceHeldFixed),
  ("FORGIVEN_BYTES", .forgivenBytes), ("RX_QUEUE_DROP", .rxQueueDrop), ("YELLOW_NO_CELL", .yellowNoCell)]

/-- Counters of a layout, and of a layer (Table 2-9, R354). -/
def layoutCtrs : List (String × Ctr) := [
  ("DROPPED_FRAMES", .droppedFrames), ("COMP_FRAMES", .compFrames), ("COMP_SKIPPED", .compSkipped)]

/-- Counters of a layer (R354). -/
def layerCtrs : List (String × Ctr) := [
  ("LAYER_STALE_FRAMES", .layerStaleFrames), ("LAYER_STANDIN_FRAMES", .layerStandinFrames), ("FLIP_REPLACED", .flipReplaced),
  ("COMP_POISON", .compPoison)]

/-- Counters of a rung (R259, R405). -/
def rungCtrs : List (String × Ctr) := [
  ("REFRESH_SENT", .refreshSent), ("REFRESH_MERGED", .refreshMerged), ("ENC_PICTURES", .encPictures), ("ENC_KEY", .encKey),
  ("ENC_SKIPPED", .encSkipped), ("ENC_EXHAUSTED", .encExhausted), ("ENC_CAPPED", .encCapped), ("ENC_BUF_OVER", .encBufOver),
  ("ENC_CYCLES", .encCycles), ("ENC_CYCLE_RESTART", .encCycleRestart), ("ENC_REPAIR_BLOCKS", .encRepairBlocks),
  ("ENC_LATE", .encLate), ("ENC_OUT_DROP", .encOutDrop), ("ENC_POISON_SOURCE", .encPoisonSource),
  ("ENC_POISON_REF", .encPoisonRef)]

/-- Counters of a kernel instance (R526). -/
def kernelCtrs : List (String × Ctr) := [
  ("KERNEL_INVOCATIONS", .kernelInvocations), ("KERNEL_PASS_BLOCKS", .kernelPassBlocks), ("KERNEL_STOPS", .kernelStops),
  ("KERNEL_OVERRUN", .kernelCause 1), ("KERNEL_MEM_VIOLATION", .kernelCause 2), ("KERNEL_ILLEGAL", .kernelCause 3),
  ("KERNEL_DMA_VIOLATION", .kernelCause 4), ("KERNEL_POISON", .kernelCause 5), ("KERNEL_BAD_OUTPUT", .kernelCause 6),
  ("KERNEL_CORE_RESET", .kernelCause 7)]

/-- One counter as STATS_READ reports it: its name in ASCII, padded to 24 bytes, and its value. -/
def statBytes (e : String × Nat) : Bytes := padTo 24 (e.1.toList.map fun c => BitVec.ofNat 8 c.toNat) ++ toLe 8 e.2

/-- A list of counters with their values. -/
def statsOf (cs : Counters) (l : List (String × Ctr)) : List (String × Nat) := l.map fun e => (e.1, ctr cs e.2)

/-- The counters of a stream: those of a subscription stand on its FORWARD stream (R748). -/
def streamStats (s : State) (x : Nat) (cs : Counters) : List (String × Nat) :=
  let fwd := isOut s x && streamRole s x == 1
  statsOf cs (streamCtrs1 ++ (if fwd then subCtrs.1 ++ subCtrs.2 else []) ++ streamCtrs2)

/-- The counters of the object with key `k`. -/
def objStats (s : State) (k : Nat) : List (String × Nat) :=
  let cs := ((getObj s k).map (·.ctrs)).getD []
  match k / 1048576 with
  | 2 => statsOf cs confCtrs
  | 3 => statsOf cs legCtrs
  | 4 => streamStats s k cs
  | 5 => statsOf cs layoutCtrs
  | 6 => statsOf cs layerCtrs
  | 7 => statsOf cs rungCtrs
  | _ => []

/-- The counters of PORT `i` under SCOPE `sc`; none when the scope does not exist. -/
def portStats (s : State) (i sc : Nat) : Option (List (String × Nat)) :=
  if i < 8 then
    if sc = 0 then some (statsOf (getPort s i).ctrs portCtrs)
    else if sc ≤ 8 then some (statsOf (getCls (getPort s i) (sc - 1)).ctrs classCtrs)
    else none
  else if sc ≠ 0 then none
  else if i = 20 then some (statsOf s.vid.disp.ctrs displayCtrs)
  else some (statsOf (getAPort s i).ctrs audioPortCtrs)

/-- The counters of the scope that a handle names. -/
def statScope (s : State) (F h sc : Nat) : Except Status (List (String × Nat)) :=
  let plain := fun (l : List (String × Nat)) => if sc = 0 then .ok l else .error Status.outOfRange
  if h = 0 then (if isOwner s F then plain (statsOf s.time.ctrs deviceCtrs) else .error .notOwner)
  else
    match hType h with
    | 0xB =>
      match resolvePort h with
      | none => .error .badHandle
      | some i => match portStats s i sc with
        | some l => .ok l
        | none => .error .outOfRange
    | 1 => (partOr s F h).bind fun p => plain (statsOf (((Tab.get s.obj.parts p).map (·.ctrs)).getD []) partCtrs)
    | 8 => if (resolveSurf s F h).isSome then plain [] else .error .badHandle
    | 0xA =>
      match Tab.get s.dsp.kerns (hIdx h) with
      | none => .error .badHandle
      | some q =>
        if q.gen = hGen h && sees s F q.part then
          plain ((s.dsp.insts.filter fun e => e.2.kern == hIdx h).flatMap fun e => statsOf e.2.ctrs kernelCtrs)
        else .error .badHandle
    | t =>
      match if 2 ≤ t ∧ t ≤ 7 then resolve s F t h else none with
      | some k => plain (objStats s k)
      | none => .error .badHandle

/-- STATS_READ (R748). -/
def bodyStatsRead : Body := fun F p _ s =>
  match statScope s F (le p 0 4) (le p 6 1) with
  | .error st => .no st []
  | .ok l =>
    let first := le p 4 2
    let page := (l.drop first).take 63
    checked [(decide (first ≤ l.length), .outOfRange)] fun _ =>
      .ok (toLe 2 l.length ++ toLe 2 page.length ++ page.flatMap statBytes) 0 s

/-- STATS_READ. -/
def execStatsRead (src : Src) (s : State) : Out := serve 0x0E00 src [] bodyStatsRead s

/-! ## Command rings (R698 to R706) -/

/-- The life-cycle body of the operation `n` of type `ty`. -/
def lifeBody (ty n : Nat) : Body :=
  match n with
  | 0 => bodyCreate ty
  | 1 => bodyModify ty
  | 2 => bodyActivate ty
  | 3 => bodyHold ty
  | 4 => bodyDelete ty
  | _ => bodyRead ty

/-- What a command that a ring takes does (Table 14-12, Tables 15-4 to 15-19); every other opcode is refused before. -/
def ringBody (op : Nat) : Body :=
  if 4 ≤ op / 256 ∧ op / 256 ≤ 9 ∧ op % 256 ≤ 5 then lifeBody (op / 256 - 2) (op % 256)
  else match op with
    | 0x0507 => bodyGovernorConfig
    | 0x0607 => bodyPolicerConfig
    | 0x0806 => bodyLayerFlip
    | 0x0906 => bodyRungRefresh
    | 0x0907 => bodyRungKey
    | 0x0A00 => bodySurfaceCreate
    | 0x0A01 => bodySurfaceDelete
    | 0x0A03 => bodySurfaceWrite
    | 0x0A04 => bodySurfaceRead
    | 0x0B02 => bodyFenceSignal
    | 0x0C04 => bodyPlayClip
    | 0x0C05 => bodyClipStop
    | 0x0C06 => bodyDtmfSend
    | 0x0C07 => bodyPlaneStop
    | 0x0C09 => bodyPlaneStart
    | 0x0D03 => bodyKernelResume
    | 0x0E03 => bodyQueueFlush
    | 0x0E07 => bodyQgroupClear
    | _ => bodyNop

/-- RING_ENTRY_EXECUTE (R699, R702 to R706): the next posted entry of ring `k` of function `f` is fetched as the 64 bytes `e` and
executed; `dma` is what the command reads from host memory. -/
def execRingEntryExecute (f k : Nat) (e dma : Bytes) (s : State) : Out :=
  onPart (decide (f < 256) && decide (k < 64)) s (serveRing (le e 0 2) f k e dma (ringBody (le e 0 2)))

end Sys2Proof.Machine
end

