-- ==== Sys2Proof/Machine/Dispatch.lean ====
section
/-! DEFINITION. The dispatcher: one arm per command of the opcode table, each one direct call of its meaning. -/

namespace Sys2Proof.Machine

/-- The effect of one command on everything but the queue. -/
def exec (i : Instr) (s : State) : Host.Outcome State Fault Refusal :=
  match i with
  | .phcTick n => Sys2Proof.Machine.execPhcTick n s
  | .strokeBoundary idx => Sys2Proof.Machine.execStrokeBoundary idx s
  | .increaseEvaluation => Sys2Proof.Machine.execIncreaseEvaluation s
  | .probeEnd l => Sys2Proof.Machine.execProbeEnd l s
  | .probeUnresolvedTimeout l => Sys2Proof.Machine.execProbeUnresolvedTimeout l s
  | .feedbackStalled l => Sys2Proof.Machine.execFeedbackStalled l s
  | .switchWaitExpiry x => Sys2Proof.Machine.execSwitchWaitExpiry x s
  | .refreshLimitExpiry k => Sys2Proof.Machine.execRefreshLimitExpiry k s
  | .refreshRetry y => Sys2Proof.Machine.execRefreshRetry y s
  | .rtcpReportSend l => Sys2Proof.Machine.execRtcpReportSend l s
  | .ccfbFeedbackSend l => Sys2Proof.Machine.execCcfbFeedbackSend l s
  | .conservationAudit found => Sys2Proof.Machine.execConservationAudit found s
  | .mixPeriodBoundary c ins => Sys2Proof.Machine.execMixPeriodBoundary c ins s
  | .jbDepthAdapt x => Sys2Proof.Machine.execJbDepthAdapt x s
  | .audioFrontJob k tone bad => Sys2Proof.Machine.execAudioFrontJob k tone bad s
  | .rankingJob c bad => Sys2Proof.Machine.execRankingJob c bad s
  | .mixJob c bad => Sys2Proof.Machine.execMixJob c bad s
  | .backJob l z => Sys2Proof.Machine.execBackJob l z s
  | .backJobAbandon l => Sys2Proof.Machine.execBackJobAbandon l s
  | .tagMissingTimeout l => Sys2Proof.Machine.execTagMissingTimeout l s
  | .aes67PacketSend x => Sys2Proof.Machine.execAes67PacketSend x s
  | .dtmfEndTimeout x => Sys2Proof.Machine.execDtmfEndTimeout x s
  | .frameInstant r => Sys2Proof.Machine.execFrameInstant r s
  | .readinessCheck y => Sys2Proof.Machine.execReadinessCheck y s
  | .compositionStart c => Sys2Proof.Machine.execCompositionStart c s
  | .bandHandoff y => Sys2Proof.Machine.execBandHandoff y s
  | .compositionComplete y => Sys2Proof.Machine.execCompositionComplete y s
  | .enginePick e => Sys2Proof.Machine.execEnginePick e s
  | .decoderCredit x => Sys2Proof.Machine.execDecoderCredit x s
  | .decodeFrameComplete e r => Sys2Proof.Machine.execDecodeFrameComplete e r s
  | .syncWaitRefresh x => Sys2Proof.Machine.execSyncWaitRefresh x s
  | .videoHoldExpiry x => Sys2Proof.Machine.execVideoHoldExpiry x s
  | .encodePictureComplete e z => Sys2Proof.Machine.execEncodePictureComplete e z s
  | .engineWatchdogExpiry e => Sys2Proof.Machine.execEngineWatchdogExpiry e s
  | .engineResetEnd e => Sys2Proof.Machine.execEngineResetEnd e s
  | .gateEntryChange p => Sys2Proof.Machine.execGateEntryChange p s
  | .gateCycleBoundary p => Sys2Proof.Machine.execGateCycleBoundary p s
  | .gateListActive p => Sys2Proof.Machine.execGateListActive p s
  | .displayVsync e => Sys2Proof.Machine.execDisplayVsync e s
  | .ppsOutEdge => Sys2Proof.Machine.execPpsOutEdge s
  | .ppsInStamp => Sys2Proof.Machine.execPpsInStamp s
  | .refLost input => Sys2Proof.Machine.execRefLost input s
  | .holdoverEntry clk => Sys2Proof.Machine.execHoldoverEntry clk s
  | .holdoverSteer v => Sys2Proof.Machine.execHoldoverSteer v s
  | .firmwareServoUpdate off c v => Sys2Proof.Machine.execFirmwareServoUpdate off c v s
  | .ethFrameReceive p fcsOk bytes x => Sys2Proof.Machine.execEthFrameReceive p fcsOk bytes x s
  | .previousKeyErase l => Sys2Proof.Machine.execPreviousKeyErase l s
  | .exceptionDelivery p => Sys2Proof.Machine.execExceptionDelivery p s
  | .flowControlFrameReceive p pfc mask quanta => Sys2Proof.Machine.execFlowControlFrameReceive p pfc mask quanta s
  | .pauseHoldExpiry p c => Sys2Proof.Machine.execPauseHoldExpiry p c s
  | .linkUp p => Sys2Proof.Machine.execLinkUp p s
  | .linkDown p => Sys2Proof.Machine.execLinkDown p s
  | .pacerRelease q => Sys2Proof.Machine.execPacerRelease q s
  | .hostLimiterRelease p => Sys2Proof.Machine.execHostLimiterRelease p s
  | .classPick p bad => Sys2Proof.Machine.execClassPick p bad s
  | .txStampDelivery p => Sys2Proof.Machine.execTxStampDelivery p s
  | .heldPushRetry q => Sys2Proof.Machine.execHeldPushRetry q s
  | .rxHoldExpiry p => Sys2Proof.Machine.execRxHoldExpiry p s
  | .pfcRepeat p r => Sys2Proof.Machine.execPfcRepeat p r s
  | .spillMoveComplete q => Sys2Proof.Machine.execSpillMoveComplete q s
  | .queueFlushApply q => Sys2Proof.Machine.execQueueFlushApply q s
  | .qgroupEventWindow g => Sys2Proof.Machine.execQgroupEventWindow g s
  | .qxoffMinExpiry n => Sys2Proof.Machine.execQxoffMinExpiry n s
  | .audioFrameEdge p f => Sys2Proof.Machine.execAudioFrameEdge p f s
  | .aes3CsBlock p a b => Sys2Proof.Machine.execAes3CsBlock p a b s
  | .aes3NonaudioEnd p => Sys2Proof.Machine.execAes3NonaudioEnd p s
  | .portClockLoss p => Sys2Proof.Machine.execPortClockLoss p s
  | .portHoldFrame p => Sys2Proof.Machine.execPortHoldFrame p s
  | .portRateMeasure p r => Sys2Proof.Machine.execPortRateMeasure p r s
  | .planeRampEnd l side => Sys2Proof.Machine.execPlaneRampEnd l side s
  | .hpdRise edid => Sys2Proof.Machine.execHpdRise edid s
  | .hpdFall => Sys2Proof.Machine.execHpdFall s
  | .displayTrainingDone ok => Sys2Proof.Machine.execDisplayTrainingDone ok s
  | .dramRequestIssue ch b arr => Sys2Proof.Machine.execDramRequestIssue ch b arr s
  | .dramReadResponse ch b res sym syn who => Sys2Proof.Machine.execDramReadResponse ch b res sym syn who s
  | .dramCommandTimeout ch b who => Sys2Proof.Machine.execDramCommandTimeout ch b who s
  | .nocTimeout req who n => Sys2Proof.Machine.execNocTimeout req who n s
  | .dramRefresh ch rank => Sys2Proof.Machine.execDramRefresh ch rank s
  | .dramTempPoll ch rank temp hot bad => Sys2Proof.Machine.execDramTempPoll ch rank temp hot bad s
  | .dqsDriftCheck ch lane d => Sys2Proof.Machine.execDqsDriftCheck ch lane d s
  | .retrainSlice ch rank pts => Sys2Proof.Machine.execRetrainSlice ch rank pts s
  | .patrolScrub res sym syn => Sys2Proof.Machine.execPatrolScrub res sym syn s
  | .powerDownEntry ch rank => Sys2Proof.Machine.execPowerDownEntry ch rank s
  | .selfRefreshEntry ch => Sys2Proof.Machine.execSelfRefreshEntry ch s
  | .extentZeroingComplete e => Sys2Proof.Machine.execExtentZeroingComplete e s
  | .doorbellWrite f m seq => Sys2Proof.Machine.execDoorbellWrite f m seq s
  | .ackWrite f m seq => Sys2Proof.Machine.execAckWrite f m seq s
  | .commandAreaWrite f m off data => Sys2Proof.Machine.execCommandAreaWrite f m off data s
  | .mailboxServiceTimeout f m => Sys2Proof.Machine.execMailboxServiceTimeout f m s
  | .hostIfaceWrite f v => Sys2Proof.Machine.execHostIfaceWrite f v s
  | .funcStatusClear f v => Sys2Proof.Machine.execFuncStatusClear f v s
  | .registerWrite f off data => Sys2Proof.Machine.execRegisterWrite f off data s
  | .ringTailWrite f k v => Sys2Proof.Machine.execRingTailWrite f k v s
  | .ringEntryExecute f k e dma => Sys2Proof.Machine.execRingEntryExecute f k e dma s
  | .headWriteback f k => Sys2Proof.Machine.execHeadWriteback f k s
  | .eqHeadWrite f q v => Sys2Proof.Machine.execEqHeadWrite f q v s
  | .eventBacklogDrain f => Sys2Proof.Machine.execEventBacklogDrain f s
  | .coalesceTimeout f q => Sys2Proof.Machine.execCoalesceTimeout f q s
  | .msixUnmask f v => Sys2Proof.Machine.execMsixUnmask f v s
  | .fenceWrite f n data => Sys2Proof.Machine.execFenceWrite f n data s
  | .fenceAddWrite f n data => Sys2Proof.Machine.execFenceAddWrite f n data s
  | .excHeadWrite f v => Sys2Proof.Machine.execExcHeadWrite f v s
  | .htxTailWrite f v => Sys2Proof.Machine.execHtxTailWrite f v s
  | .texHeadWrite f v => Sys2Proof.Machine.execTexHeadWrite f v s
  | .ttxTailWrite f v => Sys2Proof.Machine.execTtxTailWrite f v s
  | .hostTxFetch f desc frame => Sys2Proof.Machine.execHostTxFetch f desc frame s
  | .timeTransmitFetch f desc frame => Sys2Proof.Machine.execTimeTransmitFetch f desc frame s
  | .functionLevelReset f => Sys2Proof.Machine.execFunctionLevelReset f s
  | .hostPortReset p low => Sys2Proof.Machine.execHostPortReset p low s
  | .configRequest f c => Sys2Proof.Machine.execConfigRequest f c s
  | .ownerTransferExpiry => Sys2Proof.Machine.execOwnerTransferExpiry s
  | .nop src => Sys2Proof.Machine.execNop src s
  | .identify src => Sys2Proof.Machine.execIdentify src s
  | .ringCreate src => Sys2Proof.Machine.execRingCreate src s
  | .ringDelete src => Sys2Proof.Machine.execRingDelete src s
  | .ringRestart src => Sys2Proof.Machine.execRingRestart src s
  | .eqCreate src => Sys2Proof.Machine.execEqCreate src s
  | .eqDelete src => Sys2Proof.Machine.execEqDelete src s
  | .eventRoute src => Sys2Proof.Machine.execEventRoute src s
  | .hostRingCreate src => Sys2Proof.Machine.execHostRingCreate src s
  | .hostRingDelete src => Sys2Proof.Machine.execHostRingDelete src s
  | .dmaWindowAdd src => Sys2Proof.Machine.execDmaWindowAdd src s
  | .dmaWindowRemove src => Sys2Proof.Machine.execDmaWindowRemove src s
  | .partitionCreate src => Sys2Proof.Machine.execPartitionCreate src s
  | .partitionModify src => Sys2Proof.Machine.execPartitionModify src s
  | .partitionDelete src => Sys2Proof.Machine.execPartitionDelete src s
  | .partitionRead src => Sys2Proof.Machine.execPartitionRead src s
  | .functionAssign src => Sys2Proof.Machine.execFunctionAssign src s
  | .ownerTransfer src => Sys2Proof.Machine.execOwnerTransfer src s
  | .ownerAccept src => Sys2Proof.Machine.execOwnerAccept src s
  | .memSets src => Sys2Proof.Machine.execMemSets src s
  | .memKeyInstall src => Sys2Proof.Machine.execMemKeyInstall src s
  | .memTimers src => Sys2Proof.Machine.execMemTimers src s
  | .spillConfig src => Sys2Proof.Machine.execSpillConfig src s
  | .kernelCores src => Sys2Proof.Machine.execKernelCores src s
  | .timeGet src => Sys2Proof.Machine.execTimeGet src s
  | .timeConfig src => Sys2Proof.Machine.execTimeConfig src s
  | .timeSet src => Sys2Proof.Machine.execTimeSet src s
  | .timeAdjFreq src => Sys2Proof.Machine.execTimeAdjFreq src s
  | .timeAdjPhase src => Sys2Proof.Machine.execTimeAdjPhase src s
  | .portTimeCorr src => Sys2Proof.Machine.execPortTimeCorr src s
  | .ppsConfig src => Sys2Proof.Machine.execPpsConfig src s
  | .utcOffsetSet src => Sys2Proof.Machine.execUtcOffsetSet src s
  | .portConfig src => Sys2Proof.Machine.execPortConfig src s
  | .portRead src => Sys2Proof.Machine.execPortRead src s
  | .portSlots src => Sys2Proof.Machine.execPortSlots src s
  | .audioClock src => Sys2Proof.Machine.execAudioClock src s
  | .aes3Read src => Sys2Proof.Machine.execAes3Read src s
  | .aes3OutStatus src => Sys2Proof.Machine.execAes3OutStatus src s
  | .kerfPortConfig src => Sys2Proof.Machine.execKerfPortConfig src s
  | .gateListSet src dma => Sys2Proof.Machine.execGateListSet src dma s
  | .gateListRead src => Sys2Proof.Machine.execGateListRead src s
  | .qxoffConfig src => Sys2Proof.Machine.execQxoffConfig src s
  | .displayConfig src => Sys2Proof.Machine.execDisplayConfig src s
  | .displayEdid src => Sys2Proof.Machine.execDisplayEdid src s
  | .macFilterAdd src => Sys2Proof.Machine.execMacFilterAdd src s
  | .macFilterRemove src => Sys2Proof.Machine.execMacFilterRemove src s
  | .addressAdd src => Sys2Proof.Machine.execAddressAdd src s
  | .addressRemove src => Sys2Proof.Machine.execAddressRemove src s
  | .dscpTableSet src => Sys2Proof.Machine.execDscpTableSet src s
  | .conferenceCreate src => Sys2Proof.Machine.execConferenceCreate src s
  | .conferenceModify src => Sys2Proof.Machine.execConferenceModify src s
  | .conferenceActivate src => Sys2Proof.Machine.execConferenceActivate src s
  | .conferenceHold src => Sys2Proof.Machine.execConferenceHold src s
  | .conferenceDelete src => Sys2Proof.Machine.execConferenceDelete src s
  | .conferenceRead src => Sys2Proof.Machine.execConferenceRead src s
  | .legCreate src => Sys2Proof.Machine.execLegCreate src s
  | .legModify src => Sys2Proof.Machine.execLegModify src s
  | .legActivate src => Sys2Proof.Machine.execLegActivate src s
  | .legHold src => Sys2Proof.Machine.execLegHold src s
  | .legDelete src => Sys2Proof.Machine.execLegDelete src s
  | .legRead src => Sys2Proof.Machine.execLegRead src s
  | .streamCreate src => Sys2Proof.Machine.execStreamCreate src s
  | .streamModify src => Sys2Proof.Machine.execStreamModify src s
  | .streamActivate src => Sys2Proof.Machine.execStreamActivate src s
  | .streamHold src => Sys2Proof.Machine.execStreamHold src s
  | .streamDelete src => Sys2Proof.Machine.execStreamDelete src s
  | .streamRead src => Sys2Proof.Machine.execStreamRead src s
  | .layoutCreate src => Sys2Proof.Machine.execLayoutCreate src s
  | .layoutModify src => Sys2Proof.Machine.execLayoutModify src s
  | .layoutActivate src => Sys2Proof.Machine.execLayoutActivate src s
  | .layoutHold src => Sys2Proof.Machine.execLayoutHold src s
  | .layoutDelete src => Sys2Proof.Machine.execLayoutDelete src s
  | .layoutRead src => Sys2Proof.Machine.execLayoutRead src s
  | .layerCreate src => Sys2Proof.Machine.execLayerCreate src s
  | .layerModify src => Sys2Proof.Machine.execLayerModify src s
  | .layerActivate src => Sys2Proof.Machine.execLayerActivate src s
  | .layerHold src => Sys2Proof.Machine.execLayerHold src s
  | .layerDelete src => Sys2Proof.Machine.execLayerDelete src s
  | .layerRead src => Sys2Proof.Machine.execLayerRead src s
  | .rungCreate src => Sys2Proof.Machine.execRungCreate src s
  | .rungModify src => Sys2Proof.Machine.execRungModify src s
  | .rungActivate src => Sys2Proof.Machine.execRungActivate src s
  | .rungHold src => Sys2Proof.Machine.execRungHold src s
  | .rungDelete src => Sys2Proof.Machine.execRungDelete src s
  | .rungRead src => Sys2Proof.Machine.execRungRead src s
  | .keyInstall src => Sys2Proof.Machine.execKeyInstall src s
  | .governorConfig src => Sys2Proof.Machine.execGovernorConfig src s
  | .governorRead src => Sys2Proof.Machine.execGovernorRead src s
  | .decoderRead src => Sys2Proof.Machine.execDecoderRead src s
  | .policerConfig src => Sys2Proof.Machine.execPolicerConfig src s
  | .coefLoad src dma => Sys2Proof.Machine.execCoefLoad src dma s
  | .coefUnload src => Sys2Proof.Machine.execCoefUnload src s
  | .layerFlip src => Sys2Proof.Machine.execLayerFlip src s
  | .rungRefresh src => Sys2Proof.Machine.execRungRefresh src s
  | .rungKey src => Sys2Proof.Machine.execRungKey src s
  | .surfaceCreate src => Sys2Proof.Machine.execSurfaceCreate src s
  | .surfaceDelete src => Sys2Proof.Machine.execSurfaceDelete src s
  | .surfaceInfo src => Sys2Proof.Machine.execSurfaceInfo src s
  | .surfaceWrite src dma => Sys2Proof.Machine.execSurfaceWrite src dma s
  | .surfaceRead src => Sys2Proof.Machine.execSurfaceRead src s
  | .fenceCreate src => Sys2Proof.Machine.execFenceCreate src s
  | .fenceDelete src => Sys2Proof.Machine.execFenceDelete src s
  | .fenceSignal src => Sys2Proof.Machine.execFenceSignal src s
  | .audioRead src => Sys2Proof.Machine.execAudioRead src s
  | .mixRead src => Sys2Proof.Machine.execMixRead src s
  | .hrtfLoad src dma => Sys2Proof.Machine.execHrtfLoad src dma s
  | .hrtfUnload src => Sys2Proof.Machine.execHrtfUnload src s
  | .playClip src => Sys2Proof.Machine.execPlayClip src s
  | .clipStop src => Sys2Proof.Machine.execClipStop src s
  | .dtmfSend src => Sys2Proof.Machine.execDtmfSend src s
  | .planeStop src => Sys2Proof.Machine.execPlaneStop src s
  | .planeLoad src dma => Sys2Proof.Machine.execPlaneLoad src dma s
  | .planeStart src => Sys2Proof.Machine.execPlaneStart src s
  | .planeRead src => Sys2Proof.Machine.execPlaneRead src s
  | .kernelLoad src dma => Sys2Proof.Machine.execKernelLoad src dma s
  | .kernelUnload src => Sys2Proof.Machine.execKernelUnload src s
  | .kernelRead src => Sys2Proof.Machine.execKernelRead src s
  | .kernelResume src => Sys2Proof.Machine.execKernelResume src s
  | .statsRead src => Sys2Proof.Machine.execStatsRead src s
  | .queueRead src => Sys2Proof.Machine.execQueueRead src s
  | .queueConfig src => Sys2Proof.Machine.execQueueConfig src s
  | .queueFlush src => Sys2Proof.Machine.execQueueFlush src s
  | .qgroupSet src => Sys2Proof.Machine.execQgroupSet src s
  | .qgroupConfig src => Sys2Proof.Machine.execQgroupConfig src s
  | .qgroupRead src => Sys2Proof.Machine.execQgroupRead src s
  | .qgroupClear src => Sys2Proof.Machine.execQgroupClear src s
  | .histConfig src => Sys2Proof.Machine.execHistConfig src s
  | .histRead src => Sys2Proof.Machine.execHistRead src s
  | .battenAudit src => Sys2Proof.Machine.execBattenAudit src s
  | .memStatus src => Sys2Proof.Machine.execMemStatus src s
  | .memLogRead src => Sys2Proof.Machine.execMemLogRead src s
  | .memLogClear src => Sys2Proof.Machine.execMemLogClear src s
  | .auditRead src => Sys2Proof.Machine.execAuditRead src s
  | .healthRead src => Sys2Proof.Machine.execHealthRead src s
  | .faultAck src => Sys2Proof.Machine.execFaultAck src s
  | .fwInfo src => Sys2Proof.Machine.execFwInfo src s
  | .fwUpdateBegin src => Sys2Proof.Machine.execFwUpdateBegin src s
  | .fwUpdateData src dma => Sys2Proof.Machine.execFwUpdateData src dma s
  | .fwUpdateCommit src => Sys2Proof.Machine.execFwUpdateCommit src s
  | .fwActivate src => Sys2Proof.Machine.execFwActivate src s
  | .debugChallenge src => Sys2Proof.Machine.execDebugChallenge src s
  | .debugUnlock src => Sys2Proof.Machine.execDebugUnlock src s
  | .debugChallengeExpiry => Sys2Proof.Machine.execDebugChallengeExpiry s
  | .activationReset env => Sys2Proof.Machine.execActivationReset env s
  | .flashOperationComplete got => Sys2Proof.Machine.execFlashOperationComplete got s
  | .holdupSample uv => Sys2Proof.Machine.execHoldupSample uv s
  | .storeRetry => Sys2Proof.Machine.execStoreRetry s
  | .powerFail => Sys2Proof.Machine.execPowerFail s
  | .powerRestore => Sys2Proof.Machine.execPowerRestore s
  | .porstFall => Sys2Proof.Machine.execPorstFall s
  | .porstRise env => Sys2Proof.Machine.execPorstRise env s
  | .bootStore => Sys2Proof.Machine.execBootStore s
  | .firmwareHeartbeat => Sys2Proof.Machine.execFirmwareHeartbeat s
  | .clampHeartbeat => Sys2Proof.Machine.execClampHeartbeat s
  | .benchWatchdogExpiry => Sys2Proof.Machine.execBenchWatchdogExpiry s
  | .fwRestarted => Sys2Proof.Machine.execFwRestarted s
  | .sequencerAloneExpiry => Sys2Proof.Machine.execSequencerAloneExpiry s
  | .deviceWatchdogExpiry => Sys2Proof.Machine.execDeviceWatchdogExpiry s
  | .deviceRecovered bad => Sys2Proof.Machine.execDeviceRecovered bad s
  | .firmwareTaskTimeout cmd => Sys2Proof.Machine.execFirmwareTaskTimeout cmd s
  | .dspWatchdogExpiry c => Sys2Proof.Machine.execDspWatchdogExpiry c s
  | .clockMonitorFault d khz => Sys2Proof.Machine.execClockMonitorFault d khz s
  | .voltageMonitorFault rail mv => Sys2Proof.Machine.execVoltageMonitorFault rail mv s
  | .avsReadbackCheck mv => Sys2Proof.Machine.execAvsReadbackCheck mv s
  | .clampLockstepMismatch => Sys2Proof.Machine.execClampLockstepMismatch s
  | .junctionSensorSample ts => Sys2Proof.Machine.execJunctionSensorSample ts s
  | .marginPlanRun rs vmin vs eye => Sys2Proof.Machine.execMarginPlanRun rs vmin vs eye s
  | .dailyHistoryStore => Sys2Proof.Machine.execDailyHistoryStore s
  | .pmbusTelemetryPoll data => Sys2Proof.Machine.execPmbusTelemetryPoll data s
  | .page wr bad => Sys2Proof.Machine.execPage wr bad s
  | .state => Sys2Proof.Machine.execState s
  | .ident => Sys2Proof.Machine.execIdent s
  | .faults => Sys2Proof.Machine.execFaults s
  | .bootLog => Sys2Proof.Machine.execBootLog s
  | .temps => Sys2Proof.Machine.execTemps s
  | .smbusAlertResponse => Sys2Proof.Machine.execSmbusAlertResponse s
  | .jtagAccess op => Sys2Proof.Machine.execJtagAccess op s
  | .kernelOverrun c => Sys2Proof.Machine.execKernelOverrun c s
  | .kernelDmaComplete c n bad => Sys2Proof.Machine.execKernelDmaComplete c n bad s
  | .coreInterrupt c n => Sys2Proof.Machine.execCoreInterrupt c n s
  | .slotNop c => Sys2Proof.Machine.execSlotNop c s
  | .add c => Sys2Proof.Machine.execAdd c s
  | .sub c => Sys2Proof.Machine.execSub c s
  | .addi c => Sys2Proof.Machine.execAddi c s
  | .neg c => Sys2Proof.Machine.execNeg c s
  | .abs c => Sys2Proof.Machine.execAbs c s
  | .min c => Sys2Proof.Machine.execMin c s
  | .max c => Sys2Proof.Machine.execMax c s
  | .and c => Sys2Proof.Machine.execAnd c s
  | .or c => Sys2Proof.Machine.execOr c s
  | .xor c => Sys2Proof.Machine.execXor c s
  | .shli c => Sys2Proof.Machine.execShli c s
  | .shri c => Sys2Proof.Machine.execShri c s
  | .shle c => Sys2Proof.Machine.execShle c s
  | .mul c => Sys2Proof.Machine.execMul c s
  | .mac c => Sys2Proof.Machine.execMac c s
  | .msu c => Sys2Proof.Machine.execMsu c s
  | .clra c => Sys2Proof.Machine.execClra c s
  | .lda c => Sys2Proof.Machine.execLda c s
  | .adda c => Sys2Proof.Machine.execAdda c s
  | .ext c => Sys2Proof.Machine.execExt c s
  | .norm c => Sys2Proof.Machine.execNorm c s
  | .expb c => Sys2Proof.Machine.execExpb c s
  | .cmp c => Sys2Proof.Machine.execCmp c s
  | .sel c => Sys2Proof.Machine.execSel c s
  | .mov c => Sys2Proof.Machine.execMov c s
  | .pack c => Sys2Proof.Machine.execPack c s
  | .rdsr c => Sys2Proof.Machine.execRdsr c s
  | .wrsr c => Sys2Proof.Machine.execWrsr c s
  | .maxi c => Sys2Proof.Machine.execMaxi c s
  | .mini c => Sys2Proof.Machine.execMini c s
  | .rds c => Sys2Proof.Machine.execRds c s
  | .movi c => Sys2Proof.Machine.execMovi c s
  | .ld c ue => Sys2Proof.Machine.execLd c ue s
  | .ld2 c ue => Sys2Proof.Machine.execLd2 c ue s
  | .st c => Sys2Proof.Machine.execSt c s
  | .ldw c ue => Sys2Proof.Machine.execLdw c ue s
  | .stw c => Sys2Proof.Machine.execStw c s
  | .br c => Sys2Proof.Machine.execBr c s
  | .brc c => Sys2Proof.Machine.execBrc c s
  | .call c => Sys2Proof.Machine.execCall c s
  | .ret c => Sys2Proof.Machine.execRet c s
  | .rep c => Sys2Proof.Machine.execRep c s
  | .repr c => Sys2Proof.Machine.execRepr c s
  | .setp c => Sys2Proof.Machine.execSetp c s
  | .addp c => Sys2Proof.Machine.execAddp c s
  | .setm c => Sys2Proof.Machine.execSetm c s
  | .setcb c => Sys2Proof.Machine.execSetcb c s
  | .movp c => Sys2Proof.Machine.execMovp c s
  | .movd c => Sys2Proof.Machine.execMovd c s
  | .dmaq c => Sys2Proof.Machine.execDmaq c s
  | .dmawait c => Sys2Proof.Machine.execDmawait c s
  | .srchi c => Sys2Proof.Machine.execSrchi c s
  | .rdcyc c => Sys2Proof.Machine.execRdcyc c s
  | .kret c bad => Sys2Proof.Machine.execKret c bad s
  | .firmwarePtpMessage p frame => Sys2Proof.Machine.execFirmwarePtpMessage p frame s
  | .monitorFaultEnd rail mv => Sys2Proof.Machine.execMonitorFaultEnd rail mv s
  | .mclkAligned => Sys2Proof.Machine.execMclkAligned s

end Sys2Proof.Machine
end

