-- ==== Sys2Proof/WellFormed.lean ====
section
/-!
DEFINITION. Which commands are well-formed: the part a command names exists on a device with `nf` functions (R677), as
Table 0-5 and the tables of each chapter bound it: 4,096 legs, 16,384 streams, 1,024 conferences, 512 layouts, 16 engines,
36 compositors, 192 cores, 8 Ethernet ports, audio ports 8 to 19, 32,768 queues, 8 DRAM channels.
-/

namespace Sys2Proof

/-- A source names a function, and for a ring its index (R677, R698). -/
def Src.wf : Src → Bool
  | .mbox f _ => decide (f < 256)
  | .ring f k _ => decide (f < 256) && decide (k < 64)

/-- Whether a command names a part that exists on a device with `nf` functions. -/
def Instr.wf (nf : Nat) : Instr → Bool
  | .phcTick _ => true
  | .strokeBoundary _ => true
  | .increaseEvaluation => true
  | .probeEnd l => decide (l < 4096)
  | .probeUnresolvedTimeout l => decide (l < 4096)
  | .feedbackStalled l => decide (l < 4096)
  | .switchWaitExpiry x => decide (x < 16384)
  | .refreshLimitExpiry k => decide (k / 1048576 = 4) || decide (k / 1048576 = 7)
  | .refreshRetry y => decide (y < 16384)
  | .rtcpReportSend l => decide (l < 4096)
  | .ccfbFeedbackSend l => decide (l < 4096)
  | .conservationAudit _ => true
  | .mixPeriodBoundary c _ => decide (c < 1024)
  | .jbDepthAdapt x => decide (x < 16384)
  | .audioFrontJob k _ _ => (k / 1048576 == 3 && decide (k % 1048576 < 4096)) || (k / 1048576 == 4 && decide (k % 1048576 < 16384))
  | .rankingJob c _ => decide (c < 1024)
  | .mixJob c _ => decide (c < 1024)
  | .backJob l _ => decide (l < 4096)
  | .backJobAbandon l => decide (l < 4096)
  | .tagMissingTimeout l => decide (l < 4096)
  | .aes67PacketSend x => decide (x < 16384)
  | .dtmfEndTimeout x => decide (x < 16384)
  | .frameInstant r => decide (r < 13)
  | .readinessCheck y => decide (y < 512)
  | .compositionStart c => decide (c < 36)
  | .bandHandoff y => decide (y < 512)
  | .compositionComplete y => decide (y < 512)
  | .enginePick e => decide (e < 16)
  | .decoderCredit x => decide (x < 16384)
  | .decodeFrameComplete e _ => decide (e < 16)
  | .syncWaitRefresh x => decide (x < 16384)
  | .videoHoldExpiry x => decide (x < 16384)
  | .encodePictureComplete e _ => decide (e < 16)
  | .engineWatchdogExpiry e => decide (e < 16)
  | .engineResetEnd e => decide (e < 16)
  | .gateEntryChange p => decide (p < 8)
  | .gateCycleBoundary p => decide (p < 8)
  | .gateListActive p => decide (p < 8)
  | .displayVsync _ => true
  | .ppsOutEdge => true
  | .ppsInStamp => true
  | .refLost input => decide (input < 2)
  | .holdoverEntry _ => true
  | .holdoverSteer _ => true
  | .firmwareServoUpdate _ _ _ => true
  | .ethFrameReceive p _ _ _ => decide (p < 8)
  | .previousKeyErase l => decide (l < 4096)
  | .exceptionDelivery p => decide (p ≤ 256)
  | .flowControlFrameReceive p _ _ _ => decide (p < 8)
  | .pauseHoldExpiry p c => decide (p < 8) && decide (c < 8)
  | .linkUp p => decide (p < 8)
  | .linkDown p => decide (p < 8)
  | .pacerRelease q => decide (q < 32768)
  | .hostLimiterRelease p => decide (p < 256)
  | .classPick p _ => decide (p < 8)
  | .txStampDelivery p => decide (p < 8)
  | .heldPushRetry q => decide (q < 32768)
  | .rxHoldExpiry p => decide (p < 8)
  | .pfcRepeat p r => decide (p < 8) && decide (r < 8)
  | .spillMoveComplete q => decide (q < 32768)
  | .queueFlushApply q => decide (q < 32768)
  | .qgroupEventWindow g => decide (g < 256)
  | .qxoffMinExpiry n => decide (n < 8)
  | .audioFrameEdge p _ => decide (8 ≤ p) && decide (p ≤ 19)
  | .aes3CsBlock p _ _ => p == 16 || p == 17
  | .aes3NonaudioEnd p => p == 16 || p == 17
  | .portClockLoss p => decide (8 ≤ p) && decide (p ≤ 19)
  | .portHoldFrame p => decide (8 ≤ p) && decide (p ≤ 19)
  | .portRateMeasure p r => decide (8 ≤ p) && decide (p ≤ 19) && decide (r < 2 ^ 32)
  | .planeRampEnd l side => decide (l < 4096) && decide (side < 2)
  | .hpdRise _ => true
  | .hpdFall => true
  | .displayTrainingDone _ => true
  | .dramRequestIssue ch b _ => decide (ch < 8) && decide (b < 2)
  | .dramReadResponse ch b _ _ _ _ => decide (ch < 8) && decide (b < 2)
  | .dramCommandTimeout ch b _ => decide (ch < 8) && decide (b < 2)
  | .nocTimeout _ _ _ => true
  | .dramRefresh ch rank => decide (ch < 8) && decide (rank < 2)
  | .dramTempPoll ch rank _ _ _ => decide (ch < 8) && decide (rank < 2)
  | .dqsDriftCheck ch lane _ => decide (ch < 8) && decide (lane < 64)
  | .retrainSlice ch rank _ => decide (ch < 8) && decide (rank < 2)
  | .patrolScrub _ _ _ => true
  | .powerDownEntry ch rank => decide (ch < 8) && decide (rank < 2)
  | .selfRefreshEntry ch => decide (ch < 8)
  | .extentZeroingComplete _ => true
  | .doorbellWrite f _ _ => decide (f < 256)
  | .ackWrite f _ _ => decide (f < 256)
  | .commandAreaWrite f _ off data => decide (f < 256) && decide (off + data.length ≤ 2048)
  | .mailboxServiceTimeout f _ => decide (f < 256)
  | .hostIfaceWrite f _ => decide (f < 256)
  | .funcStatusClear f _ => decide (f < 256)
  | .registerWrite f off _ => decide (f < 256) && decide (off < 65536)
  | .ringTailWrite f k _ => decide (f < 256) && decide (k < 64)
  | .ringEntryExecute f k _ _ => decide (f < 256) && decide (k < 64)
  | .headWriteback f k => decide (f < 256) && decide (k < 64)
  | .eqHeadWrite f q _ => decide (f < 256) && decide (q < 64)
  | .eventBacklogDrain f => decide (f < 256)
  | .coalesceTimeout f q => decide (f < 256) && decide (q < 64)
  | .msixUnmask f v => decide (f < 256) && decide (v < if f % 64 = 0 then 134 else 6)
  | .fenceWrite f n _ => decide (f < 256) && decide (n < 256)
  | .fenceAddWrite f n _ => decide (f < 256) && decide (n < 256)
  | .excHeadWrite f _ => decide (f < 256)
  | .htxTailWrite f _ => decide (f < 256)
  | .texHeadWrite f _ => decide (f < 256)
  | .ttxTailWrite f _ => decide (f < 256)
  | .hostTxFetch f _ _ => decide (f < 256)
  | .timeTransmitFetch f _ _ => decide (f < 256)
  | .functionLevelReset f => decide (f < 256)
  | .hostPortReset p _ => decide (p < 4)
  | .configRequest f _ => decide (f < nf)
  | .ownerTransferExpiry => true
  | .nop src => src.wf
  | .identify src => src.wf
  | .ringCreate src => src.wf
  | .ringDelete src => src.wf
  | .ringRestart src => src.wf
  | .eqCreate src => src.wf
  | .eqDelete src => src.wf
  | .eventRoute src => src.wf
  | .hostRingCreate src => src.wf
  | .hostRingDelete src => src.wf
  | .dmaWindowAdd src => src.wf
  | .dmaWindowRemove src => src.wf
  | .partitionCreate src => src.wf
  | .partitionModify src => src.wf
  | .partitionDelete src => src.wf
  | .partitionRead src => src.wf
  | .functionAssign src => src.wf
  | .ownerTransfer src => src.wf
  | .ownerAccept src => src.wf
  | .memSets src => src.wf
  | .memKeyInstall src => src.wf
  | .memTimers src => src.wf
  | .spillConfig src => src.wf
  | .kernelCores src => src.wf
  | .timeGet src => src.wf
  | .timeConfig src => src.wf
  | .timeSet src => src.wf
  | .timeAdjFreq src => src.wf
  | .timeAdjPhase src => src.wf
  | .portTimeCorr src => src.wf
  | .ppsConfig src => src.wf
  | .utcOffsetSet src => src.wf
  | .portConfig src => src.wf
  | .portRead src => src.wf
  | .portSlots src => src.wf
  | .audioClock src => src.wf
  | .aes3Read src => src.wf
  | .aes3OutStatus src => src.wf
  | .kerfPortConfig src => src.wf
  | .gateListSet src _ => src.wf
  | .gateListRead src => src.wf
  | .qxoffConfig src => src.wf
  | .displayConfig src => src.wf
  | .displayEdid src => src.wf
  | .macFilterAdd src => src.wf
  | .macFilterRemove src => src.wf
  | .addressAdd src => src.wf
  | .addressRemove src => src.wf
  | .dscpTableSet src => src.wf
  | .conferenceCreate src => src.wf
  | .conferenceModify src => src.wf
  | .conferenceActivate src => src.wf
  | .conferenceHold src => src.wf
  | .conferenceDelete src => src.wf
  | .conferenceRead src => src.wf
  | .legCreate src => src.wf
  | .legModify src => src.wf
  | .legActivate src => src.wf
  | .legHold src => src.wf
  | .legDelete src => src.wf
  | .legRead src => src.wf
  | .streamCreate src => src.wf
  | .streamModify src => src.wf
  | .streamActivate src => src.wf
  | .streamHold src => src.wf
  | .streamDelete src => src.wf
  | .streamRead src => src.wf
  | .layoutCreate src => src.wf
  | .layoutModify src => src.wf
  | .layoutActivate src => src.wf
  | .layoutHold src => src.wf
  | .layoutDelete src => src.wf
  | .layoutRead src => src.wf
  | .layerCreate src => src.wf
  | .layerModify src => src.wf
  | .layerActivate src => src.wf
  | .layerHold src => src.wf
  | .layerDelete src => src.wf
  | .layerRead src => src.wf
  | .rungCreate src => src.wf
  | .rungModify src => src.wf
  | .rungActivate src => src.wf
  | .rungHold src => src.wf
  | .rungDelete src => src.wf
  | .rungRead src => src.wf
  | .keyInstall src => src.wf
  | .governorConfig src => src.wf
  | .governorRead src => src.wf
  | .decoderRead src => src.wf
  | .policerConfig src => src.wf
  | .coefLoad src _ => src.wf
  | .coefUnload src => src.wf
  | .layerFlip src => src.wf
  | .rungRefresh src => src.wf
  | .rungKey src => src.wf
  | .surfaceCreate src => src.wf
  | .surfaceDelete src => src.wf
  | .surfaceInfo src => src.wf
  | .surfaceWrite src _ => src.wf
  | .surfaceRead src => src.wf
  | .fenceCreate src => src.wf
  | .fenceDelete src => src.wf
  | .fenceSignal src => src.wf
  | .audioRead src => src.wf
  | .mixRead src => src.wf
  | .hrtfLoad src _ => src.wf
  | .hrtfUnload src => src.wf
  | .playClip src => src.wf
  | .clipStop src => src.wf
  | .dtmfSend src => src.wf
  | .planeStop src => src.wf
  | .planeLoad src _ => src.wf
  | .planeStart src => src.wf
  | .planeRead src => src.wf
  | .kernelLoad src _ => src.wf
  | .kernelUnload src => src.wf
  | .kernelRead src => src.wf
  | .kernelResume src => src.wf
  | .statsRead src => src.wf
  | .queueRead src => src.wf
  | .queueConfig src => src.wf
  | .queueFlush src => src.wf
  | .qgroupSet src => src.wf
  | .qgroupConfig src => src.wf
  | .qgroupRead src => src.wf
  | .qgroupClear src => src.wf
  | .histConfig src => src.wf
  | .histRead src => src.wf
  | .battenAudit src => src.wf
  | .memStatus src => src.wf
  | .memLogRead src => src.wf
  | .memLogClear src => src.wf
  | .auditRead src => src.wf
  | .healthRead src => src.wf
  | .faultAck src => src.wf
  | .fwInfo src => src.wf
  | .fwUpdateBegin src => src.wf
  | .fwUpdateData src _ => src.wf
  | .fwUpdateCommit src => src.wf
  | .fwActivate src => src.wf
  | .debugChallenge src => src.wf
  | .debugUnlock src => src.wf
  | .debugChallengeExpiry => true
  | .activationReset _ => true
  | .flashOperationComplete _ => true
  | .holdupSample _ => true
  | .storeRetry => true
  | .powerFail => true
  | .powerRestore => true
  | .porstFall => true
  | .porstRise _ => true
  | .bootStore => true
  | .firmwareHeartbeat => true
  | .clampHeartbeat => true
  | .benchWatchdogExpiry => true
  | .fwRestarted => true
  | .sequencerAloneExpiry => true
  | .deviceWatchdogExpiry => true
  | .deviceRecovered _ => true
  | .firmwareTaskTimeout _ => true
  | .dspWatchdogExpiry c => decide (c < 192)
  | .clockMonitorFault d _ => decide (d ≤ 17)
  | .voltageMonitorFault rail _ => decide (rail ≤ 8)
  | .avsReadbackCheck _ => true
  | .clampLockstepMismatch => true
  | .junctionSensorSample ts => ts.length == 16
  | .marginPlanRun _ _ _ _ => true
  | .dailyHistoryStore => true
  | .pmbusTelemetryPoll _ => true
  | .page _ _ => true
  | .state => true
  | .ident => true
  | .faults => true
  | .bootLog => true
  | .temps => true
  | .smbusAlertResponse => true
  | .jtagAccess _ => true
  | .kernelOverrun c => decide (c < 192)
  | .kernelDmaComplete c _ _ => decide (c < 192)
  | .coreInterrupt c _ => decide (c < 192)
  | .slotNop c => decide (c < 192)
  | .add c => decide (c < 192)
  | .sub c => decide (c < 192)
  | .addi c => decide (c < 192)
  | .neg c => decide (c < 192)
  | .abs c => decide (c < 192)
  | .min c => decide (c < 192)
  | .max c => decide (c < 192)
  | .and c => decide (c < 192)
  | .or c => decide (c < 192)
  | .xor c => decide (c < 192)
  | .shli c => decide (c < 192)
  | .shri c => decide (c < 192)
  | .shle c => decide (c < 192)
  | .mul c => decide (c < 192)
  | .mac c => decide (c < 192)
  | .msu c => decide (c < 192)
  | .clra c => decide (c < 192)
  | .lda c => decide (c < 192)
  | .adda c => decide (c < 192)
  | .ext c => decide (c < 192)
  | .norm c => decide (c < 192)
  | .expb c => decide (c < 192)
  | .cmp c => decide (c < 192)
  | .sel c => decide (c < 192)
  | .mov c => decide (c < 192)
  | .pack c => decide (c < 192)
  | .rdsr c => decide (c < 192)
  | .wrsr c => decide (c < 192)
  | .maxi c => decide (c < 192)
  | .mini c => decide (c < 192)
  | .rds c => decide (c < 192)
  | .movi c => decide (c < 192)
  | .ld c _ => decide (c < 192)
  | .ld2 c _ => decide (c < 192)
  | .st c => decide (c < 192)
  | .ldw c _ => decide (c < 192)
  | .stw c => decide (c < 192)
  | .br c => decide (c < 192)
  | .brc c => decide (c < 192)
  | .call c => decide (c < 192)
  | .ret c => decide (c < 192)
  | .rep c => decide (c < 192)
  | .repr c => decide (c < 192)
  | .setp c => decide (c < 192)
  | .addp c => decide (c < 192)
  | .setm c => decide (c < 192)
  | .setcb c => decide (c < 192)
  | .movp c => decide (c < 192)
  | .movd c => decide (c < 192)
  | .dmaq c => decide (c < 192)
  | .dmawait c => decide (c < 192)
  | .srchi c => decide (c < 192)
  | .rdcyc c => decide (c < 192)
  | .kret c _ => decide (c < 192)
  | .firmwarePtpMessage p _ => decide (p < 8)
  | .monitorFaultEnd rail _ => decide (rail ≤ 8)
  | .mclkAligned => true

end Sys2Proof
end

