-- ==== Sys2Proof/Safety.lean ====
section
/-!
DEFINITION. What counts as a safe step of the block, and the terms the statements use: a Uarek command that is next to
be served, how its service ends, and the state that a device in reset keeps.
-/

namespace Sys2Proof

open Sys2Proof.Machine

/-- The step from `s` answers a next state that satisfies `P`; a fault (a part that does not exist) and a refusal are not
safe steps. -/
def safeStep (P : State → Prop) (s : State) : Prop := ∃ t, step s = .next t ∧ P t

/-- The Uarek command `op` of function `F` with payload `p` is the next that firmware serves from `src`: firmware serves
(R693, R694), the command is PENDING in the mailbox and its turn has come (R136), or it is the entry that the rotation
takes (R702, R706) and the transport does not refuse it (R693, R699); and the checks that all commands share pass: interface
version (R696), reserved bytes (R728), issuer (R729). -/
def upNext (op : Nat) (src : Src) (F : Nat) (p : Bytes) (s : State) : Bool :=
  !(halted s) && serving s && decide (F < 256) &&
  (match cmdRow op with
   | some r => (lowest (issuerChecks s F op r.iss p)).isNone
   | none => false) &&
  (match src with
   | .mbox f m => f == F && replayOk s F m && (getMb s F m).state == .pending && (getMb s F m).op == op
       && (getMb s F m).pay == p
   | .ring f k e => f == F && decide (k < 64) && ringTurn s F k && le e 0 2 == op
       && (ringRefusal s F e).isNone
       && p == ((e.drop 8).take 56).take (((cmdRow op).map fun r => r.wantLen ((e.drop 8).take 56)).getD 0))

/-- How the service of a command from `src` ends with status `st`, result `out` and handle `h`, once its effect has made `u`:
a mailbox becomes DONE (R691), a ring's HEAD passes the entry (R703). -/
def finish (F : Nat) (src : Src) (st : Status) (out : Bytes) (h : Nat) (u : State) : State :=
  match src with
  | .mbox _ m => completeMb F m st out u
  | .ring _ k e => completeRing F k e st h u

/-- The commands that act on the always-on parts and the pins, whether or not the other domains stand still: the timer, power
and reset, the flash operation in progress, the monitors, the host ports' resets and configuration space, SMBus and JTAG. -/
def alwaysOn : Instr → Bool
  | .phcTick _ | .flashOperationComplete _ | .powerFail | .powerRestore | .porstFall | .porstRise _
  | .clockMonitorFault _ _ | .voltageMonitorFault _ _ | .monitorFaultEnd _ _ | .junctionSensorSample _
  | .hostPortReset _ _ | .configRequest _ _ | .page _ _ | .state | .ident | .faults | .bootLog | .temps
  | .smbusAlertResponse | .jtagAccess _ => true
  | _ => false

/-- What a device in reset holds (R794): everything is as after reset, but for the queue of waiting commands, the free values'
counter, the flash and what it records, the levels of the PERST_N balls and the latest answers on the configuration,
SMBus and JTAG interfaces. -/
def asInReset (s : State) : Prop :=
  s = { State.reset with
    pending := s.pending
    free := s.free
    host := { State.reset.host with perst := s.host.perst, cfg := s.host.cfg }
    boot := { State.reset.boot with
      flash := s.boot.flash, trainRec := s.boot.trainRec, marginRec := s.boot.marginRec, logPos := s.boot.logPos
      copies := s.boot.copies, smb := s.boot.smb, ara := s.boot.ara, jtag := s.boot.jtag } }

/-- While PORST_N is low the device is as in reset. -/
def HeldInReset (s : State) : Prop := s.boot.porstLow = true → asInReset s

/-! ## The life-cycle commands (R743) -/

/-- The CREATE command of an object type: 2 conference, 3 leg, 4 stream, 5 layout, 6 layer, 7 rung. -/
def createOf : Nat → Src → Instr
  | 2 => .conferenceCreate
  | 3 => .legCreate
  | 4 => .streamCreate
  | 5 => .layoutCreate
  | 6 => .layerCreate
  | _ => .rungCreate

/-- The MODIFY command of an object type. -/
def modifyOf : Nat → Src → Instr
  | 2 => .conferenceModify
  | 3 => .legModify
  | 4 => .streamModify
  | 5 => .layoutModify
  | 6 => .layerModify
  | _ => .rungModify

/-- The ACTIVATE command of an object type. -/
def activateOf : Nat → Src → Instr
  | 2 => .conferenceActivate
  | 3 => .legActivate
  | 4 => .streamActivate
  | 5 => .layoutActivate
  | 6 => .layerActivate
  | _ => .rungActivate

/-- The HOLD command of an object type. -/
def holdOf : Nat → Src → Instr
  | 2 => .conferenceHold
  | 3 => .legHold
  | 4 => .streamHold
  | 5 => .layoutHold
  | 6 => .layerHold
  | _ => .rungHold

/-- The DELETE command of an object type. -/
def deleteOf : Nat → Src → Instr
  | 2 => .conferenceDelete
  | 3 => .legDelete
  | 4 => .streamDelete
  | 5 => .layoutDelete
  | 6 => .layerDelete
  | _ => .rungDelete

/-- The READ command of an object type. -/
def readOf : Nat → Src → Instr
  | 2 => .conferenceRead
  | 3 => .legRead
  | 4 => .streamRead
  | 5 => .layoutRead
  | 6 => .layerRead
  | _ => .rungRead

/-- The opcode of life-cycle command `n` of an object type: CREATE 0 to READ 5 (Table 15-15). -/
def lifeOp (ty n : Nat) : Nat := 256 * (ty + 2) + n

/-! ## Slots of a kernel's bundles (R483 to R497) -/

/-- Slot `n` with word `w` is the next that core `c` issues: a kernel runs there, below its LIMIT at a bundle boundary (R516), and
the bundle has passed the checks of R520 and does not stall (R490). -/
def issues (s : State) (c n w : Nat) : Bool :=
  let k := getCore s c
  k.slot == n &&
  match k.run with
  | none => false
  | some v =>
    match runCode s v with
    | none => false
    | some (code, tbl) =>
      (n != 0 || (!(k.rep.isNone && decide (v.limit ≤ k.cyc.toNat)) && (bundleFault (isGauge c) k v code tbl).isNone)) &&
      match bundleAt code k.pc with
      | none => false
      | some b => !(n == 0 && stalls k b) && b.at_ n == w

/-- The core as its next slot sees it: the first slot of a bundle makes the bundle after it the next one. -/
def slotStart (k : Core) : Core := if k.slot = 0 then { k with next := k.pc + 1, xtra := 0 } else k

/-- An exact result in `n` bits (R491): clamped with SAT, otherwise its low bits as a signed number. -/
def inBits (n : Nat) (sat : Bool) (e : Int) : Int :=
  if sat then max (-(2 ^ (n - 1))) (min (2 ^ (n - 1) - 1) e) else signed n (wrap n e)

/-- Whether SAT changes an exact result, which sets sr.SAT (R491). -/
def clamps (n : Nat) (sat : Bool) (e : Int) : Bool := sat && (decide (e < -(2 ^ (n - 1))) || decide (2 ^ (n - 1) - 1 < e))

/-- `u` is the core `k` with one more result on its way, and with sr.SAT when `on`. -/
def AddsResult (k u : Core) (lat : Nat) (r : DspWr) (on : Bool) : Prop :=
  u = { k with wr := k.wr ++ (lat, r) :: (if on then [(lat, .sat)] else []) }

/-- An operation on the lanes of sa and sb, or on their 40-bit values when WIDE (R485, R486). -/
def LaneOp (w lat : Nat) (f : Int → Int → Int) (k u : Core) : Prop :=
  let a := k.rd (aSa w)
  let b := k.rd (aSb w)
  ∃ v on, AddsResult k u lat (.d (aDst w) v) on ∧
    (aWide w = true → wide v = inBits 40 (aSat w) (f (wide a) (wide b)) ∧ on = clamps 40 (aSat w) (f (wide a) (wide b))) ∧
    (aWide w = false → (∀ h, laneOf v h = inBits 20 (aSat w) (f (laneOf a h) (laneOf b h))) ∧
      on = (clamps 20 (aSat w) (f (laneOf a false) (laneOf b false)) || clamps 20 (aSat w) (f (laneOf a true) (laneOf b true))))

/-- An operation whose two lanes are `e0` and `e1` in 48 bits of an accumulator. -/
def AccOp (w lat : Nat) (e0 e1 : Int) (k u : Core) : Prop :=
  ∃ v0 v1 on, AddsResult k u lat (.acc (aDst w % 8) v0 v1) on ∧ signed 48 v0.toNat = inBits 48 (aSat w) e0 ∧
    signed 48 v1.toNat = inBits 48 (aSat w) e1 ∧ on = (clamps 48 (aSat w) e0 || clamps 48 (aSat w) e1)

/-- The instance with key `i` is in PASS_THROUGH with a cause (R521, R524). -/
def Passes (t : State) (i cause : Nat) : Prop := ∃ x, getInst t i = some x ∧ x.state = 2 ∧ x.cause = cause

end Sys2Proof
end

