-- ==== Sys2Proof/Certificates/Slice0/Obligations.lean ====
section
/-!
DEFINITION. The statements for the provers. "Next t" in a statement means that exec answers the next state t.
-/

section

open Sys2Proof Sys2Proof.Machine

/-- For every state: with the command c at the front of the queue, step is exec of c on the state with the queue's rest; with
an empty queue step answers the state unchanged (the idle step is the model's choice, log entry 3). -/
def Obligations.StepRunsTheFrontCommand : Prop :=
  (∀ (s : State) (c : Instr) (rest : List Instr),
    step { s with pending := c :: rest } = exec c { s with pending := rest }) ∧
  ∀ s : State, s.pending = [] → step s = .next s

/-- For every command and every state: when the part the command names exists, exec answers a next state; otherwise it may
also fault with noSuchPart, and it never refuses. Whatever next state it answers, the queue of waiting commands is as before. -/
def Obligations.EveryCommandRunsAndKeepsTheQueue : Prop :=
  ∀ (c : Instr) (s : State),
    (c.wf (nFuncs s) = true → ∃ t, exec c s = .next t) ∧
    ((∃ t, exec c s = .next t ∧ t.pending = s.pending) ∨ exec c s = .fault .noSuchPart)

/-- For every state in which PORST_N is low, store mode holds or THERMTRIP_N is asserted, and every command that does not act
on the always-on parts or the pins (alwaysOn): a next state is the state itself. That commands to the stopped domains change
nothing is the model's reading of R790, R794 and R848 (log entry 5). -/
def Obligations.HaltedDeviceStandsStill : Prop :=
  ∀ (c : Instr) (s t : State), halted s = true → alwaysOn c = false → exec c s = .next t → t = s

/-- For every state that is as in reset whenever its PORST_N is low, and every step from it: the next state is so too. In
reset, everything but the flash with what it records, the queue, the free values' counter, the levels of the PERST_N balls and
the latest answers on the management interfaces is as State.reset says. Rests on the model's reset values (log entries 1
and 5). -/
def Obligations.EveryStepKeepsTheDeviceInReset : Prop :=
  ∀ s t : State, HeldInReset s → step s = .next t → HeldInReset t

/-- State.reset satisfies HeldInReset, with PORST_N low, DEVICE_STATE NOT_READY, FAULT_N asserted and no command waiting. -/
def Obligations.ResetIsHeldInReset : Prop :=
  HeldInReset State.reset ∧ State.reset.boot.porstLow = true ∧ State.reset.host.dev = .notReady ∧
    faultN State.reset = true ∧ State.reset.pending = []

/-- For every state whose flash lists its bytes with addresses strictly rising and none equal to the erased byte 0xFF, and every
step from it, the flash of the next state is in that form. The form of the list is the model's own. -/
def Obligations.EveryStepKeepsTheFlashCanonical : Prop :=
  ∀ s t : State, Mem.wf erased s.boot.flash = true → step s = .next t → Mem.wf erased t.boot.flash = true

/-- For every command but FLASH_OPERATION_COMPLETE, PORST_FALL (which may cut an operation short) and PORST_RISE (which takes in
what the board has programmed): the flash of a next state is the flash before. -/
def Obligations.OnlyFlashOperationsChangeTheFlash : Prop :=
  ∀ (c : Instr) (s t : State),
    (∀ got, c ≠ .flashOperationComplete got) → c ≠ .porstFall → (∀ env, c ≠ .porstRise env) →
    exec c s = .next t → t.boot.flash = s.boot.flash

/-- For CONFERENCE_CREATE, LEG_CREATE, STREAM_CREATE, LAYOUT_CREATE, LAYER_CREATE and RUNG_CREATE (object types 2 to 7), next to be
served, whose entries, flag bytes, parent and trial object pass the checks of their type: the object of the lowest free index i comes
to be, IDLE, with the generation after the one last used there, the partition of its parent, the class and critical mark that the
command and parent give, and nothing waiting; the handle returned names it. No other object, no port, queue, memory, audio or
timeline state changes. -/
def Obligations.CreateMakesAnIdleObject : Prop :=
  ∀ (s : State) (F ty i pt par : Nat) (src : Src) (p : Bytes), 2 ≤ ty → ty ≤ 7 →
    upNext (lifeOp ty 0) src F p s = true → parentOf F ty (le p 0 4) s = .ok (pt, par) →
    lowestFree ((objKeys s ty).map fun k => k % 1048576) 0 (typeMax ty) = some i →
    let es := if ty = 6 then [] else entries p 8 (le p 6 2)
    let tab := applyEntries [] es
    let k := okey ty i
    let g := nextGen (Tab.get s.obj.gens k)
    let t0 := future s
    let fixed := if ty = 2 then false else if 6 ≤ ty then isFixed t0 (hKey par) else le p 4 1 == 1
    let t := addObject k g pt par fixed (bitOf (le p 5 1) 0) (newFields ty (hKey par) tab t0) (if ty = 6 then le p 8 64 else 0) t0
    lowest (entryChecks es (holdsKey ty (fld tab (fk 0x04 0 0) == 1) (fld tab (fk 0x04 1 0) == 1))) = none →
    le p 5 1 < 2 → (ty = 2 ∨ 6 ≤ ty ∨ le p 4 1 < 2) → (ty = 2 ∨ stateOf s (hKey par) ≠ .draining) →
    lowest (typeChecks t0 t k) = none → (bitOf (le p 5 1) 0 = true → fixed = true) →
    ∃ u, exec (createOf ty src) s =
        .next (keep s (finish F src .ok (toLe 4 (mkHandle ty g i) ++ zeros 4) (mkHandle ty g i) u)) ∧
      getObj u k = some { gen := g, part := pt, parent := par, fixed := fixed, crit := bitOf (le p 5 1) 0
                          fields := newFields ty (hKey par) tab t0, born := s.obj.bornSeq } ∧
      (∀ k', k' ≠ k → getObj u k' = getObj s k') ∧ u.host = s.host ∧ u.eth = s.eth ∧ u.batten = s.batten ∧ u.mem = s.mem ∧
      u.aud = s.aud ∧ u.time = s.time ∧ u.dsp = s.dsp ∧ u.vid = s.vid ∧ u.dep = s.dep

/-- For the HOLD, DELETE and READ commands of conferences, legs, streams, layouts, layers and rungs (object types 2 to 7), next to be
served, naming an object k that the issuer sees, next states in full. HOLD of an object that will be ACTIVE queues its change to HELD;
of any other, BAD_STATE and no effect. DELETE of an object without children makes it DRAINING, with nothing waiting but its
end; of one with children, NOT_EMPTY and no effect; of a DRAINING one, BAD_STATE. READ changes nothing and returns the 32 bytes
of Table 15-13 first. -/
def Obligations.HoldDeleteAndRead : Prop :=
  ∀ (s : State) (F ty k : Nat) (src : Src) (p : Bytes) (o : Obj), 2 ≤ ty → ty ≤ 7 →
    resolve s F ty (le p 0 4) = some k → getObj s k = some o →
    (upNext (lifeOp ty 3) src F p s = true → o.willBe = .active →
      exec (holdOf ty src) s = .next (keep s (finish F src .ok [] 0
        (setObjs s (Tab.set s.obj.objs k { o with pend := o.pend ++ [{ act := .state .held, due := dueOf s k }] }))))) ∧
    (upNext (lifeOp ty 3) src F p s = true → o.willBe ≠ .active →
      exec (holdOf ty src) s = .next (keep s (finish F src .badState [] 0 s))) ∧
    (upNext (lifeOp ty 4) src F p s = true → o.state ≠ .draining → children s k = [] → o.resvNew = [] →
      exec (deleteOf ty src) s = .next (keep s (finish F src .ok [] 0
        (setObjs s (Tab.set s.obj.objs k { o with state := .draining, pend := [{ act := .free, due := dueOf s k }] }))))) ∧
    (upNext (lifeOp ty 4) src F p s = true → o.state ≠ .draining → children s k ≠ [] →
      exec (deleteOf ty src) s = .next (keep s (finish F src .notEmpty [] 0 s))) ∧
    (upNext (lifeOp ty 4) src F p s = true → o.state = .draining →
      exec (deleteOf ty src) s = .next (keep s (finish F src .badState [] 0 s))) ∧
    (upNext (lifeOp ty 5) src F p s = true →
      ∃ out, exec (readOf ty src) s = .next (keep s (finish F src .ok out 0 s)) ∧
        out.take 32 = toLe 4 (mkHandle (k / 1048576) o.gen (k % 1048576)) ++ toLe 1 o.state.code ++ toLe 1 (b2n o.fixed)
          ++ toLe 1 (b2n o.crit + 2 * b2n o.revoked) ++ zeros 1 ++ toLe 8 (if o.fixed then o.bound else 0)
          ++ toLe 8 o.migr ++ toLe 8 o.miss)

/-- For the ACTIVATE commands of conferences, legs, streams, layouts, layers and rungs (object types 2 to 7), next to be served, naming
an object k whose state once everything accepted is in effect is IDLE, HELD or FAULTED and that is not revoked; surfaces of a
first activation are created on s1. A floating object with no fixed leg to check again: its change to ACTIVE waits for its boundary. A fixed IDLE one
that admission accepts keeps what admission placed on s2 beside the old reservation, and its change and bound wait; one that
admission refuses completes with ADMISSION_REFUSED and no
other effect but on the counter of free values (log entry 6). An ACTIVE or DRAINING object gives BAD_STATE. -/
def Obligations.ActivateAsksAdmission : Prop :=
  ∀ (s s1 : State) (F ty k : Nat) (src : Src) (p : Bytes) (o : Obj), 2 ≤ ty → ty ≤ 7 →
    upNext (lifeOp ty 2) src F p s = true → resolve s F ty (le p 0 4) = some k → getObj (future s) k = some o →
    o.revoked = false →
    ((o.state = .active ∨ o.state = .draining) →
      exec (activateOf ty src) s = .next (keep s (finish F src .badState [] 0 s))) ∧
    ((ty = 4 → isOut (future s) k = true → ofld (future s) k (fk 0x04 3 0) ≠ noneV) →
      (ty = 3 → ringOutside (future s) k = none) → allotAs k { o with fixed := o.fixed } s = .ok s1 →
      (ty = 4 → isVideo (future s1) k = true ∨ hasResv (future s1) (legOfStream (future s1) k) = false) →
      (o.fixed = false → (o.state = .idle ∨ o.state = .held ∨ o.state = .faulted) →
        exec (activateOf ty src) s =
          .next (keep s (finish F src .ok (zeros 16) 0 (queueAct k (.state .active) (dueOf s k) s1)))) ∧
      (∀ s2, o.fixed = true → o.state = .idle → admitInto [k] (future s1) s1 = .ok s2 →
        exec (activateOf ty src) s = .next (keep s (finish F src .ok (grantBytes (future s1) s2 k) 0
          (queueAct k (.bound (boundOf (future s1) k)) (dueOf s k) (queueAct k (.state .active) (dueOf s k) s2))))) ∧
      (∀ e, o.fixed = true → o.state = .idle → admitInto [k] (future s1) s1 = .error e →
        exec (activateOf ty src) s = .next (keep s (finish F src .admissionRefused e.bytes 0 { s with free := s.free + 1 }))))

/-- For the MODIFY commands of conferences, legs, streams, layouts, layers and rungs (object types 2 to 7), next to be served, naming
an object k that, once everything accepted is in effect, is floating, not revoked and neither ACTIVE nor DRAINING: when entries, flags and the trial object pass the
checks of the type, name no field fixed at creation, keep the class and name no critical mark, the change is accepted and waits for the object's
boundary. A layer's descriptor waits so. The object's header, fields and state are those before. -/
def Obligations.ModifyWaitsForTheBoundary : Prop :=
  ∀ (s : State) (F ty k : Nat) (src : Src) (p : Bytes) (o : Obj), 2 ≤ ty → ty ≤ 7 →
    upNext (lifeOp ty 1) src F p s = true → resolve s F ty (le p 0 4) = some k → getObj (future s) k = some o →
    o.revoked = false → o.fixed = false → o.state ≠ .active → o.state ≠ .draining →
    let ents := if ty = 6 then [] else entries p 8 (le p 6 2)
    let es := if ty = 7 then rungEntries (applyEntries [] ents) else applyEntries [] ents
    let zero := bitOf (le p 5 1) 2
    let t1 := updObj (future s) k fun o => o.act (.modify es none none zero)
    let t := if ty = 6 then setLayer t1 k { getLayer t1 k with desc := le p 8 64 } else t1
    lowest (entryChecks ents (holdsKey ty (isOut s k) (isVideo s k))) = none → le p 5 1 < 8 → bitOf (le p 5 1) 1 = false →
    (∀ e ∈ ents, ((fieldSpec e.key).map (·.fixed)).getD false = false) → (3 ≤ ty → ty ≤ 5 → le p 4 1 = 0xFF ∨ le p 4 1 = 0) →
    lowest (typeChecks (future s) t k) = none → lowest (critChecks t [k]) = none → recheck t k es = [] →
    exec (modifyOf ty src) s = .next (keep s (finish F src .ok (zeros 16) 0
      (if ty = 6 then queueAct k (.desc (le p 8 64)) 0 s else queueModify k es none none zero s)))

/-- For every life-cycle command but DELETE, of every object type (2 to 7), and every object k there is before: if the command answers a
next state, object k there has the same state, class, critical mark, fields, parent and bound as before; DELETE changes at most the
state of the object it names, to DRAINING. At a boundary at PHC time t, an object (but a layer) on which just the change to HELD
waits, due by t, is HELD with nothing waiting, and one on which nothing waits is settled to itself. -/
def Obligations.AcceptedChangesWait : Prop :=
  (∀ (s t : State) (ty k : Nat) (src : Src) (c : Instr) (o : Obj), 2 ≤ ty → ty ≤ 7 →
    c ∈ [createOf ty src, modifyOf ty src, activateOf ty src, holdOf ty src, readOf ty src] →
    exec c s = .next t → getObj s k = some o →
    ∃ o', getObj t k = some o' ∧ o'.state = o.state ∧ o'.fixed = o.fixed ∧ o'.crit = o.crit ∧ o'.fields = o.fields ∧
      o'.parent = o.parent ∧ o'.bound = o.bound ∧ o'.revoked = o.revoked) ∧
  (∀ (s t : State) (ty k : Nat) (src : Src) (o : Obj), 2 ≤ ty → ty ≤ 7 → exec (deleteOf ty src) s = .next t →
    getObj s k = some o →
    ∃ o', getObj t k = some o' ∧ (o'.state = o.state ∨ o'.state = .draining) ∧ o'.fields = o.fields ∧ o'.fixed = o.fixed) ∧
  (∀ (s : State) (x k d : Nat) (o : Obj), getObj s k = some o → k / 1048576 ≠ 6 →
    (o.pend = [{ act := .state .held, due := d }] → d ≤ x →
      ((getObj (settleAt x s k) k).map fun v => (v.state, v.pend)) = some (.held, [])) ∧
    (o.pend = [] → settleAt x s k = s))
/-- For each of the 13 rates num/den of Table 2-7 and every t: frame instant k lies at floor(k den 10^9 / num); the pair (k, x) that
nextFrameInstant answers has x the instant of k, x at or after t, and every earlier instant before t. -/
def Obligations.NextFrameInstantIsTheFirst : Prop :=
  ∀ r t, r < 13 →
    (∀ k, frameAt r k = k * (rateOf r).2 * 1000000000 / (rateOf r).1) ∧
    (let kx := nextFrameInstant r t
     kx.2 = frameAt r kx.1 ∧ t ≤ kx.2 ∧ ∀ k, k < kx.1 → frameAt r k < t)

/-- For every state with PORST_N high and n TIMER ticks, the next state in full is the state with n ticks more and the PHC
advanced, modulo 2^48 s, by n PHC_INCR and by a, where a has the sign of the remaining slew and the magnitude of the lesser of n
slew terms (round(SLEW_RATE × 5,368.70912) units) and what remains; the remaining slew is less by a. Nothing of the timeline
but the PHC, the ticks, the slew and the level of PPS_OUT changes; the epoch and E do not. While PORST_N is low nothing
changes (log entry 5). -/
def Obligations.PhcTicks : Prop :=
  ∀ (s : State) (n : Nat),
    (s.boot.porstLow = true → exec (.phcTick n) s = .next s) ∧
    (s.boot.porstLow = false →
      let term := ((timePrm s 4).toNat * 536870912 + 50000) / 100000
      let m : Int := ((min (n * term) s.time.slew.natAbs : Nat) : Int)
      let a : Int := if 0 ≤ s.time.slew then m else -m
      ∃ up, exec (.phcTick n) s = .next { s with time := { s.time with
        ticks := s.time.ticks + n
        phc := ((s.time.phc : Int) + n * s.time.incr + a).toNat % (2 ^ 48 * 1000000000 * 2 ^ 32)
        slew := s.time.slew - a, ppsOut := up } } ∧ (s.time.ppsOut = false → up = false) ∧
        (s.time.slew - a).natAbs + m.natAbs = s.time.slew.natAbs)

/-- For every state and correction c in ns, with the remaining correction added: a sum below STEP_THRESHOLD becomes the remaining
slew and cancels a deferred step; any other sum in a stroke that already held a step is deferred; otherwise it steps at once,
and no slew remains. A forward step moves the PHC by the sum, leaves E and the epoch number, and adds to SKIPPED_STROKES; the
next stroke boundary lies past the span. A backward step of d whole ns lowers E by d, keeps the E of the epoch before, and
increments the epoch number by one; the next boundary comes earlier in PHC time by the whole strokes in d. -/
def Obligations.CorrectionsSlewOrStep : Prop :=
  ∀ (s : State) (c : Int),
    let sum := c * 2 ^ 32 + s.time.slew + s.time.deferred.getD 0
    let thr := (timePrm s 3).toNat * 2 ^ 32
    let r := takeCorrection c s
    let T := s.time.phc / 2 ^ 32
    (sum.natAbs < thr → r = (0, setTime s { s.time with slew := sum, deferred := none })) ∧
    (thr ≤ sum.natAbs → s.time.stepped = true →
      r = (if 0 < sum then 1 else 2, setTime s { s.time with slew := 0, deferred := some sum })) ∧
    (thr ≤ sum.natAbs → s.time.stepped = false → 0 < sum → (s.time.phc : Int) + sum < 2 ^ 48 * 1000000000 * 2 ^ 32 →
      let t := r.2.time
      let T' := ((s.time.phc : Int) + sum).toNat / 2 ^ 32
      r.1 = 1 ∧ (t.phc : Int) = s.time.phc + sum ∧ t.slew = 0 ∧ t.deferred = none ∧ t.stepped = true ∧
        t.eOff = s.time.eOff ∧ t.epoch = s.time.epoch ∧ t.mclkAl = false ∧
        t.ctrs = bump s.time.ctrs .skippedStrokes (T' / 500000 - T / 500000) ∧
        (T < s.time.strokeNext → T' < t.strokeNext)) ∧
    (thr ≤ sum.natAbs → s.time.stepped = false → sum ≤ 0 → 0 ≤ (s.time.phc : Int) + sum →
      s.time.phc < 2 ^ 48 * 1000000000 * 2 ^ 32 →
      let t := r.2.time
      let d : Nat := T - ((s.time.phc : Int) + sum).toNat / 2 ^ 32
      0 < d →
      r.1 = 2 ∧ (t.phc : Int) = s.time.phc + sum ∧ t.slew = 0 ∧ t.deferred = none ∧ t.stepped = true ∧
        t.eOff = s.time.eOff - (d : Int) ∧ t.ePrev = some s.time.eOff ∧ t.epoch = (s.time.epoch + 1) % 2 ^ 32 ∧
        t.ctrs = s.time.ctrs ∧ t.strokeNext = s.time.strokeNext - d / 500000 * 500000)

/-- For every command that is next to be served, next states in full. TIME_GET returns PHC_TIME, media time, epoch number, time
state and remaining slew, and changes nothing else. TIME_CONFIG of accepted entries that keep the owner sets the parameters.
TIME_SET of the time owner takes the difference to the named time as a correction and returns it with the action; with NS of
10^9 or more it completes OUT_OF_RANGE and changes nothing; the owner function's under EXTERNAL_PPS holds SEC for the next
PPS_IN edge. TIME_ADJ_FREQ within R81's range puts the increment in force, out of it completes OUT_OF_RANGE. TIME_ADJ_PHASE
takes its signed offset. PORT_TIME_CORR writes the pair of its port and mode. PPS_CONFIG and UTC_OFFSET_SET set their values. -/
def Obligations.TimeCommands : Prop :=
  ∀ (s : State) (F : Nat) (src : Src) (p : Bytes),
    (upNext 0x0200 src F p s = true →
      ∃ out, exec (.timeGet src) s = .next (keep s (finish F src .ok out 0 s)) ∧ out.length = 48 ∧
        le out 0 4 = s.time.phc % 2 ^ 32 ∧ le out 4 4 = s.time.phc / 2 ^ 32 % 1000000000 ∧
        le out 8 6 = s.time.phc / 2 ^ 32 / 1000000000 % 2 ^ 48 ∧ le out 16 8 = mediaTime s.time ∧
        le out 24 4 = s.time.epoch % 2 ^ 32 ∧ le out 28 1 = s.time.tstate.code ∧ le out 40 8 = s.time.incr % 2 ^ 64) ∧
    (upNext 0x0201 src F p s = true →
      let es := entries p 8 (le p 6 2)
      lowest (entryChecks es fun k => fTable k == 0x0B) = none →
      (∀ e ∈ es, fRow e.key ≠ 0 ∧ fRow e.key ≠ 8) → (timeOwner s = none ∨ ∃ G, timeOwner s = some G ∧ G < nFuncs s) →
      exec (.timeConfig src) s = .next (keep s (finish F src .ok [] 0
        (setTime s { s.time with prm := applyEntries s.time.prm es })))) ∧
    (upNext 0x0202 src F p s = true → le p 8 4 < 1000000000 → timeOwner s = some F →
      let c : Int := ((le p 0 6 * 1000000000 + le p 8 4 : Nat) : Int) - (phcNs s.time : Int)
      let r := takeCorrection c s
      exec (.timeSet src) s =
        .next (keep s (finish F src .ok (toLeI 8 c ++ toLe 1 r.1 ++ zeros 7) 0 (corrected c r.2)))) ∧
    (upNext 0x0202 src F p s = true → 1000000000 ≤ le p 8 4 →
      exec (.timeSet src) s = .next (keep s (finish F src .outOfRange [] 0 s))) ∧
    (upNext 0x0202 src F p s = true → le p 8 4 < 1000000000 → timeOwner s = none →
      ∃ out, exec (.timeSet src) s =
        .next (keep s (finish F src .ok out 0 (setTime s { s.time with extSec := some (le p 0 6) })))) ∧
    (upNext 0x0203 src F p s = true → 0x13FAE147B ≤ le p 0 8 → le p 0 8 ≤ 0x14051EB85 →
      ∃ t, exec (.timeAdjFreq src) s = .next t ∧ t.time.incr = le p 0 8 ∧ t.time.tstate = .locked ∧
        t.time.phc = s.time.phc) ∧
    (upNext 0x0203 src F p s = true → (le p 0 8 < 0x13FAE147B ∨ 0x14051EB85 < le p 0 8) →
      exec (.timeAdjFreq src) s = .next (keep s (finish F src .outOfRange [] 0 s))) ∧
    (upNext 0x0204 src F p s = true →
      let c := signed 64 (le p 0 8)
      let r := takeCorrection c s
      exec (.timeAdjPhase src) s =
        .next (keep s (finish F src .ok (toLeI 8 c ++ toLe 1 r.1 ++ zeros 7) 0 (corrected c r.2)))) ∧
    (upNext 0x0205 src F p s = true → le p 0 1 < 8 → le p 1 1 < 4 →
      exec (.portTimeCorr src) s = .next (keep s (finish F src .ok [] 0 (updPort s (le p 0 1) fun e => { e with
        corr := setAt e.corr (le p 1 1) (signed 32 (le p 4 4), signed 32 (le p 8 4)) })))) ∧
    (upNext 0x0206 src F p s = true → 1000 ≤ le p 0 8 → le p 0 8 ≤ 500000000 →
      exec (.ppsConfig src) s = .next (keep s (finish F src .ok [] 0
        (setTime s { s.time with ppsWidth := le p 0 8, ppsEn := bitOf (le p 8 1) 0 })))) ∧
    (upNext 0x0207 src F p s = true →
      exec (.utcOffsetSet src) s =
        .next (keep s (finish F src .ok [] 0 (setTime s { s.time with utc := signed 16 (le p 0 2) }))))

/-- For every running state. Holdover under host ownership begins when the LOCKED state is HOLDOVER_TIMEOUT past the latest
correction and ownership, sets the state HOLDOVER and, without CLK10M, the mean increment. In CLK10M holdover the increment
follows once a second. A stopped reference is no longer valid. At a second boundary with PPS enabled and no edge within 500
ms, PPS_OUT rises; a nearer one only counts in PPS_SUPPRESSED. A PPS_IN edge marks the input valid, and under host ownership
moves no time. A firmware servo update under firmware ownership with a correction below the threshold slews it and puts
the increment in force, and the state is LOCKED. MCLK_OUT aligned again sets its status bit. Firmware that owns time sends
its PTP frame into class 7. -/
def Obligations.ReferencesAndServo : Prop :=
  ∀ s : State, halted s = false →
    (∀ F clk, timeOwner s = some F → s.time.tstate = .locked → s.time.holdLate = none → s.time.alone = false →
      max s.time.lastCorr s.time.ownedAt + nsTicks (timePrm s 5).toNat ≤ s.time.ticks →
      ∃ t, exec (.holdoverEntry clk) s = .next t ∧ t.time.tstate = .holdover ∧ t.time.holdAt = s.time.ticks ∧
        t.time.clk10m = clk ∧ t.time.phc = s.time.phc ∧
        t.time.incr = if timePrm s 6 = 1 ∧ clk = true then s.time.incr else meanIncr s) ∧
    (∀ v, s.time.tstate = .holdover → timePrm s 6 = 1 → s.time.clk10m = true → incrOk v = true →
      s.time.steerAt + tS ≤ s.time.ticks →
      ∃ t, exec (.holdoverSteer v) s = .next t ∧ t.time.incr = v ∧ t.time.steerAt = s.time.ticks ∧
        t.time.tstate = .holdover) ∧
    (∃ t, exec (.refLost 0) s = .next t ∧ t.time = { s.time with clk10m := false }) ∧
    (∃ t, exec (.refLost 1) s = .next t ∧ t.time = { s.time with ppsIn := false }) ∧
    (s.time.ppsNext * 1000000000 ≤ phcNs s.time → s.time.ppsEn = true →
      ((∀ l, s.time.ppsLast = some l → l + 500 * tMs ≤ s.time.ticks) →
        exec .ppsOutEdge s = .next (keep s (setTime s { s.time with
          ppsNext := phcNs s.time / 1000000000 + 1, ppsLast := some s.time.ticks, ppsOut := true }))) ∧
      (∀ l, s.time.ppsLast = some l → s.time.ticks < l + 500 * tMs →
        exec .ppsOutEdge s = .next (keep s (setTime s { s.time with
          ppsNext := phcNs s.time / 1000000000 + 1, ctrs := bump s.time.ctrs .ppsSuppressed })))) ∧
    (∀ F, timeOwner s = some F → ∃ t, exec .ppsInStamp s = .next t ∧ t.time = { s.time with ppsIn := true }) ∧
    (∀ off c v, timeOwner s = none → s.host.dev = .ready → timePrm s 1 ≠ 5 → incrOk v = true →
      (c * 2 ^ 32 + remaining s).natAbs < (timePrm s 3).toNat * 2 ^ 32 →
      ∃ t, exec (.firmwareServoUpdate off c v) s = .next t ∧ t.time.tstate = .locked ∧ t.time.incr = v ∧
        t.time.slew = c * 2 ^ 32 + remaining s ∧ t.time.phc = s.time.phc) ∧
    exec .mclkAligned s = .next (keep s (setTime s { s.time with mclkAl := true })) ∧
    (∀ p frame, p < 8 → timeOwner s = none → s.time.alone = false → timePrm s 1 ≠ 5 →
      exec (.firmwarePtpMessage p frame) s = .next (keep s (intoClass p 7
        { kind := .ptp, len := max 64 (frame.length + 4), stream := p, data := frame, stamp := none } s)))

/-- For every running state and frame on port p, up and formed by the mode. Behind a held packet the frame waits in the FIFO, or is
dropped when the FIFO has no room. Otherwise, in this order: below 64 bytes it counts RX_RUNT only; above MAX_FRAME with
its tags RX_OVERSIZE; with a wrong FCS RX_FCS_ERR; to an address the port does not accept RX_MAC_FILTERED. A UDP packet that
no address table entry admits goes to the owner function with reason NO_PARTITION; a STUN or DTLS packet goes to the exception
queue of its entry's partition with reasons 0x02 and 0x03; an RTP packet that names no stream with reason 0x01. An RTP packet
of ACTIVE leg and stream whose tag verifies under no key of the leg counts RX_AUTH_FAIL only. -/
def Obligations.FrameReception : Prop :=
  ∀ (s : State) (p : Nat) (ok : Bool) (b : Bytes) (x : FrameX), halted s = false → p < 8 → p < nPorts s →
    (getPort s p).up = true →
    let e := getPort s p
    let n := b.length + 4
    let f : RxFrame := { fcsOk := ok, bytes := b, x := x, phc := rxStamp s p, epoch := s.time.epoch }
    let max_ := fldN e.fields (fk 0x12 1 0) + 4 * countTags b 12 8
    let c := Instr.ethFrameReceive p ok b x
    (e.held.isSome = true → 262144 < fifoBytes e + b.length → exec c s = .next (keep s (bumpPort s p .rxFifoDrop))) ∧
    (e.held.isSome = true → fifoBytes e + b.length ≤ 262144 →
      exec c s = .next (keep s (fifoSync p (setPort s p { e with fifo := e.fifo ++ [f] })))) ∧
    (e.held = none →
      (n < 64 → exec c s = .next (keep s (bumpPort s p .rxRunt))) ∧
      (64 ≤ n → max_ < n → exec c s = .next (keep s (bumpPort s p .rxOversize))) ∧
      (64 ≤ n → n ≤ max_ → ok = false → exec c s = .next (keep s (bumpPort s p .rxFcsErr))) ∧
      (64 ≤ n → n ≤ max_ → ok = true → macOk s p (le b 0 6) = false →
        exec c s = .next (keep s (bumpPort s p .rxMacFiltered))) ∧
      (∀ u, 64 ≤ n → n ≤ max_ → ok = true → macOk s p (le b 0 6) = true → classifyFrame b = .udp u →
        (addrFor s u.vlan u.dst u.dport = none →
          exec c s = .next (keep s (exceptOwner p 0x0B u.vlan f b s))) ∧
        (∀ ai a, addrFor s u.vlan u.dst u.dport = some (ai, a) → u.pay ≠ [] →
          (be u.pay 0 1 ≤ 3 → exec c s = .next (keep s (exceptTo a.part p 0x02 u.vlan f b s))) ∧
          (20 ≤ be u.pay 0 1 → be u.pay 0 1 ≤ 63 → exec c s = .next (keep s (exceptTo a.part p 0x03 u.vlan f b s))) ∧
          (∀ h, 128 ≤ be u.pay 0 1 → be u.pay 0 1 ≤ 191 → ¬(192 ≤ be u.pay 1 1 ∧ be u.pay 1 1 ≤ 223) →
            parseRtp u.pay = some h →
            (lookupRtp s (legsFor s ai a.part u) h = none →
              exec c s = .next (keep s (exceptTo a.part p 0x01 u.vlan f b s))) ∧
            (∀ y, lookupRtp s (legsFor s ai a.part u) h = some y → isActive s y = true →
              isActive s (legOfStream s y) = true → inMode s (legOfStream s y) ≠ 0 → x.key = none →
              exec c s = .next (keep s (bumpObj s (legOfStream s y) .rxAuthFail)))))))

/-- For every crypto context, or none yet, and index v: when replayCheck accepts v with context c, it refuses v against c. A context
whose window holds more than 127 indices below its highest refuses an index older than that, and accepts a newer index than
its highest always. -/
def Obligations.ReplayedIndexIsRefused : Prop :=
  (∀ c v c1, replayCheck c v = some c1 → replayCheck (some c1) v = none) ∧
  (∀ (c : Crypto) v, v + 127 < c.hi → replayCheck (some c) v = none) ∧
  ∀ (c : Crypto) v, c.hi < v → ∃ c1, replayCheck (some c) v = some c1 ∧ c1.hi = v

/-- For every running state, next states in full unless said. LINK_UP brings a formed port up and counts a change; LINK_DOWN of
a port that is up does the reverse, each class queue emptied and counted in LINK_DOWN_DROP. A free transmitter starts the head
frame of the picked class and is free again after its accounted bytes. A stamp record enters STAMP_EQ when it has room and leaves the
port's queue. A packet held past RX_HOLD is dropped and counted in RX_QUEUE_DROP, and the pipeline runs on. A held packet whose queue
has room is pushed, taken by its consumer, and the pipeline runs on. A flush removes every item. An exception packet enters its
partition's ring when a slot is free. A PREVIOUS key is erased 2 s after a promotion. A telephone event 5 s old without end
is reported. -/
def Obligations.PortsStampsAndQueues : Prop :=
  ∀ s : State, halted s = false →
    (∀ p, p < 8 → p < nPorts s → (getPort s p).up = false →
      exec (.linkUp p) s =
        .next (keep s (updPort s p fun e => { e with up := true, changes := (e.changes + 1) % 2 ^ 32 }))) ∧
    (∀ p, p < 8 → (getPort s p).up = true →
      exec (.linkDown p) s = .next (keep s
        (drainDown p (updPort s p fun e => { e with up := false, changes := (e.changes + 1) % 2 ^ 32 })))) ∧
    (∀ p bad c it, p < 8 → (getPort s p).up = true → (getPort s p).txFree ≤ s.time.ticks →
      let s1 := (List.range 8).foldl (fun s c => dropOversize p c (getQ s (qClass p c)).items.length s) s
      let r := pickClass p (countWaits p s1)
      r.1 = some c → qHead r.2 (qClass p c) = some it →
      ∃ t b, exec (.classPick p bad) s = .next t ∧ (getPort t p).lastTx = some b ∧ b.len = it.pkt.len ∧
        b.kind = it.pkt.kind ∧ b.leg = it.pkt.leg) ∧
    (∀ p r rs F q, p < 8 → (getPort s p).stampQ = r :: rs → timeOwner s = some F → timePrm s 8 ≠ noneV →
      Tab.get (getFn s F).queues (timePrm s 8).toNat = some q → eqRoom q = true → (getFn s F).backlog = [] →
      (getFn s F).pendLoss = [] →
      ∃ t q', exec (.txStampDelivery p) s = .next t ∧ (getPort t p).stampQ = rs ∧
        Tab.get (getFn t F).queues (timePrm s 8).toNat = some q' ∧ q'.tail = (q.tail + 1) % 2 ^ 32 ∧
        Tab.get q'.slots (q.tail % q.size) =
          some ({ typ := 0x010, handle := 0, mt := now s, payload := stampBytes r }, (q.tail / q.size) % 2 == 0)) ∧
    (∀ p q it since, p < 8 → (getPort s p).held = some (q, it, since) → (getPort s p).fifo = [] →
      since + nsTicks (fldN (getPort s p).fields (fk 0x12 4 0)) ≤ s.time.ticks →
      ∃ t, exec (.rxHoldExpiry p) s = .next t ∧ (getPort t p).held = none ∧ (getQ t q).heldSince = none ∧
        getObj t it.pkt.stream = (getObj s it.pkt.stream).map fun o => { o with ctrs := bump o.ctrs .rxQueueDrop }) ∧
    (∀ p q it, q < 32768 → qKind q ≠ 2 → heldPort s q = some (p, it) → qFull s q it.pkt.len = false →
      exec (.heldPushRetry q) s = .next (keep s (pipeResume p (rxConsume it.pkt.stream it
        (qPop q (qPush q it false (updPort s p fun e => { e with held := none }))))))) ∧
    (∀ q, q < 32768 → (getQ s q).flush = true →
      ∃ t, exec (.queueFlushApply q) s = .next t ∧ (getQ t q).items = [] ∧ (getQ t q).flush = false) ∧
    (∀ p it F s2, p < 256 → qHead s (qExc p) = some it → excFn s p = some F →
      deliverSlot F 0 it.pkt.data (qPop (qExc p) s) = some s2 →
      exec (.exceptionDelivery p) s = .next (keep s s2)) ∧
    (∀ l, l < 4096 → (getLeg s (okey 3 l)).keyPrev.isSome = true →
      (getLeg s (okey 3 l)).promoted + 2 * tS ≤ s.time.ticks →
      exec (.previousKeyErase l) s =
        .next (keep s (setLeg s (okey 3 l) { getLeg s (okey 3 l) with keyPrev := none }))) ∧
    (∀ x e, x < 16384 → (getStream s (okey 4 x)).te = [e] → e.done = false → e.at_ + 5000000000 ≤ now s →
      exec (.dtmfEndTimeout x) s = .next (keep s (dtmfReport (okey 4 x) e
        (setStream s (okey 4 x) { getStream s (okey 4 x) with te := [{ e with done := true }] }))))

/-- For every command that is next to be served, next states in full. MAC_FILTER_ADD of the owner function puts a unicast address not
yet there into the lowest free filter of its Ethernet port and returns its index; a function of a partition puts a multicast address
into the device-wide table; MAC_FILTER_REMOVE removes it. ADDRESS_ADD of an entry that clashes with none takes the
lowest free index; ADDRESS_REMOVE of one that no leg names removes it. DSCP_TABLE_SET sets the 2-bit colour of all 64 code points.
KEY_INSTALL with a protected direction sets the key slot it names, CURRENT only on an IDLE leg, and the activation time of an
outbound NEXT key. -/
def Obligations.AddressesFiltersAndKeys : Prop :=
  ∀ (s : State) (F : Nat) (src : Src) (p : Bytes),
    (∀ i, upNext 0x030C src F p s = true → s.host.owner = F → le p 6 1 < 8 → le p 0 6 % 2 = 0 →
      (∀ e ∈ (getPort s (le p 6 1)).filters, e.2 ≠ le p 0 6) →
      lowestFree (Tab.keys (getPort s (le p 6 1)).filters) 0 64 = some i →
      exec (.macFilterAdd src) s = .next (keep s (finish F src .ok (toLe 2 i ++ zeros 6) 0
        (setPort s (le p 6 1) { getPort s (le p 6 1) with
          filters := Tab.set (getPort s (le p 6 1)).filters i (le p 0 6) })))) ∧
    (∀ i pt, upNext 0x030C src F p s = true → (getFn s F).part = some pt → le p 6 1 = 0xFF → le p 0 6 % 2 = 1 →
      (∀ e ∈ s.eth.mcast, e.2.1 ≠ le p 0 6) → lowestFree (Tab.keys s.eth.mcast) 0 1024 = some i →
      exec (.macFilterAdd src) s = .next (keep s (finish F src .ok (toLe 2 i ++ zeros 6) 0
        { s with eth := { s.eth with mcast := Tab.set s.eth.mcast i (le p 0 6, pt) } }))) ∧
    (upNext 0x030D src F p s = true → s.host.owner = F → le p 2 1 < 8 →
      Tab.has (getPort s (le p 2 1)).filters (le p 0 2) = true →
      exec (.macFilterRemove src) s = .next (keep s (finish F src .ok [] 0
        (setPort s (le p 2 1) { getPort s (le p 2 1) with
          filters := Tab.del (getPort s (le p 2 1)).filters (le p 0 2) })))) ∧
    (∀ pt i, upNext 0x030E src F p s = true → resolvePart s (le p 24 4) = some pt →
      (le p 0 2 = 0xFFFF ∨ le p 0 2 < 4096) → 1 ≤ le p 2 2 → le p 2 2 ≤ le p 4 2 →
      (∀ e ∈ s.eth.addrs, ¬(e.2.vlan = le p 0 2 ∧ e.2.ip = le p 8 16 ∧ e.2.lo ≤ le p 4 2 ∧ le p 2 2 ≤ e.2.hi)) →
      lowestFree (Tab.keys s.eth.addrs) 0 1024 = some i →
      exec (.addressAdd src) s = .next (keep s (finish F src .ok (toLe 2 i ++ zeros 6) 0 { s with eth := { s.eth with
        addrs := Tab.set s.eth.addrs i
          { vlan := le p 0 2, ip := le p 8 16, lo := le p 2 2, hi := le p 4 2, part := pt } } }))) ∧
    (upNext 0x030F src F p s = true → Tab.has s.eth.addrs (le p 0 2) = true →
      (∀ l ∈ objKeys s 3, legKind s l ≤ 1 → ofldN s l (fk 0x01 2 0) ≠ le p 0 2) →
      exec (.addressRemove src) s = .next (keep s (finish F src .ok [] 0 { s with eth := { s.eth with
        addrs := Tab.del s.eth.addrs (le p 0 2) } }))) ∧
    (∀ l, upNext 0x0506 src F p s = true → resolve s F 3 (le p 0 4) = some l → le p 4 1 < 2 → le p 5 1 < 2 →
      le p 6 1 = 0 → le p 7 1 = 0 →
      let mode := if le p 4 1 = 0 then inMode s l else outMode s l
      let n := keyLens mode
      mode ≠ 0 → le p (16 + n.1) (32 - n.1) = 0 → le p (48 + n.2) (14 - n.2) = 0 →
      (le p 5 1 = 1 ∨ (getObj s l).map (·.state) = some .idle) →
      let key := ((p.drop 16).take n.1) ++ ((p.drop 48).take n.2)
      exec (.keyInstall src) s = .next (keep s (finish F src .ok [] 0 (setLeg s l
        (if le p 4 1 = 0 then
          (if le p 5 1 = 0 then { getLeg s l with keyCur := some key } else { getLeg s l with keyNext := some key })
        else if le p 5 1 = 0 then { getLeg s l with outCur := some key }
        else { getLeg s l with outNext := some key, outAt := le p 8 8 }))))) ∧
    (upNext 0x0310 src F p s = true →
      ∃ tab, tab.length = 64 ∧ (∀ d, d < 64 → tab[d]? = some (le p 0 16 / 4 ^ d % 4)) ∧
        exec (.dscpTableSet src) s =
          .next (keep s (finish F src .ok [] 0 { s with eth := { s.eth with dscp := tab } })))

/-- For every state and leg. The increase step never lowers A_d, raises it only in UNDERUSE and never above max(A_d, 3/2 R_acked +
64,000). A loss evaluation n of d keeps A_l at least A_MIN when it cuts, at most A_MAX when it raises, and changes no other
estimate of rate. The target rate A is at most max(A_MIN, A_MAX), and at least A_MIN except on a trunk leg. The up-steps of allocation, with
UP_MARGIN at least 64 and distinct subscriptions, never spend more than the budget left, and the budget left plus the rates selected stays
the same. -/
def Obligations.RatesAndAllocationWithinBounds : Prop :=
  (∀ (s : State) (l : Nat),
    let g := getGov s l
    let g' := getGov (increaseStep l s) l
    g.aD ≤ g'.aD ∧ g'.aD ≤ max g.aD (3 * rAcked s l / 2 + 64000) ∧ (g.dstate ≠ 2 → g' = g) ∧ g'.aL = g.aL) ∧
  (∀ (s : State) (l n d : Nat), 0 < d → n ≤ d →
    let g := getGov s l
    let g' := getGov (lossStep l n d s) l
    g'.aD = g.aD ∧ g'.lossN = n ∧ g'.lossD = d ∧
    (gprm s l 13 * d < 1000 * n → g'.aL = max (gprm s l 2) (g.aL * (2 * d - n) / (2 * d))) ∧
    (1000 * n ≤ gprm s l 13 * d → 1000 * n < gprm s l 12 * d → g'.aL = min (gprm s l 3) (g.aL + g.aL / 20)) ∧
    (1000 * n ≤ gprm s l 13 * d → gprm s l 12 * d ≤ 1000 * n → g'.aL = g.aL)) ∧
  (∀ (s : State) (l : Nat),
    targetRate s l ≤ max (gprm s l 2) (gprm s l 3) ∧ (legKind s l ≠ 1 → gprm s l 2 ≤ targetRate s l)) ∧
  ∀ (now_ hold margin fuel : Nat) (b : Int) (as : List Alloc), 64 ≤ margin → 0 ≤ b → (as.map (·.x)).Nodup →
    let total := fun (l : List Alloc) => (l.map fun a => ((a.sel.map a.rate).getD 0 : Int)).sum
    let r := allocUp now_ hold margin fuel (b, as)
    0 ≤ r.1 ∧ r.1 + total r.2 = b + total as ∧ r.2.map (·.x) = as.map (·.x)

/-- For every running state, leg index below 4,096 and stream index below 16,384; g is the leg's governor before. INCREASE_EVALUATION runs the rest of an update
that waits for it, and nothing else. PROBE_END of a probe whose time is over fails it on overuse, ends it with A_d raised to its need
when every group is reported, else lets it wait; PROBE_UNRESOLVED_TIMEOUT fails it after 1 s. FEEDBACK_STALLED halves A_d and
A_l, not below A_MIN. SWITCH_WAIT_EXPIRY asks the source of the pending choice for a refresh. REFRESH_LIMIT_EXPIRY serves
merged requests as one. REFRESH_RETRY gives a need up after the tries allowed, else asks again. Reports go out once their interval is over. -/
def Obligations.GovernorEvents : Prop :=
  ∀ s : State, halted s = false →
    (s.time.govDue = true → exec .increaseEvaluation s = .next (keep s
      (updateOut ((govLegs s).foldl (fun s l => evalLeg l s) (setTime s { s.time with govDue := false }))))) ∧
    (s.time.govDue = false → exec .increaseEvaluation s = .next s) ∧
    (∀ n, n < 4096 →
      let l := okey 3 n
      let g := getGov s l
      let failed := fun (v : Gov) => { v with
        probe := none, probeFail := some (now s), probeHold := min (2 * g.probeHold) (32 * gprm s l 20) }
      (∀ p, g.probe = some p → p.ended = false → p.end_ ≤ now s →
        let p' := { p with ended := true, last := s.time.strokes }
        let g1 := { g with probe := some p' }
        ∃ t, exec (.probeEnd n) s = .next t ∧
          getGov t l = (if p.overuse then failed g1
            else if probeReported g1 p' then { g with probe := none, aD := max g.aD p.need, probeHold := gprm s l 20 } else g1)) ∧
      (∀ p, g.probe = some p → p.ended = true → p.end_ + 1000000000 ≤ now s →
        ∃ t, exec (.probeUnresolvedTimeout n) s = .next t ∧ getGov t l = failed g) ∧
      (isActive s l = true → legKind s l = 0 → g.lastFb + gprm s l 23 * (g.stalls + 1) ≤ now s →
        ∃ t, exec (.feedbackStalled n) s = .next t ∧ getGov t l = { g with
          stalls := g.stalls + 1, aD := max (gprm s l 2) (g.aD / 2), aL := max (gprm s l 2) (g.aL / 2) }) ∧
      (isActive s l = true → legKind s l ≤ 1 → g.reportAt + ofldN s l (fk 0x01 13 0) ≤ now s →
        ∃ t, exec (.rtcpReportSend n) s = .next t ∧ getGov t l = { g with reportAt := now s }) ∧
      (isActive s l = true → legKind s l ≤ 1 → bitOf (ofldN s l (fk 0x01 9 0)) 0 = true →
        g.ccfbAt + ofldN s l (fk 0x01 14 0) ≤ now s →
        ∃ t, exec (.ccfbFeedbackSend n) s = .next t ∧ getGov t l = { g with ccfbAt := now s })) ∧
    (∀ n at_ w, n < 16384 →
      let x := okey 4 n
      let u := (getStream s x).sub
      u.pendAt = some at_ → u.want = some w → isActive s x = true → u.asked = false →
      at_ + gprm s (legOfStream s x) 21 ≤ now s →
      ∃ t, exec (.switchWaitExpiry n) s = .next t ∧ (getStream t x).sub = { u with asked := true } ∧
        x ∈ (getStream t w.enc).up.needs) ∧
    (∀ n fir, n < 16384 →
      let x := okey 4 n
      (getStream s x).up.merged = some fir → upFree s x = true → (getObj s x).isSome = true →
      ∃ t, exec (.refreshLimitExpiry x) s = .next t ∧ (getStream t x).up.merged = none ∧
        (getStream t x).up.at_ = some (now s) ∧ (getStream t x).up.needs = (getStream s x).up.needs) ∧
    (∀ n at_, n < 2048 →
      let k := okey 7 n
      let d := getRung s k
      d.refPend = true → (getObj s k).isSome = true → d.refAt = some at_ → at_ + gprm s k 26 ≤ now s →
      ∃ t, exec (.refreshLimitExpiry k) s = .next t ∧ getRung t k = { d with
        refAt := some (now s), refPend := false, refKey := false, cycReq := max d.cycReq (if d.refKey then 2 else 1) }) ∧
    (∀ n, n < 16384 →
      let x := okey 4 n
      let u := (getStream s x).up
      u.needs ≠ [] → 0 < u.tries → upFree s x = true → isActive s x = true →
      ∃ t, exec (.refreshRetry n) s = .next t ∧
        (gprm s x 25 ≤ u.tries → (getStream t x).up = { u with needs := [], tries := 0 }) ∧
        (u.tries < gprm s x 25 → (getStream t x).up.tries = u.tries + 1 ∧ (getStream t x).up.needs = u.needs ∧
          (getStream t x).up.at_ = some (now s)))

/-- For every command that is next to be served, next states in full. GOVERNOR_CONFIG of valid governor entries of a leg, of a received stream
or of a rung, consistent with each other on a leg, sets exactly those fields of it. GOVERNOR_READ of a leg returns the snapshot of
its latest update, or that of Table 4-7's reset column, and changes nothing. -/
def Obligations.GovernorCommands : Prop :=
  ∀ (s : State) (F k : Nat) (src : Src) (p : Bytes) (o : Obj), getObj s k = some o →
    (∀ ty, upNext 0x0507 src F p s = true → ty = hType (le p 0 4) → (ty = 3 ∨ ty = 4 ∨ ty = 7) →
      resolve s F ty (le p 0 4) = some k → (ty = 4 → isOut s k = false) →
      let es := entries p 8 (le p 6 2)
      let fs := applyEntries o.fields es
      lowest (entryChecks es fun e => fTable e = 0x02 && govRowOk ty (fRow e)) = none → (ty = 3 → govConsistent fs = true) →
      exec (.governorConfig src) s =
        .next (keep s (finish F src .ok [] 0 (setObjs s (Tab.set s.obj.objs k { o with fields := fs }))))) ∧
    (upNext 0x0508 src F p s = true → resolve s F 3 (le p 0 4) = some k →
      exec (.governorRead src) s = .next (keep s (finish F src .ok
        (if (getGov s k).snap = [] then zeros 16 ++ toLe 4 0xFFFFFFFF ++ zeros 12 ++ toLe 4 100000 ++ zeros 28
         else (getGov s k).snap) 0 s)))
/-- For every running state. VIDEO_HOLD_EXPIRY hands over the one frame in assembly whose hold is over. DECODER_CREDIT, when every frame
handed over has its credit, gives one more, at most 2, for one instant. SYNC_WAIT_REFRESH raises the decoder's need for a refresh.
ENGINE_PICK of a free engine in service starts the next item of its chain, or the one ready decode with a free surface; with nothing
ready it changes nothing. DECODE_FRAME_COMPLETE frees the engine and removes the frame; an undamaged key frame puts the context in state 2,
poisoned context data in SYNC_WAIT. DECODER_READ of a bound context that the issuer sees answers Table 5-7.
Further: For every running state. BAND_HANDOFF of a composition in work hands over one band more. COMPOSITION_COMPLETE, once every band is handed
over, makes the picture in work the layout's output and frees its compositor. ENCODE_PICTURE_COMPLETE of a fixed rung's picture,
whose composition has handed over every band, frees engine and context and moves the packet numbering by one; with poisoned context data the
context begins anew. RUNG_REFRESH, outside the gap, has the next picture begin a refresh cycle, and within it is merged; RUNG_KEY makes
the next picture a key picture, and changes nothing else. -/
def Obligations.DecoderAndEncoderEvents : Prop :=
  (∀ s : State, halted s = false →
      (∀ n f, n < 16384 →
        let x := okey 4 n
        (getDec s x).asm = [f] → f.at_ + ofldN s x (fk 0x04 15 0) ≤ now s →
        ∃ t, exec (.videoHoldExpiry n) s = .next t ∧ (getDec t x).asm = [] ∧ (getDec t x).nextExt = some (f.span.2 + 1)) ∧
      (∀ n, n < 16384 →
        let x := okey 4 n
        let d := getDec s x
        d.st ≠ 0 → d.creditK < nextK s (dprm s x 4) → (∀ f ∈ d.handed, f.elig.isSome = true) →
        exec (.decoderCredit n) s =
          .next (keep s (setDec s x { d with credits := min 2 (d.credits + 1), creditK := d.creditK + 1 }))) ∧
      (∀ n, n < 16384 →
        let x := okey 4 n
        (getDec s x).st = 1 → isActive s x = true → (getDec s x).syncAt + gprm s x 24 < now s →
        ∃ t, exec (.syncWaitRefresh n) s = .next t ∧ 0 ∈ (getStream t x).up.needs ∧ getDec t x = getDec s x) ∧
      (∀ e, e < 16 → (getEng s e).run = none → (getEng s e).resetTo = none → (0, e) ∉ s.dep.removed →
        let g := getEng s e
        (∀ a c, g.chain = a :: c →
          ∃ t, exec (.enginePick e) s = .next t ∧
            getEng t e = { g with chain := c, run := some a, startAt := s.time.ticks, lastK := a.k }) ∧
        (∀ a, g.chain = [] → g.ready = [a] → a.enc = false → mayRun s e a.k = true → (freeSurf s a.k).isSome = true →
          exec (.enginePick e) s = .next (keep s (setEng s e
            { g with ready := [], chain := [], run := some a, startAt := s.time.ticks, lastK := a.k }))) ∧
        (g.chain = [] → g.ready = [] → exec (.enginePick e) s = .next s)) ∧
      (∀ e a f r, e < 16 → (getEng s e).run = some a → a.enc = false →
        (getDec s a.k).handed.find? (fun g => g.ts = a.id) = some f →
        ∃ t, exec (.decodeFrameComplete e r) s = .next t ∧ (getEng t e).run = none ∧
          (∀ g ∈ (getDec t a.k).handed, g.ts ≠ a.id) ∧
          (r.poison = 3 → (getDec t a.k).st = 1 ∧ (getDec t a.k).handed = []) ∧
          (r.poison = 0 → r.bad = false → f.whole = true → f.info.refs = [] → f.info.key = true →
            (freeSurf s a.k).isSome = true → (getDec t a.k).st = 2)) ∧
      (∀ F src p x, upNext 0x0606 src F p s = true → resolve s F 4 (le p 0 4) = some x → (getDec s x).st ≠ 0 →
        let d := getDec s x
        exec (.decoderRead src) s = .next (keep s (finish F src .ok
          (toLe 8 (d.st + 4 * b2n d.damaged + 8 * b2n (!(getStream s x).hold.isEmpty) + 16 * d.credits + 256 * d.engine
              + 4096 * d.size.2.2 + 65536 * d.size.1 + 2 ^ 32 * d.size.2.1)
            ++ toLe 8 d.fence ++ toLe 4 ((d.pub.map (surfHandle s)).getD 0) ++ toLe 4 d.pubTs ++ toLe 8 d.pubAt
            ++ toLe 2 d.grain ++ zeros 6) 0 s)))) ∧
  ∀ s : State, halted s = false →
    (∀ n j, n < 512 →
      let y := okey 5 n
      let l := getLayout s y
      l.run = some j →
      (l.bands < bandCount s y → ∃ t, exec (.bandHandoff n) s = .next t ∧ getLayout t y = { l with bands := l.bands + 1 }) ∧
      (bandCount s y ≤ l.bands → exec (.bandHandoff n) s = .next s ∧
        ∃ t, exec (.compositionComplete n) s = .next t ∧
          getLayout t y = { l with run := none, out := l.work, work := [], last := some j } ∧
          Tab.get t.vid.comps (compIdx s y) = none)) ∧
    (∀ e a p z, e < 16 → (getEng s e).run = some a → a.enc = true → (getRung s a.k).run = some p →
      (getLayout s (parentKey s a.k)).run = none →
      (z.poison = 3 →
        ∃ t, exec (.encodePictureComplete e z) s = .next t ∧ (getEng t e).run = none ∧ (getRung t a.k).run = none ∧
          (getRung t a.k).st = 1 ∧ (getRung t a.k).pos = 0 ∧ (getRung t a.k).seq = (getRung s a.k).seq) ∧
      (z.poison ≠ 3 → isFixed s a.k = true →
        ∃ t, exec (.encodePictureComplete e z) s = .next t ∧ (getEng t e).run = none ∧ (getRung t a.k).run = none ∧
          (getRung t a.k).seq = ((getRung s a.k).seq + 1) % 65536 ∧ (getRung t a.k).instMt = p.mt ∧
          (getRung t a.k).doneAt = now s)) ∧
    (∀ F src p r, resolve s F 7 (le p 0 4) = some r →
      let d := getRung s r
      (upNext 0x0907 src F p s = true →
        exec (.rungKey src) s = .next (keep s (finish F src .ok [] 0 (setRung s r { d with cycReq := 3 })))) ∧
      (upNext 0x0906 src F p s = true → d.refAt = none →
        exec (.rungRefresh src) s = .next (keep s (finish F src .ok [] 0 (bumpObj (setRung s r { d with
          refAt := some (now s), refPend := false, refKey := false, cycReq := max d.cycReq 1 }) r .refreshSent)))) ∧
      (∀ at_, upNext 0x0906 src F p s = true → d.refAt = some at_ → now s < at_ + gprm s r 26 →
        exec (.rungRefresh src) s =
          .next (keep s (finish F src .ok [] 0 (bumpObj (setRung s r { d with refPend := true }) r .refreshMerged)))))

/-- For every list of layers with sources of 10 bits, an Inlay layer alpha of at most 256 and a background of 10 bits: each stored sample of a
composed picture is below 2^depth, for depths 8 and 10 and both classes. An Inlay layer of alpha 256 replaces what lies below and one of
alpha 0 leaves it. The layers that R326 takes out are the first of the list given, as few as leave a rest that fits, or all. -/
def Obligations.PicturesStayInRange : Prop :=
  (∀ (vs : List LayerView) (bg : Nat → Nat) (depth c x y : Nat), (depth = 8 ∨ depth = 10) → (∀ c, bg c ≤ 1023) →
    (∀ v ∈ vs, v.la ≤ 256 ∧ ∀ c x y, v.smp c x y ≤ 1023) →
    composed false depth vs bg c x y < 2 ^ depth ∧ composed true depth vs bg c x y < 2 ^ depth) ∧
  (∀ a b : Nat, blendInlay 256 a b = a ∧ blendInlay 0 a b = b) ∧
  ∀ (marq : Bool) (w : Nat) (ks : List Nat) (vs : List SpanIn),
    let out := shed marq w ks vs
    out = ks.take out.length ∧
    (out = ks ∨ fits marq w (vs.filter fun v => v.k ∉ out) = true) ∧
    ∀ m, m < out.length → fits marq w (vs.filter fun v => v.k ∉ out.take m) = false

/-- For every running state. READINESS_CHECK, from 200 µs before the next instant k of a layout that will be ACTIVE and was not checked for k, marks it
checked, and changes what no layer shows. COMPOSITION_START of a free compositor starts the fixed composition that is the only one due on
it. HPD_RISE begins training with the sink's EDID; HPD_FALL stops the output; DISPLAY_TRAINING_DONE links or fails. DISPLAY_VSYNC of
a linked display records the phase error, counts edges in and out of lock, and shows the latest complete picture of its layout, or
counts a repeat. -/
def Obligations.CompositionAndDisplayEvents : Prop :=
  ∀ s : State, halted s = false →
    (∀ n k x, n < 512 →
      let y := okey 5 n
      s.time.frames[layoutRate s y]? = some (k, x) → willActive s y = true → x ≤ phcNs s.time + 200000 →
      (getLayout s y).checked ≠ some k →
      ∃ t, exec (.readinessCheck n) s = .next t ∧ getLayout t y = { getLayout s y with checked := some k } ∧
        ∀ z, (getLayer t z).cur = (getLayer s z).cur ∧ (getLayer t z).desc = (getLayer s z).desc ∧
          (getLayer t z).stale = (getLayer s z).stale) ∧
    (∀ c y j, c < 36 → ((objKeys s 5).filter fun y => compIdx s y == c && (getLayout s y).due.isSome) = [y] →
      (getLayout s y).due = some j → Tab.get s.vid.comps c = none → isFixed s y = true →
      ∃ t, exec (.compositionStart c) s = .next t ∧ Tab.get t.vid.comps c = some y ∧ (getLayout t y).run = some j ∧
        (getLayout t y).due = none ∧ (getLayout t y).bands = 0 ∧ (getLayout t y).out = (getLayout s y).out) ∧
    (let d := s.vid.disp
     (∀ edid, d.hpd = false →
       ∃ t, exec (.hpdRise edid) s = .next t ∧ t.vid.disp = { d with hpd := true, link := 1, edid := edid }) ∧
     (∀ edid, d.hpd = true → exec (.hpdRise edid) s = .next s) ∧
     (d.hpd = true → ∃ t, exec .hpdFall s = .next t ∧
       t.vid.disp = { d with hpd := false, link := 0, edid := [], shown := none, frame := [] }) ∧
     (∀ ok, d.link = 1 → ∃ t, exec (.displayTrainingDone ok) s = .next t ∧
       t.vid.disp = { d with link := if ok then 2 else 3 }) ∧
     (∀ e j, d.link = 2 → dispLayout s ≠ 0 → s.time.stopped = false → 14 ∉ s.dep.off →
       (getLayout s (dispLayout s)).last = some j →
       ∃ t, exec (.displayVsync e) s = .next t ∧ t.vid.disp.err = e ∧ t.vid.disp.fields = d.fields ∧
         (-1000 ≤ e ∧ e ≤ 1000 → t.vid.disp.good = min 16 (d.good + 1) ∧ t.vid.disp.bad = 0) ∧
         (e < -1000 ∨ 1000 < e → t.vid.disp.bad = min 16 (d.bad + 1) ∧ t.vid.disp.good = 0) ∧
         (d.shown ≠ some j.k → t.vid.disp.shown = some j.k ∧ t.vid.disp.frame = (getLayout s (dispLayout s)).out) ∧
         (d.shown = some j.k → t.vid.disp.frame = d.frame ∧ t.vid.disp.ctrs = bump d.ctrs .dispRepeat)))

/-- For every command that is next to be served. DISPLAY_CONFIG of valid entries with no layout named sets the fields; the picture
shown goes when the layout changes. DISPLAY_EDID with a sink present, to a window that takes it, writes the sink's EDID and answers
its length. COEF_LOAD of a well-formed set, of sums 256 and right CRC, into a slot that is free or the partition's own and that no
layer names stores it; COEF_UNLOAD of an own slot that no layer names removes it. LAYER_FLIP of 1 to 8 distinct layers of one layout,
whose sources and fences exist and whose new descriptors fit, makes each flip wait at its layer. -/
def Obligations.DisplayCoefficientAndFlipCommands : Prop :=
  ∀ (s : State) (F : Nat) (src : Src) (p : Bytes),
    (upNext 0x030A src F p s = true →
      let es := entries p 8 (le p 6 2)
      let fs := applyEntries s.vid.disp.fields es
      lowest (entryChecks es fun k => fTable k == 0x11) = none → fldN fs (fk 0x11 0 0) = 0 →
      exec (.displayConfig src) s = .next (keep s (finish F src .ok [] 0 { s with vid := { s.vid with disp := { s.vid.disp with
        fields := fs
        shown := if dispLayout s = 0 then s.vid.disp.shown else none
        frame := if dispLayout s = 0 then s.vid.disp.frame else [] } } }))) ∧
    (upNext 0x030B src F p s = true → s.vid.disp.hpd = true →
      inWindow (getFn s F) (le p 0 8) s.vid.disp.edid.length true = true →
      exec (.displayEdid src) s = .next (keep s (finish F src .ok (toLe 4 s.vid.disp.edid.length) 0
        (updFn s F fun f => { f with lastWr := some (le p 0 8, s.vid.disp.edid) })))) ∧
    (∀ pt d, (getFn s F).part = some pt →
      let cls := le p 0 1
      let dir := le p 1 1
      let slot := le p 2 1
      let key := cls * 32 + dir * 16 + slot
      let t := if dir = 0 then 8 else if cls = 0 then 4 else 6
      let cs := coefList d (64 * t)
      (upNext 0x0706 src F p s = true → cls ≤ 1 → dir ≤ 1 → 1 ≤ slot → slot ≤ 15 → le p 16 4 = 8 + 128 * t →
        d.length = 8 + 128 * t → inWindow (getFn s F) (le p 8 8) (8 + 128 * t) false = true →
        le d 0 1 = t → le d 1 1 = dir → le d 2 1 = cls → le d 3 1 = 0 → le d 4 4 = crc32 (d.drop 8) →
        (∀ c ∈ cs, -512 ≤ c ∧ c ≤ 511) → (∀ ph, ph < 64 → ((cs.drop (ph * t)).take t).sum = 256) →
        coefNamed s cls dir slot = false →
        (Tab.get s.vid.coefs key = none ∧ (s.vid.coefs.filter fun e => e.2.part = pt).length < quota s pt 4 1 ∨
          ∃ c, Tab.get s.vid.coefs key = some c ∧ c.part = pt) →
        exec (.coefLoad src d) s = .next (keep s (finish F src .ok [] 0 { s with vid := { s.vid with
          coefs := Tab.set s.vid.coefs key { part := pt, taps := t, coef := cs } } }))) ∧
      (∀ c, upNext 0x0707 src F p s = true → Tab.get s.vid.coefs key = some c → c.part = pt → coefNamed s cls dir slot = false →
        exec (.coefUnload src) s = .next (keep s (finish F src .ok [] 0
          { s with vid := { s.vid with coefs := Tab.del s.vid.coefs key } })))) ∧
    (∀ (ks : List Nat) (y part : Nat), upNext 0x0806 src F p s = true → ks.length = le p 0 1 → 1 ≤ ks.length → ks.length ≤ 8 →
      ks.Nodup → part = ((getObj s (ks.headD 0)).map (·.part)).getD 0 → (∀ k ∈ ks, parentKey s k = y) →
      (∀ j, j < ks.length → resolve s F 6 (le p (8 + 40 * j) 4) = ks[j]? ∧ le p (8 + 40 * j + 12) 4 = 0 ∧
        let f := flipItem p (8 + 40 * j)
        ((surfIn s part f.src).isSome = true ∨ (streamIn s part f.src).isSome = true) ∧
          (f.fence = 0 ∨ fenceOk s part f.fence = true)) →
      let news := (List.range ks.length).map fun j =>
        let k := (ks[j]?).getD 0
        (k, flipDesc (descOf (latchDesc s k) k) (flipItem p (8 + 40 * j)))
      (∀ e ∈ news, descOk s y e.2 = true) → layoutFits s y (descsWith s y news) = true →
      ∃ u, exec (.layerFlip src) s = .next (keep s (finish F src .ok [] 0 u)) ∧
        (∀ j, j < ks.length → (getLayer u ((ks[j]?).getD 0)).flip = some (flipItem p (8 + 40 * j))) ∧
        ∀ z, z ∉ ks → getLayer u z = getLayer s z)
/-- Ranking of a block at t with TOP_K members at most, HOLD and HYST, on a set and candidates that name each input once: the new set names
each input once and holds at most TOP_K members; with an old set within TOP_K, a member whose candidate is active, that
entered less than HOLD before, stays with its entry time; a member of the new set was in the old one or is an active candidate that entered at t. The
sum of contributions without one of them is, to the bit, the sum of the others. -/
def Obligations.RankingAndMixMinus : Prop :=
  (∀ (ord : Nat → Nat) (t hold top : Nat) (hyst : Int) (cs : List Cand) (l : List Rank),
    (l.map (·.key)).Nodup → (cs.map (·.key)).Nodup →
    let r := rankStep ord t hold top hyst cs l
    (r.map (·.key)).Nodup ∧ r.length ≤ top ∧
    (∀ m ∈ l, ∀ c ∈ cs, l.length ≤ top → c.key = m.key → c.act = true → 0 < hold → t < m.entered + hold →
      ∃ q ∈ r, q.key = m.key ∧ q.entered = m.entered) ∧
    ∀ q ∈ r, (∃ m ∈ l, m.key = q.key ∧ m.entered = q.entered) ∨ (q.entered = t ∧ ∃ c ∈ cs, c.key = q.key ∧ c.act = true)) ∧
  ∀ (n : Nat) (a : List Int) (b c : List (List Int)), a.length = n → (∀ v ∈ b ++ c, v.length = n) →
    subSig (sumSig n (b ++ a :: c)) a = sumSig n (b ++ c)

/-- For every running state, without lockstep mismatches. The due front job of a PORT or HOST leg completes, with the mix gain applied
and the score moved a quarter of the way while voice is active. A due ranking job without critical legs leaves phase 2 and a set of
at most TOP_K; a due mix job of a block without members, kernel and clips leaves phase 4 and a silent sum. A back job of a HOST leg or a
shared encoding leaves the list of jobs; an abandoned one keeps its other legs. A missing tag makes the leg's period concealment. AES67
frames in sequence leave as one packet. The end of a Plane ramp is as Plane.ended says. The jitter buffer of a floating stream takes a
target within the leg's bounds, or keeps it without offsets of the last 2 s. -/
def Obligations.AudioJobs : Prop :=
  ∀ s : State, halted s = false →
    (∀ n tone, n < 4096 →
      let k := okey 3 n
      (getIn s k).st = 1 → (legKind s k = 2 ∨ legKind s k = 3) →
      ∃ t, exec (.audioFrontJob k tone false) s = .next t ∧ (getIn t k).st = 3 ∧ (getIn t k).t = (getIn s k).t ∧
        (getIn t k).y = gainBlock (lprm t k 1) (getIn t k).x ∧
        (getIn t k).sc = if (getIn t k).vad then (getIn s k).sc + ((getIn t k).level - (getIn s k).sc) / 4 else (getIn s k).sc) ∧
    (∀ n, n < 1024 →
      let c := okey 2 n
      let g := getGraph s c
      (g.phase = 1 → g.t + mixPeriod s c / 2 ≤ phcNs s.time →
        (∀ k ∈ blockIns s c g.mt, unfinished s k = true → isFixed s (legOfIn s k) = false) →
        (g.set_.map (·.key)).Nodup →
        ∃ t, exec (.rankingJob n false) s = .next t ∧ (getGraph t c).phase = 2 ∧
          ((blockIns s c g.mt).Nodup → (getGraph t c).set_.length ≤ cprm s c 1)) ∧
      (g.phase = 2 → g.t + 11 * mixPeriod s c / 20 ≤ phcNs s.time → g.mem = [] → g.clips = [] →
        ∃ t, exec (.mixJob n false) s = .next t ∧ (getGraph t c).phase = 4 ∧
          (getGraph t c).sum_ = List.replicate (24 * subsOf_ s c) 0)) ∧
    (∀ n, n < 4096 →
      let l := okey 3 n
      let c := confOfLeg s l
      let P := mixPeriod s c
      let bs := (getGraph s c).backs
      let ph := phcNs s.time
      (∀ z j, bs.find? (fun j => j.legs.contains l && j.z.isNone) = some j → j.t + 3 * P / 5 ≤ ph → ph < j.t + 2 * P →
        (j.shared.isSome = true ∨ legKind s (j.legs.headD l) = 3) → z.bad = false →
        ∃ t, exec (.backJob n z) s = .next t ∧
          (getGraph t c).backs = bs.filter fun b => !(b.t == j.t && b.legs == j.legs)) ∧
      (∀ j, bs.find? (fun j => j.legs.contains l && decide (j.t + 2 * P ≤ ph)) = some j → isFixed s l = false →
        ∃ t, exec (.backJobAbandon n) s = .next t ∧
          (getGraph t c).backs = bs.filterMap fun b => if b.t == j.t && b.legs == j.legs then b.without l else some b) ∧
      (isCritical s l = true → isActive s l = true → bs.find? (fun j => j.legs.contains l && decide (j.t + P + 1000000 ≤ ph)) = none →
        tagMissing s l = true → (getAud s l).conceal = false →
        ∃ t, exec (.tagMissingTimeout n) s = .next t ∧ (getAud t l).conceal = true) ∧
      (∀ side, side < 2 →
        let p := getPlane s l side
        (p.st = 1 ∨ p.st = 3) → (p.ramp = 0 ∨ isActive s l = false) →
        exec (.planeRampEnd n side) s = .next (keep s (setPlane s l side (p.ended (lprm s l 12).toNat))))) ∧
    (∀ n, n < 16384 →
      let x := okey 4 n
      let d := getStream s x
      let m := ofldN s x (fk 0x04 17 2)
      let slot := phcNs s.time * 48000 / 1000000000
      (isActive s x = true → 0 < m → (gridRun m d.fifo).length = m → slot % m = 0 → d.rtpPos ≤ slot →
        ∃ t, exec (.aes67PacketSend n) s = .next t ∧ (getStream t x).fifo = d.fifo.drop m ∧ (getStream t x).rtpPos = slot + m) ∧
      (isActive s x = true → isFixed s (legOfStream s x) = false → (getJb s x).o.isSome = true →
        legKind s (legOfStream s x) = 0 → isAes67 s x = false → (getJb s x).evalAt + 1000000000 ≤ now s →
        let l := legOfStream s x
        let recent := (getJb s x).offs.filter fun e => decide (now s < e.1 + 2000000000)
        ∃ v, exec (.jbDepthAdapt n) s = .next (keep s (setJb s x { getJb s x with evalAt := now s, target := v })) ∧
          (recent = [] → v = (getJb s x).target) ∧
          (recent ≠ [] → ofldN s l (fk 0x01 10 1) ≤ ofldN s l (fk 0x01 10 3) →
            ofldN s l (fk 0x01 10 1) ≤ v ∧ v ≤ ofldN s l (fk 0x01 10 3))))

/-- For every command that is next to be served, next states in full unless said. AUDIO_READ answers 32 bytes and changes nothing but free
values; MIX_READ answers the ranked members by rank and the pinned ones. HRTF_LOAD from a readable window of a set that is well formed
fills the slot; from outside a window it is a DMA fault; HRTF_UNLOAD of an own slot that no conference names empties it. PLAY_CLIP adds a
clip to a leg of the surface's partition with fewer than two; CLIP_STOP marks those of the surface, and without any answers
BAD_STATE. DTMF_SEND of digits and times in range starts the digits; while others sound, BUSY. PLANE_STOP of a running instance starts its ramp down,
PLANE_START of a stopped one its ramp up, PLANE_LOAD of a legal set into a stopped one stores it, PLANE_READ answers state, set,
preset and delay. -/
def Obligations.AudioCommands : Prop :=
  ∀ (s : State) (F : Nat) (src : Src) (p : Bytes),
    (∀ l, resolve s F 3 (le p 0 4) = some l →
      let a := getAud s l
      (upNext 0x0C00 src F p s = true →
        ∃ out u, exec (.audioRead src) s = .next (keep s (finish F src .ok out 0 u)) ∧ out.length = 32 ∧ u = { s with free := u.free } ∧
          (out.drop 2).take 2 = toLeI 2 a.snap.level ∧ (out.drop 16).take 8 = toLe 8 a.snap.time) ∧
      (∀ n f, upNext 0x0C04 src F p s = true → l / 1048576 = 3 → resolveSurf s F (le p 4 4) = some n → getSurf s n = some f →
        ((getObj s l).map (·.part)) = some f.part → le p 8 1 ≤ 1 → -6144 ≤ signed 16 (le p 10 2) → signed 16 (le p 10 2) ≤ 768 →
        (f.fmt = 0x10 ∨ f.fmt = 0x11) → (a.clips.filter fun c => !c.stop).length < 2 →
        exec (.playClip src) s = .next (keep s (finish F src .ok [] 0 (setAud s l { a with
          clips := a.clips ++ [{ surf := n, repl := le p 8 1 == 1, gain := signed 16 (le p 10 2), loops := le p 9 1 }] })))) ∧
      (∀ n, upNext 0x0C05 src F p s = true → l / 1048576 = 3 → resolveSurf s F (le p 4 4) = some n →
        exec (.clipStop src) s = .next (keep s (if ∃ c ∈ a.clips, c.surf = n ∧ c.stop = false
          then finish F src .ok [] 0 (setAud s l { a with
            clips := a.clips.map fun c => if c.surf = n then { c with stop := true } else c })
          else finish F src .badState [] 0 s))) ∧
      (upNext 0x0C06 src F p s = true → 1 ≤ le p 4 1 → le p 4 1 ≤ 16 → 40 ≤ le p 6 2 → le p 6 2 ≤ 2000 → 40 ≤ le p 8 2 →
        (∀ n, n < le p 4 1 → le p (12 + n) 1 ≤ 15) →
        (a.dtmf = none →
          ∃ d, exec (.dtmfSend src) s = .next (keep s (finish F src .ok [] 0 (setAud s l { a with dtmf := some d }))) ∧
            d.digits = ((List.range (le p 4 1)).map fun n => le p (12 + n) 1) ∧ d.tone = le p 6 2 * 1000000 ∧
            d.gap = le p 8 2 * 1000000 ∧ d.pos = 0) ∧
        (a.dtmf ≠ none → exec (.dtmfSend src) s = .next (keep s (finish F src .busy [] 0 s)))) ∧
      (le p 4 1 ≤ 1 →
        let side := le p 4 1
        let q := getPlane s l side
        let prod := if side = 0 then 0 else outProduces s l
        (upNext 0x0C07 src F p s = true →
          exec (.planeStop src) s = .next (keep s (finish F src .ok [] 0
            (if q.st = 0 ∨ q.st = 3 then setPlane s l side { q with st := 1, ramp := 2000000, swap := false } else s)))) ∧
        (upNext 0x0C09 src F p s = true → le p 5 1 ≤ 1 → q.st = 2 → (le p 5 1 = 0 ∨ q.set_ ≠ none) →
          exec (.planeStart src) s = .next (keep s (finish F src .ok [] 0 (setPlane s l side { q with
            st := 3, ramp := 2000000, swap := false, custom := le p 5 1 == 1, phase := (lprm s l 12).toNat })))) ∧
        (∀ d, upNext 0x0C08 src F p s = true → inWindow (getFn s F) (le p 8 8) (le p 16 4) false = true →
          d.length = le p 16 4 → planeSetOk d prod = true →
          (q.st = 2 → exec (.planeLoad src d) s = .next (keep s (finish F src .ok [] 0 (setPlane s l side { q with
            set_ := some (le d 0 1, le d 1 1, le d 2 1, le d 8 4, (List.range (le d 0 1)).map fun j => signed 32 (le d (12 + 4 * j) 4)) })))) ∧
          (q.st ≠ 2 → exec (.planeLoad src d) s = .next (keep s (finish F src .busy [] 0 s)))) ∧
        (upNext 0x0C0A src F p s = true →
          exec (.planeRead src) s = .next (keep s (finish F src .ok
            (toLe 1 q.st ++ toLe 1 (b2n q.custom) ++ toLe 1 (presetOf prod q.phase) ++ zeros 1
              ++ toLe 4 (planeDelay q prod (if side = 0 then inRate s l == 0 else prod == 0))) 0 s))))) ∧
    (∀ c, upNext 0x0C01 src F p s = true → resolve s F 2 (le p 0 4) = some c →
      let g := getGraph s c
      let pin := g.mem.filter fun k => !(g.set_.any fun r => r.key == k)
      ∃ out, exec (.mixRead src) s = .next (keep s (finish F src .ok
        (toLe 1 (g.set_.length + pin.length) ++ zeros 7 ++ out ++ pin.flatMap fun k => mixEntry s g k 0 1) 0 s)) ∧
        out.length = 16 * g.set_.length) ∧
    (∀ pt, (getFn s F).part = some pt →
      let slot := le p 0 1
      let own := Tab.get s.aud.hrtf slot
      hrtfNamed s slot = false →
      (∀ d, upNext 0x0C02 src F p s = true → 1 ≤ slot → slot ≤ 15 →
        (∀ h, own = some h → h.part = pt) → (own = none → (s.aud.hrtf.filter fun e => e.2.part = pt).length < quota s pt 4 2) →
        (inWindow (getFn s F) (le p 8 8) (le p 16 4) false = true → 32 ≤ le d 0 1 → le d 0 1 ≤ 96 → le d 0 1 % 8 = 0 → le d 1 1 = 32 →
          le d 2 2 = 0 → le p 16 4 = 8 + 256 * le d 0 1 → d.length = le p 16 4 → le d 4 4 = crc32 (d.drop 8) →
          (∀ j, j < 64 * le d 0 1 → -524288 ≤ signed 32 (le d (8 + 4 * j) 4) ∧ signed 32 (le d (8 + 4 * j) 4) ≤ 524287) →
          exec (.hrtfLoad src d) s = .next (keep s (finish F src .ok [] 0 { s with aud := { s.aud with
            hrtf := Tab.set s.aud.hrtf slot { part := pt, taps := le d 0 1
                                              coef := (List.range (64 * le d 0 1)).map fun j => signed 32 (le d (8 + 4 * j) 4) } } }))) ∧
        (8 ≤ le p 16 4 → inWindow (getFn s F) (le p 8 8) (le p 16 4) false = false →
          exec (.hrtfLoad src d) s =
            .next (keep s (finish F src .dmaFault [] 0 (dmaFaulted F (le p 8 8) (le p 16 4) 0 s))))) ∧
      (∀ h, upNext 0x0C03 src F p s = true → own = some h → h.part = pt →
        exec (.hrtfUnload src) s = .next (keep s (finish F src .ok [] 0
          { s with aud := { s.aud with hrtf := Tab.del s.aud.hrtf slot } }))))

/-- For every core below 192 of a running device and every arithmetic slot word that issues next, k the core before and u after but for
the slot number, which advances: the operations on lanes leave the exact result of each lane, or of the 40-bit value when WIDE,
clamped with SAT (setting sr.SAT when that changes it), or in its low bits, on its way with the latency of Table 9-6; the accumulator
operations the same in 48 bits; the others the value, predicate or search step that the table gives. NORM is the number of
redundant sign bits, EXPB their least over the registers named. Nothing else changes. -/
def Obligations.KernelArithmeticSlots : Prop :=
  ∀ (s : State) (c n w : Nat), c < 192 → halted s = false → n < 2 → issues s c n w = true →
    let k := slotStart (getCore s c)
    let a := k.rd (aSa w)
    let b := k.rd (aSb w)
    let x6 := aX w % 64
    let does := fun (ins : Instr) (P : Core → Prop) =>
      ∃ u, exec ins s = .next (keep s (setCore s c { u with slot := n + 1 })) ∧ P u
    let lanes : List (Instr × Nat × Nat × (Int → Int → Int)) := [
      (.add c, 0x01, 1, fun p q => p + q), (.sub c, 0x02, 1, fun p q => p - q), (.addi c, 0x03, 1, fun p _ => p + signed 9 (aX w)),
      (.neg c, 0x04, 1, fun p _ => -p), (.abs c, 0x05, 1, fun p _ => |p|), (.min c, 0x06, 1, fun p q => if p ≤ q then p else q),
      (.max c, 0x07, 1, fun p q => if p ≤ q then q else p), (.shli c, 0x0B, 1, fun p _ => p * 2 ^ x6),
      (.shri c, 0x0C, 1, fun p _ => if bitOf (aX w) 8 && decide (0 < x6) then (p + 2 ^ (x6 - 1)) / 2 ^ x6 else p / 2 ^ x6),
      (.shle c, 0x0D, 1, fun p _ =>
        let m := max (-40) (min 40 (laneOf b false))
        if 0 ≤ m then p * 2 ^ m.toNat else (p + 2 ^ ((-m).toNat - 1)) / 2 ^ (-m).toNat),
      (.mul c, 0x0E, 2, fun p q => (p * q + 2 ^ 18) / 2 ^ 19)]
    let prod := fun h => laneOf a h * laneOf b h
    let accs : List (Instr × Nat × Nat × Int × Int) := [
      (.mac c, 0x0F, 2, (k.ra (aDst w)).1 + prod false, (k.ra (aDst w)).2 + prod true),
      (.msu c, 0x10, 2, (k.ra (aDst w)).1 - prod false, (k.ra (aDst w)).2 - prod true), (.clra c, 0x11, 1, 0, 0),
      (.lda c, 0x12, 1, laneOf a false * 2 ^ x6, laneOf a true * 2 ^ x6),
      (.adda c, 0x13, 1, (k.ra (aDst w)).1 + (k.ra (aSa w)).1, (k.ra (aDst w)).2 + (k.ra (aSa w)).2)]
    let plain : List (Instr × Nat × Nat × (Word40 → Prop)) := [
      (.and c, 0x08, 1, fun v => v = a &&& b), (.or c, 0x09, 1, fun v => v = a ||| b), (.xor c, 0x0A, 1, fun v => v = a ^^^ b),
      (.norm c, 0x15, 2, fun v =>
        let red := fun (m : Nat) (x y : Int) => 0 ≤ y ∧ y < m ∧ -(2 ^ (m - 1 - y.toNat)) ≤ x ∧ x < 2 ^ (m - 1 - y.toNat) ∧
          (y + 1 < m → ¬(-(2 ^ (m - 2 - y.toNat)) ≤ x ∧ x < 2 ^ (m - 2 - y.toNat)))
        if aWide w then red 40 (wide a) (wide v) else ∀ h, red 20 (laneOf a h) (laneOf v h)),
      (.expb c, 0x16, 2, fun v => laneOf v true = laneOf v false ∧ (0 < aX w % 16 →
        (∀ r h, r < aX w % 16 → laneOf v false ≤ normOf 20 (laneOf (k.rd (aSa w + r)) h)) ∧
        ∃ r h, r < aX w % 16 ∧ laneOf v false = normOf 20 (laneOf (k.rd (aSa w + r)) h))),
      (.sel c, 0x18, 1, fun v => v = if k.rc (aX w % 4) then a else b),
      (.mov c, 0x19, 1, fun v => (bitOf (aX w) 0 = false → v = a) ∧ (bitOf (aX w) 0 = true → ∀ h, laneOf v h = laneOf a (!h))),
      (.pack c, 0x1A, 1, fun v => laneOf v false = laneOf a false ∧ laneOf v true = laneOf b false),
      (.rdsr c, 0x1B, 1, fun v => v.toNat = k.sr.toNat + 32 * b2n (decide (176 ≤ c)) + 256),
      (.rds c, 0x22, 1, fun v => v.toNat = ([k.srchOld.smax.toNat, k.srchOld.imax.toNat, k.srchOld.smin.toNat,
        k.srchOld.imin.toNat])[aX w % 4]?.getD 0)]
    (aOpc w = 0 → does (.slotNop c) fun u => u = k) ∧
    (∀ e ∈ lanes, aOpc w = e.2.1 → does e.1 (LaneOp w e.2.2.1 e.2.2.2 k)) ∧
    (∀ e ∈ accs, aOpc w = e.2.1 → does e.1 (AccOp w e.2.2.1 e.2.2.2.1 e.2.2.2.2 k)) ∧
    (∀ e ∈ plain, aOpc w = e.2.1 → does e.1 fun u => ∃ v, AddsResult k u e.2.2.1 (.d (aDst w) v) false ∧ e.2.2.2 v) ∧
    (aOpc w = 0x14 → does (.ext c) fun u => ∃ v on, AddsResult k u 2 (.d (aDst w) v) on ∧
      let e := fun (x : Int) => if x6 = 0 then x else (x + 2 ^ (x6 - 1)) / 2 ^ x6
      laneOf v false = inBits 20 (aSat w) (e (k.ra (aSa w)).1) ∧ laneOf v true = inBits 20 (aSat w) (e (k.ra (aSa w)).2) ∧
        on = (clamps 20 (aSat w) (e (k.ra (aSa w)).1) || clamps 20 (aSat w) (e (k.ra (aSa w)).2))) ∧
    (aOpc w = 0x17 → does (.cmp c) fun u =>
      let x := if aWide w then wide a else laneOf a false
      let y := if aWide w then wide b else laneOf b false
      AddsResult k u 1 (.c (bits (aX w) 8 7)
        (([decide (x = y), decide (x < y), decide (x ≤ y), decide (x ≠ y)])[bits (aX w) 6 5]?.getD false)) false) ∧
    (aOpc w = 0x1C → does (.wrsr c) fun u => ∃ v, AddsResult k u 1 (.sr v) false ∧ v.toNat = a.toNat % 32) ∧
    (aOpc w = 0x3E → does (.movi c) fun u =>
      ∃ v, AddsResult k u 1 (.lane (bits w 24 20) (bitOf w 25) v) false ∧ v.toNat = w % 2 ^ 20) ∧
    (aWide w = true →
      (aOpc w = 0x20 → does (.maxi c) fun u => u = { k with srch := { k.srch with
        smax := if wide k.srch.smax < wide a then a else k.srch.smax
        imax := if wide k.srch.smax < wide a then k.srch.icnt else k.srch.imax, icnt := k.srch.icnt + 1 } }) ∧
      (aOpc w = 0x21 → does (.mini c) fun u => u = { k with srch := { k.srch with
        smin := if wide a < wide k.srch.smin then a else k.srch.smin
        imin := if wide a < wide k.srch.smin then k.srch.icnt else k.srch.imin, icnt := k.srch.icnt + 1 } })) ∧
    (aWide w = false →
      (aOpc w = 0x20 → does (.maxi c) fun u => ∃ q : Srch, u = { k with srch := q } ∧ q.icnt = k.srch.icnt + 2 ∧
        q.smin = k.srch.smin ∧ q.imin = k.srch.imin ∧ wide q.smax = max (wide k.srch.smax) (max (laneOf a false) (laneOf a true))) ∧
      (aOpc w = 0x21 → does (.mini c) fun u => ∃ q : Srch, u = { k with srch := q } ∧ q.icnt = k.srch.icnt + 2 ∧
        q.smax = k.srch.smax ∧ q.imax = k.srch.imax ∧ wide q.smin = min (wide k.srch.smin) (min (laneOf a false) (laneOf a true))))

/-- For every core of a running device and every slot word that issues next. A load of words without poison puts them on their way for
three cycles and post-modified pointers for one, nothing else; a store writes its word and no other byte. An address and control slot without
a repetition run ends the bundle: SETP, ADDP, SETM, SETCB, MOVP, MOVD and RDCYC write their register, a taken branch goes to its
target in two cycles, CALL sets lr, REP and REPR repeat the next bundle, DMAQ queues the descriptor, SRCHI resets the
search; KRET keeps the instance's state and the cycles used. A post-modified circular pointer lies in its buffer; results land when
their latency has passed and not before. -/
def Obligations.KernelMemoryAndControlSlots : Prop :=
  (∀ (s : State) (c w : Nat), c < 192 → halted s = false → issues s c 2 w = true →
    let k := getCore s c
    let a := k.rp (lPa w)
    let loads := fun (ins : Instr) (P : List (Nat × DspWr) → Prop) =>
      ∃ t r l, exec ins s = .next t ∧ getCore t c = { k with slot := 3, wr := k.wr ++ r ++ l } ∧ P r ∧
        ∀ e ∈ l, ∃ n p, e = (1, .p n p)
    (lOpc w = 0 → ∃ t, exec (.slotNop c) s = .next t ∧ getCore t c = { k with slot := 3 }) ∧
    (k.poisoned w = false →
      (lOpc w = 1 → loads (.ld c false) fun r =>
        ∃ v, r = [(3, .d (lDa w) v)] ∧ v.toNat = fromLe (Mem.read 0 k.mem a 8) % 2 ^ 40) ∧
      (lOpc w = 2 → lDa w ≠ lDb w → loads (.ld2 c false) fun r =>
        ∃ v u, r = [(3, .d (lDa w) v), (3, .d (lDb w) u)] ∧ v.toNat = fromLe (Mem.read 0 k.mem a 8) % 2 ^ 40 ∧
          u.toNat = fromLe (Mem.read 0 k.mem (k.rp (lPb w)) 8) % 2 ^ 40) ∧
      (lOpc w = 2 → lDa w = lDb w → loads (.ld2 c false) fun r => ∃ v, r = [(3, .d (lDa w) v)]) ∧
      (lOpc w = 4 → loads (.ldw c false) fun r =>
        ∃ v, r = [(3, .d (lDa w) v)] ∧ wide v = signed 32 (fromLe (Mem.read 0 k.mem a 4)))) ∧
    (lOpc w = 3 → ∃ t, exec (.st c) s = .next t ∧ Mem.read 0 (getCore t c).mem a 8 = word40 (k.rd (lDa w)) ∧
      (∀ x, (x < a ∨ a + 8 ≤ x) → Mem.get 0 (getCore t c).mem x = Mem.get 0 k.mem x) ∧ (getCore t c).d = k.d) ∧
    (lOpc w = 5 → ∃ t, exec (.stw c) s = .next t ∧ Mem.read 0 (getCore t c).mem a 4 = toLe 4 (k.rd (lDa w)).toNat ∧
      (∀ x, (x < a ∨ a + 4 ≤ x) → Mem.get 0 (getCore t c).mem x = Mem.get 0 k.mem x) ∧ (getCore t c).d = k.d)) ∧
  (∀ (s : State) (c w : Nat), c < 192 → halted s = false → issues s c 3 w = true →
    let k := getCore s c
    let t12 := bits w 11 0
    k.rep = none → k.repNew = none → k.xtra = 0 → k.p.length = 8 → k.m.length = 8 → k.cb.length = 8 → k.cl.length = 8 →
    k.d.length = 32 →
    let ends := fun (ins : Instr) (pc cyc : Nat) (P : Core → Prop) =>
      ∃ t, exec ins s = .next t ∧ (getCore t c).pc = pc ∧ (getCore t c).cyc = k.cyc + BitVec.ofNat 64 cyc ∧
        (getCore t c).slot = 0 ∧ (getCore t c).mem = k.mem ∧ P (getCore t c)
    (cOpc w = 0x00 → ends (.slotNop c) k.next 1 fun _ => True) ∧
    (cOpc w = 0x01 → ends (.br c) t12 2 fun _ => True) ∧
    (cOpc w = 0x02 → (k.rc (bits w 26 25) = bitOf w 24 → ends (.brc c) t12 2 fun _ => True) ∧
      (k.rc (bits w 26 25) ≠ bitOf w 24 → ends (.brc c) k.next 1 fun _ => True)) ∧
    (cOpc w = 0x03 → (∀ e ∈ k.wr, ∀ v, e.2 ≠ .lr v) → ends (.call c) t12 2 fun u => u.lr.toNat = (k.pc + 1) % 4096) ∧
    (cOpc w = 0x04 → ends (.ret c) k.lr.toNat 2 fun _ => True) ∧
    (cOpc w = 0x05 → ends (.rep c) (k.pc + 1) 1 fun u => u.rep = some (bits w 9 0 + 1)) ∧
    (cOpc w = 0x06 → 1 ≤ laneOf (k.rd (cD w)) false →
      ends (.repr c) (k.pc + 1) 1 fun u => u.rep = some (laneOf (k.rd (cD w)) false).toNat) ∧
    (cOpc w = 0x07 → ends (.setp c) k.next 1 fun u => u.rp (cK w) = w % 2 ^ 18) ∧
    (cOpc w = 0x08 → ends (.addp c) k.next 1 fun u => u.rp (cK w) = (k.rp (cK w) + w) % 2 ^ 18) ∧
    (cOpc w = 0x09 → ends (.setm c) k.next 1 fun u => ∃ v, u.m[cK w]? = some v ∧ v.toNat = w % 2 ^ 18) ∧
    (cOpc w = 0x0A → ends (.setcb c) k.next 1 fun u =>
      ∃ v l, u.cb[cK w]? = some v ∧ u.cl[cK w]? = some l ∧ v.toNat = k.rp (cK w) ∧ l.toNat = w % 2 ^ 18) ∧
    (cOpc w = 0x0B → ends (.movp c) k.next 1 fun u => u.rp (cK w) = (k.rd (cD w)).toNat % 2 ^ 18) ∧
    (cOpc w = 0x0C → ends (.movd c) k.next 1 fun u => (u.rd (cD w)).toNat = k.rp (cK w)) ∧
    (cOpc w = 0x0D → ends (.dmaq c) k.next 1 fun u =>
      let d := fromLe (Mem.read 0 k.mem (k.rp (cK w)) 16)
      u.dma = k.dma ++ [{ tag := bits w 3 0, off := bits d 31 0, local_ := bits d 49 32, len := bits d 80 64 }]) ∧
    (cOpc w = 0x0E → ends (.dmawait c) k.next 1 fun u => u.dma = k.dma) ∧
    (cOpc w = 0x0F → ends (.srchi c) k.next 1 fun u =>
      wide u.srch.smax = -(2 ^ 39) ∧ wide u.srch.smin = 2 ^ 39 - 1 ∧ u.srch.icnt = 0) ∧
    (cOpc w = 0x10 → ends (.rdcyc c) k.next 1 fun u => (u.rd (cD w)).toNat = k.cyc.toNat % 2 ^ 40) ∧
    (∀ v x, cOpc w = 0x11 → k.run = some v → v.init = true → getInst s v.inst = some x →
      ∃ t y, exec (.kret c false) s = .next t ∧ getInst t v.inst = some y ∧
        y.st = Mem.read 0 k.mem v.stAt x.st.length ∧ y.last = (k.cyc.toNat + 1) % 2 ^ 32 ∧ y.max_ = max x.max_ y.last)) ∧
  (∀ (k : Core) (n mv p q : Nat), postMod k n 2 mv p = some q →
    let b := (k.cb[n]?.getD 0).toNat
    let l := (k.cl[n]?.getD 0).toNat
    b + l ≤ 2 ^ 18 → b ≤ q ∧ q < b + l) ∧
  ∀ (k : Core) (lat r : Nat) (v : Word40), k.wr = [(lat, .d r v)] → r < k.d.length →
    (lat ≤ 1 → k.cycle.rd r = v ∧ k.cycle.wr = []) ∧ (1 < lat → k.cycle.rd r = k.rd r ∧ k.cycle.wr = [(lat - 1, .d r v)])

/-- For every running state and core c. A kernel at LIMIT, a faulting bundle, an uncorrectable word or poisoned table data puts the instance into PASS_THROUGH
with its cause; table data that is good enters the memory at its place and nowhere else; a core interrupt changes nothing a
kernel sees; a stalled bundle takes a cycle. A watchdog reset of a kernel core puts every instance on it into PASS_THROUGH with cause 7.
KERNEL_CORES gives free cores to their partitions; KERNEL_LOAD of a valid image stores it at the lowest free index; KERNEL_UNLOAD
of one that nothing names removes it; KERNEL_READ answers Table 9-15; KERNEL_RESUME of a stopped instance waits for its
boundary. -/
def Obligations.KernelStopsAndCommands : Prop :=
  (∀ (s : State) (c : Nat) (v : Invo), c < 192 → halted s = false →
    let k := getCore s c
    k.run = some v →
    (getInst s v.inst ≠ none → k.slot = 0 → k.rep = none → v.limit ≤ k.cyc.toNat →
      ∃ t, exec (.kernelOverrun c) s = .next t ∧ Passes t v.inst 1) ∧
    (∀ code tbl cause, runCode s v = some (code, tbl) → k.slot = 0 → (k.rep ≠ none ∨ k.cyc.toNat < v.limit) →
      bundleFault (isGauge c) k v code tbl = some cause →
      ∃ t, exec (.slotNop c) s = .next t ∧ Passes t v.inst cause) ∧
    (∀ code tbl b, runCode s v = some (code, tbl) → k.slot = 0 → (k.rep ≠ none ∨ k.cyc.toNat < v.limit) →
      bundleFault (isGauge c) k v code tbl = none → bundleAt code k.pc = some b → cOpc b.ac = 0x0E →
      (∃ d ∈ k.dma, d.tag = bits b.ac 3 0) → exec (.dmawait c) s = .next (keep s (setCore s c k.cycle))) ∧
    (∀ w, issues s c 2 w = true → lOpc w = 1 → ∃ t, exec (.ld c true) s = .next t ∧ Passes t v.inst 5) ∧
    (∀ n d, k.dma[n]? = some d → k.slot = 0 →
      (∃ t, exec (.kernelDmaComplete c n false) s = .next t ∧ (getCore t c).dma = k.dma.eraseIdx n ∧
        (getCore t c).run = some v ∧ ∀ a, (a < d.local_ ∨ d.local_ + d.len ≤ a) → Mem.get 0 (getCore t c).mem a = Mem.get 0 k.mem a) ∧
      (k.rep = none → getInst s v.inst ≠ none →
        ∃ t, exec (.kernelDmaComplete c n true) s = .next t ∧ Passes t v.inst 5)) ∧
    (∀ n, exec (.coreInterrupt c n) s = .next s) ∧
    (k.wdog + 4000000 ≤ s.time.ticks → k.part ≠ none →
      ∃ t, exec (.dspWatchdogExpiry c) s = .next t ∧
        ∀ m x, getInst s m = some x → x.core = c → x.state ≠ 2 → Passes t m 7)) ∧
  ∀ (s : State) (F : Nat) (src : Src) (p : Bytes),
    (let es := coreItems p 8 (le p 0 1)
     let dest := fun h => if h = 0 then none else resolvePart s h
     upNext 0x010B src F p s = true → (es.map (·.1)).Nodup →
     (∀ e ∈ es, ((152 ≤ e.1 ∧ e.1 ≤ 175) ∨ e.1 = 190 ∨ e.1 = 191) ∧ (e.2 = 0 ∨ (resolvePart s e.2).isSome = true)) →
     (∀ e ∈ es, (getCore s e.1).part = none ∧ held s (if isGauge e.1 then 3 else 2) (if isGauge e.1 then e.1 - 176 else e.1) [] = 0) →
     ∃ u, exec (.kernelCores src) s = .next (keep s (finish F src .ok [] 0 u)) ∧
       (∀ e ∈ es, (getCore u e.1).part = dest e.2 ∧ (dest e.2 ≠ none → (getCore u e.1).mem = [])) ∧
       ∀ c, (∀ e ∈ es, e.1 ≠ c) → getCore u c = getCore s c) ∧
    (∀ d pt n, (getFn s F).part = some pt → upNext 0x0D00 src F p s = true →
      inWindow (getFn s F) (le p 0 8) (le p 8 4) false = true → imageOk d = true → d.length = le p 8 4 →
      le d 6 1 ≤ isaLevel → le d 8 1 = s.boot.kabi % 256 → le d 9 1 ≤ s.boot.kabi / 256 → s.dsp.kerns.length < 16 →
      (s.dsp.kerns.filter fun e => e.2.part = pt).length < quota s pt 4 0 → lowestFree (Tab.keys s.dsp.kerns) 0 16 = some n →
      let g := nextGen (Tab.get s.dsp.kgens n)
      let u : State := { s with dsp := { s.dsp with
        kerns := Tab.set s.dsp.kerns n (imageKernel d g pt), kgens := Tab.set s.dsp.kgens n g } }
      (fitMem pt u).isSome = true →
      exec (.kernelLoad src d) s = .next (keep s (finish F src .ok (toLe 4 (mkHandle 0xA g n)) (mkHandle 0xA g n) (shrinkMem pt u)))) ∧
    (∀ n x, resolveKernel s F (le p 0 4) = some n → Tab.get s.dsp.kerns n = some x → upNext 0x0D01 src F p s = true →
      (kernelNamed s n = true → exec (.kernelUnload src) s = .next (keep s (finish F src .inUse [] 0 s))) ∧
      (kernelNamed s n = false → exec (.kernelUnload src) s = .next (keep s (finish F src .ok [] 0
        (shrinkMem x.part { s with dsp := { s.dsp with kerns := Tab.del s.dsp.kerns n } }))))) ∧
    ∀ m x, instanceAt s F p = some m → getInst s m = some x →
      (upNext 0x0D02 src F p s = true →
        exec (.kernelRead src) s = .next (keep s (finish F src .ok (toLe 1 (x.state + 4 * x.cause + 32 * b2n x.pair) ++ toLe 1 x.core
          ++ zeros 2 ++ toLe 4 x.limit ++ toLe 4 x.last ++ toLe 4 x.max_ ++ toLe 8 x.time ++ zeros 8) 0 s))) ∧
      (upNext 0x0D03 src F p s = true →
        (x.state = 2 → exec (.kernelResume src) s =
          .next (keep s (finish F src .ok [] 0 (updInst s m fun y => { y with resume := true })))) ∧
        (x.state ≠ 2 → exec (.kernelResume src) s = .next (keep s (finish F src .badState [] 0 s))))

/-- For every running state and port p, a of its state before. A frame edge of a RUNNING port counts a good frame, or none after a
bad one, and puts waiting masks in force; a good frame of a GRAPH-mode TDM port (8 to 15) enters the receive ring at the
producer index, which advances, with the slots outside RX_MASK zero. A clock loss takes a RUNNING or FAULT port that does
not time itself to HOLD, with zero outputs. In HOLD or FAULT a GRAPH-mode receive ring takes a zero frame per held frame. A
measurement after 32 good frames makes the port RUNNING when it fits RATE and FAULT when it does not. An accepted channel-status
block of a RUNNING AES3 input is stored; after 4,096 frames without a detection the mute ends. -/
def Obligations.AudioPortEvents : Prop :=
  ∀ (s : State) (p : Nat), halted s = false → 8 ≤ p → p ≤ 19 →
    let a := getAPort s p
    (∀ f, a.st = 1 →
      ∃ t, exec (.audioFrameEdge p f) s = .next t ∧ (getAPort t p).st = 1 ∧
        (getAPort t p).good = (if f.good then a.good + 1 else 0) ∧
        (getAPort t p).rx = (a.newMask.getD (a.rx, a.tx)).1 ∧ (getAPort t p).tx = (a.newMask.getD (a.rx, a.tx)).2 ∧
        (getAPort t p).newMask = none ∧
        (p ≤ 15 → f.good = true → aprm s p 14 = 0 → aprm s p 6 = 24 →
          (getAPort t p).rxProd = a.rxProd + 1 ∧
          Tab.get (getAPort t p).rxBuf (a.rxProd % aprm s p 15) =
            some ((List.range (slotsOf p a.fields)).map fun c =>
              if bitOf (a.newMask.getD (a.rx, a.tx)).1 c then signed 24 (wrap 24 (f.smp[c]?.getD 0)) else 0))) ∧
    ((a.st = 1 ∨ a.st = 3) → onTimeline p a.fields = false →
      ∃ t, exec (.portClockLoss p) s = .next t ∧
        getAPort t p = { a with st := 2, good := 0, out := a.out.map (fun _ => 0), ctrs := bump a.ctrs .portHolds }) ∧
    ((a.st = 2 ∨ a.st = 3) → aprm s p 14 = 0 → p ≤ 17 →
      ∃ t, exec (.portHoldFrame p) s = .next t ∧ (getAPort t p).rxProd = a.rxProd + 1 ∧ (getAPort t p).st = a.st ∧
        Tab.get (getAPort t p).rxBuf (a.rxProd % aprm s p 15) = some (List.replicate (slotsOf p a.fields) 0)) ∧
    (∀ r, r < 2 ^ 32 → a.st ≠ 0 → 32 ≤ a.good → onTimeline p a.fields = false →
      (∀ n, fitRate s p r = some n → ∃ t, exec (.portRateMeasure p r) s = .next t ∧ (getAPort t p).st = 1 ∧
        (getAPort t p).rate = r ∧ (getAPort t p).ratio = ((r : Int) - 16 * n) * 100000000 / (16 * n)) ∧
      (fitRate s p r = none → ∃ t, exec (.portRateMeasure p r) s = .next t ∧ (getAPort t p).st = 3 ∧
        (getAPort t p).rate = r)) ∧
    (∀ ba bb, (p = 16 ∨ p = 17) → a.st = 1 → csOk ba = true → csOk bb = true →
      ∃ t, exec (.aes3CsBlock p ba bb) s = .next t ∧ (getAPort t p).cs = (ba, bb)) ∧
    (∀ n, (p = 16 ∨ p = 17) → a.mute = some n → 4096 ≤ n →
      ∃ t, exec (.aes3NonaudioEnd p) s = .next t ∧ getAPort t p = { a with mute := none })

/-- For every command that is next to be served, its port handle naming port i, next states in full unless said. PORT_CONFIG of an
audio port whose entries pass the checks and whose legs are neither ACTIVE nor HELD starts the port afresh with the
entries applied: RUNNING when it times itself, else in HOLD. PORT_CONFIG of an Ethernet port that keeps MODE applies its entries.
PORT_READ returns the 16 bytes of Table 15-10 or the 32 of Table 10-9 and changes nothing. PORT_SLOTS of masks within SLOTS
holds them for the next frame edge. AUDIO_CLOCK sets family, multiple and enable while no port runs on the timeline. AES3_READ
returns both accepted blocks. AES3_OUT_STATUS sets the channel status sent. -/
def Obligations.PortCommands : Prop :=
  ∀ (s : State) (F : Nat) (src : Src) (p : Bytes) (i : Nat), resolvePort (le p 0 4) = some i →
    let a := getAPort s i
    (upNext 0x0300 src F p s = true → resolvePort (le p 0 4) = some i → 8 ≤ i → i ≤ 19 →
      let es := entries p 8 (le p 6 2)
      let fs := applyEntries a.fields es
      lowest (entryChecks es fun k => fTable k == 0x0C && portRow i (fRow k)) = none → portFieldsOk s i fs = true →
      (∀ l ∈ portLegs s i, ∀ o, getObj s l = some o → o.state ≠ .active ∧ o.state ≠ .held) → a.st = 0 →
      ∃ t, exec (.portConfig src) s = .next t ∧ (getAPort t i).fields = fs ∧ (getAPort t i).rxProd = 0 ∧
        (getAPort t i).txCons = 0 ∧ (getAPort t i).st = if onTimeline i fs then 1 else 2) ∧
    (upNext 0x0300 src F p s = true → i < 8 →
      let es := entries p 8 (le p 6 2)
      lowest (entryChecks es fun k => fTable k == 0x12 && decide (fRow k ≤ 6)) = none → (∀ e ∈ es, fRow e.key ≠ 0) →
      fifoOk (applyEntries (getPort s i).fields es) = true →
      fld (applyEntries (getPort s i).fields es) (fk 0x12 3 0) % 2 = 0 →
      ∃ t, exec (.portConfig src) s = .next t ∧ (getPort t i).fields = applyEntries (getPort s i).fields es ∧
        t.eth.mode = s.eth.mode) ∧
    (upNext 0x0301 src F p s = true → i ≤ 19 →
      ∃ out, exec (.portRead src) s = .next (keep s (finish F src .ok out 0 s)) ∧
        (i < 8 → out = ethStatus s i) ∧ (8 ≤ i → out = portStatus s i)) ∧
    (upNext 0x0302 src F p s = true → 8 ≤ i → i ≤ 15 → le p 4 4 < 2 ^ slotsOf i a.fields → le p 8 4 < 2 ^ slotsOf i a.fields →
      exec (.portSlots src) s = .next (keep s (finish F src .ok [] 0 (setAPort s i { a with
        fields := Tab.set (Tab.set a.fields (fk 0x0C 12 0) (le p 4 4)) (fk 0x0C 12 1) (le p 8 4)
        newMask := some (le p 4 4, le p 8 4) })))) ∧
    (∀ q, upNext 0x0303 src F q s = true → le q 0 1 ≤ 1 → 1 ≤ le q 1 1 → le q 1 1 ≤ 2 → le q 2 1 ≤ 1 →
      (∀ e ∈ s.aud.ports, e.2.st = 1 → onTimeline e.1 e.2.fields = false) →
      exec (.audioClock src) s = .next (keep s (finish F src .ok [] 0 (setTime s { s.time with
        mclkFam := le q 0 1, mclkMult := le q 1 1, mclkEn := le q 2 1 == 1
        mclkAl := s.time.mclkAl && le q 0 1 == s.time.mclkFam })))) ∧
    (upNext 0x0304 src F p s = true → (i = 16 ∨ i = 17) →
      exec (.aes3Read src) s = .next (keep s (finish F src .ok (padTo 24 a.cs.1 ++ padTo 24 a.cs.2) 0 s))) ∧
    (upNext 0x0305 src F p s = true → (i = 18 ∨ i = 19) →
      exec (.aes3OutStatus src) s = .next (keep s (finish F src .ok [] 0 (setAPort s i
        { a with csOut := (csSent ((p.drop 8).take 23), csSent ((p.drop 32).take 23)) }))))

/-- For every bucket b with rate and tokens in 2^-16 byte, burst and time now (in TIMER ticks, since b.at_): refill sets the tokens to
min(burst * 65536, tok + floor(rate * dt * 5 * 65536 / 32000000000)) with dt the ticks since the previous update; it may release
exactly when tok >= 0; a charge of l bytes subtracts l * 65536. Rate and the time of the update are otherwise unchanged. -/
def Obligations.TokenBucketPseudocode : Prop :=
  ∀ (b : Bucket) (burst now_ l : Nat), b.at_ ≤ now_ →
    ((b.refill burst now_).tok =
      min ((burst : Int) * 65536)
        (b.tok + ((b.rate : Int) * ((now_ : Int) - b.at_) * 5 * 65536) / 32000000000) ∧
      (b.refill burst now_).rate = b.rate ∧ (b.refill burst now_).at_ = now_) ∧
    (b.may = true ↔ 0 ≤ b.tok) ∧ b.charge l = { b with tok := b.tok - l * 65536 }

/-- Refilling in two steps never gives more than refilling in one, and never more than the burst; a bucket that may release is after the
charge in debt by at most the packet. For a policer whose buckets are within their sizes: after each marker the buckets are so
again; a packet marked green or yellow takes its bytes from what the buckets held and were given since, and one marked red takes
none. The single-rate marker marks nothing pre-coloured yellow green, and a packet pre-coloured red is always red. police counts
each packet in exactly the two counters of its colour. -/
def Obligations.BucketsAndMarkers : Prop :=
  (∀ (b : Bucket) (burst t1 t2 : Nat), b.at_ ≤ t1 → t1 ≤ t2 →
    ((b.refill burst t1).refill burst t2).tok ≤ (b.refill burst t2).tok ∧ (b.refill burst t1).tok ≤ burst * 65536) ∧
  (∀ (b : Bucket) (l : Nat), b.may = true → -(l * 65536 : Int) ≤ (b.charge l).tok) ∧
  (∀ (x : Policer) (pre : Colour) (n dt : Nat),
    let cbs := fldN x.fields (fk 0x0D 3 0) * 65536
    let ebs := fldN x.fields (fk 0x0D 4 0) * 65536
    let pbs := fldN x.fields (fk 0x0D 6 0) * 65536
    let gain := fldN x.fields (fk 0x0D 2 0) * dt * 5 * 65536 / 4000000000
    let gainP := polPir x.fields * dt * 5 * 65536 / 4000000000
    let r := srtcm x pre n dt
    let q := trtcm x pre n dt
    (x.tc ≤ cbs → x.te ≤ ebs → r.2.tc ≤ cbs ∧ r.2.te ≤ ebs ∧
      (r.1 ≠ .red → r.2.tc + r.2.te + n * 65536 ≤ x.tc + x.te + gain)) ∧
    (pre ≠ .green → r.1 ≠ .green ∧ q.1 ≠ .green) ∧ (pre = .red → r.1 = .red ∧ q.1 = .red) ∧
    (x.tc ≤ cbs → x.tp ≤ pbs → q.2.tc ≤ cbs ∧ q.2.tp ≤ pbs ∧
      (q.1 ≠ .red → q.2.tp + n * 65536 ≤ x.tp + gainP) ∧ (q.1 = .green → q.2.tc + n * 65536 ≤ x.tc + gain))) ∧
  ∀ (s : State) (p i n d : Nat) (x : Policer), getPol s p i = some x →
    ∃ y, getPol (police p i n d s).2 p i = some y ∧ y.at_ = s.time.ticks ∧ y.fields = x.fields ∧
      y.ctrs = (match (police p i n d s).1 with
        | .green => bump (bump x.ctrs .greenPackets) .greenBytes n
        | .yellow => bump (bump x.ctrs .yellowPackets) .yellowBytes n
        | .red => bump (bump x.ctrs .redPackets) .redBytes n)

/-- For every running state and Ethernet port p, e of its state before. When the entry in force ends inside its cycle, the next comes into
force; at the cycle boundary, or the boundary a step holds, the list restarts at entry 0; at its change time the pending list takes
over at entry 0, an empty list removing the gates. A PFC frame under PFC pauses each class of its mask for its quanta of 512
bit times, or resumes it with quanta 0, and leaves the others; a PAUSE frame under PAUSE does so to all 8; both count in
RX_PAUSE, and either changes nothing else under another mode. A pause that is over ends. -/
def Obligations.GatesAndFlowControl : Prop :=
  ∀ (s : State) (p : Nat), halted s = false → p < 8 →
    let e := getPort s p
    let stop := fun (q : Nat) => if q = 0 then none else some (s.time.ticks + ceilDiv (512 * q * 4) (portGb s p * 5))
    (∀ g, e.gates = some g → e.gateEnd ≤ phcNs s.time → e.gateEnd < e.gateCycle + g.cycle →
      e.gateIdx + 1 < g.ents.length →
      exec (.gateEntryChange p) s = .next (keep s (setPort s p { e with
        gateIdx := e.gateIdx + 1
        gateEnd := if e.gateIdx + 2 = g.ents.length then e.gateCycle + g.cycle
          else min (e.gateCycle + g.cycle) (e.gateCycle + ((g.ents.take (e.gateIdx + 2)).map (·.2)).sum) }))) ∧
    (∀ g, e.gates = some g → e.gateHold.getD (e.gateCycle + g.cycle) ≤ phcNs s.time →
      let b := e.gateHold.getD (e.gateCycle + g.cycle)
      exec (.gateCycleBoundary p) s = .next (keep s (setPort s p { e with
        gateIdx := 0, gateCycle := b, gateEnd := entryEnd g b 0, gateHold := none }))) ∧
    (∀ g ct, e.gatesNew = some (g, ct) → ct ≤ phcNs s.time →
      ∃ t, exec (.gateListActive p) s = .next t ∧ t.time = s.time ∧ getPort t p = { e with
        gates := if g.ents = [] then none else some g
        gatesNew := none, gateIdx := 0, gateCycle := ct, gateEnd := entryEnd g ct 0, gateHold := none }) ∧
    (∀ mask quanta, portFlow s p = 2 →
      ∃ t, exec (.flowControlFrameReceive p true mask quanta) s = .next t ∧
        getPort t p = { e with ctrs := bump e.ctrs .rxPause, pausedTo := (getPort t p).pausedTo } ∧
        ∀ c, c < 8 → Tab.get (getPort t p).pausedTo c =
          if bitOf mask c then stop (quanta[c]?.getD 0) else Tab.get e.pausedTo c) ∧
    (∀ mask quanta, portFlow s p = 1 →
      ∃ t, exec (.flowControlFrameReceive p false mask quanta) s = .next t ∧
        getPort t p = { e with ctrs := bump e.ctrs .rxPause, pausedTo := (getPort t p).pausedTo } ∧
        ∀ c, c < 8 → Tab.get (getPort t p).pausedTo c = stop (quanta.head?.getD 0)) ∧
    (∀ pfc mask quanta, (pfc = true → portFlow s p ≠ 2) → (pfc = false → portFlow s p ≠ 1) →
      exec (.flowControlFrameReceive p pfc mask quanta) s = .next (keep s (bumpPort s p .rxPause))) ∧
    (∀ c at_, c < 8 → Tab.get e.pausedTo c = some at_ → at_ ≤ s.time.ticks →
      exec (.pauseHoldExpiry p c) s = .next (keep s (setPort s p { e with pausedTo := Tab.del e.pausedTo c })))

/-- For every running state, n being the accounted length of the head. The head of a fixed outgoing stream whose pacer may release, and
of a floating one that its leg's shaper takes, goes to its class queue: pacer and shaper are charged n, the shaper never
below minus its burst. The head of a leg's control queue goes at once when its class queue has room, and charges the
shaper. The head of a partition's host transmit queue goes to class 0 of its port when its limiter may release, and charges it. A
head whose bucket may not release, or whose class queue is full, stays. -/
def Obligations.PacersAndLimiters : Prop :=
  ∀ s : State, halted s = false →
    (∀ x it, x < 16384 → qHead s (qStream (okey 4 x)) = some it → isOut s (okey 4 x) = true →
      let l := legOfStream s (okey 4 x)
      let n := acctLen s (legPort s l) it.pkt.len
      let c := qClass (legPort s l) (streamTc s (okey 4 x))
      (pacerNow s (okey 4 x)).may = true → qFull s c it.pkt.len = false →
      (isFixed s (okey 4 x) = true ∨ ((shaperNow s l).may = true ∧ isChosen s l (okey 4 x) = true)) →
      ∃ t, exec (.pacerRelease x) s = .next t ∧
        (getStream t (okey 4 x)).pacer = (pacerNow s (okey 4 x)).charge n ∧
        (getLeg t l).shaper.tok = max ((shaperNow s l).charge n).tok (-((ofldN s l (fk 0x01 12 0) : Int) * 65536)) ∧
        t = keep s (releaseStream (okey 4 x) s)) ∧
    (∀ x it, x < 16384 → qHead s (qStream (okey 4 x)) = some it → isFixed s (okey 4 x) = true →
      (pacerNow s (okey 4 x)).may = false → exec (.pacerRelease x) s = .next s) ∧
    (∀ l it, l < 4096 → qHead s (qCtrl (okey 3 l)) = some it →
      qFull s (qClass (legPort s (okey 3 l)) (ctrlClass s (okey 3 l))) it.pkt.len = false →
      ∃ t, exec (.pacerRelease (qCtrl (okey 3 l))) s = .next t ∧
        (getLeg t (okey 3 l)).shaper.tok =
          max ((shaperNow s (okey 3 l)).charge (acctLen s (legPort s (okey 3 l)) it.pkt.len)).tok
            (-((ofldN s (okey 3 l) (fk 0x01 12 0) : Int) * 65536)) ∧
        t = keep s (releaseCtrl (okey 3 l) s)) ∧
    (∀ p it, p < 256 → qHead s (qHtx p) = some it →
      let port := it.pkt.stream % 8
      ((limiterNow s p).may = false → exec (.hostLimiterRelease p) s = .next s) ∧
      ((limiterNow s p).may = true → qFull s (qClass port 0) it.pkt.len = true →
        exec (.hostLimiterRelease p) s = .next (keep s (qHold (qClass port 0) s))) ∧
      (∀ y, (limiterNow s p).may = true → qFull s (qClass port 0) it.pkt.len = false → Tab.get s.obj.parts p = some y →
        ∃ t z, exec (.hostLimiterRelease p) s = .next t ∧ Tab.get t.obj.parts p = some z ∧
          z.lim = (limiterNow s p).charge (acctLen s port it.pkt.len) ∧ z.quota = y.quota))

/-- For every command that is next to be served, i the Ethernet port its handle names, next states in full. KERF_PORT_CONFIG of valid
entries of the Kerf rows applies them when the port's fixed objects still fit. GATE_LIST_SET of 0 to 256 valid entries holds the list
until the first of its cycle boundaries at or after the next stroke boundary, and counts a pending list that it replaces. GATE_LIST_READ
writes both lists to a window that takes them and answers their lengths, the entry in force and the change time.
POLICER_CONFIG that keeps CBS sets the fields and fills every bucket. -/
def Obligations.GateListsAndPolicers : Prop :=
  ∀ (s : State) (F : Nat) (src : Src) (p : Bytes),
    (∀ i, upNext 0x0306 src F p s = true → resolvePort (le p 0 4) = some i → i < 8 →
      let es := entries p 8 (le p 6 2)
      let s1 := setPort s i { getPort s i with fields := applyEntries (getPort s i).fields es }
      lowest (entryChecks es fun k => fTable k == 0x12 && decide (7 ≤ fRow k)) = none →
      portFails (future s1) i (gateLists (getPort s1 i)) = none →
      exec (.kerfPortConfig src) s = .next (keep s (finish F src .ok (zeros 16) 0 s1))) ∧
    (∀ i d, upNext 0x0307 src F p s = true → resolvePort (le p 0 4) = some i → i < 8 → le p 4 2 ≤ 256 →
      1000 ≤ le p 20 4 → le p 20 4 ≤ 1000000000 → le p 16 4 < 1000000000 →
      (le p 4 2 = 0 ∨ inWindow (getFn s F) (le p 24 8) (8 * le p 4 2) false = true) →
      (∀ j, j < le p 4 2 → le d (8 * j + 1) 3 = 0 ∧ 8 ≤ le d (8 * j + 4) 4 ∧ le d (8 * j + 4) 4 ≤ 1000000000) →
      let g : GateList :=
        { base := le p 8 6 * 1000000000 + le p 16 4, cycle := le p 20 4
          ents := (List.range (le p 4 2)).map fun j => (le d (8 * j) 1, le d (8 * j + 4) 4) }
      portFails (future s) i [(getPort s i).gates, if le p 4 2 = 0 then none else some g] = none →
      let s1 := if (getPort s i).gatesNew.isSome then bumpPort s i .gateListReplaced else s
      ∃ ct, exec (.gateListSet src d) s = .next (keep s (finish F src .ok (zeros 16) 0
          (setPort s1 i { getPort s1 i with gatesNew := some (g, ct) }))) ∧
        s.time.strokeNext ≤ ct ∧ g.base ≤ ct ∧ (ct - g.base) % g.cycle = 0 ∧
        (g.base + g.cycle ≤ ct → ct < s.time.strokeNext + g.cycle)) ∧
    (∀ i, upNext 0x0308 src F p s = true → resolvePort (le p 0 4) = some i → i < 8 →
      let cur := ((getPort s i).gates.map gateBytes).getD []
      let pen := ((getPort s i).gatesNew.map fun x => gateBytes x.1).getD []
      let ct := ((getPort s i).gatesNew.map (·.2)).getD 0
      let out := toLe 2 (cur.length / 8) ++ toLe 2 (pen.length / 8) ++ toLe 2 (getPort s i).gateIdx ++ zeros 2
        ++ toLe 6 (ct / 1000000000) ++ zeros 2 ++ toLe 4 (ct % 1000000000) ++ zeros 4
      (cur ++ pen = [] → exec (.gateListRead src) s = .next (keep s (finish F src .ok out 0 s))) ∧
      (cur ++ pen ≠ [] → inWindow (getFn s F) (le p 8 8) (cur.length + pen.length) true = true →
        exec (.gateListRead src) s = .next (keep s (finish F src .ok out 0
          (updFn s F fun f => { f with lastWr := some (le p 8 8, cur ++ pen) }))))) ∧
    (∀ pt, upNext 0x0607 src F p s = true → (getFn s F).part = some pt → le p 0 2 < quota s pt 5 0 →
      let n := le p 0 2
      let es := entries p 8 (le p 6 2)
      let old := (getPol s pt n).getD (fullPol [] s.time.ticks)
      let fs := applyEntries (((getPol s pt n).map (·.fields)).getD []) es
      (∀ e ∈ es, e.key ≠ fk 0x0D 7 0) → lowest (entryChecks es fun k => fTable k == 0x0D) = none →
      fld fs (fk 0x0D 0 0) ≠ 1 → fldN fs (fk 0x0D 3 0) = fldN old.fields (fk 0x0D 3 0) →
      exec (.policerConfig src) s = .next (keep s (finish F src .ok (zeros 16) 0 { s with eth := { s.eth with
        pol := Tab.set s.eth.pol (pt * 8192 + n)
          { fields := fs, tc := fldN fs (fk 0x0D 3 0) * 65536, te := fldN fs (fk 0x0D 4 0) * 65536
            tp := fldN fs (fk 0x0D 6 0) * 65536, at_ := s.time.ticks, ctrs := old.ctrs } } })))
/-- For every command that is next to be served, next states in full unless said. QUEUE_READ of a queue q < 32768 that the issuer sees
answers Table 12-7 and changes nothing. QUEUE_CONFIG sets cut-through, but not on a rung's queue. QUEUE_FLUSH of a queue that the
issuer may act on waits for its packet boundary. SPILL_CONFIG of a size in range, in pages, with no page held sets the pool's size; with a page held,
BUSY. QXOFF_CONFIG sets the three fields of every pin, and a pin is asserted when it is enabled and a group that drives it is ABOVE or
its minimum time runs. BATTEN_AUDIT answers the 16 terms of the latest stroke boundary.
Further: For every command of the owner function that is next to be served, g the group, next states in full unless said. QGROUP_SET with operation 0
puts queues of the group's partition that are in no other group into it, and with 1 takes out those that are in it; no other queue
changes. QGROUP_CONFIG of valid entries with LO below HI, keeping the partition, sets the fields. QGROUP_READ answers Table 12-5 and
changes nothing. QGROUP_CLEAR clears the sticky bits named and, with HI, the peak to the level. HIST_CONFIG sets both units and clears both
records; HIST_READ answers both, and clears them when asked. -/
def Obligations.QueueAndGroupCommands : Prop :=
  (∀ (s : State) (F : Nat) (src : Src) (p : Bytes),
      let q := le p 0 2
      let x := getQ s q
      (upNext 0x0E01 src F p s = true → q < 32768 → s.host.owner = F →
        exec (.queueRead src) s = .next (keep s (finish F src .ok
          (toLe 2 (qKind q + 16 * b2n (qFixed s q) + 32 * b2n x.heldSince.isSome
              + 64 * b2n (x.cut.getD (qKind q == 0 || qKind q == 2)))
            ++ toLe 1 (x.group.getD 0) ++ toLe 1 (b2n x.group.isSome) ++ toLe 4 x.items.length
            ++ toLe 4 ((x.items.map fun e => e.pkt.len).sum) ++ toLe 2 (x.cells + x.ycells)
            ++ toLe 2 (if qFixed s q then x.resv else 0) ++ toLe 4 x.pages
            ++ toLe 4 ((x.items.head?.map fun e => (s.time.ticks - e.tick) / 800).getD 0) ++ zeros 8) 0 s))) ∧
      (upNext 0x0E02 src F p s = true → q < 32768 → mayQueue s F q = true → le p 2 1 < 2 → ¬(qKind q = 1 ∧ le p 2 1 = 1) →
        exec (.queueConfig src) s =
          .next (keep s (finish F src .ok [] 0 (setQ s q { x with cut := some (le p 2 1 == 1) })))) ∧
      (upNext 0x0E03 src F p s = true → q < 32768 →
        (s.host.owner = F ∨ (qKind q ≠ 2 ∧ qKind q ≠ 7 ∧ mayQueue s F q = true)) →
        exec (.queueFlush src) s = .next (keep s (finish F src .ok [] 0 (setQ s q { x with flush := true })))) ∧
      (upNext 0x0E0A src F p s = true →
        exec (.battenAudit src) s = .next (keep s (finish F src .ok (padTo 128 (s.batten.snap.flatMap (toLe 8))) 0 s))) ∧
      (upNext 0x010A src F p s = true → 268435456 ≤ le p 0 8 → le p 0 8 ≤ 34359738368 → le p 0 8 % 4096 = 0 →
        (queuedPages s.batten = 0 →
          exec (.spillConfig src) s =
            .next (keep s (finish F src .ok [] 0 { s with batten := { s.batten with spill := le p 0 8 } }))) ∧
        (queuedPages s.batten ≠ 0 → exec (.spillConfig src) s = .next (keep s (finish F src .busy [] 0 s)))) ∧
      (upNext 0x0309 src F p s = true → (∀ n, n < 8 → le p (4 * n) 4 % 65536 < 4) →
        ∃ u, exec (.qxoffConfig src) s = .next (keep s (finish F src .ok [] 0 u)) ∧
          u = { s with batten := { s.batten with pins := u.batten.pins } } ∧ u.batten.pins.length = 8 ∧
          ∀ n, n < 8 →
            let y := s.batten.pins[n]?.getD {}
            let w := le p (4 * n) 4
            u.batten.pins[n]? = some { y with
              en := bitOf w 0, low := bitOf w 1, minNs := w / 65536
              on := bitOf w 0 &&
                ((s.batten.groups.any fun g => g.2.above && bitOf (fldN g.2.fields (fk 0x0E 2 0)) n) ||
                  (y.on && decide (s.time.ticks < y.entry + nsTicks (w / 65536)))) })) ∧
  ∀ (s : State) (F : Nat) (src : Src) (p : Bytes), s.host.owner = F →
    let g := le p 0 1
    let x := getGroup s g
    let qs := groupItems p 4 (le p 2 2)
    (upNext 0x0E04 src F p s = true → (∀ q ∈ qs, q < 32768) →
      (le p 1 1 = 0 → (∀ q ∈ qs, qPart s q = x.part ∧ ((getQ s q).group = none ∨ (getQ s q).group = some g)) →
        ∃ u, exec (.qgroupSet src) s = .next (keep s (finish F src .ok [] 0 u)) ∧
          ∀ q, getQ u q = if q ∈ qs then { getQ s q with group := some g } else getQ s q) ∧
      (le p 1 1 = 1 →
        ∃ u, exec (.qgroupSet src) s = .next (keep s (finish F src .ok [] 0 u)) ∧
          ∀ q, getQ u q = if q ∈ qs ∧ (getQ s q).group = some g then { getQ s q with group := none } else getQ s q)) ∧
    (upNext 0x0E05 src F p s = true → le p 4 4 = 0xFFFFFFFF →
      let es := entries p 16 (le p 8 2)
      let fs := applyEntries x.fields es
      lowest (entryChecks es fun k => fTable k == 0x0E) = none → fld fs (fk 0x0E 1 0) < fld fs (fk 0x0E 0 0) →
      ∃ u, exec (.qgroupConfig src) s = .next (keep s (finish F src .ok [] 0 u)) ∧ (getGroup u g).fields = fs ∧
        (getGroup u g).part = x.part ∧ (∀ h, h ≠ g → getGroup u h = getGroup s h) ∧ u.batten.queues = s.batten.queues) ∧
    (upNext 0x0E06 src F p s = true →
      exec (.qgroupRead src) s = .next (keep s (finish F src .ok
        (toLe 4 (b2n x.above + 2 * b2n x.hiSeen + 4 * b2n x.loSeen) ++ toLe 4 (min 0xFFFFFFFF (groupLevel s g))
          ++ toLe 4 (min 0xFFFFFFFF x.peak) ++ zeros 4 ++ toLe 8 x.hiX ++ toLe 8 x.loX) 0 s))) ∧
    (upNext 0x0E07 src F p s = true → le p 1 1 < 4 →
      exec (.qgroupClear src) s = .next (keep s (finish F src .ok [] 0 (setGroup s g { x with
        hiSeen := x.hiSeen && !(bitOf (le p 1 1) 0), loSeen := x.loSeen && !(bitOf (le p 1 1) 1)
        peak := if bitOf (le p 1 1) 0 then groupLevel s g else x.peak })))) ∧
    (upNext 0x0E08 src F p s = true → le p 1 1 ≤ 20 → le p 2 1 ≤ 20 →
      exec (.histConfig src) s = .next (keep s (finish F src .ok [] 0
        (setGroup s g { x with depth := { u := le p 1 1 }, soj := { u := le p 2 1 } })))) ∧
    (upNext 0x0E09 src F p s = true → le p 1 1 < 2 →
      exec (.histRead src) s = .next (keep s (finish F src .ok (histBytes x.depth ++ histBytes x.soj) 0
        (if le p 1 1 = 1 then setGroup s g { x with depth := { u := x.depth.u }, soj := { u := x.soj.u } } else s))))

/-- For every running state. SPILL_MOVE_COMPLETE of a stalled floating queue that gets the pages it needs ends the stall, with two cells at most and
its other lines in pages; without them the queue stays stalled; of a queue that is not stalled, it changes nothing. At a comparison
a group whose level is at least HI becomes ABOVE, one whose level is at most LO ceases to be, each crossing counted, and its peak is
kept. QGROUP_EVENT_WINDOW writes the event owed 10 ms after the latest. QXOFF_MIN_EXPIRY releases the pin unless an ABOVE group drives
it. PFC_REPEAT sends the frame again and sets the next time half the quanta later. -/
def Obligations.SpillMarksAndRepeats : Prop :=
  ∀ s : State, halted s = false →
    (∀ q, q < 32768 → (getQ s q).stall = true → qFixed s q = false →
      let x := getQ s q
      let lines := qLines x false + qLines x true
      let cells := min (if lines = 0 then 0 else if lines ≤ 8 then 1 else 2) (x.cells + poolFree s.batten)
      let need := ceilDiv (lines - 8 * cells) 64
      ∃ t, exec (.spillMoveComplete q) s = .next t ∧ (getQ t q).items = x.items ∧ (getQ t q).cells = cells ∧
        ((need ≤ x.pages ∨ pagesOk s q (need - x.pages) = true) → (getQ t q).stall = false ∧ (getQ t q).pages = need) ∧
        (x.pages < need → pagesOk s q (need - x.pages) = false → (getQ t q).stall = true ∧ (getQ t q).pages = x.pages)) ∧
    (∀ q, q < 32768 → (getQ s q).stall = false → exec (.spillMoveComplete q) s = .next s) ∧
    (∀ g, g < 256 →
      let x := getGroup s g
      let y := getGroup (groupCheck g s) g
      let lv := groupLevel s g
      y.peak = max x.peak lv ∧ y.fields = x.fields ∧
      (x.above = false → fldN x.fields (fk 0x0E 0 0) ≤ lv → y.above = true ∧ y.hiSeen = true ∧ y.hiX = x.hiX + 1 ∧ y.loX = x.loX) ∧
      (x.above = false → lv < fldN x.fields (fk 0x0E 0 0) → y.above = false ∧ y.hiX = x.hiX ∧ y.loX = x.loX) ∧
      (x.above = true → lv ≤ fldN x.fields (fk 0x0E 1 0) → y.above = false ∧ y.loSeen = true ∧ y.loX = x.loX + 1 ∧ y.hiX = x.hiX) ∧
      (x.above = true → fldN x.fields (fk 0x0E 1 0) < lv → y.above = true ∧ y.hiX = x.hiX ∧ y.loX = x.loX)) ∧
    (∀ g at_, g < 256 → (getGroup s g).owed = true → (getGroup s g).evAt = some at_ → at_ + 8000000 ≤ s.time.ticks →
      ∃ t, exec (.qgroupEventWindow g) s = .next t ∧
        getGroup t g = { getGroup s g with evAt := some s.time.ticks, owed := false } ∧
        t = keep s (emit (groupDest (getGroup s g)) 0x091 0
          (toLe 1 g ++ toLe 1 (b2n (getGroup s g).above) ++ zeros 6 ++ toLe 4 (getGroup s g).hiX ++ toLe 4 (getGroup s g).loX)
          (setGroup s g { getGroup s g with evAt := some s.time.ticks, owed := false }))) ∧
    (∀ n, n < 8 →
      let y := s.batten.pins[n]?.getD {}
      y.on = true → y.entry + nsTicks y.minNs ≤ s.time.ticks →
      ∃ t, exec (.qxoffMinExpiry n) s = .next t ∧
        t.batten.pins[n]? = some { y with
          on := y.en && s.batten.groups.any fun g => g.2.above && bitOf (fldN g.2.fields (fk 0x0E 2 0)) n } ∧
        t.batten.queues = s.batten.queues ∧ t.batten.groups = s.batten.groups) ∧
    (∀ p r at_, p < 8 → r < 8 → Tab.get (getPort s p).holds r = some at_ → at_ ≤ s.time.ticks →
      exec (.pfcRepeat p r) s = .next (keep s (setPort s p { getPort s p with
        holds := Tab.set (getPort s p).holds r (s.time.ticks + halfQuanta s p)
        fc := some (2 ^ r, fldN (getPort s p).fields (fk 0x12 6 0))
        ctrs := bump (getPort s p).ctrs (if portFlow s p = 2 then .pfcSent else .pauseSent) })))

/-- For every state, queue and item: if the queue's items counted in are, modulo 2^64, those counted out, those dropped and those it
holds, the same is so after a push, a pop, the drop of a refused item, and a discard of any of its items. A push adds the item
at the back (or front) and nothing else, a pop takes the head; each leaves every other queue's items as they are. -/
def Obligations.QueueBooksBalance : Prop :=
  ∀ (s : State) (q : Nat),
    let book := fun (t : State) =>
      (ctr (getQ t q).ctrs .poppedItems + ctr (getQ t q).ctrs .droppedItems + (getQ t q).items.length) % 2 ^ 64
        = ctr (getQ t q).ctrs .pushedItems % 2 ^ 64
    (∀ it front, book s → book (qPush q it front s)) ∧ (book s → book (qPop q s)) ∧ (∀ n, book s → book (qDrop q n s)) ∧
    (∀ f, book s → book (qDiscard q f s)) ∧
    (∀ it, (getQ (qPush q it false s) q).items = (getQ s q).items ++ [it] ∧
      (getQ (qPush q it true s) q).items = it :: (getQ s q).items) ∧
    (getQ (qPop q s) q).items = (getQ s q).items.tail ∧
    ∀ r it front, r ≠ q → (getQ (qPush q it front s) r).items = (getQ s r).items ∧ (getQ (qPop q s) r).items = (getQ s r).items
/-- For every running state, channel below 8, subchannel and rank below 2. A request that may not touch its extent is not queued. The request that
issues is a candidate of least order; a read goes into flight, a whole line written clears its poison, a poisoned write marks it. A clean response
leaves the flight; a corrected one counts on its unit, an uncorrectable one and a time-out on the channel. A due refresh is done, or
postponed at most 4 times while fixed requests wait. Polls, drift checks, sweep slices, scrub reads and idle ranks change what their rules say.
The log never exceeds 512 entries and loses no uncorrectable entry that it holds. -/
def Obligations.MemoryEvents : Prop :=
  ∀ s : State, halted s = false →
    (∀ ch b, ch < 8 → b < 2 →
      let x := getSub s ch b
      let count := fun (t : State) (n : Ctr) => ctr (Tab.getD t.mem.ctrs ch []) n
      (∀ n p, n.part = some p → extentPart s n.dpa ≠ some p → getSub (arrive ch b n s) ch b = x) ∧
      (issueNext s x = none → exec (.dramRequestIssue ch b []) s = .next s) ∧
      (∀ r, issueNext s x = some r →
        r ∈ x.reqs ∧ (∀ q ∈ candidatesOf x, issueKey s x r ≤ issueKey s x q) ∧
        ∃ t, exec (.dramRequestIssue ch b []) s = .next t ∧ (getSub t ch b).reqs = x.reqs.erase r ∧
          Tab.get (getSub t ch b).openR r.bank = some r.row ∧
          (r.write = false → (getSub t ch b).flight = x.flight ++ [r] ∧ t.mem.poisoned = s.mem.poisoned) ∧
          (r.write = true → (getSub t ch b).flight = x.flight ∧
            (r.poison = true → r.dpa / 64 ∈ t.mem.poisoned) ∧
            (r.poison = false → 64 ≤ r.bytes → r.dpa / 64 ∉ t.mem.poisoned) ∧
            ∀ l, l ≠ r.dpa / 64 → (l ∈ t.mem.poisoned ↔ l ∈ s.mem.poisoned))) ∧
      (∀ sym syn who r l, x.flight = r :: l →
        (r.dpa / 64 ∉ s.mem.poisoned →
          exec (.dramReadResponse ch b 0 sym syn who) s = .next (keep s (setSub s ch b { x with flight := l })) ∧
          ∃ t, exec (.dramReadResponse ch b 1 sym syn who) s = .next t ∧ (getSub t ch b).flight = l ∧
            let k := unitKey (errAt s 1 (sym % 16) r.unit r.dpa syn)
            Tab.getD t.mem.ce k 0 = Tab.getD s.mem.ce k 0 + 1) ∧
        ∃ t, exec (.dramReadResponse ch b 2 sym syn who) s = .next t ∧ (getSub t ch b).flight = l ∧
          count t .dramUe = (count s .dramUe + 1) % 2 ^ 64) ∧
      (∀ who,
        (∀ r, x.flight.find? (fun r => decide (r.at_ + 1600 ≤ s.time.ticks)) = some r →
          ∃ t, exec (.dramCommandTimeout ch b who) s = .next t ∧ (getSub t ch b).flight = x.flight.erase r ∧
            count t .dramTimeout = (count s .dramTimeout + 1) % 2 ^ 64) ∧
        ((∀ r ∈ x.flight ++ x.reqs, s.time.ticks < r.at_ + 1600) → exec (.dramCommandTimeout ch b who) s = .next s))) ∧
    (∀ who n, exec (.nocTimeout 3 who n) s =
      .next (keep s (bumpPort (detect 0x08 n 0 0 false false s) (who % 8) .poisonDrop))) ∧
    (∀ ch rank, ch < 8 → rank < 2 →
      let k := getRank s ch rank
      let waits := ∃ b, b < 2 ∧ ∃ r ∈ (getSub s ch b).reqs, r.rank = rank ∧ r.cls = 0
      let due := k.lastRef + (if k.hot then 1560 else 3120) * (k.postp + 1) ≤ s.time.ticks
      (¬due → exec (.dramRefresh ch rank) s = .next s) ∧
      (due → ∃ t, exec (.dramRefresh ch rank) s = .next t ∧ t.mem.prm = s.mem.prmNew.getD s.mem.prm ∧ t.mem.prmNew = none ∧
        (waits → k.postp < 4 → getRank t ch rank = { k with postp := k.postp + 1 }) ∧
        ((¬waits ∨ 4 ≤ k.postp) → getRank t ch rank = { k with lastRef := s.time.ticks, postp := 0 })) ∧
      (∀ temp hot bad, ∃ t, exec (.dramTempPoll ch rank temp hot bad) s = .next t ∧
        getRank t ch rank = { k with temp := temp % 256, hot := hot, tooHot := bad }) ∧
      ((k.sweep ≠ none ∨ (0 < mprm s 4 ∧ k.trained + mprm s 4 * 3600 * tS ≤ s.time.ticks)) →
        (∃ r, r < 2 ∧ (getRank s ch r).lastRef = s.time.ticks) →
        exec (.retrainSlice ch rank []) s = .next (keep s (setRank s ch rank { k with sweep := some (k.sweep.getD 0 + 1) })) ∧
        ∀ p ps, ∃ t, exec (.retrainSlice ch rank (p :: ps)) s = .next t ∧
          getRank t ch rank = { k with sweep := none, trained := s.time.ticks }) ∧
      (k.power = 0 → 0 < mprm s 1 → k.lastReq + nsTicks (mprm s 1) ≤ s.time.ticks →
        (∀ b, b < 2 → ∀ r ∈ (getSub s ch b).reqs, r.rank ≠ rank) →
        exec (.powerDownEntry ch rank) s = .next (keep s (setRank s ch rank { k with power := 1 }))) ∧
      (0 < mprm s 2 → holdsBuffers s = false → (∀ r, r < nRanks s → (getRank s ch r).lastReq + nsTicks (mprm s 2) ≤ s.time.ticks) →
        (∀ b, b < 2 → (getSub s ch b).reqs = []) →
        ∃ t, exec (.selfRefreshEntry ch) s = .next t ∧
          ∀ r, r < nRanks s → getRank t ch r = { getRank s ch r with power := 2 })) ∧
    (∀ ch lane (d : Int), ch < 8 → lane < 64 →
      let x := Tab.getD s.mem.lanes (ch * 64 + lane) {}
      ∃ t, exec (.dqsDriftCheck ch lane d) s = .next t ∧ Tab.get t.mem.lanes (ch * 64 + lane) =
        some (if d ≤ -4 ∨ 4 ≤ d then { x with delay := x.delay + d, drift := 0 } else { x with drift := d })) ∧
    (∀ sym syn, 0 < mprm s 3 →
      s.mem.scrubAt + s.mem.scrubPos / 64 * (mprm s 3 * 3600 * tS) / (dramBytes s / 64) ≤ s.time.ticks →
      (s.mem.scrubPos / 64 ∉ s.mem.poisoned → s.mem.scrubPos + 64 < dramBytes s →
        exec (.patrolScrub 0 sym syn) s = .next (keep s { s with mem := { s.mem with scrubPos := s.mem.scrubPos + 64 } })) ∧
      ∃ t, exec (.patrolScrub 2 sym syn) s = .next t ∧ s.mem.scrubPos / 64 ∈ t.mem.poisoned) ∧
    (∀ e x, Tab.get s.mem.extents e = some x → x.zeroing = true →
      exec (.extentZeroingComplete e) s = .next (keep s { s with mem := { s.mem with extents := Tab.del s.mem.extents e } })) ∧
    (∀ e, s.mem.log.length ≤ 512 →
      let l := (logAdd e s).mem.log
      l.length ≤ 512 ∧ (∀ x ∈ s.mem.log, x.corrected = false → x ∈ l) ∧
      (e.corrected = false → (∃ x ∈ s.mem.log, x.corrected = true) → e ∈ l) ∧ (s.mem.log.length < 512 → l = s.mem.log ++ [e]))

/-- For every command that is next to be served, next states in full. MEM_SETS of sets of the forms of R644 that name every channel once, with no
extent and no spill pool in use, sets them; with an extent in use, BUSY. MEM_KEY_INSTALL of a partition without extents stores the key; with one, BUSY. MEM_TIMERS of valid
entries waits for the next refresh. MEM_STATUS writes one block per channel into a writable window. MEM_LOG_READ answers at most 32
entries that the function sees from the index on; MEM_LOG_CLEAR drops the entries up to the index. A partition's extents after fitMem cover what it
uses, new ones only within its quota, and no other partition's change. -/
def Obligations.MemoryCommands : Prop :=
  (∀ (s : State) (F : Nat) (src : Src) (p : Bytes),
    (let ks := setItems p 4 (le p 0 1)
     let chs := ks.flatMap fun k => (List.range k.1.n).map (· + k.1.first)
     upNext 0x0107 src F p s = true → (∀ k ∈ ks, k.2 = true ∧ memSetOk s.mem.channels k.1 = true) →
     chs.Nodup → chs.length = s.mem.channels → s.batten.pool = false →
     ((∀ e ∈ s.mem.extents, e.2.owner = none) →
       exec (.memSets src) s = .next (keep s (finish F src .ok [] 0 { s with mem := { s.mem with sets := ks.map (·.1) } }))) ∧
     (∀ e ∈ s.mem.extents, e.2.owner ≠ none → exec (.memSets src) s = .next (keep s (finish F src .busy [] 0 s)))) ∧
    (∀ n x, upNext 0x0108 src F p s = true → resolvePart s (le p 0 4) = some n → Tab.get s.obj.parts n = some x →
      (extentsOf s n = [] → exec (.memKeyInstall src) s = .next (keep s (finish F src .ok [] 0 { s with obj := { s.obj with
        parts := Tab.set s.obj.parts n { x with xts := some ((p.drop 8).take 64) } } }))) ∧
      (extentsOf s n ≠ [] → exec (.memKeyInstall src) s = .next (keep s (finish F src .busy [] 0 s)))) ∧
    (let es := entries p 8 (le p 6 2)
     upNext 0x0109 src F p s = true → lowest (entryChecks es fun k => fTable k == 0x0F) = none →
     (∀ e ∈ es, (e.key = fk 0x0F 1 0 → e.val = 0 ∨ 32 ≤ e.val) ∧ (e.key = fk 0x0F 2 0 → e.val = 0 ∨ 1000000 ≤ e.val)) →
     exec (.memTimers src) s = .next (keep s (finish F src .ok [] 0 { s with mem := { s.mem with
       prmNew := some (applyEntries (s.mem.prmNew.getD s.mem.prm) es) } }))) ∧
    (let d := (List.range s.mem.channels).flatMap (chanStatus s)
     upNext 0x0E0B src F p s = true → inWindow (getFn s F) (le p 0 8) d.length true = true →
     exec (.memStatus src) s =
       .next (keep s (finish F src .ok (toLe 4 d.length) 0 (updFn s F fun f => { f with lastWr := some (le p 0 8, d) })))) ∧
    (upNext 0x0E0C src F p s = true →
      let l := ((logSeen s F).drop (le p 0 2)).take 32
      exec (.memLogRead src) s = .next (keep s (finish F src .ok (toLe 1 l.length ++ zeros 7 ++ l.flatten) 0 s)) ∧
      (s.host.owner ≠ F → ∀ e ∈ logSeen s F, (e.drop 4).take 16 = zeros 16)) ∧
    (upNext 0x0E0D src F p s = true →
      exec (.memLogClear src) s = .next (keep s (finish F src .ok [] 0
        { s with mem := { s.mem with log := s.mem.log.drop (le p 0 2 + 1) } })))) ∧
  ∀ (s t : State) (p : Nat), fitMem p s = some t → (Tab.keys s.mem.extents).Pairwise (· < ·) →
    memUse s p ≤ 2097152 * (extentsOf t p).length ∧ t.obj = s.obj ∧ t.vid = s.vid ∧
      (2097152 * (extentsOf s p).length < memUse s p → 2097152 * (extentsOf t p).length ≤ quota s p 6 0) ∧
      ∀ e q, q ≠ p → ((Tab.get t.mem.extents e).bind (·.owner) = some q ↔ (Tab.get s.mem.extents e).bind (·.owner) = some q)

/-- For every function F below 256, mailbox m and running state, next states in full. A doorbell in READY with a new SEQ, while
firmware serves, latches the header and LENGTH bytes of the command area and makes the mailbox PENDING with that SEQ when
R693 does not refuse the command. Any other doorbell that R692 lists changes only the REFUSED counter. An ACK in DONE with the
status word's SEQ makes it READY with RESULT 0, and that of the owner function's FW_ACTIVATE makes a pending activation reset
due (R825); any other ACK changes nothing. A write to the command area takes its bytes unless the mailbox is PENDING, when only
REFUSED counts. A PENDING command whose service time is over completes with TIMEOUT, and an admin command's flash operations
are given up. -/
def Obligations.MailboxHandshake : Prop :=
  ∀ (s : State) (F : Nat) (m : Mb), F < 256 → halted s = false →
    let b := getMb s F m
    (∀ seq, serving s = true → b.state = .ready → seq % 65536 ≠ b.seq →
      let h := Mem.read 0 b.area 0 8
      let b1 : Mbox := { b with
        state := .pending, seq := seq % 65536, result := 0, since := s.time.ticks, op := le h 0 2, hdrSeq := le h 2 2
        len := le h 4 2, flags := le h 6 2, pay := Mem.read 0 b.area 8 (min (le h 4 2) 2040) }
      (r693 s F m b1 = none → exec (.doorbellWrite F m seq) s = .next (keep s (setMb s F m b1))) ∧
      (∀ st, r693 s F m b1 = some st →
        exec (.doorbellWrite F m seq) s = .next (keep s (completeMb F m st [] (setMb s F m b1))))) ∧
    (∀ seq, (b.state ≠ .ready ∨ seq % 65536 = b.seq) →
      exec (.doorbellWrite F m seq) s = .next (keep s (setMb s F m { b with refused := (b.refused + 1) % 2 ^ 32 }))) ∧
    (∀ seq, b.state = .done → seq % 65536 = b.seq → (b.op ≠ 0x0F04 ∨ s.boot.actReset = none) →
      exec (.ackWrite F m seq) s = .next (keep s (setMb s F m { b with state := .ready, result := 0 }))) ∧
    (∀ seq, b.state = .done → seq % 65536 = b.seq → b.op = 0x0F04 → b.result = 0 → s.host.owner = F →
      s.boot.actReset.isSome = true →
      ∃ t, exec (.ackWrite F m seq) s = .next t ∧ t.boot.actReset = some s.time.ticks ∧
        getMb t F m = { b with state := .ready, result := 0 }) ∧
    (∀ seq, (b.state ≠ .done ∨ seq % 65536 ≠ b.seq) → exec (.ackWrite F m seq) s = .next s) ∧
    (∀ off data, off + data.length ≤ 2048 → b.state ≠ .pending →
      exec (.commandAreaWrite F m off data) s = .next (keep s (setMb s F m { b with area := Mem.write 0 b.area off data }))) ∧
    (∀ off data, off + data.length ≤ 2048 → b.state = .pending →
      exec (.commandAreaWrite F m off data) s =
        .next (keep s (setMb s F m { b with refused := (b.refused + 1) % 2 ^ 32 }))) ∧
    (serving s = true → b.state = .pending → b.since + serviceMs m b * tMs ≤ s.time.ticks →
      exec (.mailboxServiceTimeout F m) s =
        .next (keep s (completeMb F m .timeout [] (if m = .admin then dropFlash F s else s))))

/-- For every state, function, mailbox, status and result of at most 2,040 bytes: after completeMb the mailbox is DONE with
RESULT the status code, and its result area reads the header (OPCODE and SEQ echoed, LENGTH, STATUS) and the result. Its SEQ
and REFUSED are as before, the command area too (that of KEY_INSTALL is cleared). Every other function, and every part of
the device but the host side, is as before; without EVENT_ON_DONE no event queue of the function changes. -/
def Obligations.CompletionWritesTheMailbox : Prop :=
  ∀ (s : State) (F : Nat) (m : Mb) (st : Status) (out : Bytes), out.length ≤ 2040 →
    let b := getMb s F m
    let t := completeMb F m st out s
    let b' := getMb t F m
    b'.state = .done ∧ b'.result = st.code ∧ b'.seq = b.seq ∧ b'.refused = b.refused ∧
    b'.area = (if b.op = 0x0506 then [] else b.area) ∧
    Mem.read 0 b'.res 0 (8 + out.length) =
      toLe 2 b.op ++ toLe 2 b.seq ++ toLe 2 out.length ++ toLe 2 st.code ++ out ∧
    (∀ G, G ≠ F → getFn t G = getFn s G) ∧
    t = { s with host := { s.host with fns := t.host.fns, replay := s.host.replay.filter fun e => e ≠ (F, m) } } ∧
    (bitOf b.flags 0 = false → (getFn t F).queues = (getFn s F).queues ∧ (getFn t F).backlog = (getFn s F).backlog)

/-- For every function F below 256 and running state, next states in full: HOST_IFACE takes the low 32 bits written;
a write to FUNC_STATUS clears the bits written as 1 and no other; an aligned 4-byte write at 0x30 sets FUNC_STATUS_MASK; a write
elsewhere outside the MSI-X table changes nothing (registers with a command of their own are written by it); unmasking a vector that is pending, with MSI-X enabled, sends one
message and clears its pending bit. For a port that left PERST_N at least 100 ms ago on a running device, a read of the Device
ID answers 0x4096 for a PF and 0x4097 for a VF, and of the class code 0x048000. -/
def Obligations.RegistersAndConfigurationSpace : Prop :=
  ∀ (s : State) (F : Nat), F < 256 → halted s = false →
    (∀ v, exec (.hostIfaceWrite F v) s = .next (keep s (updFn s F fun g => { g with iface := v % 2 ^ 32 }))) ∧
    (∀ v, ∃ t, exec (.funcStatusClear F v) s = .next t ∧
      (∀ i, i < 7 → bitOf (getFn t F).status i = (bitOf (getFn s F).status i && !bitOf v i)) ∧
      getFn t F = { getFn s F with status := (getFn t F).status } ∧ ∀ G, G ≠ F → getFn t G = getFn s G) ∧
    (∀ data, data.length = 4 →
      exec (.registerWrite F 0x30 data) s = .next (keep s (updFn s F fun g => { g with mask := le data 0 4 % 128 }))) ∧
    (∀ off data, off < 65536 → off ≠ 0x30 → (off < 0x8000 ∨ 0x8000 + 16 * 134 ≤ off) →
      exec (.registerWrite F off data) s = .next (keep s (updFn s F id))) ∧
    (∀ v, vecOk F v = true → (getFn s F).msixEn = true → (getFn s F).pba = [v] → v ∉ (getFn s F).unmasked →
      exec (.msixUnmask F v) s = .next (keep s (updFn s F fun g => { g with
        unmasked := v :: g.unmasked, pba := [], sent := Tab.set g.sent v (Tab.getD g.sent v 0 + 1) }))) ∧
    (∀ at_, F < nFuncs s → s.host.perst[F / 64]? = some (false, at_) → at_ ≤ s.time.ticks →
      exec (.configRequest F .deviceId) s =
        .next { s with host := { s.host with cfg := .data (if F % 64 = 0 then 0x4096 else 0x4097) } } ∧
      exec (.configRequest F .classCode) s = .next { s with host := { s.host with cfg := .data 0x048000 } })

/-- For every function F below 256 and running state. A RING_TAIL write within SIZE of HEAD on a RUNNING ring sets TAIL and
nothing else; one beyond it makes the ring ERROR, with TAIL as it was, and sets RING_ERROR; on a STOPPED or ERROR ring it
changes nothing. A HEAD that waits to be written back is written to HEAD_WB as 8 bytes. An EQ_HEAD write that keeps the
producer at most SIZE ahead is taken, any other counts in EQ_HEAD_ERR. A queue with records not yet signalled whose COAL_TIME
is over signals its vector and has u = 0. A function with an empty backlog and no pending losses drains to itself.
Further: For every running state and function F with one backlogged record for queue q, no pending losses, and room in that
queue: EVENT_BACKLOG_DRAIN writes the record at producer index n in slot n mod SIZE with PHASE 1 − (floor(n / SIZE) mod 2),
advances the producer and empties the backlog. -/
def Obligations.RingAndQueueIndices : Prop :=
  (∀ (s : State) (F : Nat), F < 256 → halted s = false →
      (∀ k r (v : Nat), k < 64 → Tab.get (getFn s F).rings k = some r →
        (r.state = .running → wrap 32 ((v : Int) - r.head) ≤ r.size →
          exec (.ringTailWrite F k v) s = .next (keep s (updFn s F fun g => { g with
            rings := Tab.set g.rings k { r with tail := v % 2 ^ 32 } }))) ∧
        (r.state = .running → r.size < wrap 32 ((v : Int) - r.head) →
          ∃ t, exec (.ringTailWrite F k v) s = .next t ∧
            Tab.get (getFn t F).rings k = some { r with state := .error } ∧ bitOf (getFn t F).status 3 = true) ∧
        (r.state ≠ .running → exec (.ringTailWrite F k v) s = .next (keep s s)) ∧
        (r.wbDue.isSome = true →
          exec (.headWriteback F k) s = .next (keep s (updFn s F fun g => { g with
            rings := Tab.set g.rings k { r with wbDue := none }, lastWr := some (r.headWb, toLe 4 r.head ++ zeros 4) })))) ∧
      (∀ q e (v : Nat), q < 64 → Tab.get (getFn s F).queues q = some e →
        (wrap 32 ((e.tail : Int) - v) ≤ e.size →
          exec (.eqHeadWrite F q v) s = .next (keep s (updFn s F fun g => { g with
            queues := Tab.set g.queues q { e with head := v % 2 ^ 32 } }))) ∧
        (e.size < wrap 32 ((e.tail : Int) - v) →
          exec (.eqHeadWrite F q v) s = .next (keep s (bumpFn s F .eqHeadErr))) ∧
        (0 < e.u → e.t0 + e.time * tUs ≤ s.time.ticks →
          exec (.coalesceTimeout F q) s = .next (keep s (updFn s F fun g =>
            signalVec { g with queues := Tab.set g.queues q { e with u := 0 } } e.vector)))) ∧
      ((getFn s F).backlog = [] → (getFn s F).pendLoss = [] →
        ∃ t, exec (.eventBacklogDrain F) s = .next t ∧ getFn t F = getFn s F)) ∧
  ∀ (s : State) (F q : Nat) (e : EvQueue) (r : EvRec), F < 256 → halted s = false →
    (getFn s F).backlog = [(q, r)] → (getFn s F).pendLoss = [] → Tab.get (getFn s F).queues q = some e → eqRoom e = true →
    ∃ t e', exec (.eventBacklogDrain F) s = .next t ∧ (getFn t F).backlog = [] ∧
      Tab.get (getFn t F).queues q = some e' ∧ e'.tail = (e.tail + 1) % 2 ^ 32 ∧
      Tab.get e'.slots (e.tail % e.size) = some (r, (e.tail / e.size) % 2 == 0)

/-- For every running state and function F below 256, next states in full. FENCE_CREATE of a function of a partition takes the
lowest free index i, sets the value that the command gives and returns the handle with TYPE 0x9 and INDEX 256 F + i. An 8-byte
write of v to FENCE[i] sets max(value, v), and a v below the value changes only the FENCE_BACKWARD counter; an 8-byte write to
FENCE_ADD[i] adds, saturating at 2^64 − 1; a write of another width, or to a FREE fence, changes only FENCE_BAD_WRITE.
FENCE_SIGNAL applies the rule of a FENCE[i] write to the fence of function G that its handle names, for a function that sees
G's partition. FENCE_DELETE of an own fence that nothing names frees it. -/
def Obligations.FencesNeverDecrease : Prop :=
  ∀ (s : State) (F : Nat), F < 256 → halted s = false →
    (∀ src p i, upNext 0x0B00 src F p s = true → (getFn s F).part.isSome = true →
      lowestFree (Tab.keys (getFn s F).fences) 0 256 = some i →
      let g := nextGen (Tab.get (getFn s F).fgens i)
      let h := mkHandle 9 g (256 * F + i)
      exec (.fenceCreate src) s = .next (keep s (finish F src .ok (toLe 4 h ++ zeros 4) h
        (updFn s F fun f => { f with fences := Tab.set f.fences i (le p 0 8), fgens := Tab.set f.fgens i g })))) ∧
    (∀ i v data, i < 256 → Tab.get (getFn s F).fences i = some v → data.length = 8 →
      (v ≤ le data 0 8 → exec (.fenceWrite F i data) s =
        .next (keep s (updFn s F fun f => { f with fences := Tab.set f.fences i (max v (le data 0 8)) }))) ∧
      (le data 0 8 < v → exec (.fenceWrite F i data) s = .next (keep s (bumpFn s F .fenceBackward))) ∧
      exec (.fenceAddWrite F i data) s =
        .next (keep s (updFn s F fun f => { f with fences := Tab.set f.fences i (min (2 ^ 64 - 1) (v + le data 0 8)) }))) ∧
    (∀ i data, i < 256 → (data.length ≠ 8 ∨ Tab.get (getFn s F).fences i = none) →
      exec (.fenceWrite F i data) s = .next (keep s (bumpFn s F .fenceBadWrite)) ∧
      exec (.fenceAddWrite F i data) s = .next (keep s (bumpFn s F .fenceBadWrite))) ∧
    (∀ src p G i v pt, upNext 0x0B02 src F p s = true → hType (le p 0 4) = 9 → hIdx (le p 0 4) = 256 * G + i → i < 256 →
      Tab.getD (getFn s G).fgens i 0 = hGen (le p 0 4) → Tab.get (getFn s G).fences i = some v →
      (getFn s G).part = some pt → sees s F pt = true →
      exec (.fenceSignal src) s = .next (keep s (finish F src .ok [] 0
        (if le p 8 8 < v then bumpFn s G .fenceBackward
         else updFn s G fun f => { f with fences := Tab.set f.fences i (max v (le p 8 8)) })))) ∧
    (∀ src p i, upNext 0x0B01 src F p s = true → hType (le p 0 4) = 9 → hIdx (le p 0 4) = 256 * F + i → i < 256 →
      Tab.getD (getFn s F).fgens i 0 = hGen (le p 0 4) → Tab.has (getFn s F).fences i = true →
      fenceNamed s (le p 0 4) = false →
      exec (.fenceDelete src) s =
        .next (keep s (finish F src .ok [] 0 (updFn s F fun f => { f with fences := Tab.del f.fences i }))))

/-- For every command that is next to be served, next states in full. RING_CREATE within the ranges of R698, for a ring index not in
use and memory in the function's windows, makes a RUNNING ring with TAIL = HEAD = 0. RING_RESTART of
a stopped ring with a TAIL within SIZE returns it to RUNNING from HEAD. RING_DELETE removes a ring. EQ_CREATE makes an event
queue with its indices and LOST 0, and that of queue 0 takes unmapped types. EQ_DELETE removes one that no ring and no
STAMP_EQ names, with its backlogged records, which count in EVT_UNROUTED. EVENT_ROUTE maps types and sets OWNER_ALL. NOP
changes nothing.
Further: For every command that is next to be served. DMA_WINDOW_ADD of a window of whole 4 KB pages takes the lowest free index below
64, holds BASE, LENGTH and the access bits, and returns the index. DMA_WINDOW_REMOVE of a window in which nothing lies removes
it. IDENTIFY changes nothing else and returns 48 bytes: at their offsets IDENT, HOST_MODE, ETH_MODE, DDR_CHANNELS,
IFACE_VERSION, DDR_RATE, ACTIVE_SLOT and MISMATCH of Table 15-5. -/
def Obligations.RingQueueAndWindowCommands : Prop :=
  (∀ (s : State) (F : Nat) (src : Src) (p : Bytes),
      let f := getFn s F
      let k := le p 0 1
      (upNext 0x0000 src F p s = true → exec (.nop src) s = .next (keep s (finish F src .ok [] 0 s))) ∧
      (upNext 0x0010 src F p s = true → k < 64 → le p 1 1 < 64 → 64 ≤ le p 4 4 → le p 4 4 ≤ 65536 →
        2 ^ Nat.log2 (le p 4 4) = le p 4 4 → le p 8 8 % 64 = 0 → le p 16 8 % 8 = 0 → Tab.has f.rings k = false →
        inWindow f (le p 8 8) (64 * le p 4 4) false = true →
        (le p 16 8 = 0 ∨ inWindow f (le p 16 8) 8 true = true) →
        exec (.ringCreate src) s = .next (keep s (finish F src .ok [] 0 (updFn s F fun f => { f with
          rings := Tab.set f.rings k { base := le p 8 8, size := le p 4 4, eq := le p 1 1, headWb := le p 16 8, tail := 0
                                       fetch := 0, head := 0, state := .running, wbDue := none } })))) ∧
      (∀ r, upNext 0x0012 src F p s = true → Tab.get f.rings k = some r → r.state ≠ .running →
        wrap 32 ((le p 4 4 : Int) - r.head) ≤ r.size →
        exec (.ringRestart src) s = .next (keep s (finish F src .ok [] 0 (updFn s F fun f => { f with
          rings := Tab.set f.rings k { r with tail := le p 4 4, fetch := r.head, state := .running } })))) ∧
      (upNext 0x0011 src F p s = true → Tab.has f.rings k = true →
        exec (.ringDelete src) s = .next (keep s (finish F src .ok [] 0
          (updFn s F fun f => { f with rings := Tab.del f.rings k })))) ∧
      (upNext 0x0013 src F p s = true → k < 64 → 64 ≤ le p 4 4 → le p 4 4 ≤ 65536 →
        2 ^ Nat.log2 (le p 4 4) = le p 4 4 → le p 8 8 % 32 = 0 → vecOk F (le p 2 2) = true → 1 ≤ le p 16 2 →
        Tab.has f.queues k = false → inWindow f (le p 8 8) (32 * le p 4 4) true = true →
        exec (.eqCreate src) s = .next (keep s (finish F src .ok [] 0 (updFn s F fun f => { f with
          queues := Tab.set f.queues k { base := le p 8 8, size := le p 4 4, vector := le p 2 2, count := le p 16 2
                                         time := le p 18 2, head := 0, tail := 0, lost := 0 }
          q0 := f.q0 || k == 0 })))) ∧
      (upNext 0x0014 src F p s = true → Tab.has f.queues k = true → (∀ e ∈ f.rings, e.2.eq ≠ k) →
        ¬(timeOwner s = some F ∧ fld s.time.prm (fk 0x0B 8 0) = (k : Int)) →
        exec (.eqDelete src) s = .next (keep s (finish F src .ok [] 0 (updFn s F fun f => { f with
          queues := Tab.del f.queues k, pendLoss := Tab.del f.pendLoss k
          backlog := f.backlog.filter fun e => e.1 ≠ k
          ctrs := bump f.ctrs .evtUnrouted (f.backlog.filter fun e => e.1 = k).length })))) ∧
      (upNext 0x0015 src F p s = true → routeClean p (le p 0 2) = true → (∀ e ∈ routeItems p 4 (le p 0 2), e.2 < 64 ∨ e.2 = 255) →
        exec (.eventRoute src) s = .next (keep s (finish F src .ok [] 0 (updFn s F fun f => { f with
          route := (routeItems p 4 (le p 0 2)).foldl (fun t e => Tab.set t e.1 e.2) f.route
          ownerAll := bitOf (le p 2 1) 0 }))))) ∧
  ∀ (s : State) (F : Nat) (src : Src) (p : Bytes),
    let f := getFn s F
    (∀ i, upNext 0x0018 src F p s = true → le p 0 8 % 4096 = 0 → le p 8 8 % 4096 = 0 → 0 < le p 8 8 →
      le p 0 8 + le p 8 8 ≤ 2 ^ 64 → 1 ≤ le p 16 1 → le p 16 1 ≤ 3 → lowestFree (Tab.keys f.wins) 0 64 = some i →
      exec (.dmaWindowAdd src) s = .next (keep s (finish F src .ok (toLe 1 i ++ zeros 7) 0 (updFn s F fun f => { f with
        wins := Tab.set f.wins i { base := le p 0 8, len := le p 8 8, read := bitOf (le p 16 1) 0
                                   write := bitOf (le p 16 1) 1 } })))) ∧
    (∀ w, upNext 0x0019 src F p s = true → Tab.get f.wins (le p 0 1) = some w → windowUsed f w = false →
      exec (.dmaWindowRemove src) s =
        .next (keep s (finish F src .ok [] 0 (updFn s F fun f => { f with wins := Tab.del f.wins (le p 0 1) })))) ∧
    (upNext 0x0001 src F p s = true →
      ∃ out, exec (.identify src) s = .next (keep s (finish F src .ok out 0 s)) ∧ out.length = 48 ∧
        le out 0 8 = identWord s F % 2 ^ 64 ∧ le out 9 1 = s.host.mode % 256 ∧ le out 10 1 = s.eth.mode % 256 ∧
        le out 11 1 = s.mem.channels % 256 ∧ le out 12 4 = s.host.version % 2 ^ 32 ∧
        le out 40 2 = s.mem.rate % 65536 ∧ le out 42 1 = s.boot.booted % 256 ∧ le out 43 1 = s.boot.mismatch % 256)

/-- For every running state and function F below 256, next states in full. An index write of a ring of F that keeps producer and
consumer within the ring is taken, any other counts in HOST_RING_INDEX_ERR: EXC_HEAD and TEX_HEAD are consumers of kinds 0 and
2, HTX_TAIL and TTX_TAIL producers of kinds 1 and 3. A fetched descriptor without STAMP, with LENGTH in range, its port's class 0
allowed to the partition (for the transmit ring) and its buffer in a window, advances HEAD by one and pushes its frame, padded
to 64 bytes with FCS, into the partition's host queue, or, for the time owner's TIME_TRANSMIT ring, into queue 27,200.
HOST_RING_CREATE of kind 0 or 1 for a partition without one makes the ring empty; HOST_RING_DELETE removes it. -/
def Obligations.HostRings : Prop :=
  ∀ (s : State) (F : Nat), F < 256 → halted s = false →
    (∀ v kind r c, (kind, c) ∈ [(0, Instr.excHeadWrite F v), (2, Instr.texHeadWrite F v)] →
      Tab.get (getFn s F).hrings kind = some r →
      exec c s = .next (keep s (if wrap 32 ((r.tail : Int) - v) ≤ r.slots then
          updFn s F fun f => { f with hrings := Tab.set f.hrings kind { r with head := v % 2 ^ 32 } }
        else bumpFn s F .hostRingIndexErr))) ∧
    (∀ v kind r c, (kind, c) ∈ [(1, Instr.htxTailWrite F v), (3, Instr.ttxTailWrite F v)] →
      Tab.get (getFn s F).hrings kind = some r →
      exec c s = .next (keep s (if wrap 32 ((v : Int) - r.head) ≤ r.slots then
          updFn s F fun f => { f with hrings := Tab.set f.hrings kind { r with tail := v % 2 ^ 32 } }
        else bumpFn s F .hostRingIndexErr))) ∧
    (∀ desc frame r pt, Tab.get (getFn s F).hrings 1 = some r → r.part = some pt → 0 < r.posted →
      let n := le desc 8 2
      let p := le desc 10 1
      qFull s (qHtx pt) (max 64 (n + 4)) = false → bitOf (le desc 11 1) 0 = false → p < 8 → txLenOk s p n frame = true →
      bitOf (quota s pt 8 0) (8 * p) = true → inWindow (getFn s F) (le desc 0 8) n false = true →
      exec (.hostTxFetch F desc frame) s = .next (keep s (qPush (qHtx pt)
        { pkt := { kind := .host, len := max 64 (n + 4), stream := p, data := frame.take n, stamp := none }
          tick := s.time.ticks } false
        (updFn s F fun f => { f with
          hrings := Tab.upd f.hrings 1 fun r => { r with head := (r.head + 1) % 2 ^ 32 } })))) ∧
    (∀ desc frame r, Tab.get (getFn s F).hrings 3 = some r → timeOwner s = some F → 0 < r.posted →
      let n := le desc 8 2
      let p := le desc 10 1
      qFull s 27200 (max 64 (n + 4)) = false → p < 8 → txLenOk s p n frame = true →
      inWindow (getFn s F) (le desc 0 8) n false = true →
      exec (.timeTransmitFetch F desc frame) s = .next (keep s (qPush 27200
        { pkt := { kind := .ptp, len := max 64 (n + 4), stream := p, data := frame.take n
                   stamp := if bitOf (le desc 11 1) 0 then some (le desc 12 2) else none }
          tick := s.time.ticks } false
        (updFn s F fun f => { f with
          hrings := Tab.upd f.hrings 3 fun r => { r with head := (r.head + 1) % 2 ^ 32 } })))) ∧
    (∀ src p pt, upNext 0x0016 src F p s = true → (getFn s F).part = some pt → le p 0 1 < 2 → le p 1 1 < 3 →
      64 ≤ le p 4 4 → le p 4 4 ≤ 16384 → 2 ^ Nat.log2 (le p 4 4) = le p 4 4 →
      (∀ e ∈ s.host.fns, ∀ r, Tab.get e.2.hrings (le p 0 1) = some r → r.part ≠ some pt) →
      Tab.has (getFn s F).hrings (le p 0 1) = false →
      let size := if le p 1 1 = 0 then 2048 else if le p 1 1 = 1 then 4096 else 10240
      inWindow (getFn s F) (le p 8 8) (le p 4 4 * (if le p 0 1 = 1 then 32 else size)) (le p 0 1 == 0) = true →
      exec (.hostRingCreate src) s = .next (keep s (finish F src .ok [] 0 (updFn s F fun f => { f with
        hrings := Tab.set f.hrings (le p 0 1) { base := le p 8 8, slots := le p 4 4, slotBytes := size, head := 0, tail := 0
                                                stored := [], part := some pt } })))) ∧
    (∀ src p, upNext 0x0017 src F p s = true → Tab.has (getFn s F).hrings (le p 0 1) = true →
      exec (.hostRingDelete src) s =
        .next (keep s (finish F src .ok [] 0 (updFn s F fun f => { f with hrings := Tab.del f.hrings (le p 0 1) }))))

/-- For every running state. A FUNCTION_LEVEL_RESET of F below 256 leaves the function with HOST_IFACE 0, both mailboxes READY with
SEQ and RESULT 0 (a PENDING command goes on, its result to be discarded), no rings, event queues, host rings, windows or routes
and MSI-X off; its fences, partition, FUNC_STATUS and counters are as before. PERST_N falling at a port that the mode uses
does so for every function of the port, and leaves the others; its configuration space answers 100 ms after it rises. An
OWNER_TRANSFER that is 10 s old ends. -/
def Obligations.FunctionAndPortResets : Prop :=
  ∀ s : State, halted s = false →
    (∀ F, F < 256 →
      ∃ t, exec (.functionLevelReset F) s = .next t ∧ (∀ G, G ≠ F → getFn t G = getFn s G) ∧
        (let f := getFn s F
         let g := getFn t F
         g.iface = 0 ∧ g.rings = [] ∧ g.queues = [] ∧ g.hrings = [] ∧ g.wins = [] ∧ g.route = [] ∧ g.backlog = [] ∧
         g.msixEn = false ∧ g.unmasked = [] ∧ g.fences = f.fences ∧ g.part = f.part ∧ g.status = f.status ∧
         g.ctrs = f.ctrs ∧
         (∀ m : Mb, (g.mbox m).state = .ready ∧ (g.mbox m).seq = 0 ∧ (g.mbox m).result = 0 ∧
           ((f.mbox m).state = .pending → (g.mbox m).orphan = some ((f.mbox m).op, (f.mbox m).pay)))) ∧
        t = { s with host := { s.host with fns := t.host.fns } }) ∧
    (∀ p, p < 4 → 64 * p < nFuncs s →
      exec (.hostPortReset p true) s = .next (keep s { s with host := { s.host with
        perst := setAt s.host.perst p (true, s.time.ticks + 100 * tMs)
        fns := s.host.fns.map fun e => if e.1 / 64 = p then (e.1, resetFunc e.2) else e } }) ∧
      exec (.hostPortReset p false) s = .next (keep s { s with host := { s.host with
        perst := setAt s.host.perst p (false, s.time.ticks + 100 * tMs) } })) ∧
    (∀ G at_, s.host.transfer = some (G, at_) → at_ + 10 * tS ≤ s.time.ticks →
      exec .ownerTransferExpiry s = .next (keep s { s with host := { s.host with transfer := none } }))

/-- For every command that is next to be served, next states in full unless said. PARTITION_CREATE whose entries are valid, whose quotas fit the totals,
makes the partition of the lowest free index with the quotas named, the others 0, its host limiter full, and allocates the spill
pool. PARTITION_MODIFY of quotas that cover what the partition i uses sets them. PARTITION_DELETE of a partition without objects,
surfaces, kernels and functions removes it with its policers, addresses, slots and groups; of another, NOT_EMPTY. PARTITION_READ
answers the quotas and changes nothing. FUNCTION_ASSIGN of a function without rings, queues, windows and fences sets its partition
and status bit 5. OWNER_TRANSFER names the function that may accept, and its OWNER_ACCEPT within 10 s makes it the owner, bit 6 set
in both functions; from any other, NOT_OWNER.
Further: For every command that is next to be served. SURFACE_CREATE of a format and size in range, for a partition whose quota and
memory suffice: the surface of the lowest free index with the next generation, reading as zeros; its handle and SIZE are
returned. SURFACE_DELETE of one that no layer or clip names and no context owns removes it; of one named, IN_USE and no effect. SURFACE_WRITE within SIZE from a
window that may be read writes its bytes and no others. SURFACE_READ to a window that may be written gives its bytes there and
changes nothing else. SURFACE_INFO answers SIZE and the planes. -/
def Obligations.PartitionAndSurfaceCommands : Prop :=
  (∀ (s : State) (F : Nat) (src : Src) (p : Bytes),
      (∀ i, upNext 0x0100 src F p s = true → lowestFree (Tab.keys s.obj.parts) 0 256 = some i →
        let es := entries p 8 (le p 6 2)
        let q := applyEntries [] es
        let g := nextGen (Tab.get s.obj.gens (okey 1 i))
        let u : State := { s with
          obj := { s.obj with
            parts := Tab.set s.obj.parts i { gen := g, quota := q, encrypt := bitOf (le p 0 1) 0
                                             lim := { tok := (fldN q (fk 0x10 9 1) : Int) * 65536, rate := fldN q (fk 0x10 9 0), at_ := s.time.ticks } }
            gens := Tab.set s.obj.gens (okey 1 i) g }
          batten := { s.batten with pool := true } }
        lowest (entryChecks es fun k => fTable k == 0x10) = none → fldN q (fk 0x10 6 0) ≤ dramBytes s → totalsOk u = true →
        exec (.partitionCreate src) s =
          .next (keep s (finish F src .ok (toLe 4 (mkHandle 1 g i) ++ zeros 4) (mkHandle 1 g i) u))) ∧
      (∀ i x, upNext 0x0101 src F p s = true → resolvePart s (le p 0 4) = some i → Tab.get s.obj.parts i = some x →
        let es := entries p 8 (le p 6 2)
        let q := applyEntries x.quota es
        let u : State := { s with obj := { s.obj with parts := Tab.set s.obj.parts i { x with quota := q } } }
        lowest (entryChecks es fun k => fTable k == 0x10) = none → (∀ e ∈ es, fRow e.key ≠ 9) →
        fldN q (fk 0x10 6 0) ≤ dramBytes s → (∀ e ∈ es, covers s i e.key e.val.toNat = true) → totalsOk u = true →
        exec (.partitionModify src) s = .next (keep s (finish F src .ok [] 0 u))) ∧
      (∀ i, upNext 0x0102 src F p s = true → resolvePart s (le p 0 4) = some i →
        ((∀ e ∈ s.obj.objs, e.2.part ≠ i) → (∀ e ∈ s.vid.surfs, e.2.part ≠ i) → (∀ e ∈ s.dsp.kerns, e.2.part ≠ i) → partFns s i = [] →
          ∃ u, exec (.partitionDelete src) s = .next (keep s (finish F src .ok [] 0 u)) ∧
            u.obj = { s.obj with parts := Tab.del s.obj.parts i } ∧
            (∀ n, n < 8192 → getPol u i n = none) ∧ (∀ e ∈ u.eth.addrs, e.2.part ≠ i) ∧ (∀ e ∈ u.eth.mcast, e.2.2 ≠ i) ∧
            (∀ e ∈ u.vid.coefs, e.2.part ≠ i) ∧ (∀ e ∈ u.aud.hrtf, e.2.part ≠ i) ∧ (∀ e ∈ u.batten.groups, e.2.part ≠ some i)) ∧
        (∀ e ∈ s.obj.objs, e.2.part = i → exec (.partitionDelete src) s = .next (keep s (finish F src .notEmpty [] 0 s)))) ∧
      (∀ i, upNext 0x0103 src F p s = true → resolvePart s (le p 0 4) = some i → sees s F i = true →
        ∃ out, exec (.partitionRead src) s = .next (keep s (finish F src .ok (toLe 2 (tableKeys 0x10).length ++ zeros 6 ++ out) 0 s)) ∧
          out.take (16 * (tableKeys 0x10).length) =
            (tableKeys 0x10).flatMap fun k => toLe 8 k ++ toLeI 8 (quota s i (fRow k) (fElem k))) ∧
      (∀ pt, upNext 0x0104 src F p s = true → le p 0 1 < nFuncs s →
        (pt = none ∧ le p 4 4 = 0 ∨ le p 4 4 ≠ 0 ∧ pt.isSome = true ∧ resolvePart s (le p 4 4) = pt) →
        let f := getFn s (le p 0 1)
        f.rings = [] → f.queues = [] → f.hrings = [] → f.wins = [] → f.fences = [] →
        exec (.functionAssign src) s = .next (keep s (finish F src .ok [] 0
          (if f.part = pt then s else setFn s (le p 0 1) (setStatus { f with part := pt } 5))))) ∧
      (upNext 0x0105 src F p s = true → le p 0 1 < nFuncs s →
        exec (.ownerTransfer src) s = .next (keep s (finish F src .ok [] 0
          { s with host := { s.host with transfer := some (le p 0 1, s.time.ticks) } }))) ∧
      (∀ at_, upNext 0x0106 src F p s = true → s.host.transfer = some (F, at_) → s.time.ticks ≤ at_ + 8000000000 →
        ∃ u, exec (.ownerAccept src) s = .next (keep s (finish F src .ok [] 0 u)) ∧ u.host.owner = F ∧ u.host.transfer = none ∧
          bitOf (getFn u F).status 6 = true ∧ bitOf (getFn u s.host.owner).status 6 = true) ∧
      (upNext 0x0106 src F p s = true →
        (s.host.transfer = none ∨ ∃ G at_, s.host.transfer = some (G, at_) ∧ (G ≠ F ∨ at_ + 8000000000 < s.time.ticks)) →
        exec (.ownerAccept src) s = .next (keep s (finish F src .notOwner [] 0 s)))) ∧
  ∀ (s : State) (F : Nat) (src : Src) (p : Bytes),
    (∀ pt n u2, upNext 0x0A00 src F p s = true → partOr s F (le p 0 4) = .ok pt →
      surfOk (le p 4 1) (le p 8 2) (le p 10 2) (le p 12 4) = true → surfsUsed s pt < quota s pt 2 3 →
      lowestFree (Tab.keys s.vid.surfs) 0 65536 = some n →
      let clip := le p 4 1 = 0x10 ∨ le p 4 1 = 0x11
      let g := nextGen (Tab.get s.vid.sgens n)
      let f : Surf := { gen := g, part := pt, fmt := le p 4 1, w := if clip then le p 12 4 else le p 8 2
                        h := if clip then 1 else le p 10 2 }
      let h := mkHandle 8 g n
      fitMem pt { s with vid := { s.vid with surfs := Tab.set s.vid.surfs n f, sgens := Tab.set s.vid.sgens n g } } = some u2 →
      exec (.surfaceCreate src) s = .next (keep s (finish F src .ok (toLe 4 h ++ zeros 4 ++ toLe 8 (surfSize f)) h u2)) ∧
        getSurf u2 n = some f) ∧
    (∀ n u, resolveSurf s F (le p 0 4) = some n → getSurf s n = some u →
      (upNext 0x0A01 src F p s = true → surfBusy s n = false → surfNamed s n = false → u.owner = 0 →
        ∃ t, exec (.surfaceDelete src) s = .next (keep s (finish F src .ok [] 0 t)) ∧ getSurf t n = none ∧
          (∀ m, m ≠ n → getSurf t m = getSurf s m) ∧ t.obj = s.obj ∧ t.host = s.host) ∧
      (upNext 0x0A01 src F p s = true → (surfBusy s n = true ∨ surfNamed s n = true) →
        exec (.surfaceDelete src) s = .next (keep s (finish F src .inUse [] 0 s))) ∧
      (upNext 0x0A02 src F p s = true →
        ∃ out, exec (.surfaceInfo src) s = .next (keep s (finish F src .ok (toLe 8 (surfSize u) ++ out) 0 s))) ∧
      (∀ d, upNext 0x0A03 src F p s = true → le p 8 8 + le p 4 4 ≤ surfSize u → surfBusy s n = false → u.owner = 0 →
        inWindow (getFn s F) (le p 16 8) (le p 4 4) false = true → d.length = le p 4 4 →
        ∃ v, exec (.surfaceWrite src d) s = .next (keep s (finish F src .ok [] 0
            { s with vid := { s.vid with surfs := Tab.set s.vid.surfs n { u with mem := v } } })) ∧
          Mem.read 0 v (le p 8 8) d.length = d ∧
          ∀ a, (a < le p 8 8 ∨ le p 8 8 + le p 4 4 ≤ a) → Mem.get 0 v a = Mem.get 0 u.mem a) ∧
      (upNext 0x0A04 src F p s = true → le p 8 8 + le p 4 4 ≤ surfSize u → le p 4 4 ≠ 0 →
        inWindow (getFn s F) (le p 16 8) (le p 4 4) true = true →
        exec (.surfaceRead src) s = .next (keep s (finish F src .ok [] 0 (updFn s F fun f =>
          { f with lastWr := some (le p 16 8, Mem.read 0 u.mem (le p 8 8) (le p 4 4)) })))))

/-- A detection takes the lowest FREE record, counts on the one that matches, or counts FAULT_RECORDS_LOST, and asserts FAULT_N
when its mechanism says so. For every running state: an engine whose item has run past its watchdog is reset, and returns when the
reset ends. A clock fault of DISP or DBG stops that domain alone, of another domain of a READY device begins a recovery; a rail outside its window is
bad until it is inside again; 16 sensors are stored, each bad while above the ordered maximum, two readings 15 °C above in a row trip; a setpoint that reads back
within 15 mV is good. A due run of the margin plan takes the least slack of each domain it reads, raises the voltage by at
most 5 mV within the cap, and leaves the clock steps for a stroke boundary. HEALTH_READ, FAULT_ACK and AUDIT_READ answer as their tables say. -/
def Obligations.DetectionsAndMonitors : Prop :=
  (∀ (s : State) (mech inst obj detail : Nat) (persist crit : Bool),
    let t := detect mech inst obj detail persist crit s
    let same := fun (e : Nat × FaultRec) => decide (e.2.mech = mech) && decide (e.2.inst = inst) && decide (e.2.obj = obj)
    (holdsFault mech crit = true → faultN t = true) ∧ t.obj = s.obj ∧
    (∀ n, s.dep.recs.find? same = none → lowestFree (Tab.keys s.dep.recs) 0 64 = some n →
      ∃ r, Tab.get t.dep.recs n = some r ∧ r.mech = mech ∧ r.inst = inst ∧ r.obj = obj ∧ r.count = 1 ∧ r.first = now s ∧
        r.last = now s ∧ r.active = persist ∧ r.holds = holdsFault mech crit) ∧
    (∀ n r, s.dep.recs.find? same = some (n, r) →
      ∃ q, Tab.get t.dep.recs n = some q ∧ q.count = min 0xFFFFFFFF (r.count + 1) ∧ q.first = r.first ∧ q.last = now s ∧
        q.active = (r.active || persist) ∧ q.holds = (r.holds || holdsFault mech crit)) ∧
    (s.dep.recs.find? same = none → lowestFree (Tab.keys s.dep.recs) 0 64 = none →
      t.dep.recs = s.dep.recs ∧ ctr t.time.ctrs .faultRecordsLost = (ctr s.time.ctrs .faultRecordsLost + 1) % 2 ^ 64)) ∧
  (∀ s : State, halted s = false →
    (∀ e q, e < 16 → (getEng s e).run = some q → (getEng s e).startAt + nsTicks (watchdogNs s q) ≤ s.time.ticks →
      ∃ t, exec (.engineWatchdogExpiry e) s = .next t ∧ (getEng t e).run = none ∧
        (getEng t e).resetTo = some (s.time.ticks + 160000)) ∧
    (∀ e, e < 16 → exec (.engineResetEnd e) s = .next (keep s (updEng s e fun g => { g with resetTo := none }))) ∧
    (∀ d khz, d ≤ 17 → d ∉ s.dep.off →
      ((d = 14 ∨ d = 17) → ∃ t, exec (.clockMonitorFault d khz) s = .next t ∧ t.dep.off = s.dep.off ++ [d] ∧ t.host.dev = s.host.dev) ∧
      (d ≠ 14 → d ≠ 17 → s.host.dev = .ready → ∃ t, exec (.clockMonitorFault d khz) s = .next t ∧ t.host.dev = .resetting ∧
        t.dep.recoverBy = some (9, s.time.ticks))) ∧
    (∀ rail mv, rail ≤ 8 →
      (inRail s rail mv = false → ∃ t, exec (.voltageMonitorFault rail mv) s = .next t ∧ 256 + rail ∈ t.dep.monBad) ∧
      (inRail s rail mv = true → ∃ t, exec (.monitorFaultEnd rail mv) s = .next t ∧ 256 + rail ∉ t.dep.monBad)) ∧
    (∀ mv t0, s.dep.avsSet = some t0 → t0 + 800000 ≤ s.time.ticks →
      (s.dep.v ≤ mv + 15 → mv ≤ s.dep.v + 15 →
        exec (.avsReadbackCheck mv) s = .next (keep s { s with dep := { s.dep with avsSet := none } })) ∧
      ((mv + 15 < s.dep.v ∨ s.dep.v + 15 < mv) →
        ∃ t, exec (.avsReadbackCheck mv) s = .next t ∧ t.dep.avsSet = none ∧ 256 ∈ t.dep.monBad)) ∧
    (∀ ts : List Int, ts.length = 16 →
      ∃ t, exec (.junctionSensorSample ts) s = .next t ∧ t.dep.sensors = ts ∧
        (∀ (n : Nat) (v : Int), ts[n]? = some v → (512 + n ∈ t.dep.monBad ↔ tjOrdered < v)) ∧
        (∀ (n : Nat) (v : Int) (r : Nat), ts[n]? = some v → tjOrdered + 240 ≤ v → s.dep.hotRuns[n]? = some r → 1 ≤ r → t.dep.thermtrip = true) ∧
        ((∀ v ∈ ts, v < tjOrdered + 240) → t.dep.thermtrip = s.dep.thermtrip)) ∧
    (∀ d, exec (.pmbusTelemetryPoll d) s = .next (keep s { s with dep := { s.dep with telem := d } })) ∧
    (∀ rs vmin vs eye, serving s = true → planDue s = true →
      ∃ t, exec (.marginPlanRun rs vmin vs eye) s = .next t ∧ t.dep.k = s.dep.k ∧ t.dep.lastRun = now s ∧
        t.dep.lastTj = hottest s.dep.sensors ∧ t.dep.v ≤ max s.dep.v s.boot.hdr.vCap ∧ t.dep.v ≤ s.dep.v + 5 ∧
        (∀ d ∈ planned, ∀ r, (d, r) ∈ rs → ∃ m, Tab.get t.dep.slack d = some m ∧ m ≤ 1024 - r) ∧
        (∀ d ∈ planned, ∀ m, Tab.get t.dep.slack d = some m → m < 72 → s.dep.v < s.boot.hdr.vCap →
          t.dep.v = min s.boot.hdr.vCap (s.dep.v + 5)))) ∧
  ∀ (s : State) (F : Nat) (src : Src) (p : Bytes),
    (upNext 0x0E0F src F p s = true → le p 0 1 = 0xFF → le p 1 1 < 64 →
      exec (.healthRead src) s = .next (keep s (finish F src .ok (recordsRead s (le p 1 1)) 0 s))) ∧
    (upNext 0x0E0F src F p s = true → (le p 0 1 ≤ 17 ∨ le p 0 1 = 0xFE) →
      ∃ out u, exec (.healthRead src) s = .next (keep s (finish F src .ok out 0 u)) ∧ u = { s with free := u.free } ∧
        (out.drop 12).take 2 = toLeI 2 (if le p 0 1 = 0xFE then s.dep.sram else Tab.getD s.dep.slack (le p 0 1) 0)) ∧
    (∀ r, upNext 0x0E10 src F p s = true → le p 0 4 < 64 → Tab.get s.dep.recs (le p 0 4) = some r →
      (r.active = false → ∃ u, exec (.faultAck src) s = .next (keep s (finish F src .ok [] 0 u)) ∧
        u.dep.recs = Tab.del s.dep.recs (le p 0 4)) ∧
      (r.active = true → exec (.faultAck src) s = .next (keep s (finish F src .badState [] 0 s)))) ∧
    (upNext 0x0E0E src F p s = true →
      ∃ out, exec (.auditRead src) s = .next (keep s (finish F src .ok (toLe 8 s.dep.auditAt ++ out) 0 s)) ∧ out.length = 360)

/-- For every running state (the end of a power failure: for every state in store mode or not). Heartbeats restart their times. A READY device without a firmware heartbeat for 1 s enters FW_RESTARTING, its
sequencer alone, the shadow bank discarded; after 1 s more alone its media instants stop; a firmware that is back serves again, the waiting
commands in order of arrival, none of which R693 refuses: the time firmware was away is no part of their service time (R694). A task that times out completes its command with TIMEOUT. Four seconds without a confirmed heartbeat, a
Clamp mismatch, and the end of a power failure begin a recovery; its end makes the device READY, no command waiting in a
mailbox, and a failed instance in service makes it FAILED. A power failure begins store mode. -/
def Obligations.RestartsAndRecovery : Prop :=
  (∀ s : State, halted s = false →
    (serving s = true →
      exec .firmwareHeartbeat s = .next (keep s { s with dep := { s.dep with hbFw := s.time.ticks } }) ∧
      exec (.firmwareTaskTimeout none) s = .next (keep s (bumpDev s .fwTaskTimeout)) ∧
      ∀ F, (getMb s F .media).state = .pending → exec (.firmwareTaskTimeout (some (F, .media))) s =
        .next (keep s (completeMb F .media .timeout [] (bumpDev s .fwTaskTimeout)))) ∧
    exec .clampHeartbeat s =
      .next (keep s { s with dep := { s.dep with hbClamp := s.time.ticks, confirmed := s.dep.hbFw } }) ∧
    (s.host.dev = .ready → s.dep.hbFw + 800000000 ≤ s.time.ticks →
      ∃ t, exec .benchWatchdogExpiry s = .next t ∧ t.host.dev = .fwRestarting ∧ t.time.alone = true ∧
        t.time.aloneAt = s.time.ticks ∧ t.time.shadow = [] ∧ t.time.commit = false ∧ t.dep.restartAt = some s.time.ticks ∧
        t.obj = s.obj ∧ t.vid = s.vid ∧ t.batten = s.batten) ∧
    (s.time.alone = true → s.time.stopped = false → s.time.aloneAt + 800000000 ≤ s.time.ticks →
      ∃ t, exec .sequencerAloneExpiry s = .next t ∧ t.time.stopped = true ∧ t.obj = s.obj) ∧
    (s.host.dev = .fwRestarting → s.time.holdLate = none → (∀ e ∈ pendingMbs s, r693 s e.1 e.2 (getMb s e.1 e.2) = none) →
      ∃ t, exec .fwRestarted s = .next t ∧ t.host.dev = .ready ∧ t.time.alone = false ∧ t.time.stopped = false ∧
        t.host.restarts = (s.host.restarts + 1) % 2 ^ 32 ∧ t.host.replay = pendingMbs s ∧ t.dep.hbFw = s.time.ticks ∧
        t.obj = s.obj ∧ (∀ F m, getMb t F m = (getMb s F m).shift s.time.ticks (s.dep.restartAt.getD s.time.ticks)) ∧
        ((Tab.keys s.host.fns).Nodup →
          (pendingMbs s).map (fun e => (getMb s e.1 e.2).since) = sortBy ((pendingMbs s).map fun e => (getMb s e.1 e.2).since) (fun a b => decide (a ≤ b)))) ∧
    ((s.host.dev = .ready ∨ s.host.dev = .fwRestarting) →
      (s.dep.confirmed + 3200000000 ≤ s.time.ticks ∨ s.dep.hbClamp + 3200000000 ≤ s.time.ticks) →
      ∃ t, exec .deviceWatchdogExpiry s = .next t ∧ t.host.dev = .resetting ∧ t.dep.recoverBy = some (0x10, s.time.ticks)) ∧
    (s.host.dev = .ready →
      ∃ t, exec .clampLockstepMismatch s = .next t ∧ t.host.dev = .resetting ∧ t.dep.recoverBy = some (0x0D, s.time.ticks)) ∧
    (∀ bad cause at_, s.dep.recoverBy = some (cause, at_) → s.host.dev = .resetting →
      ((∀ b ∈ bad, b ∈ s.dep.removed) → ∃ t, exec (.deviceRecovered bad) s = .next t ∧ t.host.dev = .ready ∧
        t.host.recoveries = (s.host.recoveries + 1) % 2 ^ 32 ∧ t.dep.recoverBy = none ∧
        t.dep.removed = s.dep.removed.filter (fun r => bad.contains r) ∧ ∀ F m, (getMb t F m).state ≠ .pending) ∧
      (∀ b ∈ bad, b ∉ s.dep.removed → ∃ t, exec (.deviceRecovered bad) s = .next t ∧ t.host.dev = .failed)) ∧
    (s.dep.pfAt = none →
      ∃ t, exec .powerFail s = .next t ∧ t.dep.storeMode = true ∧ t.dep.pfAt = some s.time.ticks ∧
        (s.boot.flashOp = none → t.dep.writeDis = true))) ∧
  ∀ s : State, s.dep.pfAt ≠ none → s.dep.thermtrip = false → s.host.dev = .ready →
    ∃ t, exec .powerRestore s = .next t ∧ t.dep.storeMode = false ∧ t.dep.pfAt = none ∧ t.host.dev = .resetting ∧
      t.dep.recoverBy = some (0x13, s.time.ticks)

/-- An operation starts only in a free, enabled flash with the energy of R788 (all states). For every running state: samples keep the
last 8; an operation that ends leaves a programmed range with its data, an erased sector erased, no other byte changed; a firmware command
deferred for 1 s completes with STORE_DEFERRED; the stores after READY and of the day become jobs; a challenge ends after 60 s; a due
activation reset starts the device anew with its flash. For every command that is next to be served: FW_INFO answers both slots; FW_UPDATE_BEGIN opens a
session on the slot that did not boot; FW_UPDATE_DATA and FW_ACTIVATE go on as jobs, the mailbox still PENDING; FW_UPDATE_COMMIT of all blocks makes the slot
VALID, or INVALID with its status; DEBUG_CHALLENGE and DEBUG_UNLOCK are as R817 and R818 say. -/
def Obligations.FlashAndFirmware : Prop :=
  (∀ s : State, let t := nextOp s
    t.boot.flash = s.boot.flash ∧ (t.boot.flashOp ≠ s.boot.flashOp →
      s.boot.flashOp = none ∧ s.dep.writeDis = false ∧ halted s = false ∧ s.dep.pfAt = none ∧
        ∃ o, t.boot.flashOp = some o ∧ energyOk s o.code = true)) ∧
  (∀ s : State, halted s = false →
    (∀ uv, let l := s.dep.holdup ++ [uv]
      exec (.holdupSample uv) s = .next (keep s { s with dep := { s.dep with holdup := l.drop (l.length - 8) } })) ∧
    (∀ o, s.boot.flashOp = some o →
      (o.code = 1 → ∃ t, exec (.flashOperationComplete none) s = .next t ∧
        Mem.read erased t.boot.flash o.addr o.data.length = o.data ∧
        ∀ a, (a < o.addr ∨ o.addr + o.data.length ≤ a) → Mem.get erased t.boot.flash a = Mem.get erased s.boot.flash a) ∧
      (o.code = 2 → ∃ t, exec (.flashOperationComplete none) s = .next t ∧
        (∀ a, o.addr ≤ a → a < o.addr + 4096 → Mem.get erased t.boot.flash a = erased) ∧
        ∀ a, (a < o.addr ∨ o.addr + 4096 ≤ a) → Mem.get erased t.boot.flash a = Mem.get erased s.boot.flash a)) ∧
    (∀ j js o os t0, s.boot.jobs = j :: js → j.ops = o :: os → energyOk s o.code = false → flashReady s = true → j.since = some t0 →
      j.check + 8000000 ≤ s.time.ticks → j.kind < 2 → 800000000 ≤ j.total + (s.time.ticks - t0) →
      (getMb s j.fn .admin).state = .pending → isFirmware (getMb s j.fn .admin).op = true →
      ∃ t, exec .storeRetry s = .next t ∧ (getMb t j.fn .admin).state = .done ∧
        (getMb t j.fn .admin).result = Status.storeDeferred.code) ∧
    (serving s = true →
      (∃ t, exec .bootStore s = .next t ∧ t.boot.storeTrain = false ∧ t.boot.storeLog = false ∧
        (s.boot.storeTrain = true → ∃ j ∈ t.boot.jobs, j.kind = 2) ∧ (s.boot.storeLog = true → ∃ j ∈ t.boot.jobs, j.kind = 3)) ∧
      (s.dep.storedAt + 69120000000000 ≤ s.time.ticks → (Tab.keys s.dep.dayMin).Nodup →
        ∃ t, exec .dailyHistoryStore s = .next t ∧ t.dep.dayMin = [] ∧ t.dep.storedAt = s.time.ticks ∧
          ∀ e ∈ s.dep.dayMin, (Tab.getD t.dep.daily e.1 []).getLast? = some (phcNs s.time / 1000000000, e.2) ∧
            (Tab.getD t.dep.daily e.1 []).length ≤ 90)) ∧
    (∀ c t0, s.boot.challenge = some (c, t0) → t0 + 48000000000 ≤ s.time.ticks →
      exec .debugChallengeExpiry s = .next (keep s { s with boot := { s.boot with challenge := none } })) ∧
    (∀ env t0, s.boot.actReset = some t0 → t0 ≤ s.time.ticks → s.boot.flashOp = none →
      ∃ t, exec (.activationReset env) s = .next t ∧ t.boot.flash = s.boot.flash ∧ t.boot.actReset = none ∧
        t.obj = State.reset.obj ∧ (t.host.dev = .ready ∨ t.host.dev = .recovery ∨ t.host.dev = .failed))) ∧
  ∀ (s : State) (F : Nat) (src : Src) (p : Bytes),
    (upNext 0x0F00 src F p s = true →
      exec (.fwInfo src) s = .next (keep s (finish F src .ok ([0, 1].flatMap fun n => slotRead s n 8 4 ++ toLe 1 (slotState s n).code
        ++ toLe 1 (b2n (s.boot.booted == n)) ++ zeros 2 ++ slotRead s n 20 4 ++ zeros 4) 0 s))) ∧
    (upNext 0x0F01 src F p s = true → le p 0 8 ≤ 29360128 →
      (s.boot.actReset = none → ∃ u, exec (.fwUpdateBegin src) s = .next (keep s (finish F src .ok [] 0 u)) ∧
        u.boot.session = some { slot := 1 - s.boot.booted, len := le p 0 8 } ∧ slotState u (1 - s.boot.booted) = .writing) ∧
      (s.boot.actReset ≠ none → exec (.fwUpdateBegin src) s = .next (keep s (finish F src .busy [] 0 s)))) ∧
    (∀ d m, src = .mbox F m → upNext 0x0F02 src F p s = true →
      (s.boot.session = none → exec (.fwUpdateData src d) s = .next (keep s (finish F src .badState [] 0 s))) ∧
      (∀ z, s.boot.session = some z → (∀ j ∈ s.boot.jobs, j.kind ≠ 0) → 0 < le p 8 4 → le p 8 4 % 65536 = 0 → le p 8 4 ≤ 1048576 →
        le p 12 4 % 65536 = 0 → le p 12 4 + le p 8 4 ≤ roundUp z.len 65536 → inWindow (getFn s F) (le p 0 8) (le p 8 4) false = true →
        ∃ t, exec (.fwUpdateData src d) s = .next t ∧ (getMb t F m).state = .pending ∧
          ∃ j ∈ t.boot.jobs, j.kind = 0 ∧ j.fn = F ∧ j.addr = slotBase z.slot + le p 12 4 ∧ j.data = padTo (le p 8 4) d)) ∧
    (upNext 0x0F03 src F p s = true →
      (s.boot.session = none → exec (.fwUpdateCommit src) s = .next (keep s (finish F src .badState [] 0 s))) ∧
      (∀ z, s.boot.session = some z →
        (∀ b, b < ceilDiv (max 1 (manNum s z.slot 20 4)) 65536 → b ∈ z.blocks) →
        let ends := fun (x : SlotSt) => setSlot z.slot x { s with boot := { s.boot with session := none } }
        exec (.fwUpdateCommit src) s = .next (keep s (
          if mismatchOf s z.slot = 0 then finish F src .ok (slotRead s z.slot 8 4) 0 (ends .valid)
          else if mismatchOf s z.slot = 3 then finish F src .signatureFail [] 0 (ends .invalid)
          else finish F src .versionMismatch [] 0 (ends .invalid))))) ∧
    (∀ m, src = .mbox F m → upNext 0x0F04 src F p s = true → le p 0 1 ≤ 1 → (∀ j ∈ s.boot.jobs, j.kind ≠ 1) →
      (slotState s (le p 0 1) ≠ .valid → exec (.fwActivate src) s = .next (keep s (finish F src .badState [] 0 s))) ∧
      (slotState s (le p 0 1) = .valid → ∃ t, exec (.fwActivate src) s = .next t ∧ (getMb t F m).state = .pending ∧
        ∃ j ∈ t.boot.jobs, j.kind = 1 ∧ j.fn = F)) ∧
    (upNext 0x0F05 src F p s = true →
      ∃ c u, exec (.debugChallenge src) s = .next (keep s (finish F src .ok c 0 u)) ∧ c.length = 32 ∧
        (c.drop 16).take 8 = toLe 8 fuseSerial ∧ u.boot.challenge = some (c, s.time.ticks) ∧
        u.boot.challenges = (s.boot.challenges + 1) % 2 ^ 32) ∧
    (upNext 0x0F06 src F p s = true →
      (8 ≤ s.boot.dbgFails → exec (.debugUnlock src) s = .next (keep s (finish F src .signatureFail [] 0 s))) ∧
      (s.boot.dbgFails < 8 → challengeNow s = none →
        exec (.debugUnlock src) s = .next (keep s (finish F src .badState [] 0 s))) ∧
      (∀ c, s.boot.dbgFails < 8 → challengeNow s = some c →
        (ecdsaOk fuseDebugKey (p.take 96) (sha384 c) = true →
          ∃ u, exec (.debugUnlock src) s = .next (keep s (finish F src .ok [] 0 u)) ∧ u.boot.jtagOpen = true ∧
            u.boot.challenge = none ∧ (∀ e ∈ u.obj.parts, e.2.xts = none) ∧
            ∀ e ∈ u.obj.legs, e.2.keyPrev = none ∧ e.2.keyCur = none ∧ e.2.keyNext = none ∧ e.2.outCur = none ∧ e.2.outNext = none) ∧
        (ecdsaOk fuseDebugKey (p.take 96) (sha384 c) = false →
          exec (.debugUnlock src) s = .next (keep s (finish F src .signatureFail [] 0
            { s with boot := { s.boot with challenge := none, dbgFails := s.boot.dbgFails + 1 } })))))

/-- PORST_FALL leaves the device as in reset (log entries 1 and 5), and the flash alone where no operation is cut short. PORST_RISE of a device in reset ends in READY,
RECOVERY or FAILED: READY only when the flash, the channels, BIST and the PLLs are good and the slot that booted is bootable, with
BOOT_STATUS 0; RECOVERY only when no slot is bootable; FAILED with a code. In every state, SMBus commands answer their tables from 10 ms after
PORST_N rises and are not acknowledged before; but for PAGE they change nothing else. The alert response is given while FAULT_N is asserted.
A locked JTAG port answers IDCODE and BYPASS only. -/
def Obligations.StartUpAndManagement : Prop :=
  ∀ s : State,
    (∃ t, exec .porstFall s = .next t ∧ asInReset t ∧ t.boot.porstLow = true ∧ t.pending = s.pending ∧
      (s.boot.flashOp = none → t.boot.flash = s.boot.flash)) ∧
    (∀ env, s.boot.porstLow = true →
      ∃ t, exec (.porstRise env) s = .next t ∧ t.boot.porstLow = false ∧ t.pending = s.pending ∧
        (t.host.dev = .ready ∨ t.host.dev = .recovery ∨ t.host.dev = .failed) ∧
        (t.host.dev ≠ .failed → env.xspi = true ∧ env.spd = true ∧ env.bist = none ∧ env.plls = true) ∧
        (t.host.dev = .ready → t.host.bootStat = 0 ∧ bootable t t.boot.booted = true) ∧
        (t.host.dev = .recovery → bootable t 0 = false ∧ bootable t 1 = false ∧
          t.host.bootStat = 0x0200 + mismatchOf t (activeSlot t)) ∧
        (t.host.dev = .failed → t.host.bootStat ≠ 0)) ∧
    (let early := s.boot.porstLow = true ∨ s.time.ticks < 8000000
     let block := fun (b : Bytes) => Host.Outcome.next (keep s { s with boot := { s.boot with smb := some (toLe 1 b.length ++ b) } })
     (early →
      ∀ c ∈ ([.state, .ident, .faults, .bootLog, .temps, .page none false, .page (some 0) false] : List Instr),
        exec c s = .next (keep s { s with boot := { s.boot with smb := none } })) ∧
     (¬early →
      exec .state s = block (toLe 8 (s.host.dev.code + 8 * compat s 0 + 65536 * s.host.bootStat)) ∧
      exec .ident s = block (toLe 8 (identWord s 0) ++ toLe 4 s.boot.hdr.boardId ++ toLeI 2 (hottest s.dep.sensors) ++ zeros 2) ∧
      exec .temps s = block (s.dep.sensors.flatMap fun v => toLeI 2 v) ∧
      (∃ b, exec .faults s = block b ∧ b.length = 232 ∧ (b.drop 4).take 1 = toLe 1 (b2n (faultN s))) ∧
      (∃ b, exec .bootLog s = block (toLe 1 s.boot.log.length ++ b) ∧ b.length = 240) ∧
      (∀ v, exec (.page (some v) false) s = .next (keep s { s with boot := { s.boot with page := v % 256, smb := some [] } })) ∧
      exec (.page none false) s = .next (keep s { s with boot := { s.boot with smb := some (toLe 1 s.boot.page) } }) ∧
      (∀ v, exec (.page v true) s = .next (keep s { s with boot := { s.boot with smb := none } }))) ∧
     exec .smbusAlertResponse s = .next (keep s { s with boot := { s.boot with
       ara := if s.boot.porstLow || decide (s.time.ticks < 8000000) || !(faultN s) then none else some 0x5A } })) ∧
    exec (.jtagAccess 0) s = .next (keep s { s with boot := { s.boot with jtag := some fuseIdcode } }) ∧
    exec (.jtagAccess 1) s = .next (keep s { s with boot := { s.boot with jtag := some 0 } }) ∧
    (∀ op, 2 ≤ op → s.boot.jtagOpen = false →
      exec (.jtagAccess op) s = .next (keep s { s with boot := { s.boot with jtag := none } }))

/-- For every running state. A stroke boundary that is due is counted, commits the schedule that was asked for and applies the clock steps that
wait. A due boundary of a conference on which nothing waits begins its block when it is ACTIVE. A due frame instant makes each ACTIVE floating
layout of its rate, where nothing waits, due to compose. An instant that is not due changes nothing. An audit that is due and finds no imbalance records
15 books without one. STATS_READ answers a page of its scope's counters. An entry of a ring acts as its command does
from that ring, and one that the transport refuses ends with its status. Index words that a HOST leg takes keep its OUT ring within its size. -/
def Obligations.InstantsAndReadout : Prop :=
  (∀ s : State, halted s = false →
    (∀ idx, (s.time.stopped = true ∨ phcNs s.time < s.time.strokeNext) → exec (.strokeBoundary idx) s = .next s) ∧
    (∀ idx, s.time.stopped = false → s.time.strokeNext ≤ phcNs s.time →
      ∃ t, exec (.strokeBoundary idx) s = .next t ∧ t.time.strokes = (s.time.strokes + 1) % 2 ^ 64 ∧
        t.time.sched = (if s.time.commit then s.time.shadow else s.time.sched) ∧ t.dep.kNext = [] ∧
        (∀ d, Tab.get s.dep.kNext d = none → Tab.get t.dep.k d = Tab.get s.dep.k d) ∧
        (s.time.deferred = none → t.time.strokeNext = boundaryAfter s.time strokeNs s.time.strokeNext)) ∧
    (∀ n ins, n < 1024 →
      let c := okey 2 n
      let b := (getConf s c).mixNext
      ((s.time.stopped = true ∨ phcNs s.time < b) → exec (.mixPeriodBoundary n ins) s = .next s) ∧
      ((getObj s c).isSome = true → s.time.stopped = false → 0 < mixPeriod s c → b ≤ phcNs s.time →
        (∀ e ∈ s.obj.objs, e.2.pend = [] ∧ e.2.resvNew = []) →
        ∃ t, exec (.mixPeriodBoundary n ins) s = .next t ∧
          (getConf t c).mixNext = boundaryAfter s.time (mixPeriod s c) b ∧
          (isActive s c = false → (getGraph t c).phase = 0) ∧
          (isActive s c = true → (getGraph t c).phase = 1 ∧ (getGraph t c).t = b ∧
            (getGraph t c).mt = wrap 64 ((b : Int) - s.time.eOff) ∧ (getConf t c).conceal = false))) ∧
    (∀ r a x, r < 13 → s.time.frames[r]? = some (a, x) →
      ((s.time.stopped = true ∨ phcNs s.time < x) → exec (.frameInstant r) s = .next s) ∧
      (s.time.stopped = false → x ≤ phcNs s.time →
        ∃ t, exec (.frameInstant r) s = .next t ∧ t.time.frames[r]? = some (a + 1, frameAt r (a + 1)) ∧
          (∀ q, q ≠ r → t.time.frames[q]? = s.time.frames[q]?) ∧
          ((∀ e ∈ s.obj.objs, e.2.pend = []) → ∀ y ∈ layoutsAt s r, isActive s y = true → isFixed s y = false →
            (getLayout t y).due = some { k := a, x := x, mt := wrap 64 ((x : Int) - s.time.eOff) }))) ∧
    ((s.time.strokes = 0 ∨ s.time.strokes % 2000 ≠ 0 ∨ s.dep.auditAt = s.time.strokes) →
      ∀ found, exec (.conservationAudit found) s = .next s) ∧
    (0 < s.time.strokes → s.time.strokes % 2000 = 0 → s.dep.auditAt ≠ s.time.strokes → (∀ n, bookFails s n = []) →
      exec (.conservationAudit []) s = .next (keep s { s with dep := { s.dep with
        auditAt := s.time.strokes
        audit := (List.range 15).map fun n => { code := n + 1, bad := 0, first := 0, diff := 0 } } })) ∧
    (∀ f k e d, f < 256 → k < 64 →
      (∀ st, serving s = true → ringTurn s f k = true → ringRefusal s f e = some st →
        exec (.ringEntryExecute f k e d) s = .next (keep s (completeRing f k e st 0 s))) ∧
      (∀ ty n c, 2 ≤ ty → ty ≤ 7 → ([createOf, modifyOf, activateOf, holdOf, deleteOf, readOf])[n]? = some c →
        le e 0 2 = lifeOp ty n → exec (.ringEntryExecute f k e d) s = exec (c ty (.ring f k e)) s) ∧
      ∀ c ∈ ([(0x0A03, fun g => .surfaceWrite g d), (0x0507, .governorConfig), (0x0607, .policerConfig), (0x0806, .layerFlip), (0x0906, .rungRefresh),
          (0x0907, .rungKey), (0x0A00, .surfaceCreate), (0x0A01, .surfaceDelete), (0x0A04, .surfaceRead), (0x0B02, .fenceSignal),
          (0x0C04, .playClip), (0x0C05, .clipStop), (0x0C06, .dtmfSend), (0x0C07, .planeStop), (0x0C09, .planeStart),
          (0x0D03, .kernelResume), (0x0E03, .queueFlush), (0x0E07, .qgroupClear)] : List (Nat × (Src → Instr))),
        le e 0 2 = c.1 → exec (.ringEntryExecute f k e d) s = exec (c.2 (.ring f k e)) s)) ∧
  (∀ (s : State) (F : Nat) (src : Src) (p : Bytes), upNext 0x0E00 src F p s = true →
    (∀ st, statScope s F (le p 0 4) (le p 6 1) = .error st →
      exec (.statsRead src) s = .next (keep s (finish F src st [] 0 s))) ∧
    (∀ l, statScope s F (le p 0 4) (le p 6 1) = .ok l → le p 4 2 ≤ l.length →
      let page := (l.drop (le p 4 2)).take 63
      exec (.statsRead src) s =
        .next (keep s (finish F src .ok (toLe 2 l.length ++ toLe 2 page.length ++ page.flatMap statBytes) 0 s)))) ∧
  ∀ (s : State) (l : Nat) (v : HostIdx),
    let n := fun (t : State) => wrap 32 (((getLeg t l).hostOut.1 : Int) - (getLeg t l).hostOut.2)
    n s ≤ ofldN s l (fk 0x01 18 3) → n (takeLegIdx l v s) ≤ ofldN s l (fk 0x01 18 3)

end
end

