-- ==== Sys2Proof/Laws/Memory.lean ====
section
/-!
SUPPORT. Byte memories: a read after a write, and that every operation keeps the canonical form.
-/

namespace Sys2Proof.Laws

open Sys2Proof Sys2Proof.Machine

variable (d : Byte)

theorem mem_get_filter (m : Mem) (f : Nat → Bool) (a : Nat) :
    Mem.get d (m.filter fun c => f c.1) a = if f a then Mem.get d m a else d := by
  induction m with
  | nil => simp [Mem.get]
  | cons c t ih =>
    obtain ⟨k, v⟩ := c
    simp only [List.filter_cons]
    by_cases hk : f k = true
    · simp only [hk, if_true, Mem.get, ih]
      by_cases ha : k = a
      · subst ha; simp [hk]
      · simp [ha]
    · simp only [Bool.not_eq_true] at hk
      simp only [hk, Bool.false_eq_true, if_false, ih, Mem.get]
      by_cases ha : k = a
      · subst ha; simp [hk]
      · simp [ha]

theorem mem_get_ins (m : Mem) (a b : Nat) (v : Byte) : Mem.get d (Mem.ins m a v) b = if a = b then v else Mem.get d m b := by
  induction m with
  | nil => simp [Mem.ins, Mem.get]
  | cons c t ih =>
    obtain ⟨k, w⟩ := c
    simp only [Mem.ins]
    split
    · simp [Mem.get]
    · split
      · subst_vars; simp only [Mem.get]; split <;> simp_all
      · simp only [Mem.get, ih]; split <;> split <;> simp_all

/-- A byte read after a byte write, on every list. -/
theorem mem_get_put (m : Mem) (a b : Nat) (v : Byte) : Mem.get d (Mem.put d m a v) b = if a = b then v else Mem.get d m b := by
  unfold Mem.put
  split
  · rw [mem_get_filter d m (fun k => k != a)]
    by_cases h : a = b
    · subst_vars; simp
    · simp [h, Ne.symm h]
  · exact mem_get_ins d m a b v

/-- A byte read after a write of a byte string: the string's byte within it, the byte before outside. -/
theorem mem_get_write (m : Mem) (a b : Nat) (bs : Bytes) :
    Mem.get d (Mem.write d m a bs) b = if a ≤ b ∧ b < a + bs.length then bs[b - a]?.getD d else Mem.get d m b := by
  induction bs generalizing m a with
  | nil => simp [Mem.write]
  | cons x t ih =>
    simp only [Mem.write, ih, mem_get_put, List.length_cons]
    by_cases h1 : a = b
    · subst h1; simp
    · by_cases h2 : a + 1 ≤ b ∧ b < a + 1 + t.length
      · rw [if_pos h2, if_pos (by omega)]
        obtain ⟨n, rfl⟩ : ∃ n, b = a + 1 + n := ⟨b - a - 1, by omega⟩
        simp [show a + 1 + n - a = n + 1 by omega]
      · rw [if_neg h2, if_neg h1, if_neg (by omega)]

theorem mem_write_outside (m : Mem) (a b : Nat) (bs : Bytes) (h : b < a ∨ a + bs.length ≤ b) :
    Mem.get d (Mem.write d m a bs) b = Mem.get d m b := by
  rw [mem_get_write, if_neg (by omega)]

theorem mem_read_length (m : Mem) (a n : Nat) : (Mem.read d m a n).length = n := by
  induction n generalizing a with
  | zero => rfl
  | succ n ih => simp [Mem.read, ih]

theorem mem_read_get (m : Mem) (a n i : Nat) (h : i < n) : (Mem.read d m a n)[i]? = some (Mem.get d m (a + i)) := by
  induction n generalizing a i with
  | zero => omega
  | succ n ih =>
    cases i with
    | zero => simp [Mem.read]
    | succ i => simp only [Mem.read, List.getElem?_cons_succ]; rw [ih (a + 1) i (by omega)]; congr 2; omega

/-- Reading what was written gives it back. -/
theorem mem_read_write (m : Mem) (a : Nat) (bs : Bytes) : Mem.read d (Mem.write d m a bs) a bs.length = bs := by
  apply List.ext_getElem?
  intro i
  by_cases h : i < bs.length
  · rw [mem_read_get d _ _ _ _ h, mem_get_write, if_pos (by omega), show a + i - a = i by omega, List.getElem?_eq_getElem h]
    rfl
  · rw [List.getElem?_eq_none (by rw [mem_read_length]; omega), List.getElem?_eq_none (by omega)]

theorem mem_get_clear (m : Mem) (lo hi a : Nat) : Mem.get d (Mem.clear m lo hi) a = if lo ≤ a ∧ a < hi then d else Mem.get d m a := by
  unfold Mem.clear
  rw [mem_get_filter d m (fun k => decide (k < lo) || decide (hi ≤ k))]
  by_cases h : lo ≤ a ∧ a < hi
  · rw [if_pos h, if_neg (by simp; omega)]
  · rw [if_neg h, if_pos (by simp; omega)]

/-! ## The canonical form -/

theorem mem_wfFrom_mono {lo lo' : Nat} (h : lo' ≤ lo) {m : Mem} (hm : Mem.wfFrom d lo m = true) : Mem.wfFrom d lo' m = true := by
  cases m with
  | nil => rfl
  | cons c t =>
    obtain ⟨k, v⟩ := c
    simp only [Mem.wfFrom, Bool.and_eq_true, decide_eq_true_eq] at hm ⊢
    exact ⟨⟨by omega, hm.1.2⟩, hm.2⟩

theorem mem_wfFrom_filter (f : Nat × Byte → Bool) {lo : Nat} {m : Mem} (hm : Mem.wfFrom d lo m = true) :
    Mem.wfFrom d lo (m.filter f) = true := by
  induction m generalizing lo with
  | nil => rfl
  | cons c t ih =>
    obtain ⟨k, v⟩ := c
    simp only [Mem.wfFrom, Bool.and_eq_true, decide_eq_true_eq] at hm
    simp only [List.filter_cons]
    split
    · simp only [Mem.wfFrom, Bool.and_eq_true, decide_eq_true_eq]
      exact ⟨hm.1, ih hm.2⟩
    · exact mem_wfFrom_mono d (by omega) (ih hm.2)

theorem mem_wfFrom_ins {lo a : Nat} {v : Byte} (ha : lo ≤ a) (hv : v ≠ d) {m : Mem} (hm : Mem.wfFrom d lo m = true) :
    Mem.wfFrom d lo (Mem.ins m a v) = true := by
  induction m generalizing lo with
  | nil => simp [Mem.ins, Mem.wfFrom, ha, hv]
  | cons c t ih =>
    obtain ⟨k, w⟩ := c
    simp only [Mem.wfFrom, Bool.and_eq_true, decide_eq_true_eq] at hm
    simp only [Mem.ins]
    split
    · rename_i hk
      simp only [Mem.wfFrom, Bool.and_eq_true, decide_eq_true_eq]
      exact ⟨⟨ha, by simpa using hv⟩, ⟨⟨by omega, hm.1.2⟩, hm.2⟩⟩
    · split
      · subst_vars
        simp only [Mem.wfFrom, Bool.and_eq_true, decide_eq_true_eq]
        exact ⟨⟨ha, by simpa using hv⟩, hm.2⟩
      · simp only [Mem.wfFrom, Bool.and_eq_true, decide_eq_true_eq]
        exact ⟨hm.1, ih (by omega) hm.2⟩

/-- A byte write keeps the canonical form. -/
theorem mem_wf_put {m : Mem} (hm : Mem.wf d m = true) (a : Nat) (v : Byte) : Mem.wf d (Mem.put d m a v) = true := by
  unfold Mem.put
  split
  · exact mem_wfFrom_filter d _ hm
  · rename_i h; exact mem_wfFrom_ins d (Nat.zero_le _) h hm

/-- A write of a byte string keeps the canonical form. -/
theorem mem_wf_write {m : Mem} (hm : Mem.wf d m = true) (a : Nat) (bs : Bytes) : Mem.wf d (Mem.write d m a bs) = true := by
  induction bs generalizing m a with
  | nil => exact hm
  | cons b t ih => exact ih (mem_wf_put d hm a b) (a + 1)

/-- Clearing a range keeps the canonical form. -/
theorem mem_wf_clear {m : Mem} (hm : Mem.wf d m = true) (lo hi : Nat) : Mem.wf d (Mem.clear m lo hi) = true :=
  mem_wfFrom_filter d _ hm

/-- Equal bytes at every address make canonical memories equal. -/
theorem mem_wfFrom_get_lt {lo a : Nat} {m : Mem} (hm : Mem.wfFrom d lo m = true) (ha : a < lo) : Mem.get d m a = d := by
  induction m generalizing lo with
  | nil => rfl
  | cons c t ih =>
    obtain ⟨k, v⟩ := c
    simp only [Mem.wfFrom, Bool.and_eq_true, decide_eq_true_eq] at hm
    simp only [Mem.get]
    rw [if_neg (by omega)]
    exact ih hm.2 (by omega)

/-- Two canonical memories that read alike at every address are one list. -/
theorem mem_wf_ext {lo : Nat} {m n : Mem} (hm : Mem.wfFrom d lo m = true) (hn : Mem.wfFrom d lo n = true)
    (h : ∀ a, Mem.get d m a = Mem.get d n a) : m = n := by
  induction m generalizing lo n with
  | nil =>
    cases n with
    | nil => rfl
    | cons c t =>
      obtain ⟨k, v⟩ := c
      have := h k
      simp [Mem.wfFrom, Mem.get] at hn this
      exact absurd this.symm hn.1.2
  | cons c t ih =>
    obtain ⟨k, v⟩ := c
    simp only [Mem.wfFrom, Bool.and_eq_true, decide_eq_true_eq, Bool.not_eq_true', beq_eq_false_iff_ne] at hm
    cases n with
    | nil =>
      have := h k
      simp [Mem.get] at this
      exact absurd this hm.1.2
    | cons e u =>
      obtain ⟨k', v'⟩ := e
      simp only [Mem.wfFrom, Bool.and_eq_true, decide_eq_true_eq, Bool.not_eq_true', beq_eq_false_iff_ne] at hn
      have hkk : k = k' := by
        rcases Nat.lt_trichotomy k k' with hl | he | hl
        · have := h k
          simp only [Mem.get, if_true] at this
          rw [if_neg (by omega), mem_wfFrom_get_lt d hn.2 (by omega)] at this
          exact absurd this hm.1.2
        · exact he
        · have := h k'
          simp only [Mem.get, if_true] at this
          rw [if_neg (by omega), mem_wfFrom_get_lt d hm.2 (by omega)] at this
          exact absurd this.symm hn.1.2
      subst hkk
      have hv := h k
      simp only [Mem.get, if_true] at hv
      subst hv
      rw [ih (lo := k + 1) hm.2 hn.2 fun a => ?_]
      by_cases ha : k = a
      · subst ha
        rw [mem_wfFrom_get_lt d hm.2 (by omega), mem_wfFrom_get_lt d hn.2 (by omega)]
      · have := h a
        simpa [Mem.get, ha] using this

/-- The memories of the state after reset are canonical: the flash lists nothing, and there is no surface and no core. -/
theorem reset_memories : Mem.wf 0xFF State.reset.boot.flash = true ∧ State.reset.vid.surfs = [] ∧ State.reset.dsp.cores = [] := by
  decide

end Sys2Proof.Laws
end

