-- ==== Sys2Proof/Laws/Serve.lean ====
section
/-!
SUPPORT. How a served command ends: the checks that all pass, the service of a command that is next, what completion and
the delivery of events leave unchanged.
-/

namespace Sys2Proof.Laws

open Sys2Proof Sys2Proof.Machine

@[simp] theorem keep_self (s : State) : keep s s = s := rfl
@[simp] theorem lowest_nil : lowest [] = none := rfl
@[simp] theorem lowest_cons_true (st : Status) (t : List (Bool × Status)) : lowest ((true, st) :: t) = lowest t := rfl

/-- No check fails exactly when every condition holds. -/
theorem lowest_eq_none (cs : List (Bool × Status)) : lowest cs = none ↔ ∀ c ∈ cs, c.1 = true := by
  induction cs with
  | nil => simp
  | cons c t ih =>
    obtain ⟨b, st⟩ := c
    cases b
    · simp only [lowest, List.mem_cons, forall_eq_or_imp]
      cases h : lowest t
      · simp
      · simp only [Bool.false_eq_true, false_and, iff_false]
        split <;> simp
    · simp [ih]

/-- A checked answer goes on when every condition holds. -/
theorem checked_ok {cs : List (Bool × Status)} {k : Unit → Ans} (h : ∀ c ∈ cs, c.1 = true) : checked cs k = k () := by
  simp [checked, (lowest_eq_none cs).2 h]

/-- Checks in two parts all pass when each part does. -/
theorem lowest_append (a b : List (Bool × Status)) :
    lowest (a ++ b) = none ↔ lowest a = none ∧ lowest b = none := by
  simp only [lowest_eq_none, List.mem_append]
  exact ⟨fun h => ⟨fun c hc => h c (.inl hc), fun c hc => h c (.inr hc)⟩, fun h c hc => hc.elim (h.1 c) (h.2 c)⟩

/-- A command that is next to be served, and whose body answers OK, ends as `finish` says. -/
theorem serve_ok {op : Nat} {src : Src} {F : Nat} {p d : Bytes} {body : Body} {s : State} {out : Bytes} {h : Nat}
    {u : State} (hu : upNext op src F p s = true) (hb : body F p d s = .ok out h u) :
    serve op src d body s = .next (keep s (finish F src .ok out h u)) := by
  unfold upNext at hu
  cases hr : cmdRow op with
  | none => simp [hr] at hu
  | some r =>
    simp only [hr, Bool.and_eq_true, Bool.not_eq_true', decide_eq_true_eq, Option.isNone_iff_eq_none] at hu
    obtain ⟨⟨⟨⟨hh, hs⟩, hF⟩, hl⟩, hm⟩ := hu
    have ha : answer op body F p d s = .ok out h u := by simp [answer, hr, hl, hb]
    cases src with
    | mbox f m =>
      simp only [Bool.and_eq_true, beq_iff_eq] at hm
      obtain ⟨⟨⟨⟨rfl, h1⟩, h2⟩, h3⟩, rfl⟩ := hm
      simp [serve, onPart, hF, hh, serveMb, hs, h1, h2, h3, ha, settle, Ans.waits, finish]
    | ring f k e =>
      simp only [Bool.and_eq_true, beq_iff_eq, decide_eq_true_eq, Option.map_some, Option.getD_some] at hm
      obtain ⟨⟨⟨⟨⟨rfl, h1⟩, h2⟩, rfl⟩, h4⟩, rfl⟩ := hm
      simp only [Option.isNone_iff_eq_none] at h4
      simp only [serve, onPart, hF, h1, hh, serveRing, hs, h2, h4, finish]
      simp [hr, ha, settle]

/-- A command that is next to be served, and whose body refuses with a status, ends with that status and no other
effect but on the counter of free values (`afterNo`). -/
theorem serve_no {op : Nat} {src : Src} {F : Nat} {p d : Bytes} {body : Body} {s : State} {st : Status} {out : Bytes}
    (hu : upNext op src F p s = true) (hb : body F p d s = .no st out) :
    serve op src d body s = .next (keep s (finish F src st out 0 (afterNo st s))) := by
  unfold upNext at hu
  cases hr : cmdRow op with
  | none => simp [hr] at hu
  | some r =>
    simp only [hr, Bool.and_eq_true, Bool.not_eq_true', decide_eq_true_eq, Option.isNone_iff_eq_none] at hu
    obtain ⟨⟨⟨⟨hh, hs⟩, hF⟩, hl⟩, hm⟩ := hu
    have ha : answer op body F p d s = .no st out := by simp [answer, hr, hl, hb]
    cases src with
    | mbox f m =>
      simp only [Bool.and_eq_true, beq_iff_eq] at hm
      obtain ⟨⟨⟨⟨rfl, h1⟩, h2⟩, h3⟩, rfl⟩ := hm
      simp [serve, onPart, hF, hh, serveMb, hs, h1, h2, h3, ha, settle, Ans.waits, finish]
    | ring f k e =>
      simp only [Bool.and_eq_true, beq_iff_eq, decide_eq_true_eq, Option.map_some, Option.getD_some] at hm
      obtain ⟨⟨⟨⟨⟨rfl, h1⟩, h2⟩, rfl⟩, h4⟩, rfl⟩ := hm
      simp only [Option.isNone_iff_eq_none] at h4
      simp only [serve, onPart, hF, h1, hh, serveRing, hs, h2, h4, finish]
      simp [hr, ha, settle]

/-- Only a refusal of admission moves the counter of free values. -/
theorem afterNo_of_ne {st : Status} {s : State} (h : st ≠ .admissionRefused) : afterNo st s = s := by simp [afterNo, h]

@[simp] theorem afterNo_refused (s : State) : afterNo .admissionRefused s = { s with free := s.free + 1 } := rfl

/-- A command on a part that exists, while the device is not halted. -/
theorem onPart_run {ok : Bool} {s : State} {f : State → State} (hk : ok = true) (hs : halted s = false) :
    onPart ok s f = .next (keep s (f s)) := by simp [onPart, hk, hs]

/-- A command whose condition holds. -/
theorem guarded_true {c : Bool} {s : State} {f : State → State} (h : c = true) : guarded c s f = f s := by
  simp [guarded, h]

/-- A command that is not due changes nothing. -/
theorem guarded_false {c : Bool} {s : State} {f : State → State} (h : c = false) : guarded c s f = s := by
  simp [guarded, h]

end Sys2Proof.Laws
end

