-- ==== Sys2Proof/Laws/Tables.lean ====
section
/-!
SUPPORT. Tables, lists with one element replaced, and counters: what a read gives after a write, and that rising keys stay
rising.
-/

namespace Sys2Proof.Laws

open Sys2Proof Sys2Proof.Machine

variable {α : Type}

@[simp] theorem tab_get_nil (k : Nat) : Tab.get ([] : Tab α) k = none := rfl
@[simp] theorem tab_keys_nil : Tab.keys ([] : Tab α) = [] := rfl

/-- A read after a write of an entry, on every list. -/
theorem tab_get_set (t : Tab α) (k k' : Nat) (v : α) : Tab.get (Tab.set t k v) k' = if k = k' then some v else Tab.get t k' := by
  induction t with
  | nil => simp [Tab.set, Tab.get]
  | cons e t ih =>
    obtain ⟨a, b⟩ := e
    simp only [Tab.set]
    split
    · simp [Tab.get]
    · split
      · simp only [Tab.get]; split <;> simp_all
      · simp only [Tab.get, ih]; split <;> split <;> simp_all

@[simp] theorem tab_get_set_same (t : Tab α) (k : Nat) (v : α) : Tab.get (Tab.set t k v) k = some v := by simp [tab_get_set]

theorem tab_get_set_other (t : Tab α) {k k' : Nat} (v : α) (h : k ≠ k') : Tab.get (Tab.set t k v) k' = Tab.get t k' := by
  simp [tab_get_set, h]

@[simp] theorem tab_getD_set_same (t : Tab α) (k : Nat) (v d : α) : Tab.getD (Tab.set t k v) k d = v := by simp [Tab.getD]

theorem tab_getD_set_other (t : Tab α) {k k' : Nat} (v d : α) (h : k ≠ k') :
    Tab.getD (Tab.set t k v) k' d = Tab.getD t k' d := by simp [Tab.getD, tab_get_set, h]

/-- A read after the removal of an entry. -/
theorem tab_get_del (t : Tab α) (k k' : Nat) : Tab.get (Tab.del t k) k' = if k = k' then none else Tab.get t k' := by
  induction t with
  | nil => simp [Tab.del, Tab.get]
  | cons e t ih =>
    obtain ⟨a, b⟩ := e
    simp only [Tab.del]
    split
    · rw [ih]; simp only [Tab.get]; split <;> simp_all
    · simp only [Tab.get, ih]; split <;> split <;> simp_all

/-- A read after a change of an entry. -/
theorem tab_get_upd (t : Tab α) (k k' : Nat) (f : α → α) :
    Tab.get (Tab.upd t k f) k' = if k = k' then (Tab.get t k').map f else Tab.get t k' := by
  unfold Tab.upd
  split
  · rename_i v h
    rw [tab_get_set]
    split
    · subst_vars; simp [h]
    · rfl
  · rename_i h
    split
    · subst_vars; simp [h]
    · rfl

/-- A key is listed exactly when the table has an entry for it. -/
theorem tab_has_iff (t : Tab α) (k : Nat) : Tab.has t k = true ↔ k ∈ Tab.keys t := by
  induction t with
  | nil => simp [Tab.has, Tab.keys, Tab.get]
  | cons e t ih =>
    obtain ⟨a, b⟩ := e
    simp only [Tab.has, Tab.keys, Tab.get, List.map_cons, List.mem_cons] at *
    split
    · simp [*]
    · rename_i h; simp [ih, Ne.symm h]

theorem tab_get_none (t : Tab α) (k : Nat) : Tab.get t k = none ↔ k ∉ Tab.keys t := by
  rw [← tab_has_iff]; simp [Tab.has]

theorem tab_keys_set_mem (t : Tab α) (k x : Nat) (v : α) : x ∈ Tab.keys (Tab.set t k v) ↔ x = k ∨ x ∈ Tab.keys t := by
  rw [← tab_has_iff, ← tab_has_iff]
  simp only [Tab.has, tab_get_set]
  by_cases h : k = x
  · simp [h]
  · simp [h, Ne.symm h]

/-- Rising keys stay rising when an entry is written. -/
theorem tab_set_rising (t : Tab α) (k : Nat) (v : α) (h : (Tab.keys t).Pairwise (· < ·)) :
    (Tab.keys (Tab.set t k v)).Pairwise (· < ·) := by
  induction t with
  | nil => simp [Tab.set, Tab.keys]
  | cons e t ih =>
    obtain ⟨a, b⟩ := e
    simp only [Tab.keys, List.map_cons, List.pairwise_cons] at h
    simp only [Tab.set]
    split
    · rename_i hk
      simp only [Tab.keys, List.map_cons, List.pairwise_cons, List.mem_cons, forall_eq_or_imp]
      exact ⟨⟨hk, fun x hx => lt_trans hk (h.1 x hx)⟩, h⟩
    · split
      · subst_vars; simpa [Tab.keys, List.pairwise_cons] using h
      · rename_i h1 h2
        simp only [Tab.keys, List.map_cons, List.pairwise_cons]
        refine ⟨fun x hx => ?_, ih h.2⟩
        rcases (tab_keys_set_mem t k x v).1 hx with rfl | hx
        · omega
        · exact h.1 x hx

/-- `lowestFree` answers a number of its range that is not taken, and every lower one is taken. -/
theorem lowestFree_spec {ks : List Nat} {i n k : Nat} (h : lowestFree ks i n = some k) :
    i ≤ k ∧ k < i + n ∧ k ∉ ks ∧ ∀ j, i ≤ j → j < k → j ∈ ks := by
  induction n generalizing i with
  | zero => simp [lowestFree] at h
  | succ n ih =>
    simp only [lowestFree] at h
    split at h
    · rename_i hc
      obtain ⟨a, b, c, d⟩ := ih h
      refine ⟨by omega, by omega, c, fun j hj hk => ?_⟩
      rcases Nat.eq_or_lt_of_le hj with rfl | hj
      · simpa using hc
      · exact d j hj hk
    · rename_i hc
      simp only [Option.some.injEq] at h
      subst h
      exact ⟨le_refl _, by omega, by simpa using hc, fun j h1 h2 => by omega⟩

/-! ## Lists -/

theorem setAt_eq_set (l : List α) (i : Nat) (v : α) : setAt l i v = l.set i v := by
  induction l generalizing i with
  | nil => rfl
  | cons a t ih => cases i <;> simp [setAt, ih]

@[simp] theorem setAt_length (l : List α) (i : Nat) (v : α) : (setAt l i v).length = l.length := by simp [setAt_eq_set]

theorem setAt_get_same (l : List α) {i : Nat} (v : α) (h : i < l.length) : (setAt l i v)[i]? = some v := by
  simp [setAt_eq_set, h]

theorem setAt_get_other (l : List α) {i j : Nat} (v : α) (h : i ≠ j) : (setAt l i v)[j]? = l[j]? := by
  simp [setAt_eq_set, h]

/-! ## Sorting -/

theorem insertBy_perm (le : α → α → Bool) (a : α) (l : List α) : (insertBy le a l).Perm (a :: l) := by
  induction l with
  | nil => exact List.Perm.refl _
  | cons b t ih =>
    simp only [insertBy]
    split
    · exact List.Perm.refl _
    · exact (ih.cons b).trans (List.Perm.swap a b t)

/-- Sorting moves elements about and does nothing else. -/
theorem sortBy_perm (l : List α) (le : α → α → Bool) : (sortBy l le).Perm l := by
  induction l with
  | nil => exact List.Perm.refl _
  | cons a t ih => exact (insertBy_perm le a _).trans (ih.cons a)

@[simp] theorem mem_sortBy (l : List α) (le : α → α → Bool) (x : α) : x ∈ sortBy l le ↔ x ∈ l := (sortBy_perm l le).mem_iff

@[simp] theorem sortBy_length (l : List α) (le : α → α → Bool) : (sortBy l le).length = l.length := (sortBy_perm l le).length_eq

/-- A sorted list is in order, when the order is total and transitive. -/
theorem sortBy_sorted (l : List α) (le : α → α → Bool) (total : ∀ a b, le a b = true ∨ le b a = true)
    (trans : ∀ a b c, le a b = true → le b c = true → le a c = true) :
    (sortBy l le).Pairwise fun a b => le a b = true := by
  induction l with
  | nil => exact List.Pairwise.nil
  | cons a t ih =>
    simp only [sortBy]
    generalize sortBy t le = u at ih
    induction u with
    | nil => simp [insertBy]
    | cons b v ihv =>
      rw [List.pairwise_cons] at ih
      simp only [insertBy]
      split
      · rename_i h
        refine List.pairwise_cons.2 ⟨fun x hx => ?_, List.pairwise_cons.2 ih⟩
        rcases List.mem_cons.1 hx with rfl | hx
        · exact h
        · exact trans _ _ _ h (ih.1 x hx)
      · rename_i h
        refine List.pairwise_cons.2 ⟨fun x hx => ?_, ihv ih.2⟩
        rcases List.mem_cons.1 ((insertBy_perm le a v).mem_iff.1 hx) with rfl | hx
        · exact (total x b).resolve_left h
        · exact ih.1 x hx

/-! ## Counters -/

/-- A counter after `bump`: the one counted goes up modulo 2^64, every other stays. -/
theorem ctr_bump (cs : Counters) (c d : Ctr) (n : Nat) :
    ctr (bump cs c n) d = if c = d then (ctr cs c + n) % 2 ^ 64 else ctr cs d := by
  induction cs with
  | nil => simp only [bump, ctr]; split <;> simp_all
  | cons e t ih =>
    obtain ⟨a, v⟩ := e
    simp only [bump]
    by_cases ha : a = c
    · subst ha; simp only [ctr, if_true]; split <;> simp_all
    · simp only [ctr, ha, if_false]
      rw [ih]
      by_cases hd : c = d
      · subst hd; simp [ha]
      · simp [hd]

end Sys2Proof.Laws
end

