-- ==== Sys2Proof/Laws/State.lean ====
section
/-!
SUPPORT. One lemma per part of the state and per update: what the update leaves; a read after a write; and the frame of
the operations that every command shares: free values, the delivery of events, the completion of a command.
-/

namespace Sys2Proof.Laws

open Sys2Proof Sys2Proof.Machine

/-! ## Updates of the part `host` -/

@[simp] theorem setFn_pending (s : State) (F : Nat) (f : Func) : (setFn s F f).pending = s.pending := rfl
@[simp] theorem setFn_free (s : State) (F : Nat) (f : Func) : (setFn s F f).free = s.free := rfl
@[simp] theorem setFn_obj (s : State) (F : Nat) (f : Func) : (setFn s F f).obj = s.obj := rfl
@[simp] theorem setFn_time (s : State) (F : Nat) (f : Func) : (setFn s F f).time = s.time := rfl
@[simp] theorem setFn_mem (s : State) (F : Nat) (f : Func) : (setFn s F f).mem = s.mem := rfl
@[simp] theorem setFn_dep (s : State) (F : Nat) (f : Func) : (setFn s F f).dep = s.dep := rfl
@[simp] theorem setFn_boot (s : State) (F : Nat) (f : Func) : (setFn s F f).boot = s.boot := rfl
@[simp] theorem setFn_eth (s : State) (F : Nat) (f : Func) : (setFn s F f).eth = s.eth := rfl
@[simp] theorem setFn_batten (s : State) (F : Nat) (f : Func) : (setFn s F f).batten = s.batten := rfl
@[simp] theorem setFn_vid (s : State) (F : Nat) (f : Func) : (setFn s F f).vid = s.vid := rfl
@[simp] theorem setFn_dsp (s : State) (F : Nat) (f : Func) : (setFn s F f).dsp = s.dsp := rfl
@[simp] theorem setFn_aud (s : State) (F : Nat) (f : Func) : (setFn s F f).aud = s.aud := rfl

@[simp] theorem updFn_pending (s : State) (F : Nat) (g : Func → Func) : (updFn s F g).pending = s.pending := rfl
@[simp] theorem updFn_free (s : State) (F : Nat) (g : Func → Func) : (updFn s F g).free = s.free := rfl
@[simp] theorem updFn_obj (s : State) (F : Nat) (g : Func → Func) : (updFn s F g).obj = s.obj := rfl
@[simp] theorem updFn_time (s : State) (F : Nat) (g : Func → Func) : (updFn s F g).time = s.time := rfl
@[simp] theorem updFn_mem (s : State) (F : Nat) (g : Func → Func) : (updFn s F g).mem = s.mem := rfl
@[simp] theorem updFn_dep (s : State) (F : Nat) (g : Func → Func) : (updFn s F g).dep = s.dep := rfl
@[simp] theorem updFn_boot (s : State) (F : Nat) (g : Func → Func) : (updFn s F g).boot = s.boot := rfl
@[simp] theorem updFn_eth (s : State) (F : Nat) (g : Func → Func) : (updFn s F g).eth = s.eth := rfl
@[simp] theorem updFn_batten (s : State) (F : Nat) (g : Func → Func) : (updFn s F g).batten = s.batten := rfl
@[simp] theorem updFn_vid (s : State) (F : Nat) (g : Func → Func) : (updFn s F g).vid = s.vid := rfl
@[simp] theorem updFn_dsp (s : State) (F : Nat) (g : Func → Func) : (updFn s F g).dsp = s.dsp := rfl
@[simp] theorem updFn_aud (s : State) (F : Nat) (g : Func → Func) : (updFn s F g).aud = s.aud := rfl

@[simp] theorem bumpFn_pending (s : State) (F : Nat) (c : Ctr) (n : Nat) : (bumpFn s F c n).pending = s.pending := rfl
@[simp] theorem bumpFn_free (s : State) (F : Nat) (c : Ctr) (n : Nat) : (bumpFn s F c n).free = s.free := rfl
@[simp] theorem bumpFn_obj (s : State) (F : Nat) (c : Ctr) (n : Nat) : (bumpFn s F c n).obj = s.obj := rfl
@[simp] theorem bumpFn_time (s : State) (F : Nat) (c : Ctr) (n : Nat) : (bumpFn s F c n).time = s.time := rfl
@[simp] theorem bumpFn_mem (s : State) (F : Nat) (c : Ctr) (n : Nat) : (bumpFn s F c n).mem = s.mem := rfl
@[simp] theorem bumpFn_dep (s : State) (F : Nat) (c : Ctr) (n : Nat) : (bumpFn s F c n).dep = s.dep := rfl
@[simp] theorem bumpFn_boot (s : State) (F : Nat) (c : Ctr) (n : Nat) : (bumpFn s F c n).boot = s.boot := rfl
@[simp] theorem bumpFn_eth (s : State) (F : Nat) (c : Ctr) (n : Nat) : (bumpFn s F c n).eth = s.eth := rfl
@[simp] theorem bumpFn_batten (s : State) (F : Nat) (c : Ctr) (n : Nat) : (bumpFn s F c n).batten = s.batten := rfl
@[simp] theorem bumpFn_vid (s : State) (F : Nat) (c : Ctr) (n : Nat) : (bumpFn s F c n).vid = s.vid := rfl
@[simp] theorem bumpFn_dsp (s : State) (F : Nat) (c : Ctr) (n : Nat) : (bumpFn s F c n).dsp = s.dsp := rfl
@[simp] theorem bumpFn_aud (s : State) (F : Nat) (c : Ctr) (n : Nat) : (bumpFn s F c n).aud = s.aud := rfl

@[simp] theorem setMb_pending (s : State) (F : Nat) (m : Mb) (b : Mbox) : (setMb s F m b).pending = s.pending := rfl
@[simp] theorem setMb_free (s : State) (F : Nat) (m : Mb) (b : Mbox) : (setMb s F m b).free = s.free := rfl
@[simp] theorem setMb_obj (s : State) (F : Nat) (m : Mb) (b : Mbox) : (setMb s F m b).obj = s.obj := rfl
@[simp] theorem setMb_time (s : State) (F : Nat) (m : Mb) (b : Mbox) : (setMb s F m b).time = s.time := rfl
@[simp] theorem setMb_mem (s : State) (F : Nat) (m : Mb) (b : Mbox) : (setMb s F m b).mem = s.mem := rfl
@[simp] theorem setMb_dep (s : State) (F : Nat) (m : Mb) (b : Mbox) : (setMb s F m b).dep = s.dep := rfl
@[simp] theorem setMb_boot (s : State) (F : Nat) (m : Mb) (b : Mbox) : (setMb s F m b).boot = s.boot := rfl
@[simp] theorem setMb_eth (s : State) (F : Nat) (m : Mb) (b : Mbox) : (setMb s F m b).eth = s.eth := rfl
@[simp] theorem setMb_batten (s : State) (F : Nat) (m : Mb) (b : Mbox) : (setMb s F m b).batten = s.batten := rfl
@[simp] theorem setMb_vid (s : State) (F : Nat) (m : Mb) (b : Mbox) : (setMb s F m b).vid = s.vid := rfl
@[simp] theorem setMb_dsp (s : State) (F : Nat) (m : Mb) (b : Mbox) : (setMb s F m b).dsp = s.dsp := rfl
@[simp] theorem setMb_aud (s : State) (F : Nat) (m : Mb) (b : Mbox) : (setMb s F m b).aud = s.aud := rfl

/-! ## Updates of the part `obj` -/

@[simp] theorem setObjs_pending (s : State) (o : Tab Obj) : (setObjs s o).pending = s.pending := rfl
@[simp] theorem setObjs_free (s : State) (o : Tab Obj) : (setObjs s o).free = s.free := rfl
@[simp] theorem setObjs_host (s : State) (o : Tab Obj) : (setObjs s o).host = s.host := rfl
@[simp] theorem setObjs_time (s : State) (o : Tab Obj) : (setObjs s o).time = s.time := rfl
@[simp] theorem setObjs_mem (s : State) (o : Tab Obj) : (setObjs s o).mem = s.mem := rfl
@[simp] theorem setObjs_dep (s : State) (o : Tab Obj) : (setObjs s o).dep = s.dep := rfl
@[simp] theorem setObjs_boot (s : State) (o : Tab Obj) : (setObjs s o).boot = s.boot := rfl
@[simp] theorem setObjs_eth (s : State) (o : Tab Obj) : (setObjs s o).eth = s.eth := rfl
@[simp] theorem setObjs_batten (s : State) (o : Tab Obj) : (setObjs s o).batten = s.batten := rfl
@[simp] theorem setObjs_vid (s : State) (o : Tab Obj) : (setObjs s o).vid = s.vid := rfl
@[simp] theorem setObjs_dsp (s : State) (o : Tab Obj) : (setObjs s o).dsp = s.dsp := rfl
@[simp] theorem setObjs_aud (s : State) (o : Tab Obj) : (setObjs s o).aud = s.aud := rfl

@[simp] theorem updObj_pending (s : State) (k : Nat) (g : Obj → Obj) : (updObj s k g).pending = s.pending := rfl
@[simp] theorem updObj_free (s : State) (k : Nat) (g : Obj → Obj) : (updObj s k g).free = s.free := rfl
@[simp] theorem updObj_host (s : State) (k : Nat) (g : Obj → Obj) : (updObj s k g).host = s.host := rfl
@[simp] theorem updObj_time (s : State) (k : Nat) (g : Obj → Obj) : (updObj s k g).time = s.time := rfl
@[simp] theorem updObj_mem (s : State) (k : Nat) (g : Obj → Obj) : (updObj s k g).mem = s.mem := rfl
@[simp] theorem updObj_dep (s : State) (k : Nat) (g : Obj → Obj) : (updObj s k g).dep = s.dep := rfl
@[simp] theorem updObj_boot (s : State) (k : Nat) (g : Obj → Obj) : (updObj s k g).boot = s.boot := rfl
@[simp] theorem updObj_eth (s : State) (k : Nat) (g : Obj → Obj) : (updObj s k g).eth = s.eth := rfl
@[simp] theorem updObj_batten (s : State) (k : Nat) (g : Obj → Obj) : (updObj s k g).batten = s.batten := rfl
@[simp] theorem updObj_vid (s : State) (k : Nat) (g : Obj → Obj) : (updObj s k g).vid = s.vid := rfl
@[simp] theorem updObj_dsp (s : State) (k : Nat) (g : Obj → Obj) : (updObj s k g).dsp = s.dsp := rfl
@[simp] theorem updObj_aud (s : State) (k : Nat) (g : Obj → Obj) : (updObj s k g).aud = s.aud := rfl

@[simp] theorem bumpObj_pending (s : State) (k : Nat) (c : Ctr) (n : Nat) : (bumpObj s k c n).pending = s.pending := rfl
@[simp] theorem bumpObj_free (s : State) (k : Nat) (c : Ctr) (n : Nat) : (bumpObj s k c n).free = s.free := rfl
@[simp] theorem bumpObj_host (s : State) (k : Nat) (c : Ctr) (n : Nat) : (bumpObj s k c n).host = s.host := rfl
@[simp] theorem bumpObj_time (s : State) (k : Nat) (c : Ctr) (n : Nat) : (bumpObj s k c n).time = s.time := rfl
@[simp] theorem bumpObj_mem (s : State) (k : Nat) (c : Ctr) (n : Nat) : (bumpObj s k c n).mem = s.mem := rfl
@[simp] theorem bumpObj_dep (s : State) (k : Nat) (c : Ctr) (n : Nat) : (bumpObj s k c n).dep = s.dep := rfl
@[simp] theorem bumpObj_boot (s : State) (k : Nat) (c : Ctr) (n : Nat) : (bumpObj s k c n).boot = s.boot := rfl
@[simp] theorem bumpObj_eth (s : State) (k : Nat) (c : Ctr) (n : Nat) : (bumpObj s k c n).eth = s.eth := rfl
@[simp] theorem bumpObj_batten (s : State) (k : Nat) (c : Ctr) (n : Nat) : (bumpObj s k c n).batten = s.batten := rfl
@[simp] theorem bumpObj_vid (s : State) (k : Nat) (c : Ctr) (n : Nat) : (bumpObj s k c n).vid = s.vid := rfl
@[simp] theorem bumpObj_dsp (s : State) (k : Nat) (c : Ctr) (n : Nat) : (bumpObj s k c n).dsp = s.dsp := rfl
@[simp] theorem bumpObj_aud (s : State) (k : Nat) (c : Ctr) (n : Nat) : (bumpObj s k c n).aud = s.aud := rfl

@[simp] theorem bumpPart_pending (s : State) (p : Nat) (c : Ctr) (n : Nat) : (bumpPart s p c n).pending = s.pending := rfl
@[simp] theorem bumpPart_free (s : State) (p : Nat) (c : Ctr) (n : Nat) : (bumpPart s p c n).free = s.free := rfl
@[simp] theorem bumpPart_host (s : State) (p : Nat) (c : Ctr) (n : Nat) : (bumpPart s p c n).host = s.host := rfl
@[simp] theorem bumpPart_time (s : State) (p : Nat) (c : Ctr) (n : Nat) : (bumpPart s p c n).time = s.time := rfl
@[simp] theorem bumpPart_mem (s : State) (p : Nat) (c : Ctr) (n : Nat) : (bumpPart s p c n).mem = s.mem := rfl
@[simp] theorem bumpPart_dep (s : State) (p : Nat) (c : Ctr) (n : Nat) : (bumpPart s p c n).dep = s.dep := rfl
@[simp] theorem bumpPart_boot (s : State) (p : Nat) (c : Ctr) (n : Nat) : (bumpPart s p c n).boot = s.boot := rfl
@[simp] theorem bumpPart_eth (s : State) (p : Nat) (c : Ctr) (n : Nat) : (bumpPart s p c n).eth = s.eth := rfl
@[simp] theorem bumpPart_batten (s : State) (p : Nat) (c : Ctr) (n : Nat) : (bumpPart s p c n).batten = s.batten := rfl
@[simp] theorem bumpPart_vid (s : State) (p : Nat) (c : Ctr) (n : Nat) : (bumpPart s p c n).vid = s.vid := rfl
@[simp] theorem bumpPart_dsp (s : State) (p : Nat) (c : Ctr) (n : Nat) : (bumpPart s p c n).dsp = s.dsp := rfl
@[simp] theorem bumpPart_aud (s : State) (p : Nat) (c : Ctr) (n : Nat) : (bumpPart s p c n).aud = s.aud := rfl

@[simp] theorem setConf_pending (s : State) (k : Nat) (c : ConfDyn) : (setConf s k c).pending = s.pending := rfl
@[simp] theorem setConf_free (s : State) (k : Nat) (c : ConfDyn) : (setConf s k c).free = s.free := rfl
@[simp] theorem setConf_host (s : State) (k : Nat) (c : ConfDyn) : (setConf s k c).host = s.host := rfl
@[simp] theorem setConf_time (s : State) (k : Nat) (c : ConfDyn) : (setConf s k c).time = s.time := rfl
@[simp] theorem setConf_mem (s : State) (k : Nat) (c : ConfDyn) : (setConf s k c).mem = s.mem := rfl
@[simp] theorem setConf_dep (s : State) (k : Nat) (c : ConfDyn) : (setConf s k c).dep = s.dep := rfl
@[simp] theorem setConf_boot (s : State) (k : Nat) (c : ConfDyn) : (setConf s k c).boot = s.boot := rfl
@[simp] theorem setConf_eth (s : State) (k : Nat) (c : ConfDyn) : (setConf s k c).eth = s.eth := rfl
@[simp] theorem setConf_batten (s : State) (k : Nat) (c : ConfDyn) : (setConf s k c).batten = s.batten := rfl
@[simp] theorem setConf_vid (s : State) (k : Nat) (c : ConfDyn) : (setConf s k c).vid = s.vid := rfl
@[simp] theorem setConf_dsp (s : State) (k : Nat) (c : ConfDyn) : (setConf s k c).dsp = s.dsp := rfl
@[simp] theorem setConf_aud (s : State) (k : Nat) (c : ConfDyn) : (setConf s k c).aud = s.aud := rfl

@[simp] theorem setLeg_pending (s : State) (k : Nat) (l : LegDyn) : (setLeg s k l).pending = s.pending := rfl
@[simp] theorem setLeg_free (s : State) (k : Nat) (l : LegDyn) : (setLeg s k l).free = s.free := rfl
@[simp] theorem setLeg_host (s : State) (k : Nat) (l : LegDyn) : (setLeg s k l).host = s.host := rfl
@[simp] theorem setLeg_time (s : State) (k : Nat) (l : LegDyn) : (setLeg s k l).time = s.time := rfl
@[simp] theorem setLeg_mem (s : State) (k : Nat) (l : LegDyn) : (setLeg s k l).mem = s.mem := rfl
@[simp] theorem setLeg_dep (s : State) (k : Nat) (l : LegDyn) : (setLeg s k l).dep = s.dep := rfl
@[simp] theorem setLeg_boot (s : State) (k : Nat) (l : LegDyn) : (setLeg s k l).boot = s.boot := rfl
@[simp] theorem setLeg_eth (s : State) (k : Nat) (l : LegDyn) : (setLeg s k l).eth = s.eth := rfl
@[simp] theorem setLeg_batten (s : State) (k : Nat) (l : LegDyn) : (setLeg s k l).batten = s.batten := rfl
@[simp] theorem setLeg_vid (s : State) (k : Nat) (l : LegDyn) : (setLeg s k l).vid = s.vid := rfl
@[simp] theorem setLeg_dsp (s : State) (k : Nat) (l : LegDyn) : (setLeg s k l).dsp = s.dsp := rfl
@[simp] theorem setLeg_aud (s : State) (k : Nat) (l : LegDyn) : (setLeg s k l).aud = s.aud := rfl

@[simp] theorem setStream_pending (s : State) (k : Nat) (x : StreamDyn) : (setStream s k x).pending = s.pending := rfl
@[simp] theorem setStream_free (s : State) (k : Nat) (x : StreamDyn) : (setStream s k x).free = s.free := rfl
@[simp] theorem setStream_host (s : State) (k : Nat) (x : StreamDyn) : (setStream s k x).host = s.host := rfl
@[simp] theorem setStream_time (s : State) (k : Nat) (x : StreamDyn) : (setStream s k x).time = s.time := rfl
@[simp] theorem setStream_mem (s : State) (k : Nat) (x : StreamDyn) : (setStream s k x).mem = s.mem := rfl
@[simp] theorem setStream_dep (s : State) (k : Nat) (x : StreamDyn) : (setStream s k x).dep = s.dep := rfl
@[simp] theorem setStream_boot (s : State) (k : Nat) (x : StreamDyn) : (setStream s k x).boot = s.boot := rfl
@[simp] theorem setStream_eth (s : State) (k : Nat) (x : StreamDyn) : (setStream s k x).eth = s.eth := rfl
@[simp] theorem setStream_batten (s : State) (k : Nat) (x : StreamDyn) : (setStream s k x).batten = s.batten := rfl
@[simp] theorem setStream_vid (s : State) (k : Nat) (x : StreamDyn) : (setStream s k x).vid = s.vid := rfl
@[simp] theorem setStream_dsp (s : State) (k : Nat) (x : StreamDyn) : (setStream s k x).dsp = s.dsp := rfl
@[simp] theorem setStream_aud (s : State) (k : Nat) (x : StreamDyn) : (setStream s k x).aud = s.aud := rfl

@[simp] theorem setAud_pending (s : State) (l : Nat) (a : LegAud) : (setAud s l a).pending = s.pending := rfl
@[simp] theorem setAud_free (s : State) (l : Nat) (a : LegAud) : (setAud s l a).free = s.free := rfl
@[simp] theorem setAud_host (s : State) (l : Nat) (a : LegAud) : (setAud s l a).host = s.host := rfl
@[simp] theorem setAud_time (s : State) (l : Nat) (a : LegAud) : (setAud s l a).time = s.time := rfl
@[simp] theorem setAud_mem (s : State) (l : Nat) (a : LegAud) : (setAud s l a).mem = s.mem := rfl
@[simp] theorem setAud_dep (s : State) (l : Nat) (a : LegAud) : (setAud s l a).dep = s.dep := rfl
@[simp] theorem setAud_boot (s : State) (l : Nat) (a : LegAud) : (setAud s l a).boot = s.boot := rfl
@[simp] theorem setAud_eth (s : State) (l : Nat) (a : LegAud) : (setAud s l a).eth = s.eth := rfl
@[simp] theorem setAud_batten (s : State) (l : Nat) (a : LegAud) : (setAud s l a).batten = s.batten := rfl
@[simp] theorem setAud_vid (s : State) (l : Nat) (a : LegAud) : (setAud s l a).vid = s.vid := rfl
@[simp] theorem setAud_dsp (s : State) (l : Nat) (a : LegAud) : (setAud s l a).dsp = s.dsp := rfl
@[simp] theorem setAud_aud (s : State) (l : Nat) (a : LegAud) : (setAud s l a).aud = s.aud := rfl

@[simp] theorem setGraph_pending (s : State) (c : Nat) (a : ConfAud) : (setGraph s c a).pending = s.pending := rfl
@[simp] theorem setGraph_free (s : State) (c : Nat) (a : ConfAud) : (setGraph s c a).free = s.free := rfl
@[simp] theorem setGraph_host (s : State) (c : Nat) (a : ConfAud) : (setGraph s c a).host = s.host := rfl
@[simp] theorem setGraph_time (s : State) (c : Nat) (a : ConfAud) : (setGraph s c a).time = s.time := rfl
@[simp] theorem setGraph_mem (s : State) (c : Nat) (a : ConfAud) : (setGraph s c a).mem = s.mem := rfl
@[simp] theorem setGraph_dep (s : State) (c : Nat) (a : ConfAud) : (setGraph s c a).dep = s.dep := rfl
@[simp] theorem setGraph_boot (s : State) (c : Nat) (a : ConfAud) : (setGraph s c a).boot = s.boot := rfl
@[simp] theorem setGraph_eth (s : State) (c : Nat) (a : ConfAud) : (setGraph s c a).eth = s.eth := rfl
@[simp] theorem setGraph_batten (s : State) (c : Nat) (a : ConfAud) : (setGraph s c a).batten = s.batten := rfl
@[simp] theorem setGraph_vid (s : State) (c : Nat) (a : ConfAud) : (setGraph s c a).vid = s.vid := rfl
@[simp] theorem setGraph_dsp (s : State) (c : Nat) (a : ConfAud) : (setGraph s c a).dsp = s.dsp := rfl
@[simp] theorem setGraph_aud (s : State) (c : Nat) (a : ConfAud) : (setGraph s c a).aud = s.aud := rfl

@[simp] theorem setDec_pending (s : State) (x : Nat) (d : Dec) : (setDec s x d).pending = s.pending := rfl
@[simp] theorem setDec_free (s : State) (x : Nat) (d : Dec) : (setDec s x d).free = s.free := rfl
@[simp] theorem setDec_host (s : State) (x : Nat) (d : Dec) : (setDec s x d).host = s.host := rfl
@[simp] theorem setDec_time (s : State) (x : Nat) (d : Dec) : (setDec s x d).time = s.time := rfl
@[simp] theorem setDec_mem (s : State) (x : Nat) (d : Dec) : (setDec s x d).mem = s.mem := rfl
@[simp] theorem setDec_dep (s : State) (x : Nat) (d : Dec) : (setDec s x d).dep = s.dep := rfl
@[simp] theorem setDec_boot (s : State) (x : Nat) (d : Dec) : (setDec s x d).boot = s.boot := rfl
@[simp] theorem setDec_eth (s : State) (x : Nat) (d : Dec) : (setDec s x d).eth = s.eth := rfl
@[simp] theorem setDec_batten (s : State) (x : Nat) (d : Dec) : (setDec s x d).batten = s.batten := rfl
@[simp] theorem setDec_vid (s : State) (x : Nat) (d : Dec) : (setDec s x d).vid = s.vid := rfl
@[simp] theorem setDec_dsp (s : State) (x : Nat) (d : Dec) : (setDec s x d).dsp = s.dsp := rfl
@[simp] theorem setDec_aud (s : State) (x : Nat) (d : Dec) : (setDec s x d).aud = s.aud := rfl

@[simp] theorem setGov_pending (s : State) (l : Nat) (g : Gov) : (setGov s l g).pending = s.pending := rfl
@[simp] theorem setGov_free (s : State) (l : Nat) (g : Gov) : (setGov s l g).free = s.free := rfl
@[simp] theorem setGov_host (s : State) (l : Nat) (g : Gov) : (setGov s l g).host = s.host := rfl
@[simp] theorem setGov_time (s : State) (l : Nat) (g : Gov) : (setGov s l g).time = s.time := rfl
@[simp] theorem setGov_mem (s : State) (l : Nat) (g : Gov) : (setGov s l g).mem = s.mem := rfl
@[simp] theorem setGov_dep (s : State) (l : Nat) (g : Gov) : (setGov s l g).dep = s.dep := rfl
@[simp] theorem setGov_boot (s : State) (l : Nat) (g : Gov) : (setGov s l g).boot = s.boot := rfl
@[simp] theorem setGov_eth (s : State) (l : Nat) (g : Gov) : (setGov s l g).eth = s.eth := rfl
@[simp] theorem setGov_batten (s : State) (l : Nat) (g : Gov) : (setGov s l g).batten = s.batten := rfl
@[simp] theorem setGov_vid (s : State) (l : Nat) (g : Gov) : (setGov s l g).vid = s.vid := rfl
@[simp] theorem setGov_dsp (s : State) (l : Nat) (g : Gov) : (setGov s l g).dsp = s.dsp := rfl
@[simp] theorem setGov_aud (s : State) (l : Nat) (g : Gov) : (setGov s l g).aud = s.aud := rfl

@[simp] theorem updGov_pending (s : State) (l : Nat) (f : Gov → Gov) : (updGov s l f).pending = s.pending := rfl
@[simp] theorem updGov_free (s : State) (l : Nat) (f : Gov → Gov) : (updGov s l f).free = s.free := rfl
@[simp] theorem updGov_host (s : State) (l : Nat) (f : Gov → Gov) : (updGov s l f).host = s.host := rfl
@[simp] theorem updGov_time (s : State) (l : Nat) (f : Gov → Gov) : (updGov s l f).time = s.time := rfl
@[simp] theorem updGov_mem (s : State) (l : Nat) (f : Gov → Gov) : (updGov s l f).mem = s.mem := rfl
@[simp] theorem updGov_dep (s : State) (l : Nat) (f : Gov → Gov) : (updGov s l f).dep = s.dep := rfl
@[simp] theorem updGov_boot (s : State) (l : Nat) (f : Gov → Gov) : (updGov s l f).boot = s.boot := rfl
@[simp] theorem updGov_eth (s : State) (l : Nat) (f : Gov → Gov) : (updGov s l f).eth = s.eth := rfl
@[simp] theorem updGov_batten (s : State) (l : Nat) (f : Gov → Gov) : (updGov s l f).batten = s.batten := rfl
@[simp] theorem updGov_vid (s : State) (l : Nat) (f : Gov → Gov) : (updGov s l f).vid = s.vid := rfl
@[simp] theorem updGov_dsp (s : State) (l : Nat) (f : Gov → Gov) : (updGov s l f).dsp = s.dsp := rfl
@[simp] theorem updGov_aud (s : State) (l : Nat) (f : Gov → Gov) : (updGov s l f).aud = s.aud := rfl

@[simp] theorem setRung_pending (s : State) (r : Nat) (x : RungDyn) : (setRung s r x).pending = s.pending := rfl
@[simp] theorem setRung_free (s : State) (r : Nat) (x : RungDyn) : (setRung s r x).free = s.free := rfl
@[simp] theorem setRung_host (s : State) (r : Nat) (x : RungDyn) : (setRung s r x).host = s.host := rfl
@[simp] theorem setRung_time (s : State) (r : Nat) (x : RungDyn) : (setRung s r x).time = s.time := rfl
@[simp] theorem setRung_mem (s : State) (r : Nat) (x : RungDyn) : (setRung s r x).mem = s.mem := rfl
@[simp] theorem setRung_dep (s : State) (r : Nat) (x : RungDyn) : (setRung s r x).dep = s.dep := rfl
@[simp] theorem setRung_boot (s : State) (r : Nat) (x : RungDyn) : (setRung s r x).boot = s.boot := rfl
@[simp] theorem setRung_eth (s : State) (r : Nat) (x : RungDyn) : (setRung s r x).eth = s.eth := rfl
@[simp] theorem setRung_batten (s : State) (r : Nat) (x : RungDyn) : (setRung s r x).batten = s.batten := rfl
@[simp] theorem setRung_vid (s : State) (r : Nat) (x : RungDyn) : (setRung s r x).vid = s.vid := rfl
@[simp] theorem setRung_dsp (s : State) (r : Nat) (x : RungDyn) : (setRung s r x).dsp = s.dsp := rfl
@[simp] theorem setRung_aud (s : State) (r : Nat) (x : RungDyn) : (setRung s r x).aud = s.aud := rfl

@[simp] theorem setLayer_pending (s : State) (k : Nat) (l : LayerDyn) : (setLayer s k l).pending = s.pending := rfl
@[simp] theorem setLayer_free (s : State) (k : Nat) (l : LayerDyn) : (setLayer s k l).free = s.free := rfl
@[simp] theorem setLayer_host (s : State) (k : Nat) (l : LayerDyn) : (setLayer s k l).host = s.host := rfl
@[simp] theorem setLayer_time (s : State) (k : Nat) (l : LayerDyn) : (setLayer s k l).time = s.time := rfl
@[simp] theorem setLayer_mem (s : State) (k : Nat) (l : LayerDyn) : (setLayer s k l).mem = s.mem := rfl
@[simp] theorem setLayer_dep (s : State) (k : Nat) (l : LayerDyn) : (setLayer s k l).dep = s.dep := rfl
@[simp] theorem setLayer_boot (s : State) (k : Nat) (l : LayerDyn) : (setLayer s k l).boot = s.boot := rfl
@[simp] theorem setLayer_eth (s : State) (k : Nat) (l : LayerDyn) : (setLayer s k l).eth = s.eth := rfl
@[simp] theorem setLayer_batten (s : State) (k : Nat) (l : LayerDyn) : (setLayer s k l).batten = s.batten := rfl
@[simp] theorem setLayer_vid (s : State) (k : Nat) (l : LayerDyn) : (setLayer s k l).vid = s.vid := rfl
@[simp] theorem setLayer_dsp (s : State) (k : Nat) (l : LayerDyn) : (setLayer s k l).dsp = s.dsp := rfl
@[simp] theorem setLayer_aud (s : State) (k : Nat) (l : LayerDyn) : (setLayer s k l).aud = s.aud := rfl

@[simp] theorem setLayout_pending (s : State) (y : Nat) (l : LayoutDyn) : (setLayout s y l).pending = s.pending := rfl
@[simp] theorem setLayout_free (s : State) (y : Nat) (l : LayoutDyn) : (setLayout s y l).free = s.free := rfl
@[simp] theorem setLayout_host (s : State) (y : Nat) (l : LayoutDyn) : (setLayout s y l).host = s.host := rfl
@[simp] theorem setLayout_time (s : State) (y : Nat) (l : LayoutDyn) : (setLayout s y l).time = s.time := rfl
@[simp] theorem setLayout_mem (s : State) (y : Nat) (l : LayoutDyn) : (setLayout s y l).mem = s.mem := rfl
@[simp] theorem setLayout_dep (s : State) (y : Nat) (l : LayoutDyn) : (setLayout s y l).dep = s.dep := rfl
@[simp] theorem setLayout_boot (s : State) (y : Nat) (l : LayoutDyn) : (setLayout s y l).boot = s.boot := rfl
@[simp] theorem setLayout_eth (s : State) (y : Nat) (l : LayoutDyn) : (setLayout s y l).eth = s.eth := rfl
@[simp] theorem setLayout_batten (s : State) (y : Nat) (l : LayoutDyn) : (setLayout s y l).batten = s.batten := rfl
@[simp] theorem setLayout_vid (s : State) (y : Nat) (l : LayoutDyn) : (setLayout s y l).vid = s.vid := rfl
@[simp] theorem setLayout_dsp (s : State) (y : Nat) (l : LayoutDyn) : (setLayout s y l).dsp = s.dsp := rfl
@[simp] theorem setLayout_aud (s : State) (y : Nat) (l : LayoutDyn) : (setLayout s y l).aud = s.aud := rfl

@[simp] theorem setJb_pending (s : State) (x : Nat) (j : Jb) : (setJb s x j).pending = s.pending := rfl
@[simp] theorem setJb_free (s : State) (x : Nat) (j : Jb) : (setJb s x j).free = s.free := rfl
@[simp] theorem setJb_host (s : State) (x : Nat) (j : Jb) : (setJb s x j).host = s.host := rfl
@[simp] theorem setJb_time (s : State) (x : Nat) (j : Jb) : (setJb s x j).time = s.time := rfl
@[simp] theorem setJb_mem (s : State) (x : Nat) (j : Jb) : (setJb s x j).mem = s.mem := rfl
@[simp] theorem setJb_dep (s : State) (x : Nat) (j : Jb) : (setJb s x j).dep = s.dep := rfl
@[simp] theorem setJb_boot (s : State) (x : Nat) (j : Jb) : (setJb s x j).boot = s.boot := rfl
@[simp] theorem setJb_eth (s : State) (x : Nat) (j : Jb) : (setJb s x j).eth = s.eth := rfl
@[simp] theorem setJb_batten (s : State) (x : Nat) (j : Jb) : (setJb s x j).batten = s.batten := rfl
@[simp] theorem setJb_vid (s : State) (x : Nat) (j : Jb) : (setJb s x j).vid = s.vid := rfl
@[simp] theorem setJb_dsp (s : State) (x : Nat) (j : Jb) : (setJb s x j).dsp = s.dsp := rfl
@[simp] theorem setJb_aud (s : State) (x : Nat) (j : Jb) : (setJb s x j).aud = s.aud := rfl

@[simp] theorem setLimiter_pending (s : State) (p : Nat) (b : Bucket) : (setLimiter s p b).pending = s.pending := rfl
@[simp] theorem setLimiter_free (s : State) (p : Nat) (b : Bucket) : (setLimiter s p b).free = s.free := rfl
@[simp] theorem setLimiter_host (s : State) (p : Nat) (b : Bucket) : (setLimiter s p b).host = s.host := rfl
@[simp] theorem setLimiter_time (s : State) (p : Nat) (b : Bucket) : (setLimiter s p b).time = s.time := rfl
@[simp] theorem setLimiter_mem (s : State) (p : Nat) (b : Bucket) : (setLimiter s p b).mem = s.mem := rfl
@[simp] theorem setLimiter_dep (s : State) (p : Nat) (b : Bucket) : (setLimiter s p b).dep = s.dep := rfl
@[simp] theorem setLimiter_boot (s : State) (p : Nat) (b : Bucket) : (setLimiter s p b).boot = s.boot := rfl
@[simp] theorem setLimiter_eth (s : State) (p : Nat) (b : Bucket) : (setLimiter s p b).eth = s.eth := rfl
@[simp] theorem setLimiter_batten (s : State) (p : Nat) (b : Bucket) : (setLimiter s p b).batten = s.batten := rfl
@[simp] theorem setLimiter_vid (s : State) (p : Nat) (b : Bucket) : (setLimiter s p b).vid = s.vid := rfl
@[simp] theorem setLimiter_dsp (s : State) (p : Nat) (b : Bucket) : (setLimiter s p b).dsp = s.dsp := rfl
@[simp] theorem setLimiter_aud (s : State) (p : Nat) (b : Bucket) : (setLimiter s p b).aud = s.aud := rfl

/-! ## Updates of the part `time` -/

@[simp] theorem setTime_pending (s : State) (t : TimePart) : (setTime s t).pending = s.pending := rfl
@[simp] theorem setTime_free (s : State) (t : TimePart) : (setTime s t).free = s.free := rfl
@[simp] theorem setTime_host (s : State) (t : TimePart) : (setTime s t).host = s.host := rfl
@[simp] theorem setTime_obj (s : State) (t : TimePart) : (setTime s t).obj = s.obj := rfl
@[simp] theorem setTime_mem (s : State) (t : TimePart) : (setTime s t).mem = s.mem := rfl
@[simp] theorem setTime_dep (s : State) (t : TimePart) : (setTime s t).dep = s.dep := rfl
@[simp] theorem setTime_boot (s : State) (t : TimePart) : (setTime s t).boot = s.boot := rfl
@[simp] theorem setTime_eth (s : State) (t : TimePart) : (setTime s t).eth = s.eth := rfl
@[simp] theorem setTime_batten (s : State) (t : TimePart) : (setTime s t).batten = s.batten := rfl
@[simp] theorem setTime_vid (s : State) (t : TimePart) : (setTime s t).vid = s.vid := rfl
@[simp] theorem setTime_dsp (s : State) (t : TimePart) : (setTime s t).dsp = s.dsp := rfl
@[simp] theorem setTime_aud (s : State) (t : TimePart) : (setTime s t).aud = s.aud := rfl

@[simp] theorem bumpDev_pending (s : State) (c : Ctr) (n : Nat) : (bumpDev s c n).pending = s.pending := rfl
@[simp] theorem bumpDev_free (s : State) (c : Ctr) (n : Nat) : (bumpDev s c n).free = s.free := rfl
@[simp] theorem bumpDev_host (s : State) (c : Ctr) (n : Nat) : (bumpDev s c n).host = s.host := rfl
@[simp] theorem bumpDev_obj (s : State) (c : Ctr) (n : Nat) : (bumpDev s c n).obj = s.obj := rfl
@[simp] theorem bumpDev_mem (s : State) (c : Ctr) (n : Nat) : (bumpDev s c n).mem = s.mem := rfl
@[simp] theorem bumpDev_dep (s : State) (c : Ctr) (n : Nat) : (bumpDev s c n).dep = s.dep := rfl
@[simp] theorem bumpDev_boot (s : State) (c : Ctr) (n : Nat) : (bumpDev s c n).boot = s.boot := rfl
@[simp] theorem bumpDev_eth (s : State) (c : Ctr) (n : Nat) : (bumpDev s c n).eth = s.eth := rfl
@[simp] theorem bumpDev_batten (s : State) (c : Ctr) (n : Nat) : (bumpDev s c n).batten = s.batten := rfl
@[simp] theorem bumpDev_vid (s : State) (c : Ctr) (n : Nat) : (bumpDev s c n).vid = s.vid := rfl
@[simp] theorem bumpDev_dsp (s : State) (c : Ctr) (n : Nat) : (bumpDev s c n).dsp = s.dsp := rfl
@[simp] theorem bumpDev_aud (s : State) (c : Ctr) (n : Nat) : (bumpDev s c n).aud = s.aud := rfl

/-! ## Updates of the part `dep` -/

@[simp] theorem setDep_pending (s : State) (d : DepPart) : (setDep s d).pending = s.pending := rfl
@[simp] theorem setDep_free (s : State) (d : DepPart) : (setDep s d).free = s.free := rfl
@[simp] theorem setDep_host (s : State) (d : DepPart) : (setDep s d).host = s.host := rfl
@[simp] theorem setDep_obj (s : State) (d : DepPart) : (setDep s d).obj = s.obj := rfl
@[simp] theorem setDep_time (s : State) (d : DepPart) : (setDep s d).time = s.time := rfl
@[simp] theorem setDep_mem (s : State) (d : DepPart) : (setDep s d).mem = s.mem := rfl
@[simp] theorem setDep_boot (s : State) (d : DepPart) : (setDep s d).boot = s.boot := rfl
@[simp] theorem setDep_eth (s : State) (d : DepPart) : (setDep s d).eth = s.eth := rfl
@[simp] theorem setDep_batten (s : State) (d : DepPart) : (setDep s d).batten = s.batten := rfl
@[simp] theorem setDep_vid (s : State) (d : DepPart) : (setDep s d).vid = s.vid := rfl
@[simp] theorem setDep_dsp (s : State) (d : DepPart) : (setDep s d).dsp = s.dsp := rfl
@[simp] theorem setDep_aud (s : State) (d : DepPart) : (setDep s d).aud = s.aud := rfl

/-! ## Updates of the part `boot` -/

@[simp] theorem setBoot_pending (s : State) (b : BootPart) : (setBoot s b).pending = s.pending := rfl
@[simp] theorem setBoot_free (s : State) (b : BootPart) : (setBoot s b).free = s.free := rfl
@[simp] theorem setBoot_host (s : State) (b : BootPart) : (setBoot s b).host = s.host := rfl
@[simp] theorem setBoot_obj (s : State) (b : BootPart) : (setBoot s b).obj = s.obj := rfl
@[simp] theorem setBoot_time (s : State) (b : BootPart) : (setBoot s b).time = s.time := rfl
@[simp] theorem setBoot_mem (s : State) (b : BootPart) : (setBoot s b).mem = s.mem := rfl
@[simp] theorem setBoot_dep (s : State) (b : BootPart) : (setBoot s b).dep = s.dep := rfl
@[simp] theorem setBoot_eth (s : State) (b : BootPart) : (setBoot s b).eth = s.eth := rfl
@[simp] theorem setBoot_batten (s : State) (b : BootPart) : (setBoot s b).batten = s.batten := rfl
@[simp] theorem setBoot_vid (s : State) (b : BootPart) : (setBoot s b).vid = s.vid := rfl
@[simp] theorem setBoot_dsp (s : State) (b : BootPart) : (setBoot s b).dsp = s.dsp := rfl
@[simp] theorem setBoot_aud (s : State) (b : BootPart) : (setBoot s b).aud = s.aud := rfl

@[simp] theorem setSlot_pending (n : Nat) (x : SlotSt) (s : State) : (setSlot n x s).pending = s.pending := rfl
@[simp] theorem setSlot_free (n : Nat) (x : SlotSt) (s : State) : (setSlot n x s).free = s.free := rfl
@[simp] theorem setSlot_host (n : Nat) (x : SlotSt) (s : State) : (setSlot n x s).host = s.host := rfl
@[simp] theorem setSlot_obj (n : Nat) (x : SlotSt) (s : State) : (setSlot n x s).obj = s.obj := rfl
@[simp] theorem setSlot_time (n : Nat) (x : SlotSt) (s : State) : (setSlot n x s).time = s.time := rfl
@[simp] theorem setSlot_mem (n : Nat) (x : SlotSt) (s : State) : (setSlot n x s).mem = s.mem := rfl
@[simp] theorem setSlot_dep (n : Nat) (x : SlotSt) (s : State) : (setSlot n x s).dep = s.dep := rfl
@[simp] theorem setSlot_eth (n : Nat) (x : SlotSt) (s : State) : (setSlot n x s).eth = s.eth := rfl
@[simp] theorem setSlot_batten (n : Nat) (x : SlotSt) (s : State) : (setSlot n x s).batten = s.batten := rfl
@[simp] theorem setSlot_vid (n : Nat) (x : SlotSt) (s : State) : (setSlot n x s).vid = s.vid := rfl
@[simp] theorem setSlot_dsp (n : Nat) (x : SlotSt) (s : State) : (setSlot n x s).dsp = s.dsp := rfl
@[simp] theorem setSlot_aud (n : Nat) (x : SlotSt) (s : State) : (setSlot n x s).aud = s.aud := rfl

/-! ## Updates of the part `mem` -/

@[simp] theorem setMem_pending (s : State) (m : MemPart) : (setMem s m).pending = s.pending := rfl
@[simp] theorem setMem_free (s : State) (m : MemPart) : (setMem s m).free = s.free := rfl
@[simp] theorem setMem_host (s : State) (m : MemPart) : (setMem s m).host = s.host := rfl
@[simp] theorem setMem_obj (s : State) (m : MemPart) : (setMem s m).obj = s.obj := rfl
@[simp] theorem setMem_time (s : State) (m : MemPart) : (setMem s m).time = s.time := rfl
@[simp] theorem setMem_dep (s : State) (m : MemPart) : (setMem s m).dep = s.dep := rfl
@[simp] theorem setMem_boot (s : State) (m : MemPart) : (setMem s m).boot = s.boot := rfl
@[simp] theorem setMem_eth (s : State) (m : MemPart) : (setMem s m).eth = s.eth := rfl
@[simp] theorem setMem_batten (s : State) (m : MemPart) : (setMem s m).batten = s.batten := rfl
@[simp] theorem setMem_vid (s : State) (m : MemPart) : (setMem s m).vid = s.vid := rfl
@[simp] theorem setMem_dsp (s : State) (m : MemPart) : (setMem s m).dsp = s.dsp := rfl
@[simp] theorem setMem_aud (s : State) (m : MemPart) : (setMem s m).aud = s.aud := rfl

@[simp] theorem setSub_pending (s : State) (ch b : Nat) (x : SubCh) : (setSub s ch b x).pending = s.pending := rfl
@[simp] theorem setSub_free (s : State) (ch b : Nat) (x : SubCh) : (setSub s ch b x).free = s.free := rfl
@[simp] theorem setSub_host (s : State) (ch b : Nat) (x : SubCh) : (setSub s ch b x).host = s.host := rfl
@[simp] theorem setSub_obj (s : State) (ch b : Nat) (x : SubCh) : (setSub s ch b x).obj = s.obj := rfl
@[simp] theorem setSub_time (s : State) (ch b : Nat) (x : SubCh) : (setSub s ch b x).time = s.time := rfl
@[simp] theorem setSub_dep (s : State) (ch b : Nat) (x : SubCh) : (setSub s ch b x).dep = s.dep := rfl
@[simp] theorem setSub_boot (s : State) (ch b : Nat) (x : SubCh) : (setSub s ch b x).boot = s.boot := rfl
@[simp] theorem setSub_eth (s : State) (ch b : Nat) (x : SubCh) : (setSub s ch b x).eth = s.eth := rfl
@[simp] theorem setSub_batten (s : State) (ch b : Nat) (x : SubCh) : (setSub s ch b x).batten = s.batten := rfl
@[simp] theorem setSub_vid (s : State) (ch b : Nat) (x : SubCh) : (setSub s ch b x).vid = s.vid := rfl
@[simp] theorem setSub_dsp (s : State) (ch b : Nat) (x : SubCh) : (setSub s ch b x).dsp = s.dsp := rfl
@[simp] theorem setSub_aud (s : State) (ch b : Nat) (x : SubCh) : (setSub s ch b x).aud = s.aud := rfl

@[simp] theorem setRank_pending (s : State) (ch r : Nat) (x : RankSt) : (setRank s ch r x).pending = s.pending := rfl
@[simp] theorem setRank_free (s : State) (ch r : Nat) (x : RankSt) : (setRank s ch r x).free = s.free := rfl
@[simp] theorem setRank_host (s : State) (ch r : Nat) (x : RankSt) : (setRank s ch r x).host = s.host := rfl
@[simp] theorem setRank_obj (s : State) (ch r : Nat) (x : RankSt) : (setRank s ch r x).obj = s.obj := rfl
@[simp] theorem setRank_time (s : State) (ch r : Nat) (x : RankSt) : (setRank s ch r x).time = s.time := rfl
@[simp] theorem setRank_dep (s : State) (ch r : Nat) (x : RankSt) : (setRank s ch r x).dep = s.dep := rfl
@[simp] theorem setRank_boot (s : State) (ch r : Nat) (x : RankSt) : (setRank s ch r x).boot = s.boot := rfl
@[simp] theorem setRank_eth (s : State) (ch r : Nat) (x : RankSt) : (setRank s ch r x).eth = s.eth := rfl
@[simp] theorem setRank_batten (s : State) (ch r : Nat) (x : RankSt) : (setRank s ch r x).batten = s.batten := rfl
@[simp] theorem setRank_vid (s : State) (ch r : Nat) (x : RankSt) : (setRank s ch r x).vid = s.vid := rfl
@[simp] theorem setRank_dsp (s : State) (ch r : Nat) (x : RankSt) : (setRank s ch r x).dsp = s.dsp := rfl
@[simp] theorem setRank_aud (s : State) (ch r : Nat) (x : RankSt) : (setRank s ch r x).aud = s.aud := rfl

@[simp] theorem bumpMem_pending (s : State) (ch : Nat) (c : Ctr) : (bumpMem s ch c).pending = s.pending := rfl
@[simp] theorem bumpMem_free (s : State) (ch : Nat) (c : Ctr) : (bumpMem s ch c).free = s.free := rfl
@[simp] theorem bumpMem_host (s : State) (ch : Nat) (c : Ctr) : (bumpMem s ch c).host = s.host := rfl
@[simp] theorem bumpMem_obj (s : State) (ch : Nat) (c : Ctr) : (bumpMem s ch c).obj = s.obj := rfl
@[simp] theorem bumpMem_time (s : State) (ch : Nat) (c : Ctr) : (bumpMem s ch c).time = s.time := rfl
@[simp] theorem bumpMem_dep (s : State) (ch : Nat) (c : Ctr) : (bumpMem s ch c).dep = s.dep := rfl
@[simp] theorem bumpMem_boot (s : State) (ch : Nat) (c : Ctr) : (bumpMem s ch c).boot = s.boot := rfl
@[simp] theorem bumpMem_eth (s : State) (ch : Nat) (c : Ctr) : (bumpMem s ch c).eth = s.eth := rfl
@[simp] theorem bumpMem_batten (s : State) (ch : Nat) (c : Ctr) : (bumpMem s ch c).batten = s.batten := rfl
@[simp] theorem bumpMem_vid (s : State) (ch : Nat) (c : Ctr) : (bumpMem s ch c).vid = s.vid := rfl
@[simp] theorem bumpMem_dsp (s : State) (ch : Nat) (c : Ctr) : (bumpMem s ch c).dsp = s.dsp := rfl
@[simp] theorem bumpMem_aud (s : State) (ch : Nat) (c : Ctr) : (bumpMem s ch c).aud = s.aud := rfl

/-! ## Updates of the part `eth` -/

@[simp] theorem setPort_pending (s : State) (p : Nat) (e : EthPort) : (setPort s p e).pending = s.pending := rfl
@[simp] theorem setPort_free (s : State) (p : Nat) (e : EthPort) : (setPort s p e).free = s.free := rfl
@[simp] theorem setPort_host (s : State) (p : Nat) (e : EthPort) : (setPort s p e).host = s.host := rfl
@[simp] theorem setPort_obj (s : State) (p : Nat) (e : EthPort) : (setPort s p e).obj = s.obj := rfl
@[simp] theorem setPort_time (s : State) (p : Nat) (e : EthPort) : (setPort s p e).time = s.time := rfl
@[simp] theorem setPort_mem (s : State) (p : Nat) (e : EthPort) : (setPort s p e).mem = s.mem := rfl
@[simp] theorem setPort_dep (s : State) (p : Nat) (e : EthPort) : (setPort s p e).dep = s.dep := rfl
@[simp] theorem setPort_boot (s : State) (p : Nat) (e : EthPort) : (setPort s p e).boot = s.boot := rfl
@[simp] theorem setPort_batten (s : State) (p : Nat) (e : EthPort) : (setPort s p e).batten = s.batten := rfl
@[simp] theorem setPort_vid (s : State) (p : Nat) (e : EthPort) : (setPort s p e).vid = s.vid := rfl
@[simp] theorem setPort_dsp (s : State) (p : Nat) (e : EthPort) : (setPort s p e).dsp = s.dsp := rfl
@[simp] theorem setPort_aud (s : State) (p : Nat) (e : EthPort) : (setPort s p e).aud = s.aud := rfl

@[simp] theorem updPort_pending (s : State) (p : Nat) (g : EthPort → EthPort) : (updPort s p g).pending = s.pending := rfl
@[simp] theorem updPort_free (s : State) (p : Nat) (g : EthPort → EthPort) : (updPort s p g).free = s.free := rfl
@[simp] theorem updPort_host (s : State) (p : Nat) (g : EthPort → EthPort) : (updPort s p g).host = s.host := rfl
@[simp] theorem updPort_obj (s : State) (p : Nat) (g : EthPort → EthPort) : (updPort s p g).obj = s.obj := rfl
@[simp] theorem updPort_time (s : State) (p : Nat) (g : EthPort → EthPort) : (updPort s p g).time = s.time := rfl
@[simp] theorem updPort_mem (s : State) (p : Nat) (g : EthPort → EthPort) : (updPort s p g).mem = s.mem := rfl
@[simp] theorem updPort_dep (s : State) (p : Nat) (g : EthPort → EthPort) : (updPort s p g).dep = s.dep := rfl
@[simp] theorem updPort_boot (s : State) (p : Nat) (g : EthPort → EthPort) : (updPort s p g).boot = s.boot := rfl
@[simp] theorem updPort_batten (s : State) (p : Nat) (g : EthPort → EthPort) : (updPort s p g).batten = s.batten := rfl
@[simp] theorem updPort_vid (s : State) (p : Nat) (g : EthPort → EthPort) : (updPort s p g).vid = s.vid := rfl
@[simp] theorem updPort_dsp (s : State) (p : Nat) (g : EthPort → EthPort) : (updPort s p g).dsp = s.dsp := rfl
@[simp] theorem updPort_aud (s : State) (p : Nat) (g : EthPort → EthPort) : (updPort s p g).aud = s.aud := rfl

@[simp] theorem bumpPort_pending (s : State) (p : Nat) (c : Ctr) (n : Nat) : (bumpPort s p c n).pending = s.pending := rfl
@[simp] theorem bumpPort_free (s : State) (p : Nat) (c : Ctr) (n : Nat) : (bumpPort s p c n).free = s.free := rfl
@[simp] theorem bumpPort_host (s : State) (p : Nat) (c : Ctr) (n : Nat) : (bumpPort s p c n).host = s.host := rfl
@[simp] theorem bumpPort_obj (s : State) (p : Nat) (c : Ctr) (n : Nat) : (bumpPort s p c n).obj = s.obj := rfl
@[simp] theorem bumpPort_time (s : State) (p : Nat) (c : Ctr) (n : Nat) : (bumpPort s p c n).time = s.time := rfl
@[simp] theorem bumpPort_mem (s : State) (p : Nat) (c : Ctr) (n : Nat) : (bumpPort s p c n).mem = s.mem := rfl
@[simp] theorem bumpPort_dep (s : State) (p : Nat) (c : Ctr) (n : Nat) : (bumpPort s p c n).dep = s.dep := rfl
@[simp] theorem bumpPort_boot (s : State) (p : Nat) (c : Ctr) (n : Nat) : (bumpPort s p c n).boot = s.boot := rfl
@[simp] theorem bumpPort_batten (s : State) (p : Nat) (c : Ctr) (n : Nat) : (bumpPort s p c n).batten = s.batten := rfl
@[simp] theorem bumpPort_vid (s : State) (p : Nat) (c : Ctr) (n : Nat) : (bumpPort s p c n).vid = s.vid := rfl
@[simp] theorem bumpPort_dsp (s : State) (p : Nat) (c : Ctr) (n : Nat) : (bumpPort s p c n).dsp = s.dsp := rfl
@[simp] theorem bumpPort_aud (s : State) (p : Nat) (c : Ctr) (n : Nat) : (bumpPort s p c n).aud = s.aud := rfl

@[simp] theorem updCls_pending (s : State) (p c : Nat) (g : ClassSt → ClassSt) : (updCls s p c g).pending = s.pending := rfl
@[simp] theorem updCls_free (s : State) (p c : Nat) (g : ClassSt → ClassSt) : (updCls s p c g).free = s.free := rfl
@[simp] theorem updCls_host (s : State) (p c : Nat) (g : ClassSt → ClassSt) : (updCls s p c g).host = s.host := rfl
@[simp] theorem updCls_obj (s : State) (p c : Nat) (g : ClassSt → ClassSt) : (updCls s p c g).obj = s.obj := rfl
@[simp] theorem updCls_time (s : State) (p c : Nat) (g : ClassSt → ClassSt) : (updCls s p c g).time = s.time := rfl
@[simp] theorem updCls_mem (s : State) (p c : Nat) (g : ClassSt → ClassSt) : (updCls s p c g).mem = s.mem := rfl
@[simp] theorem updCls_dep (s : State) (p c : Nat) (g : ClassSt → ClassSt) : (updCls s p c g).dep = s.dep := rfl
@[simp] theorem updCls_boot (s : State) (p c : Nat) (g : ClassSt → ClassSt) : (updCls s p c g).boot = s.boot := rfl
@[simp] theorem updCls_batten (s : State) (p c : Nat) (g : ClassSt → ClassSt) : (updCls s p c g).batten = s.batten := rfl
@[simp] theorem updCls_vid (s : State) (p c : Nat) (g : ClassSt → ClassSt) : (updCls s p c g).vid = s.vid := rfl
@[simp] theorem updCls_dsp (s : State) (p c : Nat) (g : ClassSt → ClassSt) : (updCls s p c g).dsp = s.dsp := rfl
@[simp] theorem updCls_aud (s : State) (p c : Nat) (g : ClassSt → ClassSt) : (updCls s p c g).aud = s.aud := rfl

/-! ## Updates of the part `batten` -/

@[simp] theorem setQ_pending (s : State) (q : Nat) (x : Queue) : (setQ s q x).pending = s.pending := rfl
@[simp] theorem setQ_free (s : State) (q : Nat) (x : Queue) : (setQ s q x).free = s.free := rfl
@[simp] theorem setQ_host (s : State) (q : Nat) (x : Queue) : (setQ s q x).host = s.host := rfl
@[simp] theorem setQ_obj (s : State) (q : Nat) (x : Queue) : (setQ s q x).obj = s.obj := rfl
@[simp] theorem setQ_time (s : State) (q : Nat) (x : Queue) : (setQ s q x).time = s.time := rfl
@[simp] theorem setQ_mem (s : State) (q : Nat) (x : Queue) : (setQ s q x).mem = s.mem := rfl
@[simp] theorem setQ_dep (s : State) (q : Nat) (x : Queue) : (setQ s q x).dep = s.dep := rfl
@[simp] theorem setQ_boot (s : State) (q : Nat) (x : Queue) : (setQ s q x).boot = s.boot := rfl
@[simp] theorem setQ_eth (s : State) (q : Nat) (x : Queue) : (setQ s q x).eth = s.eth := rfl
@[simp] theorem setQ_vid (s : State) (q : Nat) (x : Queue) : (setQ s q x).vid = s.vid := rfl
@[simp] theorem setQ_dsp (s : State) (q : Nat) (x : Queue) : (setQ s q x).dsp = s.dsp := rfl
@[simp] theorem setQ_aud (s : State) (q : Nat) (x : Queue) : (setQ s q x).aud = s.aud := rfl

@[simp] theorem setGroup_pending (s : State) (g : Nat) (x : Group) : (setGroup s g x).pending = s.pending := rfl
@[simp] theorem setGroup_free (s : State) (g : Nat) (x : Group) : (setGroup s g x).free = s.free := rfl
@[simp] theorem setGroup_host (s : State) (g : Nat) (x : Group) : (setGroup s g x).host = s.host := rfl
@[simp] theorem setGroup_obj (s : State) (g : Nat) (x : Group) : (setGroup s g x).obj = s.obj := rfl
@[simp] theorem setGroup_time (s : State) (g : Nat) (x : Group) : (setGroup s g x).time = s.time := rfl
@[simp] theorem setGroup_mem (s : State) (g : Nat) (x : Group) : (setGroup s g x).mem = s.mem := rfl
@[simp] theorem setGroup_dep (s : State) (g : Nat) (x : Group) : (setGroup s g x).dep = s.dep := rfl
@[simp] theorem setGroup_boot (s : State) (g : Nat) (x : Group) : (setGroup s g x).boot = s.boot := rfl
@[simp] theorem setGroup_eth (s : State) (g : Nat) (x : Group) : (setGroup s g x).eth = s.eth := rfl
@[simp] theorem setGroup_vid (s : State) (g : Nat) (x : Group) : (setGroup s g x).vid = s.vid := rfl
@[simp] theorem setGroup_dsp (s : State) (g : Nat) (x : Group) : (setGroup s g x).dsp = s.dsp := rfl
@[simp] theorem setGroup_aud (s : State) (g : Nat) (x : Group) : (setGroup s g x).aud = s.aud := rfl

/-! ## Updates of the part `vid` -/

@[simp] theorem setSurfs_pending (s : State) (t : Tab Surf) : (setSurfs s t).pending = s.pending := rfl
@[simp] theorem setSurfs_free (s : State) (t : Tab Surf) : (setSurfs s t).free = s.free := rfl
@[simp] theorem setSurfs_host (s : State) (t : Tab Surf) : (setSurfs s t).host = s.host := rfl
@[simp] theorem setSurfs_obj (s : State) (t : Tab Surf) : (setSurfs s t).obj = s.obj := rfl
@[simp] theorem setSurfs_time (s : State) (t : Tab Surf) : (setSurfs s t).time = s.time := rfl
@[simp] theorem setSurfs_mem (s : State) (t : Tab Surf) : (setSurfs s t).mem = s.mem := rfl
@[simp] theorem setSurfs_dep (s : State) (t : Tab Surf) : (setSurfs s t).dep = s.dep := rfl
@[simp] theorem setSurfs_boot (s : State) (t : Tab Surf) : (setSurfs s t).boot = s.boot := rfl
@[simp] theorem setSurfs_eth (s : State) (t : Tab Surf) : (setSurfs s t).eth = s.eth := rfl
@[simp] theorem setSurfs_batten (s : State) (t : Tab Surf) : (setSurfs s t).batten = s.batten := rfl
@[simp] theorem setSurfs_dsp (s : State) (t : Tab Surf) : (setSurfs s t).dsp = s.dsp := rfl
@[simp] theorem setSurfs_aud (s : State) (t : Tab Surf) : (setSurfs s t).aud = s.aud := rfl

@[simp] theorem setEng_pending (s : State) (e : Nat) (g : Engine) : (setEng s e g).pending = s.pending := rfl
@[simp] theorem setEng_free (s : State) (e : Nat) (g : Engine) : (setEng s e g).free = s.free := rfl
@[simp] theorem setEng_host (s : State) (e : Nat) (g : Engine) : (setEng s e g).host = s.host := rfl
@[simp] theorem setEng_obj (s : State) (e : Nat) (g : Engine) : (setEng s e g).obj = s.obj := rfl
@[simp] theorem setEng_time (s : State) (e : Nat) (g : Engine) : (setEng s e g).time = s.time := rfl
@[simp] theorem setEng_mem (s : State) (e : Nat) (g : Engine) : (setEng s e g).mem = s.mem := rfl
@[simp] theorem setEng_dep (s : State) (e : Nat) (g : Engine) : (setEng s e g).dep = s.dep := rfl
@[simp] theorem setEng_boot (s : State) (e : Nat) (g : Engine) : (setEng s e g).boot = s.boot := rfl
@[simp] theorem setEng_eth (s : State) (e : Nat) (g : Engine) : (setEng s e g).eth = s.eth := rfl
@[simp] theorem setEng_batten (s : State) (e : Nat) (g : Engine) : (setEng s e g).batten = s.batten := rfl
@[simp] theorem setEng_dsp (s : State) (e : Nat) (g : Engine) : (setEng s e g).dsp = s.dsp := rfl
@[simp] theorem setEng_aud (s : State) (e : Nat) (g : Engine) : (setEng s e g).aud = s.aud := rfl

@[simp] theorem updEng_pending (s : State) (e : Nat) (f : Engine → Engine) : (updEng s e f).pending = s.pending := rfl
@[simp] theorem updEng_free (s : State) (e : Nat) (f : Engine → Engine) : (updEng s e f).free = s.free := rfl
@[simp] theorem updEng_host (s : State) (e : Nat) (f : Engine → Engine) : (updEng s e f).host = s.host := rfl
@[simp] theorem updEng_obj (s : State) (e : Nat) (f : Engine → Engine) : (updEng s e f).obj = s.obj := rfl
@[simp] theorem updEng_time (s : State) (e : Nat) (f : Engine → Engine) : (updEng s e f).time = s.time := rfl
@[simp] theorem updEng_mem (s : State) (e : Nat) (f : Engine → Engine) : (updEng s e f).mem = s.mem := rfl
@[simp] theorem updEng_dep (s : State) (e : Nat) (f : Engine → Engine) : (updEng s e f).dep = s.dep := rfl
@[simp] theorem updEng_boot (s : State) (e : Nat) (f : Engine → Engine) : (updEng s e f).boot = s.boot := rfl
@[simp] theorem updEng_eth (s : State) (e : Nat) (f : Engine → Engine) : (updEng s e f).eth = s.eth := rfl
@[simp] theorem updEng_batten (s : State) (e : Nat) (f : Engine → Engine) : (updEng s e f).batten = s.batten := rfl
@[simp] theorem updEng_dsp (s : State) (e : Nat) (f : Engine → Engine) : (updEng s e f).dsp = s.dsp := rfl
@[simp] theorem updEng_aud (s : State) (e : Nat) (f : Engine → Engine) : (updEng s e f).aud = s.aud := rfl

@[simp] theorem updDisp_pending (s : State) (f : Disp → Disp) : (updDisp s f).pending = s.pending := rfl
@[simp] theorem updDisp_free (s : State) (f : Disp → Disp) : (updDisp s f).free = s.free := rfl
@[simp] theorem updDisp_host (s : State) (f : Disp → Disp) : (updDisp s f).host = s.host := rfl
@[simp] theorem updDisp_obj (s : State) (f : Disp → Disp) : (updDisp s f).obj = s.obj := rfl
@[simp] theorem updDisp_time (s : State) (f : Disp → Disp) : (updDisp s f).time = s.time := rfl
@[simp] theorem updDisp_mem (s : State) (f : Disp → Disp) : (updDisp s f).mem = s.mem := rfl
@[simp] theorem updDisp_dep (s : State) (f : Disp → Disp) : (updDisp s f).dep = s.dep := rfl
@[simp] theorem updDisp_boot (s : State) (f : Disp → Disp) : (updDisp s f).boot = s.boot := rfl
@[simp] theorem updDisp_eth (s : State) (f : Disp → Disp) : (updDisp s f).eth = s.eth := rfl
@[simp] theorem updDisp_batten (s : State) (f : Disp → Disp) : (updDisp s f).batten = s.batten := rfl
@[simp] theorem updDisp_dsp (s : State) (f : Disp → Disp) : (updDisp s f).dsp = s.dsp := rfl
@[simp] theorem updDisp_aud (s : State) (f : Disp → Disp) : (updDisp s f).aud = s.aud := rfl

/-! ## Updates of the part `dsp` -/

@[simp] theorem setCore_pending (s : State) (c : Nat) (k : Core) : (setCore s c k).pending = s.pending := rfl
@[simp] theorem setCore_free (s : State) (c : Nat) (k : Core) : (setCore s c k).free = s.free := rfl
@[simp] theorem setCore_host (s : State) (c : Nat) (k : Core) : (setCore s c k).host = s.host := rfl
@[simp] theorem setCore_obj (s : State) (c : Nat) (k : Core) : (setCore s c k).obj = s.obj := rfl
@[simp] theorem setCore_time (s : State) (c : Nat) (k : Core) : (setCore s c k).time = s.time := rfl
@[simp] theorem setCore_mem (s : State) (c : Nat) (k : Core) : (setCore s c k).mem = s.mem := rfl
@[simp] theorem setCore_dep (s : State) (c : Nat) (k : Core) : (setCore s c k).dep = s.dep := rfl
@[simp] theorem setCore_boot (s : State) (c : Nat) (k : Core) : (setCore s c k).boot = s.boot := rfl
@[simp] theorem setCore_eth (s : State) (c : Nat) (k : Core) : (setCore s c k).eth = s.eth := rfl
@[simp] theorem setCore_batten (s : State) (c : Nat) (k : Core) : (setCore s c k).batten = s.batten := rfl
@[simp] theorem setCore_vid (s : State) (c : Nat) (k : Core) : (setCore s c k).vid = s.vid := rfl
@[simp] theorem setCore_aud (s : State) (c : Nat) (k : Core) : (setCore s c k).aud = s.aud := rfl

@[simp] theorem updCore_pending (s : State) (c : Nat) (f : Core → Core) : (updCore s c f).pending = s.pending := rfl
@[simp] theorem updCore_free (s : State) (c : Nat) (f : Core → Core) : (updCore s c f).free = s.free := rfl
@[simp] theorem updCore_host (s : State) (c : Nat) (f : Core → Core) : (updCore s c f).host = s.host := rfl
@[simp] theorem updCore_obj (s : State) (c : Nat) (f : Core → Core) : (updCore s c f).obj = s.obj := rfl
@[simp] theorem updCore_time (s : State) (c : Nat) (f : Core → Core) : (updCore s c f).time = s.time := rfl
@[simp] theorem updCore_mem (s : State) (c : Nat) (f : Core → Core) : (updCore s c f).mem = s.mem := rfl
@[simp] theorem updCore_dep (s : State) (c : Nat) (f : Core → Core) : (updCore s c f).dep = s.dep := rfl
@[simp] theorem updCore_boot (s : State) (c : Nat) (f : Core → Core) : (updCore s c f).boot = s.boot := rfl
@[simp] theorem updCore_eth (s : State) (c : Nat) (f : Core → Core) : (updCore s c f).eth = s.eth := rfl
@[simp] theorem updCore_batten (s : State) (c : Nat) (f : Core → Core) : (updCore s c f).batten = s.batten := rfl
@[simp] theorem updCore_vid (s : State) (c : Nat) (f : Core → Core) : (updCore s c f).vid = s.vid := rfl
@[simp] theorem updCore_aud (s : State) (c : Nat) (f : Core → Core) : (updCore s c f).aud = s.aud := rfl

@[simp] theorem setInst_pending (s : State) (i : Nat) (k : KInst) : (setInst s i k).pending = s.pending := rfl
@[simp] theorem setInst_free (s : State) (i : Nat) (k : KInst) : (setInst s i k).free = s.free := rfl
@[simp] theorem setInst_host (s : State) (i : Nat) (k : KInst) : (setInst s i k).host = s.host := rfl
@[simp] theorem setInst_obj (s : State) (i : Nat) (k : KInst) : (setInst s i k).obj = s.obj := rfl
@[simp] theorem setInst_time (s : State) (i : Nat) (k : KInst) : (setInst s i k).time = s.time := rfl
@[simp] theorem setInst_mem (s : State) (i : Nat) (k : KInst) : (setInst s i k).mem = s.mem := rfl
@[simp] theorem setInst_dep (s : State) (i : Nat) (k : KInst) : (setInst s i k).dep = s.dep := rfl
@[simp] theorem setInst_boot (s : State) (i : Nat) (k : KInst) : (setInst s i k).boot = s.boot := rfl
@[simp] theorem setInst_eth (s : State) (i : Nat) (k : KInst) : (setInst s i k).eth = s.eth := rfl
@[simp] theorem setInst_batten (s : State) (i : Nat) (k : KInst) : (setInst s i k).batten = s.batten := rfl
@[simp] theorem setInst_vid (s : State) (i : Nat) (k : KInst) : (setInst s i k).vid = s.vid := rfl
@[simp] theorem setInst_aud (s : State) (i : Nat) (k : KInst) : (setInst s i k).aud = s.aud := rfl

@[simp] theorem updInst_pending (s : State) (i : Nat) (f : KInst → KInst) : (updInst s i f).pending = s.pending := rfl
@[simp] theorem updInst_free (s : State) (i : Nat) (f : KInst → KInst) : (updInst s i f).free = s.free := rfl
@[simp] theorem updInst_host (s : State) (i : Nat) (f : KInst → KInst) : (updInst s i f).host = s.host := rfl
@[simp] theorem updInst_obj (s : State) (i : Nat) (f : KInst → KInst) : (updInst s i f).obj = s.obj := rfl
@[simp] theorem updInst_time (s : State) (i : Nat) (f : KInst → KInst) : (updInst s i f).time = s.time := rfl
@[simp] theorem updInst_mem (s : State) (i : Nat) (f : KInst → KInst) : (updInst s i f).mem = s.mem := rfl
@[simp] theorem updInst_dep (s : State) (i : Nat) (f : KInst → KInst) : (updInst s i f).dep = s.dep := rfl
@[simp] theorem updInst_boot (s : State) (i : Nat) (f : KInst → KInst) : (updInst s i f).boot = s.boot := rfl
@[simp] theorem updInst_eth (s : State) (i : Nat) (f : KInst → KInst) : (updInst s i f).eth = s.eth := rfl
@[simp] theorem updInst_batten (s : State) (i : Nat) (f : KInst → KInst) : (updInst s i f).batten = s.batten := rfl
@[simp] theorem updInst_vid (s : State) (i : Nat) (f : KInst → KInst) : (updInst s i f).vid = s.vid := rfl
@[simp] theorem updInst_aud (s : State) (i : Nat) (f : KInst → KInst) : (updInst s i f).aud = s.aud := rfl

@[simp] theorem bumpInst_pending (s : State) (i : Nat) (c : Ctr) : (bumpInst s i c).pending = s.pending := rfl
@[simp] theorem bumpInst_free (s : State) (i : Nat) (c : Ctr) : (bumpInst s i c).free = s.free := rfl
@[simp] theorem bumpInst_host (s : State) (i : Nat) (c : Ctr) : (bumpInst s i c).host = s.host := rfl
@[simp] theorem bumpInst_obj (s : State) (i : Nat) (c : Ctr) : (bumpInst s i c).obj = s.obj := rfl
@[simp] theorem bumpInst_time (s : State) (i : Nat) (c : Ctr) : (bumpInst s i c).time = s.time := rfl
@[simp] theorem bumpInst_mem (s : State) (i : Nat) (c : Ctr) : (bumpInst s i c).mem = s.mem := rfl
@[simp] theorem bumpInst_dep (s : State) (i : Nat) (c : Ctr) : (bumpInst s i c).dep = s.dep := rfl
@[simp] theorem bumpInst_boot (s : State) (i : Nat) (c : Ctr) : (bumpInst s i c).boot = s.boot := rfl
@[simp] theorem bumpInst_eth (s : State) (i : Nat) (c : Ctr) : (bumpInst s i c).eth = s.eth := rfl
@[simp] theorem bumpInst_batten (s : State) (i : Nat) (c : Ctr) : (bumpInst s i c).batten = s.batten := rfl
@[simp] theorem bumpInst_vid (s : State) (i : Nat) (c : Ctr) : (bumpInst s i c).vid = s.vid := rfl
@[simp] theorem bumpInst_aud (s : State) (i : Nat) (c : Ctr) : (bumpInst s i c).aud = s.aud := rfl

@[simp] theorem delInst_pending (s : State) (i : Nat) : (delInst s i).pending = s.pending := rfl
@[simp] theorem delInst_free (s : State) (i : Nat) : (delInst s i).free = s.free := rfl
@[simp] theorem delInst_host (s : State) (i : Nat) : (delInst s i).host = s.host := rfl
@[simp] theorem delInst_obj (s : State) (i : Nat) : (delInst s i).obj = s.obj := rfl
@[simp] theorem delInst_time (s : State) (i : Nat) : (delInst s i).time = s.time := rfl
@[simp] theorem delInst_mem (s : State) (i : Nat) : (delInst s i).mem = s.mem := rfl
@[simp] theorem delInst_dep (s : State) (i : Nat) : (delInst s i).dep = s.dep := rfl
@[simp] theorem delInst_boot (s : State) (i : Nat) : (delInst s i).boot = s.boot := rfl
@[simp] theorem delInst_eth (s : State) (i : Nat) : (delInst s i).eth = s.eth := rfl
@[simp] theorem delInst_batten (s : State) (i : Nat) : (delInst s i).batten = s.batten := rfl
@[simp] theorem delInst_vid (s : State) (i : Nat) : (delInst s i).vid = s.vid := rfl
@[simp] theorem delInst_aud (s : State) (i : Nat) : (delInst s i).aud = s.aud := rfl

/-! ## Updates of the part `aud` -/

@[simp] theorem setIn_pending (s : State) (k : Nat) (a : AudIn) : (setIn s k a).pending = s.pending := rfl
@[simp] theorem setIn_free (s : State) (k : Nat) (a : AudIn) : (setIn s k a).free = s.free := rfl
@[simp] theorem setIn_host (s : State) (k : Nat) (a : AudIn) : (setIn s k a).host = s.host := rfl
@[simp] theorem setIn_obj (s : State) (k : Nat) (a : AudIn) : (setIn s k a).obj = s.obj := rfl
@[simp] theorem setIn_time (s : State) (k : Nat) (a : AudIn) : (setIn s k a).time = s.time := rfl
@[simp] theorem setIn_mem (s : State) (k : Nat) (a : AudIn) : (setIn s k a).mem = s.mem := rfl
@[simp] theorem setIn_dep (s : State) (k : Nat) (a : AudIn) : (setIn s k a).dep = s.dep := rfl
@[simp] theorem setIn_boot (s : State) (k : Nat) (a : AudIn) : (setIn s k a).boot = s.boot := rfl
@[simp] theorem setIn_eth (s : State) (k : Nat) (a : AudIn) : (setIn s k a).eth = s.eth := rfl
@[simp] theorem setIn_batten (s : State) (k : Nat) (a : AudIn) : (setIn s k a).batten = s.batten := rfl
@[simp] theorem setIn_vid (s : State) (k : Nat) (a : AudIn) : (setIn s k a).vid = s.vid := rfl
@[simp] theorem setIn_dsp (s : State) (k : Nat) (a : AudIn) : (setIn s k a).dsp = s.dsp := rfl

@[simp] theorem setAPort_pending (s : State) (p : Nat) (a : APort) : (setAPort s p a).pending = s.pending := rfl
@[simp] theorem setAPort_free (s : State) (p : Nat) (a : APort) : (setAPort s p a).free = s.free := rfl
@[simp] theorem setAPort_host (s : State) (p : Nat) (a : APort) : (setAPort s p a).host = s.host := rfl
@[simp] theorem setAPort_obj (s : State) (p : Nat) (a : APort) : (setAPort s p a).obj = s.obj := rfl
@[simp] theorem setAPort_time (s : State) (p : Nat) (a : APort) : (setAPort s p a).time = s.time := rfl
@[simp] theorem setAPort_mem (s : State) (p : Nat) (a : APort) : (setAPort s p a).mem = s.mem := rfl
@[simp] theorem setAPort_dep (s : State) (p : Nat) (a : APort) : (setAPort s p a).dep = s.dep := rfl
@[simp] theorem setAPort_boot (s : State) (p : Nat) (a : APort) : (setAPort s p a).boot = s.boot := rfl
@[simp] theorem setAPort_eth (s : State) (p : Nat) (a : APort) : (setAPort s p a).eth = s.eth := rfl
@[simp] theorem setAPort_batten (s : State) (p : Nat) (a : APort) : (setAPort s p a).batten = s.batten := rfl
@[simp] theorem setAPort_vid (s : State) (p : Nat) (a : APort) : (setAPort s p a).vid = s.vid := rfl
@[simp] theorem setAPort_dsp (s : State) (p : Nat) (a : APort) : (setAPort s p a).dsp = s.dsp := rfl

@[simp] theorem bumpAPort_pending (s : State) (p : Nat) (c : Ctr) (n : Nat) : (bumpAPort s p c n).pending = s.pending := rfl
@[simp] theorem bumpAPort_free (s : State) (p : Nat) (c : Ctr) (n : Nat) : (bumpAPort s p c n).free = s.free := rfl
@[simp] theorem bumpAPort_host (s : State) (p : Nat) (c : Ctr) (n : Nat) : (bumpAPort s p c n).host = s.host := rfl
@[simp] theorem bumpAPort_obj (s : State) (p : Nat) (c : Ctr) (n : Nat) : (bumpAPort s p c n).obj = s.obj := rfl
@[simp] theorem bumpAPort_time (s : State) (p : Nat) (c : Ctr) (n : Nat) : (bumpAPort s p c n).time = s.time := rfl
@[simp] theorem bumpAPort_mem (s : State) (p : Nat) (c : Ctr) (n : Nat) : (bumpAPort s p c n).mem = s.mem := rfl
@[simp] theorem bumpAPort_dep (s : State) (p : Nat) (c : Ctr) (n : Nat) : (bumpAPort s p c n).dep = s.dep := rfl
@[simp] theorem bumpAPort_boot (s : State) (p : Nat) (c : Ctr) (n : Nat) : (bumpAPort s p c n).boot = s.boot := rfl
@[simp] theorem bumpAPort_eth (s : State) (p : Nat) (c : Ctr) (n : Nat) : (bumpAPort s p c n).eth = s.eth := rfl
@[simp] theorem bumpAPort_batten (s : State) (p : Nat) (c : Ctr) (n : Nat) : (bumpAPort s p c n).batten = s.batten := rfl
@[simp] theorem bumpAPort_vid (s : State) (p : Nat) (c : Ctr) (n : Nat) : (bumpAPort s p c n).vid = s.vid := rfl
@[simp] theorem bumpAPort_dsp (s : State) (p : Nat) (c : Ctr) (n : Nat) : (bumpAPort s p c n).dsp = s.dsp := rfl

/-! ## A read after a write -/

theorem getFn_setFn (s : State) (F G : Nat) (f : Func) : getFn (setFn s F f) G = if F = G then f else getFn s G := by
  simp only [getFn, setFn, Tab.getD, tab_get_set]; split <;> rfl

@[simp] theorem getFn_setFn_same (s : State) (F : Nat) (f : Func) : getFn (setFn s F f) F = f := by
  simp [getFn_setFn]

theorem getFn_setFn_other (s : State) {F G : Nat} (f : Func) (h : F ≠ G) : getFn (setFn s F f) G = getFn s G := by
  simp [getFn_setFn, h]

theorem getConf_setConf (s : State) (k l : Nat) (f : ConfDyn) : getConf (setConf s k f) l = if k = l then f else getConf s l := by
  simp only [getConf, setConf, Tab.getD, tab_get_set]; split <;> rfl

@[simp] theorem getConf_setConf_same (s : State) (k : Nat) (f : ConfDyn) : getConf (setConf s k f) k = f := by
  simp [getConf_setConf]

theorem getConf_setConf_other (s : State) {k l : Nat} (f : ConfDyn) (h : k ≠ l) : getConf (setConf s k f) l = getConf s l := by
  simp [getConf_setConf, h]

theorem getLeg_setLeg (s : State) (k l : Nat) (f : LegDyn) : getLeg (setLeg s k f) l = if k = l then f else getLeg s l := by
  simp only [getLeg, setLeg, Tab.getD, tab_get_set]; split <;> rfl

@[simp] theorem getLeg_setLeg_same (s : State) (k : Nat) (f : LegDyn) : getLeg (setLeg s k f) k = f := by
  simp [getLeg_setLeg]

theorem getLeg_setLeg_other (s : State) {k l : Nat} (f : LegDyn) (h : k ≠ l) : getLeg (setLeg s k f) l = getLeg s l := by
  simp [getLeg_setLeg, h]

theorem getStream_setStream (s : State) (k l : Nat) (f : StreamDyn) : getStream (setStream s k f) l = if k = l then f else getStream s l := by
  simp only [getStream, setStream, Tab.getD, tab_get_set]; split <;> rfl

@[simp] theorem getStream_setStream_same (s : State) (k : Nat) (f : StreamDyn) : getStream (setStream s k f) k = f := by
  simp [getStream_setStream]

theorem getStream_setStream_other (s : State) {k l : Nat} (f : StreamDyn) (h : k ≠ l) : getStream (setStream s k f) l = getStream s l := by
  simp [getStream_setStream, h]

theorem getRung_setRung (s : State) (k l : Nat) (f : RungDyn) : getRung (setRung s k f) l = if k = l then f else getRung s l := by
  simp only [getRung, setRung, Tab.getD, tab_get_set]; split <;> rfl

@[simp] theorem getRung_setRung_same (s : State) (k : Nat) (f : RungDyn) : getRung (setRung s k f) k = f := by
  simp [getRung_setRung]

theorem getRung_setRung_other (s : State) {k l : Nat} (f : RungDyn) (h : k ≠ l) : getRung (setRung s k f) l = getRung s l := by
  simp [getRung_setRung, h]

theorem getLayer_setLayer (s : State) (k l : Nat) (f : LayerDyn) : getLayer (setLayer s k f) l = if k = l then f else getLayer s l := by
  simp only [getLayer, setLayer, Tab.getD, tab_get_set]; split <;> rfl

@[simp] theorem getLayer_setLayer_same (s : State) (k : Nat) (f : LayerDyn) : getLayer (setLayer s k f) k = f := by
  simp [getLayer_setLayer]

theorem getLayer_setLayer_other (s : State) {k l : Nat} (f : LayerDyn) (h : k ≠ l) : getLayer (setLayer s k f) l = getLayer s l := by
  simp [getLayer_setLayer, h]

theorem getLayout_setLayout (s : State) (k l : Nat) (f : LayoutDyn) : getLayout (setLayout s k f) l = if k = l then f else getLayout s l := by
  simp only [getLayout, setLayout, Tab.getD, tab_get_set]; split <;> rfl

@[simp] theorem getLayout_setLayout_same (s : State) (k : Nat) (f : LayoutDyn) : getLayout (setLayout s k f) k = f := by
  simp [getLayout_setLayout]

theorem getLayout_setLayout_other (s : State) {k l : Nat} (f : LayoutDyn) (h : k ≠ l) : getLayout (setLayout s k f) l = getLayout s l := by
  simp [getLayout_setLayout, h]

theorem getPort_setPort (s : State) (k l : Nat) (f : EthPort) : getPort (setPort s k f) l = if k = l then f else getPort s l := by
  simp only [getPort, setPort, Tab.getD, tab_get_set]; split <;> rfl

@[simp] theorem getPort_setPort_same (s : State) (k : Nat) (f : EthPort) : getPort (setPort s k f) k = f := by
  simp [getPort_setPort]

theorem getPort_setPort_other (s : State) {k l : Nat} (f : EthPort) (h : k ≠ l) : getPort (setPort s k f) l = getPort s l := by
  simp [getPort_setPort, h]

theorem getQ_setQ (s : State) (k l : Nat) (f : Queue) : getQ (setQ s k f) l = if k = l then f else getQ s l := by
  simp only [getQ, setQ, Tab.getD, tab_get_set]; split <;> rfl

@[simp] theorem getQ_setQ_same (s : State) (k : Nat) (f : Queue) : getQ (setQ s k f) k = f := by
  simp [getQ_setQ]

theorem getQ_setQ_other (s : State) {k l : Nat} (f : Queue) (h : k ≠ l) : getQ (setQ s k f) l = getQ s l := by
  simp [getQ_setQ, h]

theorem getGroup_setGroup (s : State) (k l : Nat) (f : Group) : getGroup (setGroup s k f) l = if k = l then f else getGroup s l := by
  simp only [getGroup, setGroup, Tab.getD, tab_get_set]; split <;> rfl

@[simp] theorem getGroup_setGroup_same (s : State) (k : Nat) (f : Group) : getGroup (setGroup s k f) k = f := by
  simp [getGroup_setGroup]

theorem getGroup_setGroup_other (s : State) {k l : Nat} (f : Group) (h : k ≠ l) : getGroup (setGroup s k f) l = getGroup s l := by
  simp [getGroup_setGroup, h]

theorem getEng_setEng (s : State) (k l : Nat) (f : Engine) : getEng (setEng s k f) l = if k = l then f else getEng s l := by
  simp only [getEng, setEng, Tab.getD, tab_get_set]; split <;> rfl

@[simp] theorem getEng_setEng_same (s : State) (k : Nat) (f : Engine) : getEng (setEng s k f) k = f := by
  simp [getEng_setEng]

theorem getEng_setEng_other (s : State) {k l : Nat} (f : Engine) (h : k ≠ l) : getEng (setEng s k f) l = getEng s l := by
  simp [getEng_setEng, h]

theorem getCore_setCore (s : State) (k l : Nat) (f : Core) : getCore (setCore s k f) l = if k = l then f else getCore s l := by
  simp only [getCore, setCore, Tab.getD, tab_get_set]; split <;> rfl

@[simp] theorem getCore_setCore_same (s : State) (k : Nat) (f : Core) : getCore (setCore s k f) k = f := by
  simp [getCore_setCore]

theorem getCore_setCore_other (s : State) {k l : Nat} (f : Core) (h : k ≠ l) : getCore (setCore s k f) l = getCore s l := by
  simp [getCore_setCore, h]

theorem getIn_setIn (s : State) (k l : Nat) (f : AudIn) : getIn (setIn s k f) l = if k = l then f else getIn s l := by
  simp only [getIn, setIn, Tab.getD, tab_get_set]; split <;> rfl

@[simp] theorem getIn_setIn_same (s : State) (k : Nat) (f : AudIn) : getIn (setIn s k f) k = f := by
  simp [getIn_setIn]

theorem getIn_setIn_other (s : State) {k l : Nat} (f : AudIn) (h : k ≠ l) : getIn (setIn s k f) l = getIn s l := by
  simp [getIn_setIn, h]

theorem getAPort_setAPort (s : State) (k l : Nat) (f : APort) : getAPort (setAPort s k f) l = if k = l then f else getAPort s l := by
  simp only [getAPort, setAPort, Tab.getD, tab_get_set]; split <;> rfl

@[simp] theorem getAPort_setAPort_same (s : State) (k : Nat) (f : APort) : getAPort (setAPort s k f) k = f := by
  simp [getAPort_setAPort]

theorem getAPort_setAPort_other (s : State) {k l : Nat} (f : APort) (h : k ≠ l) : getAPort (setAPort s k f) l = getAPort s l := by
  simp [getAPort_setAPort, h]

/-- The object table after a change of one object. -/
theorem getObj_updObj (s : State) (k l : Nat) (g : Obj → Obj) :
    getObj (updObj s k g) l = if k = l then (getObj s l).map g else getObj s l := tab_get_upd _ _ _ _

theorem getInst_setInst (s : State) (k l : Nat) (x : KInst) :
    getInst (setInst s k x) l = if k = l then some x else getInst s l := tab_get_set _ _ _ _

theorem getInst_updInst (s : State) (k l : Nat) (g : KInst → KInst) :
    getInst (updInst s k g) l = if k = l then (getInst s l).map g else getInst s l := tab_get_upd _ _ _ _

@[simp] theorem getMb_setMb_same (s : State) (F : Nat) (m : Mb) (b : Mbox) : getMb (setMb s F m b) F m = b := by
  cases m <;> simp [getMb, setMb, updFn, Func.mbox, Func.setMbox]

/-- The other mailbox of the function stays. -/
theorem getMb_setMb_other (s : State) (F : Nat) {m n : Mb} (b : Mbox) (h : m ≠ n) : getMb (setMb s F m b) F n = getMb s F n := by
  cases m <;> cases n <;> simp_all [getMb, setMb, updFn, Func.mbox, Func.setMbox]

/-! ## What `keep` holds -/

@[simp] theorem keep_pending (s t : State) : (keep s t).pending = s.pending := rfl
@[simp] theorem keep_flash (s t : State) : (keep s t).boot.flash = s.boot.flash := rfl
@[simp] theorem keep_porstLow (s t : State) : (keep s t).boot.porstLow = s.boot.porstLow := rfl
@[simp] theorem keep_free (s t : State) : (keep s t).free = t.free := rfl
@[simp] theorem keep_host (s t : State) : (keep s t).host = t.host := rfl
@[simp] theorem keep_obj (s t : State) : (keep s t).obj = t.obj := rfl
@[simp] theorem keep_time (s t : State) : (keep s t).time = t.time := rfl
@[simp] theorem keep_mem (s t : State) : (keep s t).mem = t.mem := rfl
@[simp] theorem keep_dep (s t : State) : (keep s t).dep = t.dep := rfl
@[simp] theorem keep_eth (s t : State) : (keep s t).eth = t.eth := rfl
@[simp] theorem keep_batten (s t : State) : (keep s t).batten = t.batten := rfl
@[simp] theorem keep_vid (s t : State) : (keep s t).vid = t.vid := rfl
@[simp] theorem keep_dsp (s t : State) : (keep s t).dsp = t.dsp := rfl
@[simp] theorem keep_aud (s t : State) : (keep s t).aud = t.aud := rfl

/-! ## Free values -/

/-- Drawing a free value advances the count and nothing else. -/
theorem takeFree_snd (tag w : Nat) (s : State) : (takeFree tag w s).2 = { s with free := s.free + 1 } := rfl

theorem takeFree_lt (tag w : Nat) (s : State) : (takeFree tag w s).1 < 2 ^ w := Nat.mod_lt _ (Nat.two_pow_pos w)

/-! ## The delivery of events (R707 to R715) -/

/-- A delivered record changes function records and nothing else. -/
theorem deliver_frame (r : EvRec) (F : Nat) (s : State) : ∃ f, deliver r F s = setFn s F f := by
  simp only [deliver]; split <;> exact ⟨_, rfl⟩

/-- A written event changes the table of functions and nothing else. -/
theorem emit_frame (d : Dest) (typ handle : Nat) (pay : Bytes) (s : State) :
    ∃ t, emit d typ handle pay s = { s with host := { s.host with fns := t } } := by
  unfold emit
  generalize destFns s d = fs
  generalize ({ typ := typ, handle := handle, mt := now s, payload := padTo 16 pay } : EvRec) = r
  induction fs generalizing s with
  | nil => exact ⟨s.host.fns, rfl⟩
  | cons F fs ih =>
    obtain ⟨f, hf⟩ := deliver_frame r F s
    obtain ⟨t, ht⟩ := ih (deliver r F s)
    exact ⟨t, by rw [List.foldl_cons, ht, hf]; rfl⟩

/-- An event about an object changes the table of functions and nothing else. -/
theorem emitObj_frame (s : State) (k typ : Nat) (pay : Bytes) :
    ∃ t, emitObj s k typ pay = { s with host := { s.host with fns := t } } := by
  unfold emitObj; split
  · exact emit_frame _ _ _ _ _
  · exact ⟨s.host.fns, rfl⟩

@[simp] theorem emit_pending (d : Dest) (typ handle : Nat) (pay : Bytes) (s : State) : (emit d typ handle pay s).pending = s.pending := by
  obtain ⟨t, h⟩ := emit_frame d typ handle pay s; rw [h]
@[simp] theorem emitObj_pending (s : State) (k typ : Nat) (pay : Bytes) : (emitObj s k typ pay).pending = s.pending := by
  obtain ⟨t, h⟩ := emitObj_frame s k typ pay; rw [h]
@[simp] theorem emit_free (d : Dest) (typ handle : Nat) (pay : Bytes) (s : State) : (emit d typ handle pay s).free = s.free := by
  obtain ⟨t, h⟩ := emit_frame d typ handle pay s; rw [h]
@[simp] theorem emitObj_free (s : State) (k typ : Nat) (pay : Bytes) : (emitObj s k typ pay).free = s.free := by
  obtain ⟨t, h⟩ := emitObj_frame s k typ pay; rw [h]
@[simp] theorem emit_obj (d : Dest) (typ handle : Nat) (pay : Bytes) (s : State) : (emit d typ handle pay s).obj = s.obj := by
  obtain ⟨t, h⟩ := emit_frame d typ handle pay s; rw [h]
@[simp] theorem emitObj_obj (s : State) (k typ : Nat) (pay : Bytes) : (emitObj s k typ pay).obj = s.obj := by
  obtain ⟨t, h⟩ := emitObj_frame s k typ pay; rw [h]
@[simp] theorem emit_time (d : Dest) (typ handle : Nat) (pay : Bytes) (s : State) : (emit d typ handle pay s).time = s.time := by
  obtain ⟨t, h⟩ := emit_frame d typ handle pay s; rw [h]
@[simp] theorem emitObj_time (s : State) (k typ : Nat) (pay : Bytes) : (emitObj s k typ pay).time = s.time := by
  obtain ⟨t, h⟩ := emitObj_frame s k typ pay; rw [h]
@[simp] theorem emit_mem (d : Dest) (typ handle : Nat) (pay : Bytes) (s : State) : (emit d typ handle pay s).mem = s.mem := by
  obtain ⟨t, h⟩ := emit_frame d typ handle pay s; rw [h]
@[simp] theorem emitObj_mem (s : State) (k typ : Nat) (pay : Bytes) : (emitObj s k typ pay).mem = s.mem := by
  obtain ⟨t, h⟩ := emitObj_frame s k typ pay; rw [h]
@[simp] theorem emit_dep (d : Dest) (typ handle : Nat) (pay : Bytes) (s : State) : (emit d typ handle pay s).dep = s.dep := by
  obtain ⟨t, h⟩ := emit_frame d typ handle pay s; rw [h]
@[simp] theorem emitObj_dep (s : State) (k typ : Nat) (pay : Bytes) : (emitObj s k typ pay).dep = s.dep := by
  obtain ⟨t, h⟩ := emitObj_frame s k typ pay; rw [h]
@[simp] theorem emit_boot (d : Dest) (typ handle : Nat) (pay : Bytes) (s : State) : (emit d typ handle pay s).boot = s.boot := by
  obtain ⟨t, h⟩ := emit_frame d typ handle pay s; rw [h]
@[simp] theorem emitObj_boot (s : State) (k typ : Nat) (pay : Bytes) : (emitObj s k typ pay).boot = s.boot := by
  obtain ⟨t, h⟩ := emitObj_frame s k typ pay; rw [h]
@[simp] theorem emit_eth (d : Dest) (typ handle : Nat) (pay : Bytes) (s : State) : (emit d typ handle pay s).eth = s.eth := by
  obtain ⟨t, h⟩ := emit_frame d typ handle pay s; rw [h]
@[simp] theorem emitObj_eth (s : State) (k typ : Nat) (pay : Bytes) : (emitObj s k typ pay).eth = s.eth := by
  obtain ⟨t, h⟩ := emitObj_frame s k typ pay; rw [h]
@[simp] theorem emit_batten (d : Dest) (typ handle : Nat) (pay : Bytes) (s : State) : (emit d typ handle pay s).batten = s.batten := by
  obtain ⟨t, h⟩ := emit_frame d typ handle pay s; rw [h]
@[simp] theorem emitObj_batten (s : State) (k typ : Nat) (pay : Bytes) : (emitObj s k typ pay).batten = s.batten := by
  obtain ⟨t, h⟩ := emitObj_frame s k typ pay; rw [h]
@[simp] theorem emit_vid (d : Dest) (typ handle : Nat) (pay : Bytes) (s : State) : (emit d typ handle pay s).vid = s.vid := by
  obtain ⟨t, h⟩ := emit_frame d typ handle pay s; rw [h]
@[simp] theorem emitObj_vid (s : State) (k typ : Nat) (pay : Bytes) : (emitObj s k typ pay).vid = s.vid := by
  obtain ⟨t, h⟩ := emitObj_frame s k typ pay; rw [h]
@[simp] theorem emit_dsp (d : Dest) (typ handle : Nat) (pay : Bytes) (s : State) : (emit d typ handle pay s).dsp = s.dsp := by
  obtain ⟨t, h⟩ := emit_frame d typ handle pay s; rw [h]
@[simp] theorem emitObj_dsp (s : State) (k typ : Nat) (pay : Bytes) : (emitObj s k typ pay).dsp = s.dsp := by
  obtain ⟨t, h⟩ := emitObj_frame s k typ pay; rw [h]
@[simp] theorem emit_aud (d : Dest) (typ handle : Nat) (pay : Bytes) (s : State) : (emit d typ handle pay s).aud = s.aud := by
  obtain ⟨t, h⟩ := emit_frame d typ handle pay s; rw [h]
@[simp] theorem emitObj_aud (s : State) (k typ : Nat) (pay : Bytes) : (emitObj s k typ pay).aud = s.aud := by
  obtain ⟨t, h⟩ := emitObj_frame s k typ pay; rw [h]

/-! ## The completion of a command (R691, R695) -/

/-- Completion changes the functions' records and the list of replayed commands, nothing else. -/
theorem completeMb_frame (F : Nat) (m : Mb) (st : Status) (out : Bytes) (s : State) :
    ∃ t, completeMb F m st out s
      = { s with host := { s.host with fns := t, replay := s.host.replay.filter fun e => e ≠ (F, m) } } := by
  have key : ∀ (d : Dest) (ty h : Nat) (p : Bytes) (u : State),
      (∃ t, u = { s with host := { s.host with fns := t, replay := s.host.replay.filter fun e => e ≠ (F, m) } }) →
      ∃ t, emit d ty h p u
        = { s with host := { s.host with fns := t, replay := s.host.replay.filter fun e => e ≠ (F, m) } } := by
    rintro d ty h p _ ⟨t, rfl⟩
    obtain ⟨t', ht⟩ := emit_frame d ty h p
      { s with host := { s.host with fns := t, replay := s.host.replay.filter fun e => e ≠ (F, m) } }
    exact ⟨t', ht⟩
  simp only [completeMb]
  by_cases hb : bitOf (getMb s F m).flags 0 = true
  · rw [if_pos hb]
    exact key _ _ _ _ _ ⟨_, rfl⟩
  · rw [if_neg hb]
    exact ⟨_, rfl⟩

@[simp] theorem completeMb_pending (F : Nat) (m : Mb) (st : Status) (out : Bytes) (s : State) : (completeMb F m st out s).pending = s.pending := by
  obtain ⟨t, h⟩ := completeMb_frame F m st out s; rw [h]
@[simp] theorem completeMb_free (F : Nat) (m : Mb) (st : Status) (out : Bytes) (s : State) : (completeMb F m st out s).free = s.free := by
  obtain ⟨t, h⟩ := completeMb_frame F m st out s; rw [h]
@[simp] theorem completeMb_obj (F : Nat) (m : Mb) (st : Status) (out : Bytes) (s : State) : (completeMb F m st out s).obj = s.obj := by
  obtain ⟨t, h⟩ := completeMb_frame F m st out s; rw [h]
@[simp] theorem completeMb_time (F : Nat) (m : Mb) (st : Status) (out : Bytes) (s : State) : (completeMb F m st out s).time = s.time := by
  obtain ⟨t, h⟩ := completeMb_frame F m st out s; rw [h]
@[simp] theorem completeMb_mem (F : Nat) (m : Mb) (st : Status) (out : Bytes) (s : State) : (completeMb F m st out s).mem = s.mem := by
  obtain ⟨t, h⟩ := completeMb_frame F m st out s; rw [h]
@[simp] theorem completeMb_dep (F : Nat) (m : Mb) (st : Status) (out : Bytes) (s : State) : (completeMb F m st out s).dep = s.dep := by
  obtain ⟨t, h⟩ := completeMb_frame F m st out s; rw [h]
@[simp] theorem completeMb_boot (F : Nat) (m : Mb) (st : Status) (out : Bytes) (s : State) : (completeMb F m st out s).boot = s.boot := by
  obtain ⟨t, h⟩ := completeMb_frame F m st out s; rw [h]
@[simp] theorem completeMb_eth (F : Nat) (m : Mb) (st : Status) (out : Bytes) (s : State) : (completeMb F m st out s).eth = s.eth := by
  obtain ⟨t, h⟩ := completeMb_frame F m st out s; rw [h]
@[simp] theorem completeMb_batten (F : Nat) (m : Mb) (st : Status) (out : Bytes) (s : State) : (completeMb F m st out s).batten = s.batten := by
  obtain ⟨t, h⟩ := completeMb_frame F m st out s; rw [h]
@[simp] theorem completeMb_vid (F : Nat) (m : Mb) (st : Status) (out : Bytes) (s : State) : (completeMb F m st out s).vid = s.vid := by
  obtain ⟨t, h⟩ := completeMb_frame F m st out s; rw [h]
@[simp] theorem completeMb_dsp (F : Nat) (m : Mb) (st : Status) (out : Bytes) (s : State) : (completeMb F m st out s).dsp = s.dsp := by
  obtain ⟨t, h⟩ := completeMb_frame F m st out s; rw [h]
@[simp] theorem completeMb_aud (F : Nat) (m : Mb) (st : Status) (out : Bytes) (s : State) : (completeMb F m st out s).aud = s.aud := by
  obtain ⟨t, h⟩ := completeMb_frame F m st out s; rw [h]

end Sys2Proof.Laws
end

