-- ==== Sys2Proof/Tests/Slice0.lean ====
section
/-!
SUPPORT. The model's own tests. For every statement that has hypotheses a theorem wit_<its name> shows states and operands that
meet them, clause by clause; the checks of WellFormed refuse a command that breaks each; worked examples of the spec.
-/

namespace Sys2Proof.Tests

open Sys2Proof Sys2Proof.Machine

set_option maxRecDepth 100000

-- The tests evaluate one after another, so that the check needs the memory of one.
set_option Elab.async false

/-! ## Fixtures -/

/-- Quotas with room for everything the tests make. -/
def roomy : Tab Int :=
  [(fk 0x10 0 0, 64), (fk 0x10 1 0, 8), (fk 0x10 1 1, 8), (fk 0x10 1 2, 8), (fk 0x10 2 0, 16), (fk 0x10 2 1, 8), (fk 0x10 2 2, 64)
   , (fk 0x10 2 3, 64), (fk 0x10 3 0, 16), (fk 0x10 3 1, 16), (fk 0x10 4 0, 2), (fk 0x10 4 1, 2), (fk 0x10 4 2, 2), (fk 0x10 5 0, 8)
   , (fk 0x10 5 1, 4), (fk 0x10 6 0, 2147483648)] ++ (List.range 9).map (fun i => (fk 0x10 7 i, 1000000))
   ++ [(fk 0x10 8 0, 18446744073709551615), (fk 0x10 9 0, 100000000), (fk 0x10 9 1, 65536), (fk 0x10 9 2, 50000)]

/-- A running device: READY, interface version 1.0 declared by functions 0 and 1; function 0 is the owner and of partition 0,
function 1 of partition 1. -/
def up : State := { State.reset with
  boot := { State.reset.boot with porstLow := false }
  host := { State.reset.host with
    dev := .ready, version := 0x10000
    fns := [(0, { iface := 0x10000, part := some 0 }), (1, { iface := 0x10000, part := some 1 })] }
  obj := { parts := [(0, { gen := 1, quota := roomy }), (1, { gen := 1, quota := roomy })] } }

/-- The state with the command `op` of function `F` with payload `p` waiting in its mailbox. -/
def posted (op F : Nat) (p : Bytes) (s : State) : State :=
  setMb s F .admin { state := .pending, op := op, pay := p, len := p.length }

/-- The mailbox that `posted` uses. -/
abbrev box (F : Nat) : Src := .mbox F .admin

/-- A command posted by function 0 is next to be served. -/
abbrev next (op : Nat) (p : Bytes) (s : State) : Bool := upNext op (box 0) 0 p (posted op 0 p s)

/-- One field entry. -/
def ent (k : Nat) (v : Int) : Bytes := toLe 3 k ++ zeros 5 ++ toLeI 8 v

/-- The handle of object `i` of type `t`, first generation. -/
abbrev hd (t i : Nat) : Nat := mkHandle t 1 i

/-- A descriptor: the upper left 640 by 360 of the received video stream of `house` at the origin, unscaled, depth z. -/
def aDesc (z : Nat) : Nat := z + hd 4 0 * 2 ^ 64 + 640 * 2 ^ 224 + 360 * 2 ^ 240 + 640 * 2 ^ 288 + 360 * 2 ^ 304

/-- A conference, a leg, a received decoded video stream, an outgoing and a received audio stream, a layout, a layer and a rung,
all of partition 0 and in state `st`. -/
def house (st : ObjSt) (s : State) : State := { s with obj := { s.obj with objs := [
  (okey 2 0, { gen := 1, parent := hd 1 0, state := st }),
  (okey 3 0, { gen := 1, parent := hd 2 0, state := st }),
  (okey 4 0, { gen := 1, parent := hd 3 0, state := st, fields := [(fk 0x04 0 0, 0), (fk 0x04 1 0, 1), (fk 0x05 0 0, 1)] }),
  (okey 4 1, { gen := 1, parent := hd 3 0, state := st, fields := [(fk 0x04 0 0, 1), (fk 0x04 1 0, 1), (fk 0x04 2 0, 1), (fk 0x04 3 0, 77)] }),
  (okey 4 2, { gen := 1, parent := hd 3 0, state := st, fields := [(fk 0x04 0 0, 0), (fk 0x04 1 0, 0)] }),
  (okey 5 0, { gen := 1, parent := hd 2 0, state := st }),
  (okey 6 0, { gen := 1, parent := hd 5 0, state := st }),
  (okey 7 0, { gen := 1, parent := hd 5 0, state := st, fields := [(fk 0x0A 1 0, 2), (fk 0x0A 3 0, 1280), (fk 0x0A 4 0, 720)] })], layers := [(okey 6 0, { desc := aDesc 0 })] } }

/-- The next function answers a next state with `P`. -/
def goes (r : Out) (P : State → Bool) : Bool :=
  match r with
  | .next t => P t
  | _ => false


/-! ## Objects (chapters 1 and 15) -/

/-- The hypotheses of CreateMakesAnIdleObject. -/
def createMeets (s : State) (F ty i : Nat) (p : Bytes) : Bool :=
  match parentOf F ty (le p 0 4) s with
  | .error _ => false
  | .ok (pt, par) =>
    let es := if ty = 6 then [] else entries p 8 (le p 6 2)
    let tab := applyEntries [] es
    let k := okey ty i
    let t0 := future s
    let fixed := if ty = 2 then false else if 6 ≤ ty then isFixed t0 (hKey par) else le p 4 1 == 1
    let t := addObject k (nextGen (Tab.get s.obj.gens k)) pt par fixed (bitOf (le p 5 1) 0) (newFields ty (hKey par) tab t0)
      (if ty = 6 then le p 8 64 else 0) t0
    upNext (lifeOp ty 0) (box F) F p s && lowestFree ((objKeys s ty).map fun k => k % 1048576) 0 (typeMax ty) == some i &&
      (lowest (entryChecks es (holdsKey ty (fld tab (fk 0x04 0 0) == 1) (fld tab (fk 0x04 1 0) == 1)))).isNone &&
      decide (le p 5 1 < 2) && decide (ty = 2 ∨ 6 ≤ ty ∨ le p 4 1 < 2) && decide (ty = 2 ∨ stateOf s (hKey par) ≠ .draining) &&
      (lowest (typeChecks t0 t k)).isNone && (!(bitOf (le p 5 1) 0) || fixed)

/-- CREATE of a type under a parent, fixed and critical or not, with entries. -/
def mk (parent cls fl : Nat) (es : List Bytes) : Bytes :=
  toLe 4 parent ++ toLe 1 cls ++ toLe 1 fl ++ toLe 2 es.length ++ es.flatten

theorem wit_CreateMakesAnIdleObject :
    createMeets (posted 0x0400 0 (mk 0 0 0 []) up) 0 2 0 (mk 0 0 0 []) = true ∧
    createMeets (posted 0x0500 0 (mk (hd 2 0) 1 1 []) (house .idle up)) 0 3 1 (mk (hd 2 0) 1 1 []) = true ∧
    createMeets (posted 0x0600 0 (mk (hd 3 0) 0 0 [ent (fk 0x04 0 0) 0, ent (fk 0x04 1 0) 0]) (house .idle up)) 0 4 3
      (mk (hd 3 0) 0 0 [ent (fk 0x04 0 0) 0, ent (fk 0x04 1 0) 0]) = true ∧
    createMeets (posted 0x0700 0 (mk (hd 2 0) 1 0 []) (house .idle up)) 0 5 1 (mk (hd 2 0) 1 0 []) = true ∧
    createMeets (posted 0x0800 0 (mk (hd 5 0) 0 0 [] ++ toLe 64 (aDesc 1)) (house .idle up)) 0 6 1 (mk (hd 5 0) 0 0 [] ++ toLe 64 (aDesc 1)) = true ∧
    createMeets (posted 0x0900 0 (mk (hd 5 0) 0 0 []) (house .idle up)) 0 7 1 (mk (hd 5 0) 0 0 []) = true := by
  decide +kernel

/-- The payload that names a handle. -/
def named4 (h : Nat) : Bytes := toLe 4 h ++ zeros 4

/-- Types with the object of each that `house` has. -/
def aObj (ty : Nat) : Nat := okey ty 0
def tys : List Nat := [2, 3, 4, 5, 6, 7]

/-- HOLD of an ACTIVE and of an IDLE object, DELETE of one without children, with children and DRAINING, READ. -/
theorem wit_HoldDeleteAndRead :
    (tys.all fun ty => next (lifeOp ty 3) (named4 (hd ty 0)) (house .active up)
      && resolve (posted (lifeOp ty 3) 0 (named4 (hd ty 0)) (house .active up)) 0 ty (hd ty 0) == some (aObj ty)
      && (getObj (house .active up) (aObj ty)).map Obj.willBe == some .active) = true ∧
    (tys.all fun ty => next (lifeOp ty 3) (named4 (hd ty 0)) (house .idle up)
      && (getObj (house .idle up) (aObj ty)).map Obj.willBe == some .idle) = true ∧
    ([4, 6, 7].all fun ty => next (lifeOp ty 4) (named4 (hd ty 0)) (house .held up) && children (house .held up) (aObj ty) == []) = true ∧
    ([2, 3, 5].all fun ty => next (lifeOp ty 4) (named4 (hd ty 0)) (house .held up) && children (house .held up) (aObj ty) != []) = true ∧
    (tys.all fun ty => next (lifeOp ty 4) (named4 (hd ty 0)) (house .draining up)) = true ∧
    (tys.all fun ty => next (lifeOp ty 5) (named4 (hd ty 0)) (house .faulted up)) = true := by
  decide +kernel

/-- The same objects, every one that can be fixed is; each holds an empty reservation on instance 0 of every kind, where admission
then places it. -/
def fixedHouse (s : State) : State := { s with obj := { s.obj with
  objs := s.obj.objs.map fun e => (e.1, { e.2 with
    fixed := e.1 / 1048576 != 2, resv := [1, 2, 3, 4].map fun c => { code := c, inst := 0, amt := 0 } }) } }

/-- Whether the first activation of the type's object passes the checks before admission, and what admission answers: 1 accepted,
2 refused. -/
def asks (ty : Nat) (s0 : State) : Nat :=
  let s := posted (lifeOp ty 2) 0 (named4 (hd ty 0)) s0
  match getObj (future s) (aObj ty) with
  | none => 0
  | some o =>
    match allotAs (aObj ty) { o with fixed := o.fixed } s with
    | .error _ => 0
    | .ok s1 =>
      if upNext (lifeOp ty 2) (box 0) 0 (named4 (hd ty 0)) s && resolve s 0 ty (hd ty 0) == some (aObj ty) && !o.revoked
          && (ty != 3 || ringOutside (future s) (aObj ty) == none)
          && (ty != 4 || isVideo (future s1) (aObj ty)) then
        if !o.fixed then 1
        else
          match admitInto [aObj ty] (future s1) s1 with
          | .ok _ => 1
          | .error _ => 2
      else 0

/-- A floating first activation, a fixed one accepted, a fixed one refused; one from HELD and from FAULTED; one too late. -/
theorem wit_ActivateAsksAdmission :
    (tys.all fun ty => asks ty (house .idle up) == 1 && asks ty (house .held up) == 1 && asks ty (house .faulted up) == 1) = true ∧
    ([3, 4, 6, 7].all fun ty => asks ty (fixedHouse (house .idle up)) == 1) = true ∧
    ([3].all fun ty => asks ty (fixedHouse (house .idle { up with obj := { parts := [(0, { gen := 1 })] } })) == 2) = true ∧
    (tys.all fun ty => next (lifeOp ty 2) (named4 (hd ty 0)) (house .active up)
      && next (lifeOp ty 2) (named4 (hd ty 0)) (house .draining up)) = true := by
  decide +kernel

/-- The hypotheses of ModifyWaitsForTheBoundary. -/
def modifyMeets (ty : Nat) (p : Bytes) (s0 : State) : Bool :=
  let s := posted (lifeOp ty 1) 0 p s0
  let k := aObj ty
  match getObj (future s) k with
  | none => false
  | some o =>
    let ents := if ty = 6 then [] else entries p 8 (le p 6 2)
    let es := if ty = 7 then rungEntries (applyEntries [] ents) else applyEntries [] ents
    let t1 := updObj (future s) k fun o => o.act (.modify es none none (bitOf (le p 5 1) 2))
    let t := if ty = 6 then setLayer t1 k { getLayer t1 k with desc := le p 8 64 } else t1
    upNext (lifeOp ty 1) (box 0) 0 p s && resolve s 0 ty (le p 0 4) == some k && !o.revoked && !o.fixed && o.state != .active
      && o.state != .draining && (lowest (entryChecks ents (holdsKey ty (isOut s k) (isVideo s k)))).isNone && decide (le p 5 1 < 8)
      && !(bitOf (le p 5 1) 1) && (ents.all fun e => !(((fieldSpec e.key).map (·.fixed)).getD false))
      && decide (3 ≤ ty → ty ≤ 5 → le p 4 1 = 0xFF ∨ le p 4 1 = 0) && (lowest (typeChecks (future s) t k)).isNone
      && (lowest (critChecks t [k])).isNone && recheck t k es == []

/-- A field of each type at a boundary of its range, class unchanged or named; a layer's descriptor. -/
theorem wit_ModifyWaitsForTheBoundary :
    modifyMeets 2 (mk (hd 2 0) 0 0 [ent (fk 0x08 1 0) 8]) (house .idle up) = true ∧
    modifyMeets 3 (mk (hd 3 0) 0xFF 0 [ent (fk 0x01 1 0) 7]) (house .held up) = true ∧
    modifyMeets 4 (mk (hd 4 0) 0 4 [ent (fk 0x04 2 0) 0]) (house .faulted up) = true ∧
    modifyMeets 5 (mk (hd 5 0) 0xFF 0 [ent (fk 0x09 1 0) 1920]) (house .idle up) = true ∧
    modifyMeets 6 (mk (hd 6 0) 0 0 [] ++ toLe 64 (aDesc 15)) (house .held up) = true ∧
    modifyMeets 7 (mk (hd 7 0) 0 0 [ent (fk 0x0A 13 0) 48]) (house .idle up) = true := by
  decide +kernel

/-- Every life-cycle command answers a next state; a change to HELD that is due. -/
theorem wit_AcceptedChangesWait :
    (tys.all fun ty => [createOf ty (box 0), modifyOf ty (box 0), activateOf ty (box 0), holdOf ty (box 0), readOf ty (box 0),
      deleteOf ty (box 0)].all fun c => goes (exec c (house .active up)) fun t => (getObj t (aObj ty)).isSome) = true ∧
    (getObj (updObj (house .active up) (aObj 3) fun o => { o with pend := [{ act := .state .held, due := 5 }] }) (aObj 3)).map (·.pend)
      = some [{ act := .state .held, due := 5 }] := by
  decide +kernel

/-! ## Time (chapter 2) -/

/-- The state with another timeline. -/
def timed (f : TimePart → TimePart) (s : State) : State := { s with time := f s.time }

theorem wit_NextFrameInstantIsTheFirst : 12 < 13 ∧ (nextFrameInstant 4 41708333).2 = 41708333 ∧ (nextFrameInstant 4 41708334).2 = 83416666 := by
  decide +kernel

theorem wit_PhcTicks : State.reset.boot.porstLow = true ∧ up.boot.porstLow = false := by decide +kernel

/-- Sums on both sides of STEP_THRESHOLD (1 ms), a stroke that held a step, both directions. -/
theorem wit_CorrectionsSlewOrStep :
    let s := timed (fun t => { t with phc := 7000000000 * 2 ^ 32, strokeNext := 7000500000 }) up
    let thr := (timePrm s 3).toNat * 2 ^ 32
    let sum := fun (c : Int) => c * 2 ^ 32 + s.time.slew + s.time.deferred.getD 0
    (sum 999999).natAbs < thr ∧ thr ≤ (sum 1000000).natAbs ∧ thr ≤ (sum (-1000000)).natAbs ∧ s.time.stepped = false ∧
      0 < sum 1000000 ∧ (s.time.phc : Int) + sum 1000000 < 2 ^ 48 * 1000000000 * 2 ^ 32 ∧ sum (-1000000) ≤ 0 ∧
      0 ≤ (s.time.phc : Int) + sum (-1000000) ∧ s.time.phc < 2 ^ 48 * 1000000000 * 2 ^ 32 ∧
      0 < s.time.phc / 2 ^ 32 - ((s.time.phc : Int) + sum (-1000000)).toNat / 2 ^ 32 ∧
      s.time.phc / 2 ^ 32 < s.time.strokeNext ∧ (timed (fun t => { t with stepped := true }) s).time.stepped = true := by
  decide +kernel

/-- Function 0 owns time. -/
def owned : State := timed (fun t => { t with prm := [(fk 0x0B 0 0, 0)] }) up
/-- Firmware owns time, and follows EXTERNAL_PPS. -/
def external : State := timed (fun t => { t with prm := [(fk 0x0B 1 0, 5)] }) up

theorem wit_TimeCommands :
    next 0x0200 [] owned = true ∧
    (next 0x0201 (mk 0 0 0 [ent (fk 0x0B 3 0) 1000000000]) owned = true ∧
      lowest (entryChecks (entries (mk 0 0 0 [ent (fk 0x0B 3 0) 1000000000]) 8 1) fun k => fTable k == 0x0B) = none ∧
      timeOwner (posted 0x0201 0 [] owned) = some 0 ∧ 0 < nFuncs owned) ∧
    (next 0x0202 (toLe 8 5 ++ toLe 4 999999999 ++ zeros 4) owned = true ∧
      next 0x0202 (toLe 8 5 ++ toLe 4 1000000000 ++ zeros 4) owned = true ∧
      next 0x0202 (toLe 8 5 ++ zeros 8) external = true ∧ timeOwner (posted 0x0202 0 [] external) = none) ∧
    next 0x0203 (toLe 8 0x13FAE147B) owned = true ∧ next 0x0203 (toLe 8 0x14051EB85) owned = true ∧
    next 0x0203 (toLe 8 0x13FAE147A) owned = true ∧ next 0x0203 (toLe 8 0x14051EB86) owned = true ∧
    next 0x0204 (toLeI 8 (-1)) owned = true ∧
    next 0x0205 (toLe 1 7 ++ toLe 1 3 ++ zeros 2 ++ toLeI 4 (-1) ++ toLe 4 1 ++ zeros 4) owned = true ∧
    next 0x0206 (toLe 8 1000 ++ toLe 1 1 ++ zeros 7) owned = true ∧
    next 0x0206 (toLe 8 500000000 ++ toLe 1 1 ++ zeros 7) owned = true ∧
    next 0x0207 (toLeI 2 (-37) ++ zeros 6) owned = true := by
  decide +kernel

theorem wit_ReferencesAndServo :
    halted owned = false ∧
    (let s := timed (fun t => { t with tstate := .locked, ticks := 3200000000 }) owned
     timeOwner s = some 0 ∧ s.time.tstate = .locked ∧ s.time.holdLate = none ∧ s.time.alone = false ∧
       max s.time.lastCorr s.time.ownedAt + nsTicks (timePrm s 5).toNat ≤ s.time.ticks) ∧
    (let s := timed (fun t => { t with tstate := .holdover, clk10m := true, prm := [(fk 0x0B 6 0, 1)], ticks := tS }) up
     s.time.tstate = .holdover ∧ timePrm s 6 = 1 ∧ s.time.clk10m = true ∧ incrOk 0x13FAE147B = true ∧ s.time.steerAt + tS ≤ s.time.ticks) ∧
    (let s := timed (fun t => { t with phc := 1000000000 * 2 ^ 32, ppsEn := true, ticks := tS, ppsLast := some (tS - 500 * tMs) }) up
     s.time.ppsNext * 1000000000 ≤ phcNs s.time ∧ s.time.ppsEn = true ∧ ∀ l, s.time.ppsLast = some l → l + 500 * tMs ≤ s.time.ticks) ∧
    (let s := timed (fun t => { t with phc := 1000000000 * 2 ^ 32, ppsEn := true, ticks := tS, ppsLast := some (tS - 500 * tMs + 1) }) up
     s.time.ppsNext * 1000000000 ≤ phcNs s.time ∧ ∃ l, s.time.ppsLast = some l ∧ s.time.ticks < l + 500 * tMs) ∧
    (timeOwner up = none ∧ up.host.dev = .ready ∧ timePrm up 1 ≠ 5 ∧ incrOk 0x14051EB85 = true ∧ up.time.alone = false ∧
      (((999999 : Int) * 2 ^ 32 + remaining up).natAbs < (timePrm up 3).toNat * 2 ^ 32)) := by
  refine ⟨by decide +kernel, by decide +kernel, by decide +kernel, ⟨by decide +kernel, by decide +kernel, ?_⟩, ?_, by decide +kernel⟩
  · rintro l ⟨⟩; decide +kernel
  · exact ⟨by decide +kernel, _, rfl, by decide +kernel⟩

/-! ## Ethernet reception and queues (chapters 3, 11 and 12) -/

/-- `n` bytes of a number, most significant first. -/
def toBe (n v : Nat) : Bytes := (toLe n v).reverse

/-- An Ethernet frame to the broadcast address with a UDP packet of 10.0.0.2:6000 to 10.0.0.1:5000. -/
def udpFrame (pay : Bytes) : Bytes :=
  let h := fun (c : Nat) => toBe 2 0x4500 ++ toBe 2 (28 + pay.length) ++ toBe 4 0 ++ toBe 2 0x4011 ++ toBe 2 c ++ toBe 4 0x0A000002
    ++ toBe 4 0x0A000001
  let z := sum16 (h 0)
  List.replicate 6 0xFF ++ zeros 6 ++ toBe 2 0x0800 ++ h (65535 - (z % 65536 + z / 65536))
    ++ toBe 2 6000 ++ toBe 2 5000 ++ toBe 2 (8 + pay.length) ++ toBe 2 0 ++ pay

/-- Port 0 up, an address entry of partition 0 for 10.0.0.1, ports 5000 to 5001. -/
def linked (s : State) : State := { s with eth := { s.eth with
  ports := [(0, { up := true })]
  addrs := [(0, { vlan := 0xFFFF, ip := v4Addr (toBe 4 0x0A000001), lo := 5000, hi := 5001, part := 0 })] } }

/-- The leg of `house` takes packets at 10.0.0.1:5000 from any remote, protected; its video stream has SSRC 7. -/
def latching (s : State) : State :=
  updObj (updObj s (okey 3 0) fun o => { o with
    fields := [(fk 0x01 2 0, 0), (fk 0x01 3 0, 5000), (fk 0x01 6 0, 1), (fk 0x01 7 0, 1), (fk 0x01 7 1, 1)] })
    (okey 4 0) fun o => { o with fields := [(fk 0x04 0 0, 0), (fk 0x04 1 0, 1), (fk 0x04 3 0, 7), (fk 0x05 0 0, 1)] }

/-- An RTP packet of an SSRC. -/
def rtpPay (ssrc : Nat) : Bytes := toBe 4 0x80600001 ++ toBe 4 1000 ++ toBe 4 ssrc ++ zeros 24

/-- What the order of Table 3-2 makes of a frame on port 0: the verdict up to the stream lookup. -/
def seen (s : State) (b : Bytes) : Option (Nat × Nat × Option Nat) :=
  match classifyFrame b with
  | .udp u => (addrFor s u.vlan u.dst u.dport).map fun a =>
      (be u.pay 0 1, b.length + 4, (parseRtp u.pay).bind (lookupRtp s (legsFor s a.1 a.2.part u)))
  | _ => none

theorem wit_FrameReception :
    let s := latching (linked (house .active up))
    (halted s = false ∧ 0 < nPorts s ∧ (getPort s 0).up = true ∧ (getPort s 0).held = none ∧
      fldN (getPort s 0).fields (fk 0x12 1 0) = 1518 ∧ macOk s 0 (le (udpFrame []) 0 6) = true ∧
      macOk s 0 5 = false) ∧
    (seen s (udpFrame (toBe 1 3 ++ zeros 19)) = some (3, 66, none) ∧
      seen s (udpFrame (toBe 1 20 ++ zeros 19)) = some (20, 66, none) ∧
      seen s (udpFrame (toBe 1 63 ++ zeros 19)) = some (63, 66, none) ∧
      seen s (udpFrame (rtpPay 8)) = some (128, 82, none) ∧
      seen s (udpFrame (rtpPay 7)) = some (128, 82, some (okey 4 0)) ∧
      isActive s (okey 4 0) = true ∧ legOfStream s (okey 4 0) = okey 3 0 ∧ isActive s (okey 3 0) = true ∧ inMode s (okey 3 0) ≠ 0) ∧
    (let u := { s with eth := { s.eth with ports := [(0, { up := true, held := some (0, { pkt := { kind := .rx, len := 64 }, tick := 0 }, 0) })] } }
     (getPort u 0).held.isSome = true ∧ fifoBytes (getPort u 0) + 262144 ≤ 262144 ∧ 262144 < fifoBytes (getPort u 0) + 262145) := by
  decide +kernel

theorem wit_FrameReception_no_entry :
    ∃ u, classifyFrame (udpFrame (zeros 20)) = .udp u ∧ addrFor up u.vlan u.dst u.dport = none := by
  refine ⟨_, rfl, ?_⟩; decide +kernel

/-- The first index is accepted; one 128 below the highest is too old. -/
theorem wit_ReplayedIndexIsRefused :
    (∃ c, replayCheck none 200 = some c ∧ c.hi = 200 ∧ 72 + 127 < c.hi) ∧ (replayCheck (some { hi := 200, win := 1 }) 73).isSome = true := by
  refine ⟨⟨_, rfl, by decide +kernel⟩, by decide +kernel⟩

/-- An item of `n` bytes. -/
def anItem (kind : PktKind) (n leg stream : Nat) : Item := { pkt := { kind := kind, len := n, leg := leg, stream := stream }, tick := 0 }

/-- A queue that holds items. -/
def queued (q : Nat) (l : List Item) (s : State) : State := setQ s q { items := l, cells := l.length }

/-- Change function `F`. -/
abbrev fn0 (g : Func → Func) (s : State) : State := updFn s 0 g

/-- A record queue with room. -/
def anEq : EvQueue := { base := 0, size := 64, vector := 1, count := 1, time := 0 }

theorem wit_PortsStampsAndQueues :
    (0 < nPorts up ∧ (getPort up 0).up = false ∧ (getPort (linked up) 0).up = true) ∧
    (let s := queued (qClass 0 7) [anItem .host 100 0 0] (linked up)
     let s1 := (List.range 8).foldl (fun s c => dropOversize 0 c (getQ s (qClass 0 c)).items.length s) s
     (getPort s 0).txFree ≤ s.time.ticks ∧ (pickClass 0 (countWaits 0 s1)).1 = some 7 ∧
       qHead (pickClass 0 (countWaits 0 s1)).2 (qClass 0 7) = some (anItem .host 100 0 0)) ∧
    (let s := fn0 (fun f => { f with queues := [(5, anEq)] }) (updPort (timed (fun t => { t with prm := [(fk 0x0B 0 0, 0), (fk 0x0B 8 0, 5)] }) (linked up)) 0
        fun e => { e with stampQ := [⟨1, 0, false, false, 0, 99⟩] })
     (getPort s 0).stampQ.length = 1 ∧ timeOwner s = some 0 ∧ timePrm s 8 = 5 ∧ Tab.get (getFn s 0).queues (timePrm s 8).toNat = some anEq ∧
       eqRoom anEq = true ∧ (getFn s 0).backlog = [] ∧ (getFn s 0).pendLoss = []) ∧
    (let s := timed (fun t => { t with ticks := 1600 }) (updPort (linked up) 0 fun e => { e with held := some (3, anItem .rx 100 0 (okey 4 3), 0) })
     (getPort s 0).fifo = [] ∧ 0 + nsTicks (fldN (getPort s 0).fields (fk 0x12 4 0)) ≤ s.time.ticks ∧ qKind 3 ≠ 2 ∧
       heldPort s 3 = some (0, anItem .rx 100 0 (okey 4 3)) ∧ qFull s 3 100 = false) ∧
    (getQ (setQ up 32767 { flush := true }) 32767).flush = true ∧
    (let s := fn0 (fun f => { f with hrings := [(0, { base := 0, slots := 64, slotBytes := 2048, part := some 255 })] }) (queued (qExc 255) [anItem .rx 100 0 0] up)
     qHead s (qExc 255) = some (anItem .rx 100 0 0) ∧ excFn s 255 = some 0 ∧ (deliverSlot 0 0 [] (qPop (qExc 255) s)).isSome = true) ∧
    (let s := timed (fun t => { t with ticks := 2 * tS }) (setLeg up (okey 3 4095) { keyPrev := some [1], promoted := 0 })
     (getLeg s (okey 3 4095)).keyPrev.isSome = true ∧ (getLeg s (okey 3 4095)).promoted + 2 * tS ≤ s.time.ticks) ∧
    (let s := timed (fun t => { t with phc := 5000000000 * 2 ^ 32 }) (setStream up (okey 4 16383) { te := [⟨0, 5, 160, 0, false⟩] })
     (getStream s (okey 4 16383)).te = [⟨0, 5, 160, 0, false⟩] ∧ 0 + 5000000000 ≤ now s) := by
  decide +kernel

/-- A leg that both ways are protected on, IDLE. -/
def keyed : State := latching (linked (house .idle up))
/-- KEY_INSTALL: leg 0, direction, slot, a 16-byte key and 14-byte salt (AES_CM), activation time. -/
def keyCmd (dir slot : Nat) : Bytes :=
  toLe 4 (hd 3 0) ++ toLe 1 dir ++ toLe 1 slot ++ zeros 2 ++ toLe 8 77 ++ List.replicate 16 1 ++ zeros 16 ++ List.replicate 14 2 ++ zeros 2

theorem wit_AddressesFiltersAndKeys :
    (let m : Bytes := toLe 6 0x0A0000000002 ++ toLe 1 7 ++ zeros 1
     next 0x030C m up = true ∧ up.host.owner = 0 ∧ le m 6 1 < 8 ∧ le m 0 6 % 2 = 0 ∧
       lowestFree (Tab.keys (getPort up 7).filters) 0 64 = some 0) ∧
    (let m : Bytes := toLe 6 0x01 ++ toLe 1 0xFF ++ zeros 1
     next 0x030C m up = true ∧ (getFn up 0).part = some 0 ∧ le m 6 1 = 0xFF ∧ le m 0 6 % 2 = 1 ∧ up.eth.mcast = [] ∧
       lowestFree (Tab.keys up.eth.mcast) 0 1024 = some 0) ∧
    (let s := updPort up 7 fun e => { e with filters := [(63, 2)] }
     next 0x030D (toLe 2 63 ++ toLe 1 7 ++ zeros 5) s = true ∧ Tab.has (getPort s 7).filters 63 = true) ∧
    (let m : Bytes := toLe 2 4095 ++ toLe 2 1 ++ toLe 2 65535 ++ zeros 2 ++ toLe 16 9 ++ toLe 4 (hd 1 0) ++ zeros 4
     next 0x030E m up = true ∧ resolvePart up (le m 24 4) = some 0 ∧ lowestFree (Tab.keys up.eth.addrs) 0 1024 = some 0 ∧
       le m 0 2 < 4096 ∧ 1 ≤ le m 2 2 ∧ le m 2 2 ≤ le m 4 2) ∧
    (next 0x030F (zeros 8) (linked up) = true ∧ Tab.has (linked up).eth.addrs 0 = true ∧ objKeys (linked up) 3 = []) ∧
    ([(0, 0), (0, 1), (1, 0), (1, 1)].all fun d => next 0x0506 (keyCmd d.1 d.2) keyed
      && resolve keyed 0 3 (le (keyCmd d.1 d.2) 0 4) == some (okey 3 0) && keyLens (inMode keyed (okey 3 0)) == (16, 14)
      && keyLens (outMode keyed (okey 3 0)) == (16, 14) && le (keyCmd d.1 d.2) 32 16 == 0
      && (getObj keyed (okey 3 0)).map (·.state) == some .idle) = true ∧
    next 0x0310 (List.replicate 16 0xE4) up = true := by
  decide +kernel

/-! ## Governor (chapter 4) -/

/-- The state at media time `t`. -/
def atMt (t : Nat) (s : State) : State := timed (fun v => { v with phc := t * 2 ^ 32 }) s

/-- The governor of the leg of `house` changed. -/
def gov0 (f : Gov → Gov) (s : State) : State := updGov s (okey 3 0) f

/-- A probe to 2 Mbit/s that ends at 30 ms. -/
def aProbe : Probe := { need := 2000000, stroke := 5, end_ := 30000000 }

theorem wit_RatesAndAllocationWithinBounds :
    (0 < 100 ∧ 100 ≤ 100 ∧ gprm up (okey 3 0) 13 * 100 < 1000 * 100) ∧ (1000 * 10 ≤ gprm up (okey 3 0) 13 * 100) ∧
    (1000 * 1 < gprm up (okey 3 0) 12 * 100) ∧ gprm up (okey 3 0) 12 * 100 ≤ 1000 * 10 ∧ legKind up (okey 3 0) ≠ 1 ∧
    (64 ≤ 64 ∧ (0 : Int) ≤ 0 ∧ ([4194304, 4194305] : List Nat).Nodup) := by
  decide +kernel

theorem wit_GovernorEvents :
    halted up = false ∧ (timed (fun t => { t with govDue := true }) up).time.govDue = true ∧ up.time.govDue = false ∧
    (let s := gov0 (fun g => { g with probe := some aProbe }) (atMt 30000000 (house .active up))
     (getGov s (okey 3 0)).probe = some aProbe ∧ aProbe.ended = false ∧ aProbe.end_ ≤ now s) ∧
    (let s := gov0 (fun g => { g with probe := some { aProbe with ended := true } }) (atMt 1030000000 (house .active up))
     (getGov s (okey 3 0)).probe = some { aProbe with ended := true } ∧ aProbe.end_ + 1000000000 ≤ now s) ∧
    (let s := atMt 1000000000 (house .active up)
     isActive s (okey 3 0) = true ∧ legKind s (okey 3 0) = 0 ∧ (getGov s (okey 3 0)).lastFb + gprm s (okey 3 0) 23 * 1 ≤ now s ∧
       (getGov s (okey 3 0)).reportAt + ofldN s (okey 3 0) (fk 0x01 13 0) ≤ now s) ∧
    (let s := updObj (atMt 50000000 (house .active up)) (okey 3 0) fun o => { o with fields := [(fk 0x01 9 0, 15)] }
     bitOf (ofldN s (okey 3 0) (fk 0x01 9 0)) 0 = true ∧ (getGov s (okey 3 0)).ccfbAt + ofldN s (okey 3 0) (fk 0x01 14 0) ≤ now s) ∧
    (let s := setStream (atMt 100000000 (house .active up)) (okey 4 1)
        { sub := { pendAt := some 0, want := some { enc := okey 4 0, sid := 0, tid := 0 } } }
     (getStream s (okey 4 1)).sub.pendAt = some 0 ∧ isActive s (okey 4 1) = true ∧ (getStream s (okey 4 1)).sub.asked = false ∧
       0 + gprm s (legOfStream s (okey 4 1)) 21 ≤ now s) ∧
    (let s := setStream (atMt 300000000 (house .active up)) (okey 4 0) { up := { merged := some false, at_ := some 0, needs := [0], tries := 5 } }
     (getStream s (okey 4 0)).up.merged = some false ∧ upFree s (okey 4 0) = true ∧ (getObj s (okey 4 0)).isSome = true ∧
       (getStream s (okey 4 0)).up.needs ≠ [] ∧ 0 < (getStream s (okey 4 0)).up.tries ∧ isActive s (okey 4 0) = true ∧
       gprm s (okey 4 0) 25 ≤ 5 ∧ 4 < gprm s (okey 4 0) 25) ∧
    (let s := setRung (atMt 500000000 (house .active up)) (okey 7 0) { refPend := true, refAt := some 0 }
     (getRung s (okey 7 0)).refPend = true ∧ (getObj s (okey 7 0)).isSome = true ∧ (getRung s (okey 7 0)).refAt = some 0 ∧
       0 + gprm s (okey 7 0) 26 ≤ now s) := by
  decide +kernel

theorem wit_GovernorCommands :
    ([(3, ent (fk 0x02 2 0) 32000), (4, ent (fk 0x02 25 0) 16), (7, ent (fk 0x02 26 0) 100000000)].all fun e =>
      let p := mk (hd e.1 0) 0 0 [e.2]
      let s := house .active up
      let fs := applyEntries (((getObj s (okey e.1 0)).map (·.fields)).getD []) (entries p 8 1)
      next 0x0507 p s && resolve s 0 e.1 (le p 0 4) == some (okey e.1 0) && hType (le p 0 4) == e.1 && (e.1 != 4 || !(isOut s (okey 4 0)))
        && (lowest (entryChecks (entries p 8 (le p 6 2)) fun k => fTable k = 0x02 && govRowOk e.1 (fRow k))).isNone
        && (e.1 != 3 || govConsistent fs)) = true ∧
    next 0x0508 (named4 (hd 3 0)) (house .active up) = true ∧ (getGov (house .active up) (okey 3 0)).snap = [] := by
  decide +kernel

/-! ## Video (chapters 5 to 7) -/

/-- A coded frame of the video stream of `house`, whole and a key frame. -/
def aFrame : CodedFrame := { ts := 9000, at_ := 0, pkts := [⟨7, 100, true, true⟩], info := { key := true, refs := [] }, whole := true }

/-- The stream decodes on engine 15 with one surface. -/
def decoding (d : Dec) (s : State) : State :=
  setDec { s with vid := { s.vid with surfs := [(3, { gen := 1, part := 0, fmt := 0, w := 64, h := 64 })] } } (okey 4 0) { d with surfs := [3] }

/-- A work item: a decode of `aFrame`, or an encode by the rung. -/
def anEngItem (enc : Bool) : EngItem := { enc := enc, k := if enc then okey 7 0 else okey 4 0, id := 9000, elig := 0, dead := 1, fixed := enc }

/-- Engine 15 with work. -/
def engine15 (g : Engine) (s : State) : State := setEng s 15 g

theorem wit_DecoderAndEncoderEvents :
    (let s := decoding { asm := [aFrame] } (atMt 60000000 (house .active up))
     (getDec s (okey 4 0)).asm = [aFrame] ∧ aFrame.at_ + ofldN s (okey 4 0) (fk 0x04 15 0) ≤ now s) ∧
    (let s := decoding { st := 2, handed := [{ aFrame with elig := some 0 }] } (house .active up)
     (getDec s (okey 4 0)).st ≠ 0 ∧ (getDec s (okey 4 0)).creditK < nextK s (dprm s (okey 4 0) 4) ∧
       (∀ f ∈ (getDec s (okey 4 0)).handed, f.elig.isSome = true) ∧
       next 0x0606 (named4 (hd 4 0)) s = true ∧ resolve s 0 4 (hd 4 0) = some (okey 4 0)) ∧
    (let s := decoding { st := 1 } (atMt 300000001 (house .active up))
     (getDec s (okey 4 0)).st = 1 ∧ isActive s (okey 4 0) = true ∧ (getDec s (okey 4 0)).syncAt + gprm s (okey 4 0) 24 < now s) ∧
    ((getEng up 15).run = none ∧ (getEng up 15).resetTo = none ∧ (0, 15) ∉ up.dep.removed ∧ (getEng up 15).chain = [] ∧ (getEng up 15).ready = []) ∧
    (getEng (engine15 { chain := [anEngItem true] } up) 15).chain = [anEngItem true] ∧
    (let s := engine15 { ready := [anEngItem false] } (decoding { st := 1, handed := [aFrame] } (house .active up))
     (getEng s 15).ready = [anEngItem false] ∧ (anEngItem false).enc = false ∧ mayRun s 15 (anEngItem false).k = true ∧
       (freeSurf s (anEngItem false).k).isSome = true) ∧
    (let s := engine15 { run := some (anEngItem false) } (decoding { st := 1, handed := [aFrame] } (house .active up))
     (getEng s 15).run = some (anEngItem false) ∧ ((getDec s (okey 4 0)).handed.find? fun g => g.ts = 9000) = some aFrame ∧
       aFrame.whole = true ∧ aFrame.info.refs = [] ∧ aFrame.info.key = true ∧ (freeSurf s (okey 4 0)).isSome = true) ∧
    (let s := setLayout (house .active up) (okey 5 0) { run := some ⟨1, 2, 3⟩, bands := 44 }
     (getLayout s (okey 5 0)).run = some ⟨1, 2, 3⟩ ∧ 44 < bandCount s (okey 5 0) ∧ bandCount s (okey 5 0) ≤ 45) ∧
    (let s := engine15 { run := some (anEngItem true) } (setRung (fixedHouse (house .active up)) (okey 7 0) { run := some { k := 1, mt := 3, tid := 0 } })
     (getEng s 15).run = some (anEngItem true) ∧ (getRung s (okey 7 0)).run = some { k := 1, mt := 3, tid := 0 } ∧
       (getLayout s (parentKey s (okey 7 0))).run = none ∧ isFixed s (okey 7 0) = true) ∧
    (let s := atMt 499999999 (house .active up)
     resolve s 0 7 (hd 7 0) = some (okey 7 0) ∧ next 0x0907 (named4 (hd 7 0)) s = true ∧ next 0x0906 (named4 (hd 7 0)) s = true ∧
       (getRung s (okey 7 0)).refAt = none ∧ now s < 0 + gprm s (okey 7 0) 26 ∧
       (getRung (setRung s (okey 7 0) { refAt := some 0 }) (okey 7 0)).refAt = some 0) := by
  decide +kernel

/-- A source at the white of 10 bits, an opaque layer, three layers to shed. -/
theorem wit_PicturesStayInRange :
    (8 = 8 ∨ 8 = 10) ∧ (1023 ≤ 1023) ∧ (256 ≤ 256) ∧
    (shed false 1920 [1, 2] [⟨1, 1920, 0, 0, 1920, 1080⟩, ⟨2, 1920, 0, 0, 960, 540⟩]).length ≤ 2 := by
  decide +kernel

/-- The layout of `house` due, checked, shown. -/
def laid (f : LayoutDyn → LayoutDyn) (s : State) : State := setLayout s (okey 5 0) (f (getLayout s (okey 5 0)))

/-- The display linked and showing the layout of `house`. -/
def showing (s : State) : State := updDisp s fun d => { d with hpd := true, link := 2, fields := [(fk 0x11 0 0, hd 5 0)], edid := [1, 2] }

theorem wit_CompositionAndDisplayEvents :
    (let s := house .active up
     (s.time.frames[layoutRate s (okey 5 0)]?).isSome = true ∧ willActive s (okey 5 0) = true ∧
       ((s.time.frames[layoutRate s (okey 5 0)]?).getD (0, 0)).2 ≤ phcNs (atMt 33133333 s).time + 200000 ∧
       (getLayout s (okey 5 0)).checked ≠ some 1) ∧
    (let s := laid (fun l => { l with due := some ⟨1, 2, 3⟩, inst := 31 }) (fixedHouse (house .active up))
     ((objKeys s 5).filter fun y => compIdx s y == 31 && (getLayout s y).due.isSome) = [okey 5 0] ∧ Tab.get s.vid.comps 31 = none ∧
       isFixed s (okey 5 0) = true) ∧
    up.vid.disp.hpd = false ∧ (showing up).vid.disp.hpd = true ∧ (updDisp up fun d => { d with link := 1 }).vid.disp.link = 1 ∧
    (let s := showing (laid (fun l => { l with last := some ⟨1, 2, 3⟩ }) (house .active up))
     s.vid.disp.link = 2 ∧ dispLayout s = okey 5 0 ∧ s.time.stopped = false ∧ 14 ∉ s.dep.off ∧
       (getLayout s (dispLayout s)).last = some ⟨1, 2, 3⟩ ∧ s.vid.disp.shown ≠ some 1 ∧
       (updDisp s fun d => { d with shown := some 1 }).vid.disp.shown = some 1) := by
  decide +kernel

/-- A window of function 0 over the first 16 MiB. -/
def windowed (s : State) : State := fn0 (fun f => { f with wins := [(0, { base := 0, len := 16777216, read := true, write := true })] }) s

/-- A vertical coefficient set of the INLAY class: the first tap alone. -/
def aCoef : Bytes :=
  let c := (List.range 64).flatMap fun _ => toLe 2 256 ++ zeros 6
  [4, 1, 0, 0] ++ (toLe 4 (crc32 c) ++ c)

theorem fromLe_toLe (n v : Nat) : fromLe (toLe n v) = v % 256 ^ n := by
  induction n generalizing v with
  | zero => simp [toLe, fromLe, Nat.mod_one]
  | succ n ih =>
    have h : (BitVec.ofNat 8 v).toNat = v % 256 := by simp
    rw [toLe, fromLe, ih, h, Nat.pow_succ, Nat.mul_comm (256 ^ n) 256, Nat.mod_mul]

theorem fromLe_zeros (n : Nat) : fromLe (List.replicate n 0) = 0 := by
  induction n with
  | zero => rfl
  | succ n ih => rw [List.replicate_succ, fromLe, ih]; rfl

theorem toLe_length (n v : Nat) : (toLe n v).length = n := by
  induction n generalizing v with
  | zero => rfl
  | succ n ih => simp [toLe, ih]

/-- A number laid into a byte string, read back. -/
theorem le_mid (a b : Bytes) (n v : Nat) : le (a ++ (toLe n v ++ b)) a.length n = v % 256 ^ n := by
  rw [le, List.drop_left, List.take_left' (toLe_length n v), fromLe_toLe]

theorem drop_mid (a b : Bytes) (n v : Nat) : (a ++ (toLe n v ++ b)).drop (a.length + n) = b := by
  rw [← List.drop_drop, List.drop_left, List.drop_left' (toLe_length n v)]

theorem crcByte_lt (c : Nat) (b : Byte) (h : c < 2 ^ 32) : crcByte c b < 2 ^ 32 := by
  unfold crcByte
  have step : ∀ c, c < 2 ^ 32 → crcBit c < 2 ^ 32 := by
    intro c h
    unfold crcBit
    split
    · exact Nat.xor_lt_two_pow (by omega) (by decide)
    · omega
  have fold : ∀ (l : List Nat) c, c < 2 ^ 32 → l.foldl (fun c _ => crcBit c) c < 2 ^ 32 := by
    intro l
    induction l with
    | nil => intro c h; exact h
    | cons a t ih => intro c h; exact ih _ (step c h)
  have hb : b.toNat < 2 ^ 32 := lt_of_lt_of_le b.isLt (by decide)
  exact fold _ _ (Nat.xor_lt_two_pow h hb)

theorem crc32_lt (b : Bytes) : crc32 b < 2 ^ 32 := by
  unfold crc32
  refine Nat.xor_lt_two_pow ?_ (by decide)
  have : ∀ (l : Bytes) c, c < 2 ^ 32 → l.foldl crcByte c < 2 ^ 32 := by
    intro l
    induction l with
    | nil => intro c h; exact h
    | cons a t ih => intro c h; exact ih _ (crcByte_lt c a h)
  exact this _ _ (by decide)

/-- COEF_LOAD of slot 15 from address 64. -/
def coefCmd : Bytes := toLe 1 0 ++ toLe 1 1 ++ toLe 1 15 ++ zeros 5 ++ toLe 8 64 ++ toLe 4 520 ++ zeros 4

/-- LAYER_FLIP of the one layer of `house` to its stream. -/
def flipCmd : Bytes :=
  toLe 1 1 ++ zeros 7 ++ toLe 4 (hd 6 0) ++ toLe 4 (hd 4 0) ++ zeros 16
    ++ ([0, 0, 640, 360, 0, 0, 640, 360].flatMap fun v => toLe 2 v)

theorem wit_DisplayCoefficientAndFlipCommands :
    (let m := mk 0 0 0 [ent (fk 0x11 1 0) 1]
     next 0x030A m up = true ∧ (lowest (entryChecks (entries m 8 1) fun k => fTable k == 0x11)).isNone = true ∧
       fldN (applyEntries up.vid.disp.fields (entries m 8 1)) (fk 0x11 0 0) = 0) ∧
    (next 0x030B (toLe 8 64) (windowed (showing up)) = true ∧ inWindow (getFn (windowed up) 0) 64 2 true = true) ∧
    (next 0x0706 coefCmd (windowed up) = true ∧ inWindow (getFn (windowed up) 0) (le coefCmd 8 8) (8 + 128 * 4) false = true ∧
      aCoef.length = 8 + 128 * 4 ∧ le coefCmd 16 4 = 8 + 128 * 4 ∧ le aCoef 0 1 = 4 ∧ le aCoef 1 1 = 1 ∧ le aCoef 2 1 = 0 ∧ le aCoef 3 1 = 0 ∧
      coefNamed up 0 1 15 = false ∧ Tab.get up.vid.coefs 31 = none ∧ (0 : Nat) < quota up 0 4 1) ∧
    (let s := { up with vid := { up.vid with coefs := [(31, { part := 0, taps := 4, coef := [] })] } }
     next 0x0707 (toLe 1 0 ++ toLe 1 1 ++ toLe 1 15 ++ zeros 5) s = true ∧ (Tab.get s.vid.coefs 31).map (·.part) = some 0 ∧
       coefNamed s 0 1 15 = false) ∧
    (let s := house .active up
     let f := flipItem flipCmd 8
     let news := [(okey 6 0, flipDesc (descOf (latchDesc s (okey 6 0)) (okey 6 0)) f)]
     next 0x0806 flipCmd s = true ∧ le flipCmd 0 1 = 1 ∧ resolve s 0 6 (le flipCmd 8 4) = some (okey 6 0) ∧ le flipCmd 20 4 = 0 ∧
       (streamIn s 0 f.src).isSome = true ∧ f.fence = 0 ∧ parentKey s (okey 6 0) = okey 5 0 ∧
       (news.all fun e => descOk s (okey 5 0) e.2) = true ∧ layoutFits s (okey 5 0) (descsWith s (okey 5 0) news) = true) := by
  decide +kernel

theorem wit_DisplayCoefficientAndFlipCommands_crc : le aCoef 4 4 = crc32 (aCoef.drop 8) := by
  simp only [aCoef]
  generalize ((List.range 64).flatMap fun _ => toLe 2 256 ++ zeros 6) = b
  have h1 : le ([4, 1, 0, 0] ++ (toLe 4 (crc32 b) ++ b)) 4 4 = crc32 b % 256 ^ 4 := le_mid [4, 1, 0, 0] b 4 _
  have h2 : ([4, 1, 0, 0] ++ (toLe 4 (crc32 b) ++ b)).drop 8 = b := drop_mid [4, 1, 0, 0] b 4 _
  rw [h1, h2]
  exact Nat.mod_eq_of_lt (crc32_lt _)

theorem wit_DisplayCoefficientAndFlipCommands_set :
    ((coefList aCoef 256).all fun c => -512 ≤ c && decide (c ≤ 511)) = true ∧
      ((List.range 64).all fun ph => (((coefList aCoef 256).drop (ph * 4)).take 4).sum == 256) = true := by
  have h : coefList aCoef 256 = (List.range 256).map fun n => if n % 4 = 0 then 256 else 0 := by decide +kernel
  rw [h]
  decide +kernel

/-! ## Audio (chapter 8) -/

/-- A set within TOP_K 2, two candidates; three signals of two samples. -/
theorem wit_RankingAndMixMinus :
    (let l : List Rank := [⟨1, 0, 0, -32768⟩, ⟨2, 100, 100, -32768⟩]
     let cs : List Cand := [⟨1, -640, true⟩, ⟨3, 0, true⟩]
     (l.map (·.key)).Nodup ∧ (cs.map (·.key)).Nodup ∧ l.length ≤ 2 ∧ 0 < 100 ∧ 99 < (0 : Nat) + 100 ∧
       (rankStep id 99 100 2 0 cs l).map (·.key) = [1, 2]) ∧
    ([1, -1] : List Int).length = 2 ∧ ∀ v ∈ [[3, 4], [5, 6]] ++ ([[7, 8]] : List (List Int)), v.length = 2 := by
  decide +kernel

/-- The leg of `house` of a kind. -/
def kindly (k : Int) (s : State) : State := updObj s (okey 3 0) fun o => { o with fields := [(fk 0x01 0 0, k)] }

/-- The conference of `house` with a block in work. -/
def inWork (f : ConfAud → ConfAud) (s : State) : State := setGraph s (okey 2 0) (f (getGraph s (okey 2 0)))

/-- A back job of the leg of `house` at boundary 0. -/
def aBack : BackJob := { t := 0, mt := 0, legs := [okey 3 0], shared := none, d := [], dl := [], dr := [] }

theorem wit_AudioJobs :
    (let s := setIn (kindly 3 (house .active up)) (okey 3 0) { st := 1 }
     (getIn s (okey 3 0)).st = 1 ∧ legKind s (okey 3 0) = 3) ∧
    legKind (kindly 2 (house .active up)) (okey 3 0) = 2 ∧
    (let s := atMt 10000000 (inWork (fun g => { g with phase := 1 }) (house .active up))
     (getGraph s (okey 2 0)).phase = 1 ∧ (getGraph s (okey 2 0)).t + mixPeriod s (okey 2 0) / 2 ≤ phcNs s.time ∧
       (∀ k ∈ blockIns s (okey 2 0) 0, unfinished s k = true → isFixed s (legOfIn s k) = false) ∧
       ((getGraph s (okey 2 0)).set_.map (·.key)).Nodup ∧ (blockIns s (okey 2 0) 0).Nodup) ∧
    (let s := atMt 11000000 (inWork (fun g => { g with phase := 2 }) (house .active up))
     (getGraph s (okey 2 0)).phase = 2 ∧ (getGraph s (okey 2 0)).t + 11 * mixPeriod s (okey 2 0) / 20 ≤ phcNs s.time ∧
       (getGraph s (okey 2 0)).mem = [] ∧ (getGraph s (okey 2 0)).clips = []) ∧
    (let s := atMt 12000000 (inWork (fun g => { g with backs := [aBack] }) (kindly 3 (house .active up)))
     let P := mixPeriod s (okey 2 0)
     confOfLeg s (okey 3 0) = okey 2 0 ∧
     ((getGraph s (okey 2 0)).backs.find? fun j => j.legs.contains (okey 3 0) && j.z.isNone) = some aBack ∧ aBack.t + 3 * P / 5 ≤ phcNs s.time ∧
       phcNs s.time < aBack.t + 2 * P ∧ legKind s (aBack.legs.headD 0) = 3 ∧ isFixed s (okey 3 0) = false ∧
       phcNs (atMt 40000000 s).time = aBack.t + 2 * P) ∧
    (let s := updObj (atMt 12500000 (inWork (fun g => { g with phase := 3 }) (fixedHouse (house .active up)))) (okey 3 0) fun o => { o with crit := true }
     isCritical s (okey 3 0) = true ∧ isActive s (okey 3 0) = true ∧ tagMissing s (okey 3 0) = true ∧ (getAud s (okey 3 0)).conceal = false ∧
       (getGraph s (okey 2 0)).backs = []) ∧
    ((getPlane (setPlane up (okey 3 0) 1 { st := 1 }) (okey 3 0) 1).st = 1 ∧ (getPlane (setPlane up (okey 3 0) 0 { st := 3 }) (okey 3 0) 0).st = 3) ∧
    (let s := setStream (atMt 1000000 (house .active up)) (okey 4 1) { fifo := (List.range 48).map fun j => (j, []) }
     let m := ofldN s (okey 4 1) (fk 0x04 17 2)
     let slot := phcNs s.time * 48000 / 1000000000
     isActive s (okey 4 1) = true ∧ 0 < m ∧ (gridRun m (getStream s (okey 4 1)).fifo).length = m ∧ slot % m = 0 ∧
       (getStream s (okey 4 1)).rtpPos ≤ slot) ∧
    (let s := setJb (atMt 1000000000 (house .active up)) (okey 4 2) { o := some 0 }
     isActive s (okey 4 2) = true ∧ isFixed s (legOfStream s (okey 4 2)) = false ∧ (getJb s (okey 4 2)).o.isSome = true ∧
       legKind s (legOfStream s (okey 4 2)) = 0 ∧ isAes67 s (okey 4 2) = false ∧ (getJb s (okey 4 2)).evalAt + 1000000000 ≤ now s ∧
       ofldN s (okey 3 0) (fk 0x01 10 1) ≤ ofldN s (okey 3 0) (fk 0x01 10 3)) := by
  decide +kernel

/-- A clip surface of partition 0. -/
def clipped (s : State) : State :=
  { s with vid := { s.vid with surfs := [(65535, { gen := 1, part := 0, fmt := 0x11, w := 256, h := 1 })] } }

/-- A symmetric set of one tap, for PRODUCES 0. -/
def planeSet : Bytes := toLe 4 1 ++ toLe 4 (crc32 (toLe 4 0 ++ toLe 4 262144)) ++ toLe 4 0 ++ toLe 4 262144

/-- An HRTF set of 32 taps, all zero. -/
def hrtfSet : Bytes := [32, 32, 0, 0] ++ (toLe 4 (crc32 (zeros 8192)) ++ zeros 8192)

/-- HRTF_LOAD of a slot from an address. -/
def hrtfCmd (slot addr : Nat) : Bytes := toLe 1 slot ++ zeros 7 ++ toLe 8 addr ++ toLe 4 8200 ++ zeros 4

theorem wit_AudioCommands :
    (let s := clipped (house .active up)
     let h := hd 3 0
     resolve s 0 3 h = some (okey 3 0) ∧ next 0x0C00 (named4 h) s = true ∧
     (let p := toLe 4 h ++ toLe 4 (hd 8 65535) ++ toLe 1 1 ++ toLe 1 255 ++ toLeI 2 (-6144) ++ zeros 4
      next 0x0C04 p s = true ∧ resolveSurf s 0 (le p 4 4) = some 65535 ∧ ((getSurf s 65535).map fun f => (f.part, f.fmt)) = some (0, 0x11) ∧
        ((getObj s (okey 3 0)).map (·.part)) = some 0 ∧ signed 16 (le p 10 2) = -6144) ∧
     next 0x0C05 (toLe 4 h ++ toLe 4 (hd 8 65535)) s = true ∧
     (let p := toLe 4 h ++ toLe 1 16 ++ zeros 1 ++ toLe 2 2000 ++ toLe 2 40 ++ zeros 2 ++ List.replicate 16 15 ++ zeros 4
      next 0x0C06 p s = true ∧ le p 4 1 = 16 ∧ le p 6 2 = 2000 ∧ le p 8 2 = 40 ∧ ((List.range 16).all fun n => decide (le p (12 + n) 1 ≤ 15)) = true ∧
        (getAud s (okey 3 0)).dtmf = none) ∧
     next 0x0C07 (toLe 4 h ++ toLe 1 1 ++ zeros 3) s = true ∧
     (let u := setPlane s (okey 3 0) 1 { st := 2, set_ := some (1, 0, 0, 0, []) }
      next 0x0C09 (toLe 4 h ++ toLe 1 1 ++ toLe 1 1 ++ zeros 2) u = true ∧ (getPlane u (okey 3 0) 1).st = 2 ∧
        (getPlane u (okey 3 0) 1).set_ ≠ none) ∧
     (let p := toLe 4 h ++ zeros 4 ++ toLe 8 64 ++ toLe 4 16 ++ zeros 4
      next 0x0C08 p (windowed s) = true ∧ inWindow (getFn (windowed s) 0) (le p 8 8) (le p 16 4) false = true ∧ planeSet.length = le p 16 4 ∧
        planeSetOk planeSet 0 = true ∧ (getPlane s (okey 3 0) 0).st ≠ 2) ∧
     next 0x0C0A (toLe 4 h ++ zeros 4) s = true ∧
     next 0x0C01 (named4 (hd 2 0)) s = true ∧ resolve s 0 2 (hd 2 0) = some (okey 2 0)) ∧
    (next 0x0C02 (hrtfCmd 15 64) (windowed up) = true ∧ hrtfNamed up 15 = false ∧ Tab.get up.aud.hrtf 15 = none ∧
      (0 : Nat) < quota up 0 4 2 ∧ inWindow (getFn (windowed up) 0) 64 8200 false = true ∧
      inWindow (getFn (windowed up) 0) 16777216 8200 false = false) ∧
    (let s := { up with aud := { up.aud with hrtf := [(15, { part := 0, taps := 32, coef := [] })] } }
     next 0x0C03 (toLe 1 15 ++ zeros 7) s = true ∧ (Tab.get s.aud.hrtf 15).map (·.part) = some 0) := by
  decide +kernel

theorem wit_AudioCommands_set :
    hrtfSet.length = 8200 ∧ le hrtfSet 0 1 = 32 ∧ le hrtfSet 1 1 = 32 ∧ le hrtfSet 2 2 = 0 ∧ le hrtfSet 4 4 = crc32 (hrtfSet.drop 8) ∧
      ∀ j, j < 64 * 32 → -524288 ≤ signed 32 (le hrtfSet (8 + 4 * j) 4) ∧ signed 32 (le hrtfSet (8 + 4 * j) 4) ≤ 524287 := by
  have hd8 : hrtfSet.drop 8 = zeros 8192 := drop_mid [32, 32, 0, 0] _ 4 _
  have hl : (zeros 8192).length = 8192 := List.length_replicate
  have h4 : le hrtfSet 4 4 = crc32 (zeros 8192) % 256 ^ 4 := le_mid [32, 32, 0, 0] _ 4 _
  refine ⟨?_, rfl, rfl, rfl, ?_, fun j hj => ?_⟩
  · rw [hrtfSet, List.length_append, List.length_append, toLe_length, hl]; rfl
  · rw [hd8, h4]
    exact Nat.mod_eq_of_lt (crc32_lt _)
  · have : le hrtfSet (8 + 4 * j) 4 = 0 := by
      rw [le, ← List.drop_drop, hd8, zeros, List.drop_replicate, List.take_replicate, fromLe_zeros]
    rw [this]
    decide

/-! ## Kernels (chapter 9) -/

/-- An invocation of instance 2^24 with windows CONST [1024, 2048) and WORK [2048, 10240), and LIMIT 1000. -/
def anInvo : Invo :=
  { inst := 16777216, init := true, limit := 1000, cbase := 1024, clen := 1024, wbase := 2048, wlen := 8192, inAt := 0, outAt := 0, stAt := 2048
    chans := 1, nsub := 1, smp := 24, mt := 0 }

/-- Core `c` runs a kernel whose first bundle is (a0, a1, ls, ac), at slot `n`; `f` sets its registers. -/
def runs (c n : Nat) (b : List Nat) (f : Core → Core) (s : State) : State :=
  { s with dsp := { s.dsp with
    kerns := [(0, { gen := 1, part := 0, gauge := true, points := 1, stBytes := 8, scBytes := 0, base := 0, sub := 0, init := 0, proc := 0
                    code := b.flatMap (toLe 4) ++ zeros 16, const := [], table := zeros 64 })]
    insts := [(16777216, { kern := 0, core := c, st := zeros 8 })]
    cores := [(c, f { run := some anInvo, slot := n })] } }

/-- An arithmetic word: OPC, SAT, WIDE, DST 3, SA 1, SB 2, X. -/
def aWord (opc : Nat) (sat wd : Bool) (x : Nat) : Nat :=
  opc * 2 ^ 26 + b2n sat * 2 ^ 25 + b2n wd * 2 ^ 24 + 3 * 2 ^ 19 + 1 * 2 ^ 14 + 2 * 2 ^ 9 + x

/-- Every operation on a Gauge core in slot 0 and, WIDE where it has that form, on a Jig core in slot 1. -/
theorem wit_KernelArithmeticSlots :
    (([0, 1, 2, 3, 4, 5, 6, 7, 8, 9, 10, 11, 12, 13, 14, 15, 16, 17, 18, 19, 20, 21, 22, 23, 24, 25, 26, 27, 28, 32, 33, 34, 62] : List Nat).all fun o =>
      let w := aWord o false false 1
      issues (runs 190 0 [w, 0, 0, 0] id up) 190 0 w && aOpc w == o) = true ∧
    (([1, 2, 3, 4, 5, 6, 7, 11, 12, 21, 23] : List Nat).all fun o =>
      let w := aWord o true true 0
      issues (runs 3 1 [0, w, 0, 0] id up) 3 1 w && aOpc w == o && aWide w) = true ∧
    (([32, 33] : List Nat).all fun o =>
      let w := aWord o false true 0
      issues (runs 191 0 [w, 0, 0, 0] id up) 191 0 w && aWide w) = true := by
  decide +kernel

/-- A load/store word: OPC, DA, DB; PA 0 with mode 1 and modifier 0, PB 1. -/
def lWord (opc da db : Nat) : Nat := opc * 2 ^ 28 + da * 2 ^ 23 + db * 2 ^ 18 + 1 * 2 ^ 12 + 1 * 2 ^ 10

/-- Pointers 0 and 1 at both ends of WORK, 2 at a descriptor in CONST. -/
def pointers (k : Core) : Core := { k with
  p := [2048, 10232, 1024, 0, 0, 0, 0, 0], d := List.replicate 32 1
  mem := [(1028, 8), (1029, 8), (1032, 16)] }

/-- A core as after reset. -/
def k0 : Core := {}

/-- An address and control word: OPC, K, D, the rest. -/
def cWord (opc k d x : Nat) : Nat := opc * 2 ^ 27 + k * 2 ^ 24 + d * 2 ^ 19 + x

theorem wit_KernelMemoryAndControlSlots :
    (([(0, 0, 0), (1, 3, 0), (2, 3, 4), (2, 3, 3), (3, 3, 0), (4, 3, 0), (5, 3, 0)] : List (Nat × Nat × Nat)).all fun e =>
      let w := lWord e.1 e.2.1 e.2.2
      let s := runs 3 2 [0, 0, w, 0] pointers up
      issues s 3 2 w && lOpc w == e.1 && !((getCore s 3).poisoned w) && (lDa w == lDb w) == (e.2.1 == e.2.2)) = true ∧
    (([(0, 0, 0), (1, 0, 1), (2, 0, 1), (2, 1, 1), (3, 0, 1), (4, 0, 0), (5, 0, 1023), (6, 0, 0), (7, 7, 2 ^ 18 - 1), (8, 0, 1), (9, 7, 1),
        (10, 0, 8), (11, 0, 0), (12, 0, 0), (13, 2, 15), (14, 0, 15), (15, 0, 0), (16, 0, 0), (17, 0, 0)] : List (Nat × Nat × Nat)).all fun e =>
      let w := cWord e.1 e.2.1 0 e.2.2
      let s := runs 190 3 [0, 0, 0, w] pointers up
      let k := getCore s 190
      issues s 190 3 w && cOpc w == e.1 && k.rep.isNone && k.repNew.isNone && k.xtra == 0 && k.p.length == 8 && k.m.length == 8 && k.cb.length == 8
        && k.cl.length == 8 && k.d.length == 32 && k.wr == [] && decide (1 ≤ laneOf (k.rd (cD w)) false) && (getInst s anInvo.inst).isSome) = true ∧
    (k0.rc (bits (cWord 2 0 0 1) 26 25) = bitOf (cWord 2 0 0 1) 24 ∧ k0.rc (bits (cWord 2 1 0 1) 26 25) ≠ bitOf (cWord 2 1 0 1) 24) ∧
    (let k : Core := { k0 with cb := [64, 0, 0, 0, 0, 0, 0, 0], cl := [2 ^ 18 - 64, 0, 0, 0, 0, 0, 0, 0], m := [8, 0, 0, 0, 0, 0, 0, 0] }
     (postMod k 0 2 0 (2 ^ 18 - 8)) = some 64 ∧ 64 + (2 ^ 18 - 64) ≤ 2 ^ 18) ∧
    ({ k0 with wr := [(1, .d 31 5)] } : Core).wr = [(1, .d 31 5)] ∧ 31 < k0.d.length := by
  decide +kernel

/-- An image of one bundle for CKC cores, entered at 0, with a right CRC; its version of the kernel interface is `v`. -/
def anImage (v : Nat) : Bytes :=
  let code := zeros 16
  toLe 4 0x4E4B5947 ++ toLe 1 1 ++ toLe 1 0 ++ toLe 1 1 ++ toLe 1 1 ++ toLe 2 v ++ zeros 2 ++ toLe 4 16 ++ zeros 12 ++ zeros 4 ++ zeros 8 ++ zeros 4
    ++ toLe 4 (crc32 code) ++ code

/-- Quotas that admit kernels; the instance of `runs` belongs to the leg of `house`, at its first point. -/
def kerneled (s : State) : State :=
  let u := house .active (runs 3 0 [0, 0, 0, 0] id s)
  { u with dsp := { u.dsp with insts := [(ikey (okey 3 0) 0, { kern := 0, core := 3, state := 2, st := zeros 8 })] } }

theorem wit_KernelStopsAndCommands :
    (let s := runs 3 0 [0, 0, 0, 0] (fun k => { k with cyc := 1000 }) up
     halted s = false ∧ (getCore s 3).run = some anInvo ∧ getInst s anInvo.inst ≠ none ∧ (getCore s 3).slot = 0 ∧ (getCore s 3).rep = none ∧
       anInvo.limit ≤ (getCore s 3).cyc.toNat) ∧
    (let w := aWord 63 false false 0
     let s := runs 3 0 [w, 0, 0, 0] id up
     let k := getCore s 3
     k.run = some anInvo ∧ k.slot = 0 ∧ k.cyc.toNat < anInvo.limit ∧
       ((runCode s anInvo).map fun e => bundleFault (isGauge 3) k anInvo e.1 e.2) = some (some 3)) ∧
    (let w := cWord 14 0 0 15
     let s := runs 3 0 [0, 0, 0, w] (fun k => { k with dma := [{ tag := 15, off := 0, local_ := 2048, len := 8 }] }) up
     let k := getCore s 3
     k.run = some anInvo ∧ k.slot = 0 ∧ k.cyc.toNat < anInvo.limit ∧
       ((runCode s anInvo).map fun e => (bundleFault (isGauge 3) k anInvo e.1 e.2, (bundleAt e.1 k.pc).map fun b => (cOpc b.ac, bits b.ac 3 0)))
         = some (none, some (14, 15))) ∧
    (let w := lWord 1 3 0
     issues (runs 3 2 [0, 0, w, 0] pointers up) 3 2 w = true ∧ lOpc w = 1) ∧
    (let s := runs 3 0 [0, 0, 0, 0] (fun k => { k with dma := [{ tag := 15, off := 0, local_ := 2048, len := 8 }] }) up
     (getCore s 3).dma[0]? = some { tag := 15, off := 0, local_ := 2048, len := 8 } ∧ (getCore s 3).slot = 0 ∧ (getCore s 3).rep = none ∧
       getInst s anInvo.inst ≠ none) ∧
    (let s := setTime (runs 191 0 [0, 0, 0, 0] (fun k => { k with part := some 0 }) up) { up.time with ticks := 4000000 }
     (getCore s 191).wdog + 4000000 ≤ s.time.ticks ∧ (getCore s 191).part ≠ none ∧ ((getInst s 16777216).map fun x => x.core) = some 191) := by
  decide +kernel

theorem wit_KernelCommands :
    (let p := [2, 0, 0, 0, 0, 0, 0, 0] ++ toLe 4 152 ++ toLe 4 (hd 1 1) ++ toLe 4 191 ++ toLe 4 0 ++ zeros 48
     let s := posted 0x010B 0 p up
     next 0x010B p up = true ∧ coreItems p 8 (le p 0 1) = [(152, hd 1 1), (191, 0)] ∧ (resolvePart s (hd 1 1)).isSome = true ∧
       (getCore s 152).part = none ∧ held s 2 152 [] = 0 ∧ (getCore s 191).part = none ∧ held s 3 15 [] = 0) ∧
    (let d := anImage up.boot.kabi
     let p := toLe 8 4096 ++ toLe 4 d.length ++ toLe 4 0
     let s := posted 0x0D00 0 p (windowed up)
     next 0x0D00 p (windowed up) = true ∧ inWindow (getFn s 0) (le p 0 8) (le p 8 4) false = true ∧ imageOk d = true ∧
       le d 6 1 ≤ isaLevel ∧ le d 8 1 = s.boot.kabi % 256 ∧ le d 9 1 ≤ s.boot.kabi / 256 ∧
       ((s.dsp.kerns.filter fun e => e.2.part = 0).length : Int) < quota s 0 4 0 ∧ lowestFree (Tab.keys s.dsp.kerns) 0 16 = some 0 ∧
       (fitMem 0 { s with dsp := { s.dsp with kerns := Tab.set s.dsp.kerns 0 (imageKernel d 1 0) } }).isSome = true) ∧
    (let p := toLe 4 (hd 0xA 0) ++ zeros 4
     let s := posted 0x0D01 0 p (kerneled up)
     let u := posted 0x0D01 0 p { kerneled up with dsp := { (kerneled up).dsp with insts := [] } }
     next 0x0D01 p (kerneled up) = true ∧ resolveKernel s 0 (le p 0 4) = some 0 ∧ kernelNamed s 0 = true ∧ kernelNamed u 0 = false) ∧
    (let p := toLe 4 (hd 0xA 0) ++ toLe 4 (hd 3 0)
     let s := kerneled up
     let m := ikey (okey 3 0) 0
     instanceAt (posted 0x0D02 0 p s) 0 p = some m ∧ next 0x0D02 p s = true ∧ next 0x0D03 p s = true ∧
       ((getInst s m).map fun x => x.state) = some 2 ∧
       ((getInst (updInst s m fun x => { x with state := 1 }) m).map fun x => x.state) = some 1) := by
  decide +kernel

/-! ## Audio ports (chapter 10) -/

/-- The port PORT:10 in state `st`: two slots of 24 bits at 48 kHz, a ring of 1,024 frames; `f` changes it. -/
def tdm (p st : Nat) (f : APort → APort) (s : State) : State :=
  setAPort s p (f { fields := [(fk 0x0C 3 0, 48000), (fk 0x0C 6 0, 24)], st := st, rx := 3, tx := 3 })

/-- The handle of a port, and four bytes after it. -/
def port8 (i n : Nat) : Bytes := toLe 4 (portHandle i) ++ toLe 2 0 ++ toLe 2 n

/-- A consumer channel-status block: byte 0 bit 0 clear, so without CRC. -/
def csBlock : Bytes := [4] ++ zeros 23

theorem wit_AudioPortEvents :
    (let s := tdm 15 1 (fun a => { a with newMask := some (1, 2) }) up
     let t := tdm 16 1 id up
     halted s = false ∧ (getAPort s 15).st = 1 ∧ aprm s 15 14 = 0 ∧ aprm s 15 6 = 24 ∧ (getAPort t 16).st = 1) ∧
    (let s := tdm 8 3 (fun a => { a with fields := (fk 0x0C 0 0, 1) :: a.fields }) up
     (getAPort s 8).st = 3 ∧ onTimeline 8 (getAPort s 8).fields = false) ∧
    (let s := tdm 17 2 id up
     (getAPort s 17).st = 2 ∧ aprm s 17 14 = 0) ∧
    (let s := tdm 16 2 (fun a => { a with good := 32 }) up
     (getAPort s 16).st ≠ 0 ∧ onTimeline 16 (getAPort s 16).fields = false ∧ fitRate s 16 768000 = some 48000 ∧
       fitRate s 16 (2 ^ 32 - 1) = none) ∧
    csOk csBlock = true ∧
    (let s := tdm 17 1 (fun a => { a with mute := some 4096 }) up
     (getAPort s 17).mute = some 4096) := by
  decide +kernel

theorem wit_PortCommands :
    (let p := port8 15 2 ++ ent (fk 0x0C 3 0) 48000 ++ ent (fk 0x0C 5 0) 32
     let es := entries p 8 (le p 6 2)
     resolvePort (le p 0 4) = some 15 ∧ next 0x0300 p up = true ∧ es.length = 2 ∧
       lowest (entryChecks es fun k => fTable k == 0x0C && portRow 15 (fRow k)) = none ∧
       portFieldsOk (posted 0x0300 0 p up) 15 (applyEntries (getAPort up 15).fields es) = true ∧ portLegs (posted 0x0300 0 p up) 15 = [] ∧
       (getAPort up 15).st = 0) ∧
    (let p := port8 7 1 ++ ent (fk 0x12 1 0) 9018
     let es := entries p 8 (le p 6 2)
     resolvePort (le p 0 4) = some 7 ∧ next 0x0300 p up = true ∧ es.length = 1 ∧
       lowest (entryChecks es fun k => fTable k == 0x12 && decide (fRow k ≤ 6)) = none ∧ (∀ e ∈ es, fRow e.key ≠ 0) ∧
       fifoOk (applyEntries (getPort up 7).fields es) = true ∧ fld (applyEntries (getPort up 7).fields es) (fk 0x12 3 0) % 2 = 0) ∧
    (next 0x0301 (port8 0 0) up = true ∧ next 0x0301 (port8 19 0) up = true) ∧
    (let p := toLe 4 (portHandle 8) ++ toLe 4 1 ++ toLe 4 3 ++ zeros 4
     let s := tdm 8 1 id up
     next 0x0302 p s = true ∧ le p 4 4 < 2 ^ slotsOf 8 (getAPort s 8).fields ∧ le p 8 4 < 2 ^ slotsOf 8 (getAPort s 8).fields) ∧
    (let q := [1, 2, 1, 0, 0, 0, 0, 0]
     next 0x0303 q up = true ∧ le q 0 1 ≤ 1 ∧ 1 ≤ le q 1 1 ∧ le q 1 1 ≤ 2 ∧ le q 2 1 ≤ 1 ∧ up.aud.ports = []) ∧
    (next 0x0304 (port8 16 0) up = true ∧ next 0x0305 (port8 18 0 ++ [4] ++ zeros 23 ++ [4] ++ zeros 23) up = true) := by
  decide +kernel

/-! ## Kerf (chapter 11) -/

/-- Two gate entries of 1 µs in a cycle of 3 µs. -/
def aGate : GateList := { base := 0, cycle := 3000, ents := [(1, 1000), (0x80, 1000)] }

/-- Ethernet port 7 changed. -/
def port7 (f : EthPort → EthPort) (s : State) : State := setPort s 7 (f (getPort s 7))

theorem wit_TokenBucketPseudocode : ({ tok := -5, rate := 1000000, at_ := 7 } : Bucket).at_ ≤ 7 := by decide

/-- A policer with full buckets. -/
def aPol : Policer := fullPol [(fk 0x0D 2 0, 1000000), (fk 0x0D 3 0, 1500), (fk 0x0D 4 0, 1500), (fk 0x0D 6 0, 1500)] 0

theorem wit_BucketsAndMarkers :
    ({} : Bucket).at_ ≤ 1 ∧ ({ tok := 0 } : Bucket).may = true ∧ aPol.tc ≤ fldN aPol.fields (fk 0x0D 3 0) * 65536 ∧
    aPol.te ≤ fldN aPol.fields (fk 0x0D 4 0) * 65536 ∧ aPol.tp ≤ fldN aPol.fields (fk 0x0D 6 0) * 65536 ∧
    (srtcm aPol .green 1500 0).1 = .green ∧ (srtcm aPol .yellow 1500 0).1 = .yellow ∧ (srtcm aPol .green 1501 0).1 = .red ∧
    (trtcm aPol .green 1500 0).1 = .green ∧ (trtcm aPol .yellow 1500 0).1 = .yellow ∧ (trtcm aPol .green 1501 0).1 = .red ∧
    getPol { up with eth := { up.eth with pol := [(8192 + 5, aPol)] } } 1 5 = some aPol := by
  decide +kernel

theorem wit_GatesAndFlowControl :
    (let s := port7 (fun e => { e with gates := some aGate, gateIdx := 0, gateEnd := 1000, gateCycle := 0 }) (atMt 1000 up)
     let e := getPort s 7
     halted s = false ∧ e.gates = some aGate ∧ e.gateEnd ≤ phcNs s.time ∧ e.gateEnd < e.gateCycle + aGate.cycle ∧
       e.gateIdx + 1 < aGate.ents.length) ∧
    (let s := port7 (fun e => { e with gates := some aGate, gateIdx := 1, gateEnd := 3000, gateCycle := 0 }) (atMt 3000 up)
     let u := port7 (fun e => { e with gateHold := some 2500 }) s
     (getPort s 7).gateHold.getD ((getPort s 7).gateCycle + aGate.cycle) ≤ phcNs s.time ∧
       (getPort u 7).gateHold.getD ((getPort u 7).gateCycle + aGate.cycle) ≤ phcNs u.time) ∧
    (let s := port7 (fun e => { e with gatesNew := some (aGate, 3000) }) (atMt 3000 up)
     (getPort s 7).gatesNew = some (aGate, 3000) ∧ 3000 ≤ phcNs s.time) ∧
    ([0, 1, 2].all fun n => portFlow (port7 (fun e => { e with fields := [(fk 0x12 2 0, n)] }) up) 7 == n) = true ∧
    (let s := timed (fun t => { t with ticks := 9 }) (port7 (fun e => { e with pausedTo := [(7, 9)] }) up)
     Tab.get (getPort s 7).pausedTo 7 = some 9 ∧ 9 ≤ s.time.ticks) := by
  decide +kernel

/-- The outgoing stream of `house` with a packet in its queue. -/
def sending (n : Int) (s : State) : State :=
  queued (qStream (okey 4 1)) [anItem .media 1000 (okey 3 0) (okey 4 1)] (setStream s (okey 4 1) { pacer := { tok := n } })

theorem wit_PacersAndLimiters :
    (let s := sending 0 (house .active up)
     let l := legOfStream s (okey 4 1)
     halted s = false ∧ (qHead s (qStream (okey 4 1))).isSome = true ∧ isOut s (okey 4 1) = true ∧ (pacerNow s (okey 4 1)).may = true ∧
       qFull s (qClass (legPort s l) (streamTc s (okey 4 1))) 1000 = false ∧ (shaperNow s l).may = true ∧ isChosen s l (okey 4 1) = true) ∧
    (let s := sending 0 (fixedHouse (house .active up))
     (qHead s (qStream (okey 4 1))).isSome = true ∧ isOut s (okey 4 1) = true ∧ (pacerNow s (okey 4 1)).may = true ∧ isFixed s (okey 4 1) = true ∧
       qFull s (qClass (legPort s (okey 3 0)) (streamTc s (okey 4 1))) 1000 = false) ∧
    (let s := sending (-1) (fixedHouse (house .active up))
     (qHead s (qStream (okey 4 1))).isSome = true ∧ isFixed s (okey 4 1) = true ∧ (pacerNow s (okey 4 1)).may = false) ∧
    (let s := queued (qCtrl (okey 3 0)) [anItem .rtcp 100 (okey 3 0) 0] (house .active up)
     (qHead s (qCtrl (okey 3 0))).isSome = true ∧ qFull s (qClass (legPort s (okey 3 0)) (ctrlClass s (okey 3 0))) 100 = false) ∧
    (let s := queued (qHtx 1) [anItem .host 100 0 7] up
     let u := { s with obj := { s.obj with parts := Tab.upd s.obj.parts 1 fun x => { x with lim := { tok := -1 } } } }
     let v := queued (qClass 7 0) (List.replicate 9 (anItem .host 262144 0 7)) s
     (qHead s (qHtx 1)).isSome = true ∧ (limiterNow s 1).may = true ∧ qFull s (qClass 7 0) 100 = false ∧ (Tab.get s.obj.parts 1).isSome = true ∧
       (limiterNow u 1).may = false ∧ (limiterNow v 1).may = true ∧ qFull v (qClass 7 0) 100 = true) := by
  decide +kernel

/-- A gate list as DMA reads it. -/
def gateData : Bytes := toLe 4 1 ++ toLe 4 8 ++ toLe 4 0x80 ++ toLe 4 1000000000

theorem wit_GateListsAndPolicers :
    (let p := port8 7 1 ++ ent (fk 0x12 7 0) 40
     let es := entries p 8 (le p 6 2)
     let s := posted 0x0306 0 p up
     let s1 := setPort s 7 { getPort s 7 with fields := applyEntries (getPort s 7).fields es }
     next 0x0306 p up = true ∧ resolvePort (le p 0 4) = some 7 ∧ es.length = 1 ∧
       lowest (entryChecks es fun k => fTable k == 0x12 && decide (7 ≤ fRow k)) = none ∧ portFails (future s1) 7 (gateLists (getPort s1 7)) = none) ∧
    (let p := toLe 4 (portHandle 7) ++ toLe 2 2 ++ zeros 2 ++ toLe 6 1 ++ zeros 2 ++ toLe 4 999999999 ++ toLe 4 1000000000 ++ toLe 8 64
     let g : GateList := { base := 1999999999, cycle := 1000000000, ents := [(1, 8), (0x80, 1000000000)] }
     next 0x0307 p (windowed up) = true ∧ le p 4 2 = 2 ∧ le p 20 4 = 1000000000 ∧ le p 16 4 < 1000000000 ∧
       inWindow (getFn (windowed up) 0) (le p 24 8) (8 * le p 4 2) false = true ∧
       (([0, 1] : List Nat).all fun j => le gateData (8 * j + 1) 3 == 0 && decide (8 ≤ le gateData (8 * j + 4) 4)
         && decide (le gateData (8 * j + 4) 4 ≤ 1000000000)) = true ∧
       portFails (future (posted 0x0307 0 p (windowed up))) 7 [(getPort up 7).gates, some g] = none) ∧
    (let p := port8 7 0 ++ toLe 8 16777200
     let s := port7 (fun e => { e with gates := some aGate }) (windowed up)
     next 0x0308 p up = true ∧ next 0x0308 p s = true ∧ (getPort up 7).gates = none ∧ (getPort up 7).gatesNew = none ∧
       inWindow (getFn s 0) (le p 8 8) ((gateBytes aGate).length + 0) true = true) ∧
    (let p := toLe 2 7 ++ zeros 4 ++ toLe 2 1 ++ ent (fk 0x0D 2 0) 125000
     let es := entries p 8 (le p 6 2)
     let fs := applyEntries [] es
     next 0x0607 p up = true ∧ (getFn up 0).part = some 0 ∧ (le p 0 2 : Int) < quota up 0 5 0 ∧ getPol up 0 7 = none ∧ es.length = 1 ∧
       (∀ e ∈ es, e.key ≠ fk 0x0D 7 0) ∧ lowest (entryChecks es fun k => fTable k == 0x0D) = none ∧ fld fs (fk 0x0D 0 0) ≠ 1 ∧
       fldN fs (fk 0x0D 3 0) = fldN (fullPol [] 0).fields (fk 0x0D 3 0)) := by
  decide +kernel

/-! ## Batten (chapter 12) -/

/-- Group `g` changed. -/
def grouped (g : Nat) (x : Group) (s : State) : State := setGroup s g x

theorem wit_QueueAndGroupCommands_queues :
    up.host.owner = 0 ∧ next 0x0E01 (toLe 2 32767 ++ zeros 6) up = true ∧
    (let p := toLe 2 0 ++ toLe 1 1 ++ zeros 5
     next 0x0E02 p up = true ∧ mayQueue up 0 0 = true ∧ le p 2 1 < 2 ∧ ¬(qKind 0 = 1 ∧ le p 2 1 = 1)) ∧
    (next 0x0E02 (toLe 2 16384 ++ zeros 6) up = true ∧ qKind 16384 = 1 ∧ le (toLe 2 16384 ++ zeros 6) 2 1 ≠ 1) ∧
    next 0x0E03 (toLe 2 18495 ++ zeros 6) up = true ∧
    (let s := house .active up
     let p := toLe 2 1 ++ zeros 6
     let t := posted 0x0E03 1 p (setFn s 1 { getFn s 1 with part := some 0 })
     upNext 0x0E03 (box 1) 1 p t = true ∧ t.host.owner ≠ 1 ∧ mayQueue t 1 1 = true ∧ qKind 1 ≠ 2 ∧ qKind 1 ≠ 7) ∧
    next 0x0E0A [] up = true ∧
    (next 0x010A (toLe 8 268435456) up = true ∧ next 0x010A (toLe 8 34359738368) up = true ∧ queuedPages up.batten = 0 ∧
      queuedPages (setQ up 5 { pages := 1 }).batten ≠ 0) ∧
    (let p := (List.replicate 8 (toLe 4 (3 + 65535 * 65536))).flatten
     next 0x0309 p up = true ∧ ([0, 1, 2, 3, 4, 5, 6, 7] : List Nat).all (fun n => le p (4 * n) 4 % 65536 == 3) = true) := by
  decide +kernel

theorem wit_QueueAndGroupCommands_groups :
    (let s := grouped 255 { part := some 0 } (house .active up)
     let t := setQ s 1 { group := some 255 }
     let p := fun (o : Nat) => toLe 1 255 ++ toLe 1 o ++ toLe 2 2 ++ toLe 2 1 ++ toLe 2 2
     next 0x0E04 (p 0) s = true ∧ next 0x0E04 (p 1) t = true ∧ groupItems (p 0) 4 2 = [1, 2] ∧
       (([1, 2] : List Nat).all fun q => qPart s q == some 0 && (getQ s q).group == none) = true ∧ (getQ t 1).group = some 255) ∧
    (let p := toLe 1 255 ++ zeros 3 ++ toLe 4 0xFFFFFFFF ++ toLe 2 1 ++ zeros 6 ++ ent (fk 0x0E 0 0) 524289
     let es := entries p 16 (le p 8 2)
     let fs := applyEntries (getGroup up 255).fields es
     next 0x0E05 p up = true ∧ es.length = 1 ∧ lowest (entryChecks es fun k => fTable k == 0x0E) = none ∧
       fld fs (fk 0x0E 1 0) < fld fs (fk 0x0E 0 0)) ∧
    next 0x0E06 (zeros 8) up = true ∧ next 0x0E07 (toLe 1 0 ++ toLe 1 3 ++ zeros 6) up = true ∧
    next 0x0E08 (toLe 1 0 ++ toLe 1 20 ++ toLe 1 20 ++ zeros 5) up = true ∧ next 0x0E09 (toLe 1 0 ++ toLe 1 1 ++ zeros 6) up = true := by
  decide +kernel

theorem wit_SpillMarksAndRepeats :
    halted up = false ∧
    (let s := setQ (house .active up) 1 { stall := true, items := [anItem .media 4096 0 0] }
     (getQ s 1).stall = true ∧ qFixed s 1 = false ∧ pagesOk s 1 1 = false) ∧
    (let s := setQ (house .active { up with mem := { up.mem with channels := 8, rate := 6400 } }) 1 { stall := true, items := [anItem .media 4096 0 0] }
     pagesOk { s with batten := { s.batten with pool := true } } 1 1 = true) ∧
    (getQ up 1).stall = false ∧
    (let s := grouped 255 { fields := [(fk 0x0E 0 0, 100), (fk 0x0E 1 0, 50)] } (setQ up 1 { group := some 255, items := [anItem .media 100 0 0] })
     let t := grouped 255 { fields := [(fk 0x0E 0 0, 200), (fk 0x0E 1 0, 100)], above := true } s
     (getGroup s 255).above = false ∧ fldN (getGroup s 255).fields (fk 0x0E 0 0) ≤ groupLevel s 255 ∧
       (getGroup t 255).above = true ∧ groupLevel t 255 ≤ fldN (getGroup t 255).fields (fk 0x0E 1 0)) ∧
    (let s := timed (fun t => { t with ticks := 8000000 }) (grouped 255 { owed := true, evAt := some 0 } up)
     (getGroup s 255).owed = true ∧ (getGroup s 255).evAt = some 0 ∧ 0 + 8000000 ≤ s.time.ticks) ∧
    (let s := { up with batten := { up.batten with pins := List.replicate 8 ({ en := true, on := true, minNs := 0, entry := 0 } : QPin) } }
     let y := s.batten.pins[7]?.getD ({} : QPin)
     y.on = true ∧ y.entry + nsTicks y.minNs ≤ s.time.ticks) ∧
    (let s := port7 (fun e => { e with holds := [(7, 0)] }) up
     Tab.get (getPort s 7).holds 7 = some 0 ∧ 0 ≤ s.time.ticks) := by
  decide +kernel

theorem wit_QueueBooksBalance :
    (let x := getQ (qPush 1 (anItem .media 100 0 0) false up) 1
     (ctr x.ctrs .poppedItems + ctr x.ctrs .droppedItems + x.items.length) % 2 ^ 64 = ctr x.ctrs .pushedItems % 2 ^ 64) ∧ (2 : Nat) ≠ 1 := by
  decide +kernel

/-! ## Memory (chapter 13) -/

/-- The memory controller changed. -/
def memory (f : MemPart → MemPart) (s : State) : State := { s with mem := f s.mem }

/-- A read of a line by requester 3 at tick 0. -/
def aReq (wr bad : Bool) (n a : Nat) : DramReq :=
  { id := 0, cls := 0, rank := 0, bg := 0, ba := 0, row := 5, dpa := a, write := wr, bytes := n, unit := 3, part := none, poison := bad, at_ := 0 }

/-- Subchannel 1 of channel 7 with requests and reads in flight. -/
def sub71 (q fl : List DramReq) (s : State) : State := setSub s 7 1 { reqs := q, flight := fl }

theorem wit_MemoryEvents :
    halted up = false ∧
    ((some 1 : Option Nat) = some 1 ∧ extentPart up 64 ≠ some 1) ∧ issueNext up (getSub up 7 1) = none ∧
    (([aReq false false 64 640, aReq true true 64 640, aReq true false 64 640, aReq true false 32 640] : List DramReq).all fun r =>
      let s := sub71 [r, aReq false false 64 64000] [] up
      issueNext s (getSub s 7 1) == some r) = true ∧
    (let s := sub71 [] [aReq false false 64 640] up
     (getSub s 7 1).flight = [aReq false false 64 640] ∧ (aReq false false 64 640).dpa / 64 ∉ s.mem.poisoned) ∧
    (let s := timed (fun t => { t with ticks := 1600 }) (sub71 [] [aReq false false 64 640] up)
     ((getSub s 7 1).flight.find? fun r => decide (r.at_ + 1600 ≤ s.time.ticks)).isSome = true ∧
       (∀ r ∈ (getSub (sub71 [] [aReq false false 64 640] up) 7 1).flight, up.time.ticks < r.at_ + 1600)) ∧
    (let s := timed (fun t => { t with ticks := 3120 }) up
     let w := sub71 [aReq false false 64 640] [] s
     (getRank s 7 0).lastRef + (if (getRank s 7 0).hot then 1560 else 3120) * ((getRank s 7 0).postp + 1) ≤ s.time.ticks ∧
       ¬((getRank up 7 1).lastRef + (if (getRank up 7 1).hot then 1560 else 3120) * ((getRank up 7 1).postp + 1) ≤ up.time.ticks) ∧
       (getRank w 7 0).postp < 4 ∧ ∃ r ∈ (getSub w 7 1).reqs, r.rank = 0 ∧ r.cls = 0) ∧
    (let s := setRank (timed (fun t => { t with ticks := 3120 }) up) 7 0 { sweep := some 3, lastRef := 3120 }
     (getRank s 7 0).sweep ≠ none ∧ (getRank s 7 0).lastRef = s.time.ticks) ∧
    (let s := timed (fun t => { t with ticks := 2000000 }) (memory (fun m => { m with prm := [(fk 0x0F 1 0, 64), (fk 0x0F 2 0, 1000000)] }) up)
     (getRank s 7 1).power = 0 ∧ 0 < mprm s 1 ∧ (getRank s 7 1).lastReq + nsTicks (mprm s 1) ≤ s.time.ticks ∧ (getSub s 7 0).reqs = [] ∧
       (getSub s 7 1).reqs = [] ∧ 0 < mprm s 2 ∧ holdsBuffers s = false ∧
       (([0, 1] : List Nat).all fun r => decide ((getRank s 7 r).lastReq + nsTicks (mprm s 2) ≤ s.time.ticks)) = true) ∧
    (0 < mprm up 3 ∧ up.mem.scrubAt + up.mem.scrubPos / 64 * (mprm up 3 * 3600 * tS) / (dramBytes up / 64) ≤ up.time.ticks ∧
      up.mem.scrubPos / 64 ∉ up.mem.poisoned ∧ up.mem.scrubPos + 64 < dramBytes up) ∧
    (Tab.get (memory (fun m => { m with extents := [(9, { owner := none, zeroing := true })] }) up).mem.extents 9 = some { owner := none, zeroing := true }) ∧
    up.mem.log.length ≤ 512 := by
  decide +kernel

/-- A full log with one corrected entry; an uncorrectable one to come. -/
theorem wit_MemoryEvents_log :
    (List.replicate 511 (errAt up 2 0 0 0 0) ++ [errAt up 1 0 0 0 0]).length ≤ 512 ∧ (errAt up 2 0 0 0 0).corrected = false ∧
      ∃ x ∈ List.replicate 511 (errAt up 2 0 0 0 0) ++ [errAt up 1 0 0 0 0], x.corrected = true := by
  refine ⟨by decide +kernel, by decide +kernel, errAt up 1 0 0 0 0, by simp, by decide +kernel⟩

theorem wit_MemoryCommands :
    (let p := [3, 0, 0, 0, 0, 4, 8, 0, 4, 2, 16, 0, 6, 2, 12, 0]
     let ks := setItems p 4 (le p 0 1)
     let chs := ks.flatMap fun k => (List.range k.1.n).map (· + k.1.first)
     next 0x0107 p up = true ∧ (ks.all fun k => k.2 && memSetOk up.mem.channels k.1) = true ∧ chs.Nodup ∧ chs.length = up.mem.channels ∧
       up.batten.pool = false ∧ up.mem.extents = []) ∧
    (let p := toLe 4 (hd 1 1) ++ zeros 4 ++ List.replicate 64 7
     let s := memory (fun m => { m with extents := [(9, { owner := some 1, zeroing := false })] }) up
     next 0x0108 p up = true ∧ resolvePart up (le p 0 4) = some 1 ∧ (Tab.get up.obj.parts 1).isSome = true ∧ extentsOf up 1 = [] ∧
       next 0x0108 p s = true ∧ extentsOf s 1 ≠ []) ∧
    (let p := zeros 6 ++ toLe 2 2 ++ ent (fk 0x0F 1 0) 32 ++ ent (fk 0x0F 2 0) 0
     let es := entries p 8 (le p 6 2)
     next 0x0109 p up = true ∧ es.length = 2 ∧ lowest (entryChecks es fun k => fTable k == 0x0F) = none ∧
       (∀ e ∈ es, (e.key = fk 0x0F 1 0 → e.val = 0 ∨ 32 ≤ e.val) ∧ (e.key = fk 0x0F 2 0 → e.val = 0 ∨ 1000000 ≤ e.val))) ∧
    (next 0x0E0B (toLe 8 64) (windowed up) = true ∧
      inWindow (getFn (windowed up) 0) 64 ((List.range up.mem.channels).flatMap (chanStatus up)).length true = true) ∧
    (next 0x0E0C (zeros 8) up = true ∧ upNext 0x0E0C (box 1) 1 (zeros 8) (posted 0x0E0C 1 (zeros 8) up) = true ∧ up.host.owner ≠ 1) ∧
    next 0x0E0D (toLe 2 5 ++ zeros 6) up = true ∧
    (let s := clipped up
     memUse s 0 = 768 ∧ ((fitMem 0 s).map fun t => extentsOf t 0) = some [0] ∧ (Tab.keys s.mem.extents).Pairwise (· < ·) ∧ extentsOf s 0 = []) := by
  decide +kernel

/-! ## The host transport (chapter 14) -/

/-- Mailbox `m` of function 255 as `b`. -/
def mb255 (m : Mb) (b : Mbox) (s : State) : State := setMb s 255 m b

theorem wit_MailboxHandshake :
    (let b : Mbox := { area := Mem.write 0 [] 0 (toLe 2 1 ++ toLe 2 5 ++ zeros 4), seq := 4 }
     let s := mb255 .admin b up
     let b1 : Mbox := { b with state := .pending, seq := 5, op := 1, hdrSeq := 5, len := 0, flags := 0, pay := [] }
     let t := mb255 .media b up
     halted s = false ∧ serving s = true ∧ (getMb s 255 .admin).state = .ready ∧ 5 % 65536 ≠ (getMb s 255 .admin).seq ∧
       r693 s 255 .admin b1 = none ∧ r693 t 255 .media b1 = some .wrongMailbox) ∧
    (getMb (mb255 .media { state := .done } up) 255 .media).state ≠ .ready ∧ 65536 % 65536 = (getMb up 255 .admin).seq ∧
    (let s := mb255 .media { state := .done, seq := 7, op := 1 } up
     (getMb s 255 .media).state = .done ∧ 65543 % 65536 = (getMb s 255 .media).seq ∧ (getMb s 255 .media).op ≠ 0x0F04) ∧
    (let s := setMb { up with boot := { up.boot with actReset := some 3 } } 0 .admin { state := .done, seq := 7, op := 0x0F04 }
     (getMb s 0 .admin).state = .done ∧ (getMb s 0 .admin).seq = 7 ∧ (getMb s 0 .admin).op = 0x0F04 ∧ (getMb s 0 .admin).result = 0 ∧
       s.host.owner = 0 ∧ s.boot.actReset.isSome = true) ∧
    ((getMb up 255 .media).state ≠ .done ∧ (2040 : Nat) + ([1, 2, 3, 4, 5, 6, 7, 8] : Bytes).length ≤ 2048 ∧ (getMb up 255 .media).state ≠ .pending) ∧
    (let s := timed (fun t => { t with ticks := 4000000 }) (mb255 .media { state := .pending, op := 0x0200 } up)
     (getMb s 255 .media).state = .pending ∧ (getMb s 255 .media).since + serviceMs .media (getMb s 255 .media) * tMs ≤ s.time.ticks) := by
  decide +kernel

theorem wit_CompletionWritesTheMailbox :
    ((zeros 2040).length ≤ 2040) ∧ (1 : Nat) ≠ 255 ∧ bitOf (getMb up 255 .admin).flags 0 = false := by
  decide +kernel

theorem wit_RegistersAndConfigurationSpace :
    halted up = false ∧ ([1, 2, 3, 4] : Bytes).length = 4 ∧ (0x8000 + 16 * 134 < 65536) ∧
    (let s := fn0 (fun f => { f with msixEn := true, pba := [133] }) up
     vecOk 0 133 = true ∧ (getFn s 0).msixEn = true ∧ (getFn s 0).pba = [133] ∧ 133 ∉ (getFn s 0).unmasked) ∧
    (let s := { up with host := { up.host with mode := 2, perst := [(false, 0), (false, 0), (false, 0), (false, 0)] } }
     ([0, 63, 64, 255].all fun F => decide (F < nFuncs s) && s.host.perst[F / 64]? == some (false, 0)) = true) := by
  decide +kernel

/-- Function 0 with one ring and one event queue, in its windows. -/
def ringed (r : Ring → Ring) (e : EvQueue → EvQueue) (s : State) : State :=
  fn0 (fun f => { f with rings := [(63, r { base := 64, size := 64, eq := 63, headWb := 8 })], queues := [(63, e anEq)] }) (windowed s)

/-- The entry of an opcode at HEAD of that ring. -/
def onRing (op : Nat) (p : Bytes) : Src := .ring 0 63 (toLe 2 op ++ zeros 6 ++ padTo 56 p)

theorem wit_RingAndQueueIndices :
    (let s := ringed (fun r => { r with wbDue := some 0 }) id up
     let t := ringed (fun r => { r with state := .stopped }) (fun e => { e with u := 1 }) up
     halted s = false ∧ (Tab.get (getFn s 0).rings 63).map (·.state) = some .running ∧ wrap 32 ((64 : Int) - 0) ≤ 64 ∧ 64 < wrap 32 ((65 : Int) - 0) ∧
       (Tab.get (getFn s 0).rings 63).map (·.wbDue.isSome) = some true ∧ (Tab.get (getFn t 0).rings 63).map (·.state) = some .stopped ∧
       (Tab.get (getFn s 0).queues 63) = some anEq ∧ wrap 32 ((anEq.tail : Int) - 0) ≤ anEq.size ∧ anEq.size < wrap 32 ((anEq.tail : Int) - 1) ∧
       (Tab.get (getFn t 0).queues 63).map (fun e => decide (0 < e.u ∧ e.t0 + e.time * tUs ≤ t.time.ticks)) = some true ∧
       (getFn s 0).backlog = [] ∧ (getFn s 0).pendLoss = []) ∧
    (let r : EvRec := { typ := 1, handle := 0, mt := 0, payload := [] }
     let s := fn0 (fun f => { f with backlog := [(63, r)] }) (ringed id (fun e => { e with tail := 64, head := 1 }) up)
     (getFn s 0).backlog = [(63, r)] ∧ (getFn s 0).pendLoss = [] ∧ ((Tab.get (getFn s 0).queues 63).map eqRoom) = some true) := by
  decide +kernel

theorem wit_FencesNeverDecrease :
    (let p := toLe 8 77
     next 0x0B00 p up = true ∧ (getFn up 0).part.isSome = true ∧ lowestFree (Tab.keys (getFn up 0).fences) 0 256 = some 0) ∧
    (let s := fn0 (fun f => { f with fences := [(255, 9)], fgens := [(255, 3)] }) up
     let h := mkHandle 9 3 255
     let p := toLe 4 h ++ zeros 4 ++ toLe 8 8
     let t := ringed (fun r => { r with tail := 1 }) id s
     Tab.get (getFn s 0).fences 255 = some 9 ∧ (9 : Nat) ≤ le (toLe 8 9) 0 8 ∧ le (toLe 8 8) 0 8 < 9 ∧ (toLe 4 1).length ≠ 8 ∧
       upNext 0x0B02 (onRing 0x0B02 p) 0 p t = true ∧ hType (le p 0 4) = 9 ∧ hIdx (le p 0 4) = 256 * 0 + 255 ∧
       Tab.getD (getFn t 0).fgens 255 0 = hGen (le p 0 4) ∧ (getFn t 0).part = some 0 ∧ sees t 0 0 = true ∧
       next 0x0B01 (toLe 4 h ++ zeros 4) s = true ∧ Tab.has (getFn s 0).fences 255 = true ∧ fenceNamed s h = false) := by
  decide +kernel

/-- RING_CREATE or EQ_CREATE. -/
def ringCmd (k v n a b : Nat) : Bytes := toLe 1 k ++ toLe 1 63 ++ toLe 2 v ++ toLe 4 n ++ toLe 8 a ++ toLe 8 b

theorem wit_RingQueueAndWindowCommands :
    (let s := ringed (fun r => { r with tail := 1 }) id up
     upNext 0x0000 (onRing 0 []) 0 [] s = true) ∧
    (let s := ringed id id up
     let p := ringCmd 0 0 65536 64 8
     next 0x0010 p s = true ∧ 2 ^ Nat.log2 (le p 4 4) = le p 4 4 ∧ le p 8 8 % 64 = 0 ∧ le p 16 8 % 8 = 0 ∧
       Tab.has (getFn s 0).rings 0 = false ∧ inWindow (getFn s 0) 64 (64 * 65536) false = true ∧ inWindow (getFn s 0) 8 8 true = true) ∧
    (let s := ringed (fun r => { r with state := .error, head := 5 }) id up
     let p := toLe 1 63 ++ zeros 3 ++ toLe 4 69
     next 0x0012 p s = true ∧ (Tab.get (getFn s 0).rings 63).map (fun r => (r.state, r.head, r.size)) = some (.error, 5, 64) ∧
       wrap 32 ((le p 4 4 : Int) - 5) ≤ 64 ∧ next 0x0011 (toLe 1 63 ++ zeros 7) s = true ∧ Tab.has (getFn s 0).rings 63 = true) ∧
    (let p := toLe 1 63 ++ zeros 1 ++ toLe 2 133 ++ toLe 4 64 ++ toLe 8 32 ++ toLe 2 1 ++ toLe 2 0 ++ zeros 4
     let s := windowed up
     next 0x0013 p s = true ∧ 2 ^ Nat.log2 (le p 4 4) = le p 4 4 ∧ vecOk 0 (le p 2 2) = true ∧ Tab.has (getFn s 0).queues 63 = false ∧
       inWindow (getFn s 0) (le p 8 8) (32 * le p 4 4) true = true) ∧
    (let s := fn0 (fun f => { f with rings := [] }) (ringed id id up)
     next 0x0014 (toLe 1 63 ++ zeros 7) s = true ∧ Tab.has (getFn s 0).queues 63 = true ∧ (getFn s 0).rings = [] ∧ timeOwner s ≠ some 0) ∧
    (let p := toLe 2 2 ++ toLe 2 1 ++ toLe 2 0xFFF ++ toLe 1 63 ++ zeros 1 ++ toLe 2 1 ++ toLe 1 255 ++ zeros 1
     next 0x0015 p up = true ∧ routeClean p 2 = true ∧ routeItems p 4 2 = [(0xFFF, 63), (1, 255)]) ∧
    (let p := toLe 8 (2 ^ 64 - 4096) ++ toLe 8 4096 ++ toLe 1 3 ++ zeros 7
     next 0x0018 p up = true ∧ lowestFree (Tab.keys (getFn up 0).wins) 0 64 = some 0 ∧ le p 0 8 + le p 8 8 ≤ 2 ^ 64 ∧ le p 0 8 % 4096 = 0) ∧
    (let s := windowed up
     next 0x0019 (zeros 8) s = true ∧ ((Tab.get (getFn s 0).wins 0).map fun w => windowUsed (getFn s 0) w) = some false) ∧
    next 0x0001 [] up = true := by
  decide +kernel

/-- Function 0 with a host ring of a kind that has one posted descriptor. -/
def posting (kind : Nat) (s : State) : State :=
  fn0 (fun f => { f with hrings := [(kind, { base := 64, slots := 64, slotBytes := 2048, tail := 1, part := some 0 })] }) (windowed s)

/-- The partition 0 may send on class 0 of port 7. -/
def sendOn7 (s : State) : State :=
  { s with obj := { s.obj with parts := Tab.upd s.obj.parts 0 fun x => { x with quota := Tab.set x.quota (fk 0x10 8 0) (2 ^ 56) } } }

theorem wit_HostRings :
    (([0, 1, 2, 3] : List Nat).all fun k => ((Tab.get (getFn (posting k up) 0).hrings k).map fun r => (r.head, r.tail, r.slots)) == some (0, 1, 64)) = true ∧
    wrap 32 ((1 : Int) - 1) ≤ 64 ∧ 64 < wrap 32 ((1 : Int) - 2) ∧ wrap 32 ((64 : Int) - 0) ≤ 64 ∧ 64 < wrap 32 ((65 : Int) - 0) ∧
    (let d := toLe 8 128 ++ toLe 2 60 ++ toLe 1 7 ++ zeros 5
     let s := sendOn7 (posting 1 up)
     let t := timed (fun t => { t with prm := [(fk 0x0B 0 0, 0)] }) (posting 3 up)
     ((Tab.get (getFn s 0).hrings 1).map fun r => (r.part, decide (0 < r.posted))) = some (some 0, true) ∧ qFull s (qHtx 0) 64 = false ∧
       txLenOk s 7 60 (zeros 60) = true ∧ bitOf (quota s 0 8 0) 56 = true ∧ inWindow (getFn s 0) (le d 0 8) 60 false = true ∧
       le d 8 2 = 60 ∧ le d 10 1 = 7 ∧ bitOf (le d 11 1) 0 = false ∧
       timeOwner t = some 0 ∧ ((Tab.get (getFn t 0).hrings 3).map fun r => decide (0 < r.posted)) = some true ∧ qFull t 27200 64 = false ∧
       txLenOk t 7 60 (zeros 60) = true ∧ inWindow (getFn t 0) 128 60 false = true) ∧
    (let p := toLe 1 1 ++ toLe 1 2 ++ zeros 2 ++ toLe 4 16384 ++ toLe 8 64
     let q := toLe 1 0 ++ toLe 1 0 ++ zeros 2 ++ toLe 4 64 ++ toLe 8 64
     let s := windowed up
     next 0x0016 p s = true ∧ next 0x0016 q s = true ∧ (getFn s 0).part = some 0 ∧ 2 ^ Nat.log2 16384 = 16384 ∧
       (s.host.fns.all fun e => e.2.hrings.isEmpty) = true ∧ inWindow (getFn s 0) 64 (16384 * 32) false = true ∧
       inWindow (getFn s 0) 64 (64 * 2048) true = true) ∧
    (next 0x0017 (toLe 1 3 ++ zeros 7) (posting 3 up) = true ∧ Tab.has (getFn (posting 3 up) 0).hrings 3 = true) := by
  decide +kernel

theorem wit_FunctionAndPortResets :
    halted up = false ∧ ((getFn (mb255 .media { state := .pending, op := 1, pay := [] } up) 255).mbox .media).state = .pending ∧
    64 * 0 < nFuncs up ∧ 64 * 3 < nFuncs { up with host := { up.host with mode := 2 } } ∧
    (let s := timed (fun t => { t with ticks := 10 * tS }) { up with host := { up.host with transfer := some (1, 0) } }
     s.host.transfer = some (1, 0) ∧ 0 + 10 * tS ≤ s.time.ticks) := by
  decide +kernel

/-! ## Partitions and surfaces (chapters 14 and 1) -/

/-- A command on a partition with one quota entry. -/
def partCmd (h k : Nat) (v : Int) : Bytes := toLe 4 h ++ zeros 2 ++ toLe 2 1 ++ ent k v

/-- Partition 0 alone. -/
def lone (s : State) : State := { s with obj := { s.obj with parts := [(0, { gen := 1, quota := roomy })] } }

theorem wit_PartitionAndSurfaceCommands_partitions :
    (let p := partCmd 0 (fk 0x10 2 0) 2
     let es := entries p 8 (le p 6 2)
     let q := applyEntries [] es
     let s := posted 0x0100 0 p (lone up)
     next 0x0100 p (lone up) = true ∧ lowestFree (Tab.keys s.obj.parts) 0 256 = some 1 ∧ es.length = 1 ∧
       lowest (entryChecks es fun k => fTable k == 0x10) = none ∧ fldN q (fk 0x10 6 0) ≤ dramBytes s ∧
       totalsOk { s with obj := { s.obj with parts := Tab.set s.obj.parts 1 { gen := 0, quota := q } } } = true) ∧
    (let p := partCmd (hd 1 0) (fk 0x10 2 0) 1
     let es := entries p 8 (le p 6 2)
     let s := posted 0x0101 0 p (lone (house .active up))
     let q := applyEntries roomy es
     next 0x0101 p (lone (house .active up)) = true ∧ resolvePart s (le p 0 4) = some 0 ∧ (Tab.get s.obj.parts 0).map (·.quota) = some roomy ∧
       es.length = 1 ∧ lowest (entryChecks es fun k => fTable k == 0x10) = none ∧ (∀ e ∈ es, fRow e.key ≠ 9) ∧ fldN q (fk 0x10 6 0) ≤ dramBytes s ∧
       (∀ e ∈ es, covers s 0 e.key e.val.toNat = true) ∧
       totalsOk { s with obj := { s.obj with parts := Tab.set s.obj.parts 0 { gen := 1, quota := q } } } = true) ∧
    (let s := updFn up 1 fun f => { f with part := none }
     next 0x0102 (toLe 4 (hd 1 1) ++ zeros 4) s = true ∧ resolvePart s (hd 1 1) = some 1 ∧ s.obj.objs = [] ∧ s.vid.surfs = [] ∧ s.dsp.kerns = [] ∧
       partFns s 1 = []) ∧
    (let s := house .idle up
     next 0x0102 (toLe 4 (hd 1 0) ++ zeros 4) s = true ∧ resolvePart s (hd 1 0) = some 0 ∧ (s.obj.objs.any fun e => e.2.part == 0) = true) ∧
    (next 0x0103 (toLe 4 (hd 1 1) ++ zeros 4) up = true ∧ resolvePart up (hd 1 1) = some 1 ∧ sees up 0 1 = true) ∧
    (let p := toLe 4 63 ++ toLe 4 (hd 1 1)
     let q := toLe 4 1 ++ toLe 4 0
     next 0x0104 p up = true ∧ next 0x0104 q up = true ∧ le p 0 1 < nFuncs up ∧ le p 4 4 ≠ 0 ∧ resolvePart up (le p 4 4) = some 1 ∧
       getFn up 63 = {} ∧ le q 4 4 = 0 ∧ (getFn up 1).rings = [] ∧ (getFn up 1).fences = []) ∧
    (next 0x0105 (toLe 1 1 ++ zeros 7) up = true ∧ 1 < nFuncs up) ∧
    (let s := timed (fun t => { t with ticks := 8000000000 }) { up with host := { up.host with transfer := some (1, 0) } }
     let u := timed (fun t => { t with ticks := 8000000001 }) s
     upNext 0x0106 (box 1) 1 [] (posted 0x0106 1 [] s) = true ∧ s.host.transfer = some (1, 0) ∧ s.time.ticks ≤ 0 + 8000000000 ∧
       upNext 0x0106 (box 1) 1 [] (posted 0x0106 1 [] u) = true ∧ 0 + 8000000000 < u.time.ticks ∧ next 0x0106 [] u = true ∧
       next 0x0106 [] up = true ∧ up.host.transfer = none) := by
  decide +kernel

/-- SURFACE_WRITE or SURFACE_READ of the last `n` bytes of the clip of `clipped`. -/
def surfCmd (n : Nat) : Bytes := toLe 4 (hd 8 65535) ++ toLe 4 n ++ toLe 8 (768 - n) ++ toLe 8 64

theorem wit_PartitionAndSurfaceCommands_surfaces :
    (let p := toLe 4 0 ++ toLe 1 0x11 ++ zeros 3 ++ zeros 4 ++ toLe 4 480
     let s := posted 0x0A00 0 p up
     let f : Surf := { gen := 0, part := 0, fmt := 0x11, w := 480, h := 1 }
     next 0x0A00 p up = true ∧ (partOr s 0 (le p 0 4)).toOption = some 0 ∧ surfOk (le p 4 1) (le p 8 2) (le p 10 2) (le p 12 4) = true ∧
       (surfsUsed s 0 : Int) < quota s 0 2 3 ∧ lowestFree (Tab.keys s.vid.surfs) 0 65536 = some 0 ∧
       (fitMem 0 { s with vid := { s.vid with surfs := Tab.set s.vid.surfs 0 f, sgens := Tab.set s.vid.sgens 0 0 } }).isSome = true) ∧
    (let s := windowed (clipped up)
     let h := hd 8 65535
     resolveSurf s 0 h = some 65535 ∧ ((getSurf s 65535).map fun u => (u.owner, surfSize u)) = some (0, 768) ∧ next 0x0A01 (named4 h) s = true ∧
       surfBusy s 65535 = false ∧ surfNamed s 65535 = false ∧ next 0x0A02 (named4 h) s = true ∧ next 0x0A03 (surfCmd 3) s = true ∧
       next 0x0A04 (surfCmd 3) s = true ∧ inWindow (getFn s 0) 64 3 true = true ∧ inWindow (getFn s 0) 64 3 false = true) ∧
    (let s := setAud (clipped (house .active up)) (okey 3 0) { clips := [{ surf := 65535, repl := true, gain := 0, loops := 1 }] }
     next 0x0A01 (named4 (hd 8 65535)) s = true ∧ surfBusy s 65535 = true) := by
  decide +kernel

/-! ## Dependability (chapter 16) -/

/-- The dependability part changed. -/
def depend (f : DepPart → DepPart) (s : State) : State := { s with dep := f s.dep }

/-- A CLEARED record of mechanism 1. -/
def aRec (act : Bool) : FaultRec := { mech := 1, active := act, holds := false, inst := 3, obj := 0, first := 1, last := 2, count := 5, detail := 0 }

theorem wit_DetectionsAndMonitors :
    (holdsFault 0x14 true = true ∧ up.dep.recs.find? (fun e => decide (e.2.mech = 1) && decide (e.2.inst = 3) && decide (e.2.obj = 0)) = none ∧
      lowestFree (Tab.keys up.dep.recs) 0 64 = some 0) ∧
    (let s := depend (fun d => { d with recs := [(63, aRec true)] }) up
     s.dep.recs.find? (fun e => decide (e.2.mech = 1) && decide (e.2.inst = 3) && decide (e.2.obj = 0)) = some (63, aRec true)) ∧
    (let s := depend (fun d => { d with recs := (List.range 64).map fun n => (n, { aRec true with inst := n }) }) up
     s.dep.recs.find? (fun e => decide (e.2.mech = 2) && decide (e.2.inst = 3) && decide (e.2.obj = 0)) = none ∧
       lowestFree (Tab.keys s.dep.recs) 0 64 = none) ∧
    halted up = false ∧
    (let s := timed (fun t => { t with ticks := 80000000 }) (engine15 { run := some (anEngItem true), startAt := 0 } (house .active up))
     (getEng s 15).run = some (anEngItem true) ∧ (getEng s 15).startAt + nsTicks (watchdogNs s (anEngItem true)) ≤ s.time.ticks) ∧
    ((14 : Nat) ∉ up.dep.off ∧ 17 ∉ up.dep.off ∧ 0 ∉ up.dep.off ∧ up.host.dev = .ready) ∧
    (([0, 8] : List Nat).all fun r => !(inRail up r 0)) = true ∧ inRail up 0 up.dep.v = true ∧ inRail up 8 (railMv up 8) = true ∧
    (let s := timed (fun t => { t with ticks := 800000 }) (depend (fun d => { d with avsSet := some 0 }) up)
     s.dep.avsSet = some 0 ∧ 0 + 800000 ≤ s.time.ticks ∧ s.dep.v ≤ (s.dep.v - 15) + 15 ∧ s.dep.v - 15 ≤ s.dep.v + 15 ∧
       (s.dep.v - 16) + 15 < s.dep.v ∧ s.dep.v + 15 < s.dep.v + 16) ∧
    (List.replicate 16 (0 : Int)).length = 16 ∧ (depend (fun d => { d with hotRuns := List.replicate 16 1 }) up).dep.hotRuns[15]? = some 1 ∧
    (serving up = true ∧ planDue up = true ∧ 16 ∈ planned ∧ (16, 1) ∈ [((16 : Nat), (1 : Nat))]) ∧
    (let s := { up with boot := { up.boot with hdr := { up.boot.hdr with vCap := up.dep.v + 3 } } }
     s.dep.v < s.boot.hdr.vCap ∧ planDue s = true ∧ (1024 : Int) - 1000 < 72) := by
  decide +kernel

/-- A reading at and one above the trip, whichever the part's ordered maximum is. -/
theorem wit_DetectionsAndMonitors_hot :
    tjOrdered + 240 ≤ tjOrdered + 240 ∧ (1 : Nat) ≤ 1 ∧ (∀ v ∈ List.replicate 16 tjOrdered, v < tjOrdered + 240) := by
  refine ⟨Int.le_refl _, Nat.le_refl _, fun v hv => ?_⟩
  rw [List.eq_of_mem_replicate hv]
  omega

theorem wit_FaultCommands :
    next 0x0E0F (toLe 1 255 ++ toLe 1 32 ++ zeros 6) up = true ∧ next 0x0E0F (toLe 1 17 ++ zeros 7) up = true ∧
    next 0x0E0F (toLe 1 254 ++ zeros 7) up = true ∧
    (let s := depend (fun d => { d with recs := [(62, aRec false), (63, aRec true)] }) up
     next 0x0E10 (toLe 4 62 ++ zeros 4) s = true ∧ next 0x0E10 (toLe 4 63 ++ zeros 4) s = true ∧ Tab.get s.dep.recs 62 = some (aRec false) ∧
       Tab.get s.dep.recs 63 = some (aRec true) ∧ (aRec false).active = false) ∧
    next 0x0E0E [] up = true := by
  decide +kernel

/-- The device state changed. -/
def inState (d : DevState) (s : State) : State := { s with host := { s.host with dev := d } }

theorem wit_RestartsAndRecovery :
    (halted up = false ∧ serving up = true ∧ (getMb (mb255 .media { state := .pending } up) 255 .media).state = .pending) ∧
    (let s := timed (fun t => { t with ticks := 3200000000 }) up
     s.host.dev = .ready ∧ s.dep.hbFw + 800000000 ≤ s.time.ticks ∧ s.dep.confirmed + 3200000000 ≤ s.time.ticks) ∧
    (let s := timed (fun t => { t with ticks := 800000000, alone := true }) (inState .fwRestarting up)
     halted s = false ∧ s.time.alone = true ∧ s.time.stopped = false ∧ s.time.aloneAt + 800000000 ≤ s.time.ticks ∧ s.host.dev = .fwRestarting ∧
       s.time.holdLate = none ∧ (Tab.keys s.host.fns).Nodup ∧
       (let w := posted 0x0E0E 255 [] s; pendingMbs w ≠ [] ∧ ∀ e ∈ pendingMbs w, r693 w e.1 e.2 (getMb w e.1 e.2) = none)) ∧
    (let s := depend (fun d => { d with recoverBy := some (9, 0), removed := [(0, 3)] }) (inState .resetting up)
     halted s = false ∧ s.dep.recoverBy = some (9, 0) ∧ s.host.dev = .resetting ∧ (0, 3) ∈ s.dep.removed ∧ (1, 3) ∉ s.dep.removed) ∧
    (up.dep.pfAt = none ∧ up.boot.flashOp = none) ∧
    (let s := depend (fun d => { d with pfAt := some 0, storeMode := true }) up
     s.dep.pfAt ≠ none ∧ s.dep.thermtrip = false ∧ s.host.dev = .ready) := by
  decide +kernel

/-! ## Start-up and firmware (chapter 17) -/

/-- The boot part changed. -/
def booting (f : BootPart → BootPart) (s : State) : State := { s with boot := f s.boot }

/-- One sector erase waiting as a job of the given kind, of mailbox ADMIN of function 255. -/
def job (kind since : Nat) : FlashJob := { kind := kind, fn := 255, ops := [{ code := 2, addr := 4096, data := [] }], since := some since }

/-- A hold-up bank of 1 µF that is empty. -/
def drained (s : State) : State := booting (fun b => { b with hdr := { b.hdr with holdC := 1, tSe := 1, storePower := 1 } }) s

theorem wit_FlashAndFirmware :
    (let s := booting (fun b => { b with jobs := [job 2 0] }) up
     (nextOp s).boot.flashOp ≠ s.boot.flashOp ∧ energyOk s 2 = true ∧ energyOk (drained s) 2 = false) ∧
    halted up = false ∧
    (let o : FlashOp := { code := 1, addr := 0x3FFFFF, data := [1, 255, 3] }
     (booting (fun b => { b with flashOp := some o }) up).boot.flashOp = some o ∧ o.code = 1) ∧
    (let s := mb255 .admin { state := .pending, op := 0x0F06 } (drained (booting (fun b => { b with jobs := [job 1 0] })
       (timed (fun t => { t with ticks := 800000000 }) up)))
     s.boot.jobs = job 1 0 :: [] ∧ (job 1 0).ops = { code := 2, addr := 4096, data := [] } :: [] ∧ energyOk s 2 = false ∧
       flashReady s = true ∧ (job 1 0).since = some 0 ∧ (job 1 0).check + 8000000 ≤ s.time.ticks ∧ (job 1 0).kind < 2 ∧
       800000000 ≤ (job 1 0).total + (s.time.ticks - 0) ∧ (getMb s 255 .admin).state = .pending ∧
       isFirmware (getMb s 255 .admin).op = true) ∧
    (let s := timed (fun t => { t with ticks := 69120000000000 }) (depend (fun d => { d with dayMin := [(3, 5)] })
       (booting (fun b => { b with storeTrain := true, storeLog := true }) up))
     serving s = true ∧ s.boot.storeTrain = true ∧ s.boot.storeLog = true ∧ s.dep.storedAt + 69120000000000 ≤ s.time.ticks ∧
       (Tab.keys s.dep.dayMin).Nodup ∧ (3, 5) ∈ s.dep.dayMin) ∧
    (let s := timed (fun t => { t with ticks := 48000000000 }) (booting (fun b => { b with challenge := some ([], 0), actReset := some 48000000000 }) up)
     s.boot.challenge = some ([], 0) ∧ 0 + 48000000000 ≤ s.time.ticks ∧ s.boot.actReset = some 48000000000 ∧ 48000000000 ≤ s.time.ticks ∧
       s.boot.flashOp = none) := by
  decide +kernel

/-- FW_UPDATE_DATA of `n` bytes of host memory at 64 to `off`. -/
def fwData (n off : Nat) : Bytes := toLe 8 64 ++ toLe 4 n ++ toLe 4 off

theorem wit_FlashAndFirmware_commands :
    next 0x0F00 [] up = true ∧
    (let p := toLe 8 29360128
     next 0x0F01 p up = true ∧ le p 0 8 ≤ 29360128 ∧ up.boot.actReset = none ∧
       next 0x0F01 p (booting (fun b => { b with actReset := some 9 }) up) = true) ∧
    (let s := windowed (booting (fun b => { b with session := some { slot := 1, len := 65537 } }) up)
     let p := fwData 65536 65536
     next 0x0F02 p up = true ∧ up.boot.session = none ∧ next 0x0F02 p s = true ∧ s.boot.jobs = [] ∧ 0 < le p 8 4 ∧ le p 8 4 % 65536 = 0 ∧
       le p 8 4 ≤ 1048576 ∧ le p 12 4 % 65536 = 0 ∧ le p 12 4 + le p 8 4 ≤ roundUp 65537 65536 ∧
       inWindow (getFn s 0) (le p 0 8) (le p 8 4) false = true) ∧
    (let z : Session := { slot := 1, len := 65536, blocks := [0] }
     let s := booting (fun b => { b with session := some z, flash := Mem.write erased [] (slotBase 1 + 20) (toLe 4 65536) }) up
     next 0x0F03 [] s = true ∧ s.boot.session = some z ∧ ceilDiv (max 1 (manNum s z.slot 20 4)) 65536 = 1 ∧ 0 ∈ z.blocks ∧ next 0x0F03 [] up = true) ∧
    (let s := booting (fun b => { b with slots := (.invalid, .valid) }) up
     let p := fun (n : Nat) => toLe 1 n ++ zeros 7
     next 0x0F04 (p 0) s = true ∧ next 0x0F04 (p 1) s = true ∧ le (p 1) 0 1 ≤ 1 ∧ s.boot.jobs = [] ∧ slotState s 0 ≠ .valid ∧ slotState s 1 = .valid) ∧
    next 0x0F05 [] up = true ∧
    (let c : Bytes := zeros 32
     let s := booting (fun b => { b with challenge := some (c, 0), dbgFails := 7 }) up
     next 0x0F06 (zeros 96) s = true ∧ s.boot.dbgFails < 8 ∧ challengeNow s = some c ∧ challengeNow up = none ∧ next 0x0F06 (zeros 96) up = true ∧
       next 0x0F06 (zeros 96) (booting (fun b => { b with dbgFails := 8 }) up) = true ∧ (8 : Nat) ≤ (booting (fun b => { b with dbgFails := 8 }) up).boot.dbgFails) := by
  decide +kernel

/-- A signature either verifies or does not: the two cases of DEBUG_UNLOCK leave nothing out. -/
theorem wit_FlashAndFirmware_unlock (p c : Bytes) :
    ecdsaOk fuseDebugKey (p.take 96) (sha384 c) = true ∨ ecdsaOk fuseDebugKey (p.take 96) (sha384 c) = false := by
  cases ecdsaOk fuseDebugKey (p.take 96) (sha384 c) <;> simp

/-- What the states that a start-up ends in have to hold, as far as it does not rest on a fuse: no boot block, no link to the flash. -/
theorem wit_StartUpAndManagement :
    State.reset.boot.porstLow = true ∧ State.reset.boot.flashOp = none ∧
    goes (exec (.porstRise {}) State.reset) (fun t => t.host.dev == .failed && t.host.bootStat == 0x0101) = true ∧
    goes (exec (.porstRise { xspi := false }) State.reset) (fun t => t.host.dev == .failed && t.host.bootStat == 0x0102) = true ∧
    (timed (fun t => { t with ticks := 7999999 }) up).time.ticks < 8000000 ∧ up.boot.porstLow = false ∧
    ¬((timed (fun t => { t with ticks := 8000000 }) up).boot.porstLow = true ∨ (timed (fun t => { t with ticks := 8000000 }) up).time.ticks < 8000000) ∧
    up.boot.jtagOpen = false := by
  decide +kernel

/-! ## Instants, the audit and readout (chapters 2, 14 and 16) -/

theorem wit_InstantsAndReadout :
    halted up = false ∧
    (let s := timed (fun t => { t with phc := 500000 * 2 ^ 32, commit := true }) up
     let u := timed (fun t => { t with phc := 499999 * 2 ^ 32 }) up
     s.time.strokeNext ≤ phcNs s.time ∧ s.time.stopped = false ∧ s.time.commit = true ∧ phcNs u.time < u.time.strokeNext ∧ s.time.deferred = none ∧
       Tab.get s.dep.kNext 3 = none) ∧
    (([ObjSt.active, ObjSt.held]).all fun st =>
      let s := timed (fun t => { t with phc := 5000000 * 2 ^ 32 }) (house st up)
      decide ((getConf s (okey 2 0)).mixNext ≤ phcNs s.time) && decide (0 < mixPeriod s (okey 2 0)) && (getObj s (okey 2 0)).isSome &&
        isActive s (okey 2 0) == (st == .active) && decide (∀ e ∈ s.obj.objs, e.2.pend = [] ∧ e.2.resvNew = [])) = true ∧
    (let s := timed (fun t => { t with stopped := true }) (house .active up)
     s.time.stopped = true) ∧
    (let s := timed (fun t => { t with phc := 1000000000 * 2 ^ 32 }) (house .active up)
     s.time.frames[12]?.isSome = true ∧ s.time.frames[0]?.isSome = true ∧
       (([0, 12] : List Nat).all fun r => (s.time.frames[r]?).any fun e => decide (e.2 ≤ phcNs s.time)) = true ∧
       layoutsAt s 8 = [okey 5 0] ∧ isActive s (okey 5 0) = true ∧ isFixed s (okey 5 0) = false ∧ ∀ e ∈ s.obj.objs, e.2.pend = []) ∧
    (let s := timed (fun t => { t with strokes := 2000 }) (lone (house .active up))
     0 < s.time.strokes ∧ s.time.strokes % 2000 = 0 ∧ s.dep.auditAt ≠ s.time.strokes ∧ up.time.strokes = 0) := by
  decide +kernel

/-- In a state with one partition every book balances. -/
theorem wit_InstantsAndReadout_books (n : Nat) : bookFails (timed (fun t => { t with strokes := 2000 }) (lone (house .active up))) n = [] := by
  unfold bookFails
  split <;> decide +kernel

/-- An entry of the ring: opcode, payload. -/
def entry (op : Nat) (p : Bytes) : Bytes := toLe 2 op ++ zeros 6 ++ padTo 56 p

theorem wit_InstantsAndReadout_rings :
    (let s := ringed (fun r => { r with tail := 1 }) id up
     serving s = true ∧ ringTurn s 0 63 = true ∧ ringRefusal s 0 (entry 0x0201 []) = some .wrongMailbox) ∧
    ([createOf, modifyOf, activateOf, holdOf, deleteOf, readOf])[5]?.isSome = true ∧ le (entry (lifeOp 7 5) []) 0 2 = lifeOp 7 5 ∧
    (([0x0A03, 0x0507, 0x0607, 0x0806, 0x0906, 0x0907, 0x0A00, 0x0A01, 0x0A04, 0x0B02, 0x0C04, 0x0C05, 0x0C06, 0x0C07, 0x0C09, 0x0D03, 0x0E03,
      0x0E07] : List Nat).all fun op => le (entry op []) 0 2 == op) = true ∧
    (let s := house .active up
     let p := fun (h n sc : Nat) => toLe 4 h ++ toLe 2 n ++ toLe 1 sc ++ zeros 1
     next 0x0E00 (p 0 0 1) s = true ∧ (statScope s 0 0 1).toBool = false ∧ next 0x0E00 (p (hd 3 0) 0 0) s = true ∧
       (([hd 1 0, hd 2 0, hd 3 0, hd 4 0, hd 5 0, hd 6 0, hd 7 0, 0].all fun h => (statScope s 0 h 0).toBool) = true)) ∧
    (let s := house .active up
     wrap 32 (((getLeg s (okey 3 0)).hostOut.1 : Int) - (getLeg s (okey 3 0)).hostOut.2) ≤ ofldN s (okey 3 0) (fk 0x01 18 3)) := by
  decide +kernel

/-! ## WellFormed refuses a command that names a part that does not exist (each bound at its first value outside) -/

/-- Events and jobs. -/
theorem test_wf_events_a :
    (Instr.probeEnd 4096).wf 256 = false ∧
    (Instr.probeUnresolvedTimeout 4096).wf 256 = false ∧
    (Instr.feedbackStalled 4096).wf 256 = false ∧
    (Instr.switchWaitExpiry 16384).wf 256 = false ∧
    (Instr.refreshLimitExpiry 5242880).wf 256 = false ∧
    (Instr.refreshRetry 16384).wf 256 = false ∧
    (Instr.rtcpReportSend 4096).wf 256 = false ∧
    (Instr.ccfbFeedbackSend 4096).wf 256 = false ∧
    (∀ x0, (Instr.mixPeriodBoundary 1024 x0).wf 256 = false) ∧
    (Instr.jbDepthAdapt 16384).wf 256 = false ∧
    (∀ x0 x1, (Instr.audioFrontJob 3149824 x0 x1).wf 256 = false) ∧
    (∀ x0 x1, (Instr.audioFrontJob 4210688 x0 x1).wf 256 = false) ∧
    (∀ x0 x1, (Instr.audioFrontJob 5242880 x0 x1).wf 256 = false) ∧
    (∀ x0, (Instr.rankingJob 1024 x0).wf 256 = false) ∧
    (∀ x0, (Instr.mixJob 1024 x0).wf 256 = false) ∧
    (∀ x0, (Instr.backJob 4096 x0).wf 256 = false) ∧
    (Instr.backJobAbandon 4096).wf 256 = false ∧
    (Instr.tagMissingTimeout 4096).wf 256 = false ∧
    (Instr.aes67PacketSend 16384).wf 256 = false ∧
    (Instr.dtmfEndTimeout 16384).wf 256 = false ∧
    (Instr.frameInstant 13).wf 256 = false ∧
    (Instr.readinessCheck 512).wf 256 = false ∧
    (Instr.compositionStart 36).wf 256 = false ∧
    (Instr.bandHandoff 512).wf 256 = false ∧
    (Instr.compositionComplete 512).wf 256 = false ∧
    (Instr.enginePick 16).wf 256 = false ∧
    (Instr.decoderCredit 16384).wf 256 = false ∧
    (∀ x0, (Instr.decodeFrameComplete 16 x0).wf 256 = false) ∧
    (Instr.syncWaitRefresh 16384).wf 256 = false ∧
    (Instr.videoHoldExpiry 16384).wf 256 = false ∧
    (∀ x0, (Instr.encodePictureComplete 16 x0).wf 256 = false) ∧
    (Instr.engineWatchdogExpiry 16).wf 256 = false ∧
    (Instr.engineResetEnd 16).wf 256 = false ∧
    (Instr.gateEntryChange 8).wf 256 = false ∧
    (Instr.gateCycleBoundary 8).wf 256 = false ∧
    (Instr.gateListActive 8).wf 256 = false ∧
    (Instr.refLost 2).wf 256 = false ∧
    (∀ x0 x1 x2, (Instr.ethFrameReceive 8 x0 x1 x2).wf 256 = false) ∧
    (Instr.previousKeyErase 4096).wf 256 = false ∧
    (Instr.exceptionDelivery 257).wf 256 = false ∧
    (∀ x0 x1 x2, (Instr.flowControlFrameReceive 8 x0 x1 x2).wf 256 = false) ∧
    (Instr.pauseHoldExpiry 8 0).wf 256 = false ∧
    (Instr.pauseHoldExpiry 0 8).wf 256 = false ∧
    (Instr.linkUp 8).wf 256 = false ∧
    (Instr.linkDown 8).wf 256 = false ∧
    (Instr.pacerRelease 32768).wf 256 = false ∧
    (Instr.hostLimiterRelease 256).wf 256 = false ∧
    (∀ x0, (Instr.classPick 8 x0).wf 256 = false) ∧
    (Instr.txStampDelivery 8).wf 256 = false ∧
    (Instr.heldPushRetry 32768).wf 256 = false ∧
    (Instr.rxHoldExpiry 8).wf 256 = false ∧
    (Instr.pfcRepeat 8 0).wf 256 = false ∧
    (Instr.pfcRepeat 0 8).wf 256 = false ∧
    (Instr.spillMoveComplete 32768).wf 256 = false ∧
    (Instr.queueFlushApply 32768).wf 256 = false ∧
    (Instr.qgroupEventWindow 256).wf 256 = false ∧
    (Instr.qxoffMinExpiry 8).wf 256 = false ∧
    (∀ x0, (Instr.audioFrameEdge 7 x0).wf 256 = false) ∧
    (∀ x0, (Instr.audioFrameEdge 20 x0).wf 256 = false) ∧
    (∀ x0 x1, (Instr.aes3CsBlock 15 x0 x1).wf 256 = false) ∧
    (∀ x0 x1, (Instr.aes3CsBlock 18 x0 x1).wf 256 = false) ∧
    (Instr.aes3NonaudioEnd 15).wf 256 = false ∧
    (Instr.aes3NonaudioEnd 18).wf 256 = false ∧
    (Instr.portClockLoss 7).wf 256 = false := by
  refine ⟨?_, ?_, ?_, ?_, ?_, ?_, ?_, ?_, ?_, ?_, ?_, ?_, ?_, ?_, ?_, ?_, ?_, ?_, ?_, ?_, ?_, ?_, ?_, ?_, ?_, ?_, ?_, ?_, ?_, ?_, ?_, ?_, ?_, ?_, ?_, ?_, ?_, ?_, ?_, ?_, ?_, ?_, ?_, ?_, ?_, ?_, ?_, ?_, ?_, ?_, ?_, ?_, ?_, ?_, ?_, ?_, ?_, ?_, ?_, ?_, ?_, ?_, ?_, ?_⟩ <;> intros <;> rfl

/-- Events and jobs, the rest. -/
theorem test_wf_events_b :
    (Instr.portClockLoss 20).wf 256 = false ∧
    (Instr.portHoldFrame 7).wf 256 = false ∧
    (Instr.portHoldFrame 20).wf 256 = false ∧
    (∀ x0, (Instr.portRateMeasure 7 x0).wf 256 = false) ∧
    (∀ x0, (Instr.portRateMeasure 20 x0).wf 256 = false) ∧
    (Instr.planeRampEnd 4096 0).wf 256 = false ∧
    (Instr.planeRampEnd 0 2).wf 256 = false ∧
    (∀ x0, (Instr.dramRequestIssue 8 0 x0).wf 256 = false) ∧
    (∀ x0, (Instr.dramRequestIssue 0 2 x0).wf 256 = false) ∧
    (∀ x0 x1 x2 x3, (Instr.dramReadResponse 8 0 x0 x1 x2 x3).wf 256 = false) ∧
    (∀ x0 x1 x2 x3, (Instr.dramReadResponse 0 2 x0 x1 x2 x3).wf 256 = false) ∧
    (∀ x0, (Instr.dramCommandTimeout 8 0 x0).wf 256 = false) ∧
    (∀ x0, (Instr.dramCommandTimeout 0 2 x0).wf 256 = false) ∧
    (Instr.dramRefresh 8 0).wf 256 = false ∧
    (Instr.dramRefresh 0 2).wf 256 = false ∧
    (∀ x0 x1 x2, (Instr.dramTempPoll 8 0 x0 x1 x2).wf 256 = false) ∧
    (∀ x0 x1 x2, (Instr.dramTempPoll 0 2 x0 x1 x2).wf 256 = false) ∧
    (∀ x0, (Instr.dqsDriftCheck 8 0 x0).wf 256 = false) ∧
    (∀ x0, (Instr.dqsDriftCheck 0 64 x0).wf 256 = false) ∧
    (∀ x0, (Instr.retrainSlice 8 0 x0).wf 256 = false) ∧
    (∀ x0, (Instr.retrainSlice 0 2 x0).wf 256 = false) ∧
    (Instr.powerDownEntry 8 0).wf 256 = false ∧
    (Instr.powerDownEntry 0 2).wf 256 = false ∧
    (Instr.selfRefreshEntry 8).wf 256 = false ∧
    (∀ x0 x1, (Instr.doorbellWrite 256 x0 x1).wf 256 = false) ∧
    (∀ x0 x1, (Instr.ackWrite 256 x0 x1).wf 256 = false) ∧
    (∀ x0, (Instr.commandAreaWrite 256 x0 0 []).wf 256 = false) ∧
    (∀ x0, (Instr.commandAreaWrite 0 x0 2041 [0, 0, 0, 0, 0, 0, 0, 0]).wf 256 = false) ∧
    (∀ x0, (Instr.mailboxServiceTimeout 256 x0).wf 256 = false) ∧
    (∀ x0, (Instr.hostIfaceWrite 256 x0).wf 256 = false) ∧
    (∀ x0, (Instr.funcStatusClear 256 x0).wf 256 = false) ∧
    (∀ x0, (Instr.registerWrite 256 0 x0).wf 256 = false) ∧
    (∀ x0, (Instr.registerWrite 0 65536 x0).wf 256 = false) ∧
    (∀ x0, (Instr.ringTailWrite 256 0 x0).wf 256 = false) ∧
    (∀ x0, (Instr.ringTailWrite 0 64 x0).wf 256 = false) ∧
    (∀ x0 x1, (Instr.ringEntryExecute 256 0 x0 x1).wf 256 = false) ∧
    (∀ x0 x1, (Instr.ringEntryExecute 0 64 x0 x1).wf 256 = false) ∧
    (Instr.headWriteback 256 0).wf 256 = false ∧
    (Instr.headWriteback 0 64).wf 256 = false ∧
    (∀ x0, (Instr.eqHeadWrite 256 0 x0).wf 256 = false) ∧
    (∀ x0, (Instr.eqHeadWrite 0 64 x0).wf 256 = false) ∧
    (Instr.eventBacklogDrain 256).wf 256 = false ∧
    (Instr.coalesceTimeout 256 0).wf 256 = false ∧
    (Instr.coalesceTimeout 0 64).wf 256 = false ∧
    (Instr.msixUnmask 0 134).wf 256 = false ∧
    (Instr.msixUnmask 63 6).wf 256 = false ∧
    (Instr.msixUnmask 256 0).wf 256 = false ∧
    (∀ x0, (Instr.fenceWrite 256 0 x0).wf 256 = false) ∧
    (∀ x0, (Instr.fenceWrite 0 256 x0).wf 256 = false) ∧
    (∀ x0, (Instr.fenceAddWrite 256 0 x0).wf 256 = false) ∧
    (∀ x0, (Instr.fenceAddWrite 0 256 x0).wf 256 = false) ∧
    (∀ x0, (Instr.excHeadWrite 256 x0).wf 256 = false) ∧
    (∀ x0, (Instr.htxTailWrite 256 x0).wf 256 = false) ∧
    (∀ x0, (Instr.texHeadWrite 256 x0).wf 256 = false) ∧
    (∀ x0, (Instr.ttxTailWrite 256 x0).wf 256 = false) ∧
    (∀ x0 x1, (Instr.hostTxFetch 256 x0 x1).wf 256 = false) ∧
    (∀ x0 x1, (Instr.timeTransmitFetch 256 x0 x1).wf 256 = false) ∧
    (Instr.functionLevelReset 256).wf 256 = false ∧
    (∀ x0, (Instr.hostPortReset 4 x0).wf 256 = false) ∧
    (∀ x0, (Instr.configRequest 256 x0).wf 256 = false) ∧
    (∀ x0, (Instr.clockMonitorFault 18 x0).wf 256 = false) ∧
    (∀ x0, (Instr.voltageMonitorFault 9 x0).wf 256 = false) ∧
    (Instr.junctionSensorSample (List.replicate 15 0)).wf 256 = false ∧
    (∀ x0, (Instr.firmwarePtpMessage 8 x0).wf 256 = false) ∧
    (∀ x0, (Instr.monitorFaultEnd 9 x0).wf 256 = false) := by
  refine ⟨?_, ?_, ?_, ?_, ?_, ?_, ?_, ?_, ?_, ?_, ?_, ?_, ?_, ?_, ?_, ?_, ?_, ?_, ?_, ?_, ?_, ?_, ?_, ?_, ?_, ?_, ?_, ?_, ?_, ?_, ?_, ?_, ?_, ?_, ?_, ?_, ?_, ?_, ?_, ?_, ?_, ?_, ?_, ?_, ?_, ?_, ?_, ?_, ?_, ?_, ?_, ?_, ?_, ?_, ?_, ?_, ?_, ?_, ?_, ?_, ?_, ?_, ?_, ?_, ?_⟩ <;> intros <;> rfl

/-- Commands of functions. -/
theorem test_wf_sources_a :
    (Instr.nop (.mbox 256 .admin)).wf 256 = false ∧
    (Instr.identify (.mbox 256 .admin)).wf 256 = false ∧
    (Instr.ringCreate (.mbox 256 .admin)).wf 256 = false ∧
    (Instr.ringDelete (.mbox 256 .admin)).wf 256 = false ∧
    (Instr.ringRestart (.mbox 256 .admin)).wf 256 = false ∧
    (Instr.eqCreate (.mbox 256 .admin)).wf 256 = false ∧
    (Instr.eqDelete (.mbox 256 .admin)).wf 256 = false ∧
    (Instr.eventRoute (.mbox 256 .admin)).wf 256 = false ∧
    (Instr.hostRingCreate (.mbox 256 .admin)).wf 256 = false ∧
    (Instr.hostRingDelete (.mbox 256 .admin)).wf 256 = false ∧
    (Instr.dmaWindowAdd (.mbox 256 .admin)).wf 256 = false ∧
    (Instr.dmaWindowRemove (.mbox 256 .admin)).wf 256 = false ∧
    (Instr.partitionCreate (.mbox 256 .admin)).wf 256 = false ∧
    (Instr.partitionModify (.mbox 256 .admin)).wf 256 = false ∧
    (Instr.partitionDelete (.mbox 256 .admin)).wf 256 = false ∧
    (Instr.partitionRead (.mbox 256 .admin)).wf 256 = false ∧
    (Instr.functionAssign (.mbox 256 .admin)).wf 256 = false ∧
    (Instr.ownerTransfer (.mbox 256 .admin)).wf 256 = false ∧
    (Instr.ownerAccept (.mbox 256 .admin)).wf 256 = false ∧
    (Instr.memSets (.mbox 256 .admin)).wf 256 = false ∧
    (Instr.memKeyInstall (.mbox 256 .admin)).wf 256 = false ∧
    (Instr.memTimers (.mbox 256 .admin)).wf 256 = false ∧
    (Instr.spillConfig (.mbox 256 .admin)).wf 256 = false ∧
    (Instr.kernelCores (.mbox 256 .admin)).wf 256 = false ∧
    (Instr.timeGet (.mbox 256 .admin)).wf 256 = false ∧
    (Instr.timeConfig (.mbox 256 .admin)).wf 256 = false ∧
    (Instr.timeSet (.mbox 256 .admin)).wf 256 = false ∧
    (Instr.timeAdjFreq (.mbox 256 .admin)).wf 256 = false ∧
    (Instr.timeAdjPhase (.mbox 256 .admin)).wf 256 = false ∧
    (Instr.portTimeCorr (.mbox 256 .admin)).wf 256 = false ∧
    (Instr.ppsConfig (.mbox 256 .admin)).wf 256 = false ∧
    (Instr.utcOffsetSet (.mbox 256 .admin)).wf 256 = false ∧
    (Instr.portConfig (.mbox 256 .admin)).wf 256 = false ∧
    (Instr.portRead (.mbox 256 .admin)).wf 256 = false ∧
    (Instr.portSlots (.mbox 256 .admin)).wf 256 = false ∧
    (Instr.audioClock (.mbox 256 .admin)).wf 256 = false ∧
    (Instr.aes3Read (.mbox 256 .admin)).wf 256 = false ∧
    (Instr.aes3OutStatus (.mbox 256 .admin)).wf 256 = false ∧
    (Instr.kerfPortConfig (.mbox 256 .admin)).wf 256 = false ∧
    (∀ x0, (Instr.gateListSet (.mbox 256 .admin) x0).wf 256 = false) ∧
    (Instr.gateListRead (.mbox 256 .admin)).wf 256 = false ∧
    (Instr.qxoffConfig (.mbox 256 .admin)).wf 256 = false ∧
    (Instr.displayConfig (.mbox 256 .admin)).wf 256 = false ∧
    (Instr.displayEdid (.mbox 256 .admin)).wf 256 = false ∧
    (Instr.macFilterAdd (.mbox 256 .admin)).wf 256 = false ∧
    (Instr.macFilterRemove (.mbox 256 .admin)).wf 256 = false ∧
    (Instr.addressAdd (.mbox 256 .admin)).wf 256 = false ∧
    (Instr.addressRemove (.mbox 256 .admin)).wf 256 = false ∧
    (Instr.dscpTableSet (.mbox 256 .admin)).wf 256 = false ∧
    (Instr.conferenceCreate (.mbox 256 .admin)).wf 256 = false ∧
    (Instr.conferenceModify (.mbox 256 .admin)).wf 256 = false ∧
    (Instr.conferenceActivate (.mbox 256 .admin)).wf 256 = false ∧
    (Instr.conferenceHold (.mbox 256 .admin)).wf 256 = false ∧
    (Instr.conferenceDelete (.mbox 256 .admin)).wf 256 = false ∧
    (Instr.conferenceRead (.mbox 256 .admin)).wf 256 = false ∧
    (Instr.legCreate (.mbox 256 .admin)).wf 256 = false ∧
    (Instr.legModify (.mbox 256 .admin)).wf 256 = false ∧
    (Instr.legActivate (.mbox 256 .admin)).wf 256 = false ∧
    (Instr.legHold (.mbox 256 .admin)).wf 256 = false ∧
    (Instr.legDelete (.mbox 256 .admin)).wf 256 = false ∧
    (Instr.legRead (.mbox 256 .admin)).wf 256 = false ∧
    (Instr.streamCreate (.mbox 256 .admin)).wf 256 = false ∧
    (Instr.streamModify (.mbox 256 .admin)).wf 256 = false ∧
    (Instr.streamActivate (.mbox 256 .admin)).wf 256 = false ∧
    (Instr.streamHold (.mbox 256 .admin)).wf 256 = false ∧
    (Instr.streamDelete (.mbox 256 .admin)).wf 256 = false ∧
    (Instr.streamRead (.mbox 256 .admin)).wf 256 = false ∧
    (Instr.layoutCreate (.mbox 256 .admin)).wf 256 = false ∧
    (Instr.layoutModify (.mbox 256 .admin)).wf 256 = false ∧
    (Instr.layoutActivate (.mbox 256 .admin)).wf 256 = false ∧
    (Instr.layoutHold (.mbox 256 .admin)).wf 256 = false ∧
    (Instr.layoutDelete (.mbox 256 .admin)).wf 256 = false := by
  refine ⟨?_, ?_, ?_, ?_, ?_, ?_, ?_, ?_, ?_, ?_, ?_, ?_, ?_, ?_, ?_, ?_, ?_, ?_, ?_, ?_, ?_, ?_, ?_, ?_, ?_, ?_, ?_, ?_, ?_, ?_, ?_, ?_, ?_, ?_, ?_, ?_, ?_, ?_, ?_, ?_, ?_, ?_, ?_, ?_, ?_, ?_, ?_, ?_, ?_, ?_, ?_, ?_, ?_, ?_, ?_, ?_, ?_, ?_, ?_, ?_, ?_, ?_, ?_, ?_, ?_, ?_, ?_, ?_, ?_, ?_, ?_, ?_⟩ <;> intros <;> rfl

/-- Commands of functions, the rest; rings. -/
theorem test_wf_sources_b :
    (Instr.layoutRead (.mbox 256 .admin)).wf 256 = false ∧
    (Instr.layerCreate (.mbox 256 .admin)).wf 256 = false ∧
    (Instr.layerModify (.mbox 256 .admin)).wf 256 = false ∧
    (Instr.layerActivate (.mbox 256 .admin)).wf 256 = false ∧
    (Instr.layerHold (.mbox 256 .admin)).wf 256 = false ∧
    (Instr.layerDelete (.mbox 256 .admin)).wf 256 = false ∧
    (Instr.layerRead (.mbox 256 .admin)).wf 256 = false ∧
    (Instr.rungCreate (.mbox 256 .admin)).wf 256 = false ∧
    (Instr.rungModify (.mbox 256 .admin)).wf 256 = false ∧
    (Instr.rungActivate (.mbox 256 .admin)).wf 256 = false ∧
    (Instr.rungHold (.mbox 256 .admin)).wf 256 = false ∧
    (Instr.rungDelete (.mbox 256 .admin)).wf 256 = false ∧
    (Instr.rungRead (.mbox 256 .admin)).wf 256 = false ∧
    (Instr.keyInstall (.mbox 256 .admin)).wf 256 = false ∧
    (Instr.governorConfig (.mbox 256 .admin)).wf 256 = false ∧
    (Instr.governorRead (.mbox 256 .admin)).wf 256 = false ∧
    (Instr.decoderRead (.mbox 256 .admin)).wf 256 = false ∧
    (Instr.policerConfig (.mbox 256 .admin)).wf 256 = false ∧
    (∀ x0, (Instr.coefLoad (.mbox 256 .admin) x0).wf 256 = false) ∧
    (Instr.coefUnload (.mbox 256 .admin)).wf 256 = false ∧
    (Instr.layerFlip (.mbox 256 .admin)).wf 256 = false ∧
    (Instr.rungRefresh (.mbox 256 .admin)).wf 256 = false ∧
    (Instr.rungKey (.mbox 256 .admin)).wf 256 = false ∧
    (Instr.surfaceCreate (.mbox 256 .admin)).wf 256 = false ∧
    (Instr.surfaceDelete (.mbox 256 .admin)).wf 256 = false ∧
    (Instr.surfaceInfo (.mbox 256 .admin)).wf 256 = false ∧
    (∀ x0, (Instr.surfaceWrite (.mbox 256 .admin) x0).wf 256 = false) ∧
    (Instr.surfaceRead (.mbox 256 .admin)).wf 256 = false ∧
    (Instr.fenceCreate (.mbox 256 .admin)).wf 256 = false ∧
    (Instr.fenceDelete (.mbox 256 .admin)).wf 256 = false ∧
    (Instr.fenceSignal (.mbox 256 .admin)).wf 256 = false ∧
    (Instr.audioRead (.mbox 256 .admin)).wf 256 = false ∧
    (Instr.mixRead (.mbox 256 .admin)).wf 256 = false ∧
    (∀ x0, (Instr.hrtfLoad (.mbox 256 .admin) x0).wf 256 = false) ∧
    (Instr.hrtfUnload (.mbox 256 .admin)).wf 256 = false ∧
    (Instr.playClip (.mbox 256 .admin)).wf 256 = false ∧
    (Instr.clipStop (.mbox 256 .admin)).wf 256 = false ∧
    (Instr.dtmfSend (.mbox 256 .admin)).wf 256 = false ∧
    (Instr.planeStop (.mbox 256 .admin)).wf 256 = false ∧
    (∀ x0, (Instr.planeLoad (.mbox 256 .admin) x0).wf 256 = false) ∧
    (Instr.planeStart (.mbox 256 .admin)).wf 256 = false ∧
    (Instr.planeRead (.mbox 256 .admin)).wf 256 = false ∧
    (∀ x0, (Instr.kernelLoad (.mbox 256 .admin) x0).wf 256 = false) ∧
    (Instr.kernelUnload (.mbox 256 .admin)).wf 256 = false ∧
    (Instr.kernelRead (.mbox 256 .admin)).wf 256 = false ∧
    (Instr.kernelResume (.mbox 256 .admin)).wf 256 = false ∧
    (Instr.statsRead (.mbox 256 .admin)).wf 256 = false ∧
    (Instr.queueRead (.mbox 256 .admin)).wf 256 = false ∧
    (Instr.queueConfig (.mbox 256 .admin)).wf 256 = false ∧
    (Instr.queueFlush (.mbox 256 .admin)).wf 256 = false ∧
    (Instr.qgroupSet (.mbox 256 .admin)).wf 256 = false ∧
    (Instr.qgroupConfig (.mbox 256 .admin)).wf 256 = false ∧
    (Instr.qgroupRead (.mbox 256 .admin)).wf 256 = false ∧
    (Instr.qgroupClear (.mbox 256 .admin)).wf 256 = false ∧
    (Instr.histConfig (.mbox 256 .admin)).wf 256 = false ∧
    (Instr.histRead (.mbox 256 .admin)).wf 256 = false ∧
    (Instr.battenAudit (.mbox 256 .admin)).wf 256 = false ∧
    (Instr.memStatus (.mbox 256 .admin)).wf 256 = false ∧
    (Instr.memLogRead (.mbox 256 .admin)).wf 256 = false ∧
    (Instr.memLogClear (.mbox 256 .admin)).wf 256 = false ∧
    (Instr.auditRead (.mbox 256 .admin)).wf 256 = false ∧
    (Instr.healthRead (.mbox 256 .admin)).wf 256 = false ∧
    (Instr.faultAck (.mbox 256 .admin)).wf 256 = false ∧
    (Instr.fwInfo (.mbox 256 .admin)).wf 256 = false ∧
    (Instr.fwUpdateBegin (.mbox 256 .admin)).wf 256 = false ∧
    (∀ x0, (Instr.fwUpdateData (.mbox 256 .admin) x0).wf 256 = false) ∧
    (Instr.fwUpdateCommit (.mbox 256 .admin)).wf 256 = false ∧
    (Instr.fwActivate (.mbox 256 .admin)).wf 256 = false ∧
    (Instr.debugChallenge (.mbox 256 .admin)).wf 256 = false ∧
    (Instr.debugUnlock (.mbox 256 .admin)).wf 256 = false ∧
    (∀ e, (Instr.nop (.ring 256 0 e)).wf 256 = false) ∧
    (∀ e, (Instr.nop (.ring 0 64 e)).wf 256 = false) := by
  refine ⟨?_, ?_, ?_, ?_, ?_, ?_, ?_, ?_, ?_, ?_, ?_, ?_, ?_, ?_, ?_, ?_, ?_, ?_, ?_, ?_, ?_, ?_, ?_, ?_, ?_, ?_, ?_, ?_, ?_, ?_, ?_, ?_, ?_, ?_, ?_, ?_, ?_, ?_, ?_, ?_, ?_, ?_, ?_, ?_, ?_, ?_, ?_, ?_, ?_, ?_, ?_, ?_, ?_, ?_, ?_, ?_, ?_, ?_, ?_, ?_, ?_, ?_, ?_, ?_, ?_, ?_, ?_, ?_, ?_, ?_, ?_, ?_⟩ <;> intros <;> rfl

/-- Commands of cores. -/
theorem test_wf_cores :
    (Instr.dspWatchdogExpiry 192).wf 256 = false ∧
    (Instr.kernelOverrun 192).wf 256 = false ∧
    (∀ x0 x1, (Instr.kernelDmaComplete 192 x0 x1).wf 256 = false) ∧
    (∀ x0, (Instr.coreInterrupt 192 x0).wf 256 = false) ∧
    (Instr.slotNop 192).wf 256 = false ∧
    (Instr.add 192).wf 256 = false ∧
    (Instr.sub 192).wf 256 = false ∧
    (Instr.addi 192).wf 256 = false ∧
    (Instr.neg 192).wf 256 = false ∧
    (Instr.abs 192).wf 256 = false ∧
    (Instr.min 192).wf 256 = false ∧
    (Instr.max 192).wf 256 = false ∧
    (Instr.and 192).wf 256 = false ∧
    (Instr.or 192).wf 256 = false ∧
    (Instr.xor 192).wf 256 = false ∧
    (Instr.shli 192).wf 256 = false ∧
    (Instr.shri 192).wf 256 = false ∧
    (Instr.shle 192).wf 256 = false ∧
    (Instr.mul 192).wf 256 = false ∧
    (Instr.mac 192).wf 256 = false ∧
    (Instr.msu 192).wf 256 = false ∧
    (Instr.clra 192).wf 256 = false ∧
    (Instr.lda 192).wf 256 = false ∧
    (Instr.adda 192).wf 256 = false ∧
    (Instr.ext 192).wf 256 = false ∧
    (Instr.norm 192).wf 256 = false ∧
    (Instr.expb 192).wf 256 = false ∧
    (Instr.cmp 192).wf 256 = false ∧
    (Instr.sel 192).wf 256 = false ∧
    (Instr.mov 192).wf 256 = false ∧
    (Instr.pack 192).wf 256 = false ∧
    (Instr.rdsr 192).wf 256 = false ∧
    (Instr.wrsr 192).wf 256 = false ∧
    (Instr.maxi 192).wf 256 = false ∧
    (Instr.mini 192).wf 256 = false ∧
    (Instr.rds 192).wf 256 = false ∧
    (Instr.movi 192).wf 256 = false ∧
    (∀ x0, (Instr.ld 192 x0).wf 256 = false) ∧
    (∀ x0, (Instr.ld2 192 x0).wf 256 = false) ∧
    (Instr.st 192).wf 256 = false ∧
    (∀ x0, (Instr.ldw 192 x0).wf 256 = false) ∧
    (Instr.stw 192).wf 256 = false ∧
    (Instr.br 192).wf 256 = false ∧
    (Instr.brc 192).wf 256 = false ∧
    (Instr.call 192).wf 256 = false ∧
    (Instr.ret 192).wf 256 = false ∧
    (Instr.rep 192).wf 256 = false ∧
    (Instr.repr 192).wf 256 = false ∧
    (Instr.setp 192).wf 256 = false ∧
    (Instr.addp 192).wf 256 = false ∧
    (Instr.setm 192).wf 256 = false ∧
    (Instr.setcb 192).wf 256 = false ∧
    (Instr.movp 192).wf 256 = false ∧
    (Instr.movd 192).wf 256 = false ∧
    (Instr.dmaq 192).wf 256 = false ∧
    (Instr.dmawait 192).wf 256 = false ∧
    (Instr.srchi 192).wf 256 = false ∧
    (Instr.rdcyc 192).wf 256 = false ∧
    (∀ x0, (Instr.kret 192 x0).wf 256 = false) := by
  refine ⟨?_, ?_, ?_, ?_, ?_, ?_, ?_, ?_, ?_, ?_, ?_, ?_, ?_, ?_, ?_, ?_, ?_, ?_, ?_, ?_, ?_, ?_, ?_, ?_, ?_, ?_, ?_, ?_, ?_, ?_, ?_, ?_, ?_, ?_, ?_, ?_, ?_, ?_, ?_, ?_, ?_, ?_, ?_, ?_, ?_, ?_, ?_, ?_, ?_, ?_, ?_, ?_, ?_, ?_, ?_, ?_, ?_, ?_, ?_⟩ <;> intros <;> rfl

/-! ## Worked examples of the spec: the numbers on the right stand in the text -/

/-- Fields of an object replaced. -/
def withF (k : Nat) (fs : Tab Int) (s : State) : State := updObj s k fun o => { o with fields := fs ++ o.fields }

/-- The address example after R646. -/
theorem test_dram_map :
    ((dramMap { up with mem := { up.mem with channels := 8, sets := [{ first := 0, n := 8, lg := 8 }] } } 0x12345678).map fun l =>
      (l.ch, l.sub, l.rank, l.bg, l.ba, l.row)) = some (6, 1, 0, 5, 2, 145) := by
  decide +kernel

/-- The hold-up example after R790. -/
def bank (uv : Nat) : State := { up with
  boot := { up.boot with hdr := { up.boot.hdr with
    holdC := 4700, holdVmin := 9000, holdRatio := 1024, storePower := 1800, storeEntry := 4000, tPp := 1200, tSe := 60000 } }
  dep := { up.dep with holdup := [uv, 13000000] } }

theorem test_holdup_energy :
    (bankMv (bank 11920000), availRaw (bank 11920000) / 2000000, needRaw (bank 0) 2 / 4000, needRaw (bank 0) 1 / 4000) =
      (11800, 136864, 140000, 7700) ∧
    energyOk (bank 11920000) 2 = false ∧ energyOk (bank 11920000) 1 = true ∧
    (bankMv (bank 12122000), availRaw (bank 12122000) / 2000000, energyOk (bank 12122000) 2) = (12000, 148050, true) := by
  decide +kernel

/-- The jitter buffer example after R177, on a 10 ms period: O, the boundaries of the two packets. -/
theorem test_jitter_release :
    (let s := withF (okey 2 0) [(fk 0x08 0 0, 10000000)] (house .active up)
     let o : Int := 1000003100000 - tsNs 48000 480000
     (o, boundaryOf s (okey 4 2) (o + tsNs 48000 480000 + 20000000), boundaryOf s (okey 4 2) (o + tsNs 48000 480960 + 20000000)))
      = (990003100000, 1000030000000, 1000050000000) := by
  decide +kernel

/-- The switch to a lower encoding after R196: timestamps and sequence numbers. -/
theorem test_switch_offsets :
    (let p : FwdIn := { enc := 5, codec := 8, ext := 52010, hi := none, mt := 10033400000, rtp := { ts := 8100000 }, info := {} }
     let u := switchOffsets p { enc := 4, lastSeq := some 1000, lastTs := 3000000, lastMt := 10000000000 }
     (u.tsOff, u.seqOff, (8100000 + u.tsOff) % 2 ^ 32, (52010 + u.seqOff) % 65536)) = (4289870302, 14527, 3003006, 1001) := by
  decide +kernel

/-- The decoder examples after R278. -/
theorem test_decode_cost :
    (let s := withF (okey 4 0) [(fk 0x05 1 0, 1920), (fk 0x05 2 0, 1080), (fk 0x05 4 0, 8), (fk 0x05 5 0, 102400)] (house .active up)
     (decodeCost s (okey 4 0), engineShare 8 1 (decodeCost s (okey 4 0)))) = (448000, 13440) ∧
    (let s := withF (okey 4 0) [(fk 0x05 1 0, 3840), (fk 0x05 2 0, 2160), (fk 0x05 5 0, 1048576)] (house .active up)
     (decodeCost s (okey 4 0) + 50) / 100) = 35113 := by
  decide +kernel

/-- The engine densities of chapter 1 and of the example after R401. -/
theorem test_rung_density :
    (engineShare 8 2 3686400, engineShare 8 2 420000, engineShare 8 1 3686400) = (221184, 25200, 110592) ∧
    (let s := withF (okey 7 0) [(fk 0x0A 0 0, 1), (fk 0x0A 3 0, 1920), (fk 0x0A 4 0, 1080), (fk 0x0A 11 0, 120000)]
        (withF (okey 5 0) [(fk 0x09 1 0, 1920), (fk 0x09 2 0, 1080), (fk 0x09 3 0, 8)] (house .active up))
     (encodeCostAs s (okey 7 0) true, windowNs s (okey 5 0), rungCharge s [okey 7 0] (okey 7 0))) = (1376576, 8294400, 497664) ∧
    (let s := withF (okey 7 0) [(fk 0x0A 0 0, 1), (fk 0x0A 3 0, 960), (fk 0x0A 4 0, 540), (fk 0x0A 11 0, 40000)]
        (withF (okey 5 0) [(fk 0x09 1 0, 960), (fk 0x09 2 0, 540), (fk 0x09 3 0, 8)] (house .active up))
     encodeCostAs s (okey 7 0) false) = 246464 := by
  decide +kernel

/-- The densities of the fixed conference on two cores (chapter 8): front, back, mix, shared encoding, ranking. -/
theorem test_audio_density :
    [density up (500000 * 1000000) (frontWin 20000000), density up (426000 * 1000000) (backWin 20000000),
     density up (48000 * 1000000) (mixWin 20000000), density up (420000 * 1000000) (backWin 20000000),
     density up (2368 * 1000000) (mixWin 20000000)] = [31250, 31324, 30000, 30883, 1480] := by
  decide +kernel

/-- The blending values after R331 and the RGB value after R352. -/
theorem test_blend_values :
    (blendInlay 192 940 250, alpha12 8 128, alphaA 2056) = (768, 2056, 2057) ∧
    (blendMarq 1 192 2057 true 3760 1000, storeSample true 10 2040) = (2040, 510) ∧
    (blendMarq 1 192 2057 false 0 352 + 2048, storeSample true 10 2267) = (2267, 567) ∧ rgbOf 940 512 512 = (1023, 1023, 1023) := by
  decide +kernel

/-- The stripes of the 2×2 grid after R326. -/
theorem test_stripes :
    (let quad : List SpanIn := [⟨0, 1280, 0, 0, 960, 540⟩, ⟨1, 1280, 960, 0, 960, 540⟩, ⟨2, 1280, 0, 540, 960, 540⟩, ⟨3, 1280, 960, 540, 960, 540⟩]
     (fitsIn 2048 1920 1 quad, fitsIn 2048 1920 2 quad, stripeAt 1920 2 1, spanIn 1280 0 960 0 1920)) = (false, true, 960, 1280) ∧
    (taps 8 1280 960 959).2[7]? = some 1279 := by
  decide +kernel

/-- C_MIN, the reserves and the two budgets of the exhausted picture (chapter 7). -/
theorem test_encoder_budget :
    (let ls := [(1280, 720, 40, 23)]
     let bs := unitBlocks 32 8 20 0 (some 5) false [] 0 0 ls
     (cMin 1 ls, reserveFrom (reserves 1) (bs.drop (18 * 40)), reserveFrom (reserves 1) (bs.drop (18 * 40 + 1)))) = (29824, 2172, 2171) ∧
    budgetOf {} { k := 0, mt := 0, tid := 0, t := 1500000 } 0 1 25 1 200 8250 29824 = (0, 66000, 60000) ∧
    budgetOf { b := 64706, carry := 4706, prevMt := some 0 } { k := 1, mt := 40000000, tid := 0, t := 1500000 } 0 1 25 1 200 8250 29824
      = (4706, 66000, 54706) := by
  decide +kernel

/-- The reservation after R604, the passes after R366, the clock compensation at k = 4 after R781. -/
theorem test_small_examples :
    cellsFor 12400 = 50 ∧ max (passes 3840 640) (passes 2160 360) = 2 ∧
    (let s := depend (fun d => { d with k := [(3, 4), (4, 4), (5, 4)] }) up
     (tSwNow s, scaleNs s 5 256000, bNpNow s)) = (12800, 273067, 2481333) := by
  decide +kernel

/-- Table 2-10: a backward step of 1.8 ms taken by TIME_SET. -/
theorem test_backward_step :
    (let s := withF (okey 2 0) [] (timed (fun t => { t with
        phc := 123250200000 * 2 ^ 32, strokeNext := 123250500000, frames := t.frames.map fun _ => nextFrameInstant 8 123250200000 })
        (house .active up))
     let t := (takeCorrection (-1800000) s).2
     ((takeCorrection (-1800000) s).1, phcNs t.time, t.time.epoch, t.time.eOff, t.time.strokeNext, t.time.frames[8]?.map (·.2)))
      = (2, 123248400000, 1, -1800000, 123249000000, some 123266666666) := by
  decide +kernel

/-- Table 14-16: three records at 58, the signal at 200 µs, four more after EQ_HEAD = 61; phases across the wrap. -/
def wrapped : EvQueue := { anEq with size := 64, count := 4, time := 200, tail := 58, head := 58, slots := [] }

theorem test_event_phase :
    (let r : EvRec := { typ := 1, handle := 0, mt := 0, payload := [] }
     let f0 : Func := { queues := [(3, wrapped)] }
     let f1 := eqPut 72000 0 (eqPut 24000 0 (eqPut 0 0 f0 3 r) 3 r) 3 r
     let q1 := (Tab.get f1.queues 3).getD anEq
     let f2 := { f1 with queues := [(3, ({ q1 with head := 61, u := 0 } : EvQueue))] }
     let q2 := (Tab.get (eqPut 202400 0 (eqPut 202400 0 (eqPut 201600 0 (eqPut 200000 0 f2 3 r) 3 r) 3 r) 3 r).queues 3).getD anEq
     ([q1.tail, q1.u, q1.t0, q2.tail, q2.u], [58, 61, 63, 0].map fun n => (Tab.get q2.slots n).map (·.2)))
      = ([61, 3, 0, 65, 0], [some true, some true, some true, some false]) := by
  decide +kernel

/-- Table 15-21: the ring entry's fields. -/
theorem test_ring_entry :
    (let e : Bytes := [0x01, 0x05, 0x01, 0x00, 0x2A, 0, 0, 0, 0x2C, 0x01, 0x50, 0x30, 0xFF, 0x00, 0x02, 0x00,
        0x00, 0x01, 0x03, 0, 0, 0, 0, 0, 0x80, 0xFE, 0xFF, 0xFF, 0xFF, 0xFF, 0xFF, 0xFF, 0x00, 0x05, 0x03, 0, 0, 0, 0, 0, 0, 0, 0, 0, 0, 0, 0, 0]
     let p := e.drop 8
     ([le e 0 2, le e 4 4, le p 0 4, hType (le p 0 4), hGen (le p 0 4), hIdx (le p 0 4)], (entries p 8 (le p 6 2)).map fun x => (x.key, x.val)))
      = ([lifeOp 3 1, 42, 0x3050012C, 3, 5, 300], [(fk 0x03 1 0, -384), (fk 0x03 5 0, 0)]) := by
  decide +kernel

/-! ## The whole block -/

/-- A device in reset with a command waiting, and a running one. -/
def waiting (c : Instr) (s : State) : State := { s with pending := [c] }

theorem wit_EveryCommandRunsAndKeepsTheQueue :
    (Instr.nop (.mbox 255 .media)).wf (nFuncs up) = true ∧ (Instr.add 191).wf (nFuncs up) = true ∧
    goes (exec (.ppsOutEdge) (waiting .ppsOutEdge up)) (fun t => t.pending == [.ppsOutEdge]) = true ∧
    exec (.add 192) up = .fault .noSuchPart := by
  refine ⟨by decide +kernel, by decide +kernel, by decide +kernel, rfl⟩

theorem wit_HaltedDeviceStandsStill :
    halted State.reset = true ∧ alwaysOn (.strokeBoundary []) = false ∧ exec (.strokeBoundary []) State.reset = .next State.reset := by
  refine ⟨by decide +kernel, by decide +kernel, rfl⟩

theorem wit_EveryStepKeepsTheDeviceInReset :
    HeldInReset State.reset ∧ (step (waiting .smbusAlertResponse State.reset)) = .next { State.reset with boot := { State.reset.boot with ara := none } } ∧
    (HeldInReset (waiting .porstFall State.reset)) := by
  refine ⟨fun _ => rfl, rfl, fun _ => rfl⟩

/-- A flash of three bytes at both ends, and one that is not in its form. -/
theorem wit_EveryStepKeepsTheFlashCanonical :
    (let s := booting (fun b => { b with flash := [(0, 1), (5, 0), (67108863, 9)] }) (waiting .powerFail up)
     Mem.wf erased s.boot.flash = true ∧ goes (step s) (fun t => Mem.wf erased t.boot.flash) = true) ∧
    Mem.wf erased [(5, 1), (0, 1)] = false ∧ Mem.wf erased [(0, erased)] = false := by
  decide +kernel

theorem wit_OnlyFlashOperationsChangeTheFlash (got : Option Bytes) (env : BootEnv) :
    Instr.powerFail ≠ .flashOperationComplete got ∧ Instr.powerFail ≠ .porstFall ∧ Instr.powerFail ≠ .porstRise env ∧
      ∃ t, exec .powerFail up = .next t := by
  refine ⟨by simp, by simp, by simp, _, rfl⟩

end Sys2Proof.Tests
end

section
/-!
PROOFS. The life-cycle commands of objects (chapter 1): what each body answers when its checks pass, what a command keeps of
every object, what a boundary takes; and with these the statements on CREATE, MODIFY, ACTIVATE, HOLD, DELETE and READ.
-/

namespace Sys2Proof.Proofs

open Sys2Proof Sys2Proof.Machine Sys2Proof.Laws

/-! ## The life-cycle commands as bodies served -/

section
variable {ty : Nat} (src : Src) (s : State)

theorem exec_createOf (h2 : 2 ≤ ty) (h7 : ty ≤ 7) :
    exec (createOf ty src) s = serve (lifeOp ty 0) src [] (bodyCreate ty) s := by
  interval_cases ty <;> rfl

theorem exec_modifyOf (h2 : 2 ≤ ty) (h7 : ty ≤ 7) :
    exec (modifyOf ty src) s = serve (lifeOp ty 1) src [] (bodyModify ty) s := by
  interval_cases ty <;> rfl

theorem exec_activateOf (h2 : 2 ≤ ty) (h7 : ty ≤ 7) :
    exec (activateOf ty src) s = serve (lifeOp ty 2) src [] (bodyActivate ty) s := by
  interval_cases ty <;> rfl

theorem exec_holdOf (h2 : 2 ≤ ty) (h7 : ty ≤ 7) :
    exec (holdOf ty src) s = serve (lifeOp ty 3) src [] (bodyHold ty) s := by
  interval_cases ty <;> rfl

theorem exec_deleteOf (h2 : 2 ≤ ty) (h7 : ty ≤ 7) :
    exec (deleteOf ty src) s = serve (lifeOp ty 4) src [] (bodyDelete ty) s := by
  interval_cases ty <;> rfl

theorem exec_readOf (h2 : 2 ≤ ty) (h7 : ty ≤ 7) :
    exec (readOf ty src) s = serve (lifeOp ty 5) src [] (bodyRead ty) s := by
  interval_cases ty <;> rfl

end

/-! ## Checks -/

/-- A checked answer is a refusal without a result, or every check passes and it goes on. -/
theorem checked_cases (cs : List (Bool × Status)) (f : Unit → Ans) :
    (∃ st, checked cs f = .no st []) ∨ lowest cs = none ∧ checked cs f = f () := by
  unfold checked
  cases lowest cs with
  | none => exact .inr ⟨rfl, rfl⟩
  | some st => exact .inl ⟨st, rfl⟩

theorem checked_of_lowest {cs : List (Bool × Status)} {f : Unit → Ans} (h : lowest cs = none) : checked cs f = f () := by
  simp [checked, h]

/-! ## The object table -/

/-- A change of an object that exists, written out. -/
theorem updObj_of_getObj {s : State} {k : Nat} {o : Obj} (g : Obj → Obj) (h : getObj s k = some o) :
    updObj s k g = setObjs s (Tab.set s.obj.objs k (g o)) := by
  have h' : Tab.get s.obj.objs k = some o := h
  simp [updObj, Tab.upd, h']

theorem getObj_updObj_same {s : State} {k : Nat} {o : Obj} (g : Obj → Obj) (h : getObj s k = some o) :
    getObj (updObj s k g) k = some (g o) := by
  simp [getObj_updObj, h]

/-- A key of the table is in the list of the keys of its type. -/
theorem mem_objKeys {s : State} {k : Nat} {o : Obj} (h : getObj s k = some o) : k ∈ objKeys s (k / 1048576) := by
  have hk : k ∈ Tab.keys s.obj.objs := (tab_has_iff _ _).1 (by simp [Tab.has, show Tab.get s.obj.objs k = some o from h])
  simp only [Tab.keys, List.mem_map] at hk
  obtain ⟨e, he, rfl⟩ := hk
  simp only [objKeys, List.mem_map, List.mem_filter]
  exact ⟨e, ⟨he, by simp⟩, rfl⟩

/-- A handle resolves to a key of the type asked for. -/
theorem resolve_type {s : State} {F ty h k : Nat} (hr : resolve s F ty h = some k) : k / 1048576 = ty := by
  unfold resolve at hr
  split at hr
  case isTrue ht =>
    split at hr
    case h_1 o ho =>
      obtain ⟨-, rfl⟩ : _ ∧ hKey h = k := by simpa using hr
      have : hIdx h < 1048576 := Nat.mod_lt _ (by decide)
      unfold hKey okey
      omega
    case h_2 => cases hr
  case isFalse => cases hr

/-! ## HOLD, DELETE and READ -/

section
variable {s : State} {F ty k : Nat} {p d : Bytes} {o : Obj}
variable (hr : resolve s F ty (le p 0 4) = some k) (ho : getObj s k = some o)
include hr ho

theorem bodyHold_of_active (hw : o.willBe = .active) :
    bodyHold ty F p d s = .ok [] 0 (queueAct k (.state .held) (dueOf s k) s) := by
  have hc : willActive s k = true := by simp [willActive, ho, hw]
  simp [bodyHold, hr, hc, checked]

theorem bodyHold_of_not_active (hw : o.willBe ≠ .active) : bodyHold ty F p d s = .no .badState [] := by
  have hc : willActive s k = false := by simp [willActive, ho, hw]
  simp [bodyHold, hr, hc, checked, lowest]

theorem bodyDelete_of_no_children (hst : o.state ≠ .draining) (hch : children s k = []) :
    bodyDelete ty F p d s = .ok [] 0 (drain k s) := by
  have hs : (stateOf s k != .draining) = true := by simpa [stateOf, ho] using hst
  simp [bodyDelete, hr, hs, hch, checked]

theorem bodyDelete_of_children (hst : o.state ≠ .draining) (hch : children s k ≠ []) :
    bodyDelete ty F p d s = .no .notEmpty [] := by
  have hs : (stateOf s k != .draining) = true := by simpa [stateOf, ho] using hst
  have hc : (children s k).isEmpty = false := by simpa using hch
  simp [bodyDelete, hr, hs, hc, checked, lowest]

theorem bodyDelete_of_draining (hst : o.state = .draining) : bodyDelete ty F p d s = .no .badState [] := by
  have hs : (stateOf s k != .draining) = false := by simp [stateOf, ho, hst]
  cases hc : (children s k).isEmpty <;> simp [bodyDelete, hr, hs, hc, checked, lowest, Status.code]

theorem bodyRead_of_resolved : ∃ rest, bodyRead ty F p d s = .ok (headerBytes k o ++ rest) 0 s := by
  simp only [bodyRead, hr, ho, Option.bind_some, Option.map_some, List.append_assoc]
  exact ⟨_, rfl⟩

end

/-- DELETE of an object for which admission holds nothing beside the old reservation. -/
theorem drain_of_resvNew_nil {s : State} {k : Nat} {o : Obj} (ho : getObj s k = some o) (hn : o.resvNew = []) :
    drain k s = setObjs s (Tab.set s.obj.objs k { o with state := .draining, pend := [{ act := .free, due := dueOf s k }] }) := by
  simp [drain, ho, hn, updObj_of_getObj _ ho]

theorem toLe_length (n v : Nat) : (toLe n v).length = n := by
  induction n generalizing v with
  | zero => rfl
  | succ n ih => simp [toLe, ih]

theorem headerBytes_length (k : Nat) (o : Obj) : (headerBytes k o).length = 32 := by
  simp [headerBytes, toLe_length, zeros]

/-- Settles O9: each command is its body served, and the body's answer follows from what its checks say. -/
theorem holdDeleteAndRead : Obligations.HoldDeleteAndRead := by
  unfold Obligations.HoldDeleteAndRead
  intro s F ty k src p o h2 h7 hr ho
  rw [exec_holdOf src s h2 h7, exec_deleteOf src s h2 h7, exec_readOf src s h2 h7]
  refine ⟨fun hu hw => ?_, fun hu hw => ?_, fun hu hst hch hn => ?_, fun hu hst hch => ?_, fun hu hst => ?_, fun hu => ?_⟩
  · rw [serve_ok hu (bodyHold_of_active hr ho hw), queueAct, updObj_of_getObj _ ho]
  · rw [serve_no hu (bodyHold_of_not_active hr ho hw), afterNo_of_ne (by decide)]
  · rw [serve_ok hu (bodyDelete_of_no_children hr ho hst hch), drain_of_resvNew_nil ho hn]
  · rw [serve_no hu (bodyDelete_of_children hr ho hst hch), afterNo_of_ne (by decide)]
  · rw [serve_no hu (bodyDelete_of_draining hr ho hst), afterNo_of_ne (by decide)]
  · obtain ⟨rest, hb⟩ := bodyRead_of_resolved (d := []) hr ho
    refine ⟨_, serve_ok hu hb, ?_⟩
    rw [List.take_left' (headerBytes_length k o)]
    rfl

/-! ## CREATE -/

/-- What `addObject` changes: the object table, the generations and the order of creation; and for a conference or a layer
what it holds beside its header. -/
theorem addObject_frame (k g pt par : Nat) (fixed crit : Bool) (fs : Tab Int) (e : Nat) (s : State) :
    ∃ confs layers, addObject k g pt par fixed crit fs e s = { s with obj := { s.obj with
      objs := Tab.set s.obj.objs k { gen := g, part := pt, parent := par, fixed := fixed, crit := crit, fields := fs
                                     born := s.obj.bornSeq }
      gens := Tab.set s.obj.gens k g
      bornSeq := s.obj.bornSeq + 1
      confs := confs
      layers := layers } } := by
  unfold addObject
  by_cases hc : k / 1048576 = 2
  · rw [if_pos hc]
    exact ⟨_, _, rfl⟩
  · rw [if_neg hc]
    by_cases hl : k / 1048576 = 6
    · rw [if_pos hl]
      exact ⟨_, _, rfl⟩
    · rw [if_neg hl]
      exact ⟨_, _, rfl⟩

section
variable (k g pt par : Nat) (fixed crit : Bool) (fs : Tab Int) (e : Nat) (s : State)

theorem getObj_addObject (k' : Nat) :
    getObj (addObject k g pt par fixed crit fs e s) k' =
      if k = k' then some { gen := g, part := pt, parent := par, fixed := fixed, crit := crit, fields := fs, born := s.obj.bornSeq }
      else getObj s k' := by
  obtain ⟨confs, layers, h⟩ := addObject_frame k g pt par fixed crit fs e s
  rw [h]
  exact tab_get_set _ _ _ _

/-- A new object's critical mark passes the check when it is not set on a floating object (R34). -/
theorem critChecks_addObject (h : crit = true → fixed = true) :
    lowest (critChecks (addObject k g pt par fixed crit fs e s) [k]) = none := by
  cases crit
  · simp [critChecks, isCritical, getObj_addObject]
  · simp [critChecks, isFixed, getObj_addObject, h rfl]

end

/-- The checks on the flag and class bytes of a CREATE. -/
theorem flagChecks_pass {ty c fl : Nat} (hf : fl < 2) (hc : ty = 2 ∨ 6 ≤ ty ∨ c < 2) :
    lowest [(fl / 2 == 0, .unsupportedField), (ty == 2 || decide (6 ≤ ty) || decide (c ≤ 1), .outOfRange)] = none := by
  rw [lowest_eq_none]
  simp only [List.mem_cons, List.not_mem_nil, or_false, forall_eq_or_imp, forall_eq, Bool.or_eq_true, beq_iff_eq, decide_eq_true_eq]
  omega

/-- Checks made under a condition pass when they pass. -/
theorem lowest_ite_nil {c : Bool} {cs : List (Bool × Status)} (h : lowest cs = none) :
    lowest (if c then cs else []) = none := by
  cases c
  · rfl
  · exact h

/-- Settles O8: the checks of the body are the hypotheses, and what it adds is `addObject`. -/
theorem createMakesAnIdleObject : Obligations.CreateMakesAnIdleObject := by
  unfold Obligations.CreateMakesAnIdleObject
  intro s F ty i pt par src p h2 h7 hu hp hi es tab k g t0 fixed t hes hfl hcls hdr hty hcrit
  have hpar : (ty == 2 || stateOf s (hKey par) != .draining) = true := by simpa using hdr
  have hchecks := (lowest_append _ _).2 ⟨(lowest_append _ _).2 ⟨(lowest_append _ _).2
    ⟨(lowest_append _ _).2 ⟨hes, flagChecks_pass hfl hcls⟩,
      show lowest [(true, .noResource), (true, .badState)] = none from rfl⟩,
    lowest_ite_nil (c := (es.map (·.key)).all fun q => (fieldSpec q).isSome) hty⟩,
    critChecks_addObject k g pt par fixed _ (newFields ty (hKey par) tab t0) (if ty = 6 then le p 8 64 else 0) t0 hcrit⟩
  have hb : bodyCreate ty F p [] s = .ok (toLe 4 (mkHandle ty g i) ++ zeros 4) (mkHandle ty g i)
      (addObject k g pt par fixed (bitOf (le p 5 1) 0) (newFields ty (hKey par) tab t0) (if ty = 6 then le p 8 64 else 0) s) := by
    simp only [bodyCreate, hp, hi, hpar, Option.getD_some, Option.isSome_some]
    exact checked_of_lowest hchecks
  rw [exec_createOf src s h2 h7]
  refine ⟨_, serve_ok hu hb, ?_, fun k' hk' => ?_, ?_⟩
  · rw [getObj_addObject, if_pos rfl]
  · rw [getObj_addObject, if_neg (Ne.symm hk')]
  · obtain ⟨confs, layers, h⟩ := addObject_frame k g pt par fixed (bitOf (le p 5 1) 0) (newFields ty (hKey par) tab t0)
      (if ty = 6 then le p 8 64 else 0) s
    rw [h]
    exact ⟨rfl, rfl, rfl, rfl, rfl, rfl, rfl, rfl, rfl⟩

/-! ## ACTIVATE -/

@[simp] theorem admitInto_nil (t s : State) : admitInto [] t s = .ok s := rfl
@[simp] theorem queueBounds_nil (t s : State) : queueBounds t [] s = s := rfl

/-- An object that is not revoked does not return to the fixed class. -/
theorem returns_of_not_revoked {o : Obj} (h : o.revoked = false) : returns o = false := by simp [returns, h]

/-- The answer of an ACTIVATE of object `k` that changes no class, by what admission says: `t` is the trial, `fixed` the class,
and `asked` whether admission was asked for `k`. -/
def activateAnswer (k due : Nat) (fixed asked : Bool) (t : State) : Except Shut State → Ans
  | .error e => .no .admissionRefused e.bytes
  | .ok s2 =>
    let s3 := queueAct k (.state .active) due s2
    .ok (if fixed then grantBytes t s2 k else zeros 16) 0 (if asked then queueAct k (.bound (boundOf t k)) due s3 else s3)

section
variable {s s1 : State} {F ty k : Nat} {p d : Bytes} {o : Obj}
variable (hr : resolve s F ty (le p 0 4) = some k) (ho : getObj (future s) k = some o) (hrev : o.revoked = false)
include hr ho hrev

theorem bodyActivate_of_active_or_draining (hst : o.state = .active ∨ o.state = .draining) :
    bodyActivate ty F p d s = .no .badState [] := by
  have hret := returns_of_not_revoked hrev
  have hall : (o.state == .idle || o.state == .held || o.state == .faulted) = false := by
    rcases hst with h | h <;> simp [h]
  simp [bodyActivate, hr, ho, hret, hall, checked, lowest]

/-- An ACTIVATE that passes the checks and finds surfaces, with no fixed leg to check again: what is left is admission. -/
theorem bodyActivate_of_checked (hst : o.state = .idle ∨ o.state = .held ∨ o.state = .faulted)
    (hssrc : ty = 4 → isOut (future s) k = true → ofld (future s) k (fk 0x04 3 0) ≠ noneV)
    (hring : ty = 3 → ringOutside (future s) k = none) (hal : allotAs k { o with fixed := o.fixed } s = .ok s1)
    (hleg : ty = 4 → isVideo (future s1) k = true ∨ hasResv (future s1) (legOfStream (future s1) k) = false) :
    bodyActivate ty F p d s =
      activateAnswer k (dueOf s k) o.fixed (o.fixed && o.state != .held) (future s1)
        (admitInto (if o.fixed && o.state != .held then [k] else []) (future s1) s1) := by
  have hret := returns_of_not_revoked hrev
  have hall : (o.state == .idle || o.state == .held || o.state == .faulted) = true := by
    rcases hst with h | h | h <;> simp [h]
  have hs : (ty != 4 || !(isOut (future s) k) || ofld (future s) k (fk 0x04 3 0) != noneV) = true := by
    by_cases h4 : ty = 4
    · cases hout : isOut (future s) k
      · simp
      · simpa using .inr (hssrc h4 hout)
    · simp [h4]
  have hro : (if ty = 3 then ringOutside (future s) k else none) = none := by
    by_cases h3 : ty = 3
    · rw [if_pos h3, hring h3]
    · rw [if_neg h3]
  have hl : (decide (ty = 4) && !(isVideo (future s1) k) && hasResv (future s1) (legOfStream (future s1) k)
      && isFixed (future s1) (legOfStream (future s1) k)) = false := by
    by_cases h4 : ty = 4
    · rcases hleg h4 with h | h <;> simp [h]
    · simp [h4]
  have hpass : lowest [(true, .badState), (true, .invalidClass)] = none := rfl
  simp only [bodyActivate, hr, ho, hret, hall, hs, hro, hal, hl, Option.getD_some, Bool.or_false, Bool.false_and, Bool.not_false,
    Bool.true_or, Bool.true_and, checked_of_lowest hpass, Bool.false_eq_true, if_false, List.append_nil, queueBounds_nil]
  cases admitInto (if o.fixed && o.state != .held then [k] else []) (future s1) s1 <;> rfl

end

/-- Settles O10: an ACTIVATE that passes its checks answers what admission says, and a floating object asks nothing of it. -/
theorem activateAsksAdmission : Obligations.ActivateAsksAdmission := by
  unfold Obligations.ActivateAsksAdmission
  intro s s1 F ty k src p o h2 h7 hu hr ho hrev
  rw [exec_activateOf src s h2 h7]
  refine ⟨fun hst => ?_, fun hssrc hring hal hleg =>
    ⟨fun hfl hst => ?_, fun s2 hfx hst hadm => ?_, fun e hfx hst hadm => ?_⟩⟩
  · rw [serve_no hu (bodyActivate_of_active_or_draining hr ho hrev hst), afterNo_of_ne (by decide)]
  · have hb := bodyActivate_of_checked (d := []) hr ho hrev hst hssrc hring hal hleg
    rw [hfl] at hb
    exact serve_ok hu hb
  all_goals
    have hb := bodyActivate_of_checked (d := []) hr ho hrev (.inl hst) hssrc hring hal hleg
    rw [hfx, hst, show (true && ObjSt.idle != .held) = true from rfl, if_pos rfl, hadm] at hb
  · exact serve_ok hu hb
  · rw [serve_no hu hb, afterNo_refused]

/-! ## MODIFY

The parts of `bodyModify` by name: what the command says, the trial, the checks, and the answer after them. -/

/-- The field entries of a MODIFY; a layer's has a descriptor instead. -/
def modifyEntries (ty : Nat) (p : Bytes) : List Entry := if ty = 6 then [] else entries p 8 (le p 6 2)

/-- The fields a MODIFY writes. -/
def modifyFields (ty : Nat) (p : Bytes) : Tab Int :=
  if ty = 7 then rungEntries (applyEntries [] (modifyEntries ty p)) else applyEntries [] (modifyEntries ty p)

/-- The class that a MODIFY gives an object of class `fixed`, when it changes it. -/
def modifyClass (ty : Nat) (p : Bytes) (fixed : Bool) : Option Bool :=
  if decide (3 ≤ ty) && decide (ty ≤ 5) && le p 4 1 != 0xFF && (le p 4 1 == 1) != fixed then some (le p 4 1 == 1) else none

/-- The critical mark that a MODIFY names. -/
def modifyMark (p : Bytes) : Option Bool := if bitOf (le p 5 1) 1 then some (bitOf (le p 5 1) 0) else none

/-- The trial of a MODIFY of `k` that takes the class of the objects `cs` along. -/
def modifyTrial (ty k : Nat) (p : Bytes) (fx : Option Bool) (cs : List Nat) (t0 : State) : State :=
  let t1 := cs.foldl (fun t q => updObj t q fun o => o.act (.modify [] fx none false))
    (updObj t0 k fun o => o.act (.modify (modifyFields ty p) fx (modifyMark p) (bitOf (le p 5 1) 2)))
  if ty = 6 then setLayer t1 k { getLayer t1 k with desc := le p 8 64 } else t1

/-- The checks of a MODIFY of `k`, which will be as `o` is, on the trial `t`. -/
def modifyChecks (ty k : Nat) (p : Bytes) (o : Obj) (fx : Option Bool) (cs : List Nat) (t s : State) : List Check :=
  entryChecks (modifyEntries ty p) (holdsKey ty (isOut s k) (isVideo s k)) ++
    [(le p 5 1 / 8 == 0, .unsupportedField),
     ((modifyEntries ty p).all fun e => !(((fieldSpec e.key).map (·.fixed)).getD false), .outOfRange),
     (!(decide (3 ≤ ty) && decide (ty ≤ 5)) || le p 4 1 == 0xFF || decide (le p 4 1 ≤ 1), .outOfRange),
     (o.state != .draining, .badState),
     (fx.isNone || (o.state == .idle && cs.all fun q => stateOf (future s) q == .idle), .badState),
     (ty != 2 || modifyMark p != some true, .invalidClass),
     (!o.revoked || modifyMark p != some true || fx.isSome, .invalidClass)]
    ++ (if (modifyEntries ty p).all fun e => (fieldSpec e.key).isSome then typeChecks (future s) t k else [])
    ++ critChecks t (k :: cs)

/-- What a MODIFY queues on `s`, once admission has accepted the objects `ks`. -/
def modifyQueued (ty k : Nat) (p : Bytes) (fx : Option Bool) (cs ks : List Nat) (t s : State) : State :=
  let s3 := queueModify k (modifyFields ty p) fx (modifyMark p) (bitOf (le p 5 1) 2) s
  let s4 := cs.foldl (fun s q => queueAct q (.modify [] fx none false) 0 s) s3
  queueBounds t ks (if ty = 6 then queueAct k (.desc (le p 8 64)) 0 s4 else s4)

/-- The answer of a MODIFY whose checks pass. -/
def modifyAnswer (ty k : Nat) (p : Bytes) (o : Obj) (fx : Option Bool) (cs : List Nat) (t s : State) : Ans :=
  match (if o.state = .active then allotAs k ((getObj t k).getD o) s else .ok s) with
  | .error lim => noContext (isFixed t k) lim s
  | .ok s1 =>
    let ks := recheck t k (modifyFields ty p)
      ++ remark t k (modifyFields ty p) ((modifyMark p).isSome && modifyMark p != some o.crit)
    match admitInto ks t s1 with
    | .error e => .no .admissionRefused e.bytes
    | .ok s2 => .ok (if isFixed t k && hasResv s2 k then grantBytes t s2 k else zeros 16) 0 (modifyQueued ty k p fx cs ks t s2)

/-- `bodyModify` in these parts. -/
theorem bodyModify_of_resolve {s : State} {F ty k : Nat} {p d : Bytes} (hr : resolve s F ty (le p 0 4) = some k) :
    let o := (getObj (future s) k).getD {}
    let fx := modifyClass ty p o.fixed
    let cs := if fx.isSome then classKids s k else []
    let t := modifyTrial ty k p fx cs (future s)
    bodyModify ty F p d s = checked (modifyChecks ty k p o fx cs t s) fun _ => modifyAnswer ty k p o fx cs t s := by
  intro o fx cs t
  unfold bodyModify
  rw [hr]
  rfl

/-- A field list without changes queues nothing on a layer. -/
theorem queueModify_layer_nil {k : Nat} (hk : k / 1048576 = 6) (zero : Bool) (s : State) :
    queueModify k [] none none zero s = s := by
  simp [queueModify, hk]

@[simp] theorem remark_of_same (t : State) (k : Nat) (es : Tab Int) : remark t k es false = [] := by simp [remark]

/-- The class named is none, or floating as the object is. -/
theorem modifyClass_of_floating {ty : Nat} {p : Bytes} (h : 3 ≤ ty → ty ≤ 5 → le p 4 1 = 0xFF ∨ le p 4 1 = 0) :
    modifyClass ty p false = none := by
  refine if_neg fun hc => ?_
  simp only [Bool.and_eq_true, decide_eq_true_eq] at hc
  obtain ⟨⟨⟨h3, h5⟩, hff⟩, h1⟩ := hc
  rcases h h3 h5 with h | h <;> simp [h] at hff h1

/-- The class byte of a command that names no other class. -/
theorem classByte_ok {ty c : Nat} (h : 3 ≤ ty → ty ≤ 5 → c = 0xFF ∨ c = 0) :
    (!(decide (3 ≤ ty) && decide (ty ≤ 5)) || c == 0xFF || decide (c ≤ 1)) = true := by
  simp only [Bool.or_eq_true, Bool.not_eq_true', Bool.and_eq_false_iff, decide_eq_false_iff_not, decide_eq_true_eq, beq_iff_eq]
  omega

/-- The class of the modified object on a trial that changes none. -/
theorem isFixed_modifyTrial {ty k : Nat} {p : Bytes} {t0 : State} {o : Obj} (ho : getObj t0 k = some o) :
    isFixed (modifyTrial ty k p none [] t0) k = o.fixed := by
  have h : getObj (modifyTrial ty k p none [] t0) k
      = some (o.act (.modify (modifyFields ty p) none (modifyMark p) (bitOf (le p 5 1) 2))) := by
    rw [← getObj_updObj_same (fun o => o.act (.modify (modifyFields ty p) none (modifyMark p) (bitOf (le p 5 1) 2))) ho]
    unfold modifyTrial
    split <;> rfl
  simp [isFixed, h, Obj.act]

/-- Settles O11: no class and no mark changes, so nothing is admitted again, and what is left is what the body queues. -/
theorem modifyWaitsForTheBoundary : Obligations.ModifyWaitsForTheBoundary := by
  unfold Obligations.ModifyWaitsForTheBoundary
  intro s F ty k src p o h2 h7 hu hr ho hrev hfx hact hdr ents es zero t1 t hes hfl hmark hfixed hcls hty hcrit hrec
  have hm : modifyMark p = none := by simp [modifyMark, hmark]
  have ht : modifyTrial ty k p none [] (future s) = t := by simp only [modifyTrial, hm]; rfl
  have hchecks : lowest (modifyChecks ty k p o none [] t s) = none := by
    have hall : (ents.all fun e => !(((fieldSpec e.key).map (·.fixed)).getD false)) = true := by simpa using hfixed
    have hfl8 : (le p 5 1 / 8 == 0) = true := by simp; omega
    have hst : (o.state != .draining) = true := by simpa using hdr
    have hconf : (ty != 2 || modifyMark p != some true) = true := by simp [hm]
    refine (lowest_append _ _).2 ⟨(lowest_append _ _).2 ⟨(lowest_append _ _).2 ⟨hes, ?_⟩, lowest_ite_nil hty⟩, hcrit⟩
    simp only [hfl8, show modifyEntries ty p = ents from rfl, hall, classByte_ok hcls, hst, hconf, hrev, Option.isNone_none,
      Bool.true_or, Bool.not_false, lowest_cons_true, lowest_nil]
  have hans : modifyAnswer ty k p o none [] t s = .ok (zeros 16) 0 (modifyQueued ty k p none [] [] t s) := by
    have hft : isFixed t k = false := by rw [← ht, isFixed_modifyTrial ho, hfx]
    simp [modifyAnswer, hact, hm, show recheck t k (modifyFields ty p) = [] from hrec, hft]
  have hb := bodyModify_of_resolve (d := []) hr
  simp only [ho, Option.getD_some, hfx, modifyClass_of_floating hcls, Option.isSome_none, Bool.false_eq_true, if_false, ht,
    checked_of_lowest hchecks, hans] at hb
  rw [exec_modifyOf src s h2 h7, serve_ok hu hb]
  have hq : modifyQueued ty k p none [] [] t s
      = if ty = 6 then queueAct k (.desc (le p 8 64)) 0 s else queueModify k es none none zero s := by
    by_cases h6 : ty = 6
    · subst h6
      have hk := resolve_type hr
      simp [modifyQueued, hm, modifyFields, modifyEntries, applyEntries, queueModify_layer_nil hk]
    · simp only [modifyQueued, hm, h6, if_false, List.foldl_nil, queueBounds_nil]
      rfl
  rw [hq]

/-! ## What a served command can leave of the object table -/

/-- The state that an answer's own effect makes of `s`. -/
def effect (s : State) : Ans → State
  | .ok _ _ u => u
  | .part _ u => u
  | .later u => u
  | .no _ _ => s
  | .dma _ _ _ => s

@[simp] theorem effect_ok (s u : State) (out : Bytes) (h : Nat) : effect s (.ok out h u) = u := rfl
@[simp] theorem effect_no (s : State) (st : Status) (out : Bytes) : effect s (.no st out) = s := rfl
@[simp] theorem effect_dma (s : State) (a l c : Nat) : effect s (.dma a l c) = s := rfl

@[simp] theorem completeRing_obj (F k : Nat) (e : Bytes) (st : Status) (h : Nat) (s : State) :
    (completeRing F k e st h s).obj = s.obj := by
  unfold completeRing
  split
  · rfl
  · dsimp only
    split <;> rfl

@[simp] theorem settle_obj (F : Nat) (s : State) (a : Ans) : (settle F s a).1.obj = (effect s a).obj := by
  cases a with
  | no st out =>
    simp only [settle, effect, afterNo]
    split <;> rfl
  | dma a l c => simp [settle, effect, dmaFaulted]
  | ok out h u => rfl
  | part st u => rfl
  | later u => rfl

/-- An answer is the body's, or a refusal by the shared checks. -/
theorem effect_answer (op : Nat) (body : Body) (F : Nat) (p d : Bytes) (s : State) :
    effect s (answer op body F p d s) = s ∨ effect s (answer op body F p d s) = effect s (body F p d s) := by
  unfold answer
  split
  · exact .inl rfl
  · split
    · exact .inr rfl
    · left
      split
      · split <;> rfl
      · rfl

/-- A property of states that only speaks of the objects, and holds of `s` and of every effect of the body on it, holds after
the command is served. -/
theorem serve_obj_induct {P : ObjPart → Prop} {op : Nat} {src : Src} {d : Bytes} {body : Body} {s t : State}
    (h0 : P s.obj) (hb : ∀ F p, P (effect s (body F p d s)).obj) (h : serve op src d body s = .next t) : P t.obj := by
  have ha : ∀ F p, P (effect s (answer op body F p d s)).obj := fun F p => by
    rcases effect_answer op body F p d s with h | h <;> rw [h]
    · exact h0
    · exact hb F p
  have hpart : ∀ {ok : Bool} {f : State → State}, P (f s).obj → onPart ok s f = .next t → P t.obj := by
    intro ok f hf h
    unfold onPart at h
    split at h
    · cases h
      split
      · exact h0
      · exact hf
    · cases h
  cases src with
  | mbox F m =>
    refine hpart ?_ h
    unfold serveMb
    dsimp only
    split
    · split <;> simpa using ha F _
    · split
      · split
        · split <;> simpa using ha F _
        · exact h0
      · exact h0
  | ring F k e =>
    refine hpart ?_ h
    unfold serveRing
    split
    · dsimp only
      split
      · simpa using h0
      · simpa using ha F _
    · exact h0

/-! ## Parts of every object that an operation keeps -/

/-- Every object of `s` is still there in `t`, with the same `π`. -/
def Keeps {β : Type} (π : Obj → β) (s t : State) : Prop := ∀ k o, getObj s k = some o → (getObj t k).map π = some (π o)

/-- An object without its reservations. -/
def Obj.offBooks (o : Obj) : Obj := { o with resv := [], resvNew := [] }

/-- An object without its reservations and what waits on it. -/
def Obj.unqueued (o : Obj) : Obj := { o with resv := [], resvNew := [], pend := [] }

theorem Obj.unqueued_eq {o o' : Obj} (h : Obj.unqueued o' = Obj.unqueued o) :
    o'.state = o.state ∧ o'.fixed = o.fixed ∧ o'.crit = o.crit ∧ o'.fields = o.fields ∧ o'.parent = o.parent ∧
      o'.bound = o.bound ∧ o'.revoked = o.revoked := by
  simp only [Obj.unqueued, Machine.Obj.mk.injEq] at h
  tauto

theorem Obj.offBooks_eq {o o' : Obj} (h : Obj.offBooks o' = Obj.offBooks o) : o'.state = o.state ∧ o'.pend = o.pend := by
  simp only [Obj.offBooks, Machine.Obj.mk.injEq] at h
  tauto

section
variable {β γ : Type} {π : Obj → β} {s t u : State}

theorem Keeps.refl (π : Obj → β) (s : State) : Keeps π s s := fun _ _ h => by simp [h]

theorem Keeps.trans (h1 : Keeps π s t) (h2 : Keeps π t u) : Keeps π s u := fun k o h => by
  obtain ⟨o', ho', hπ⟩ := Option.map_eq_some_iff.1 (h1 k o h)
  rw [h2 k o' ho', hπ]

theorem Keeps.map (f : β → γ) (h : Keeps π s t) : Keeps (f ∘ π) s t := fun k o ho => by
  rw [← Option.map_map, h k o ho, Option.map_some, Function.comp_apply]

theorem Keeps.exists (h : Keeps π s t) {k : Nat} {o : Obj} (ho : getObj s k = some o) :
    ∃ o', getObj t k = some o' ∧ π o' = π o :=
  Option.map_eq_some_iff.1 (h k o ho)

/-- What keeps an object but for its books keeps it but for its books and what waits. -/
theorem Keeps.unqueued (h : Keeps Obj.offBooks s t) : Keeps Obj.unqueued s t :=
  h.map (f := fun o : Obj => ({ o with pend := [] } : Obj))

theorem Keeps.of_getObj (h : ∀ k, (getObj s k).isSome → getObj t k = getObj s k) : Keeps π s t := fun k o ho => by
  rw [h k (by simp [ho]), ho, Option.map_some]

theorem Keeps.of_objs (h : t.obj.objs = s.obj.objs) : Keeps π s t :=
  .of_getObj fun k _ => by simp only [getObj, h]

theorem Keeps.updObj (s : State) (k : Nat) {g : Obj → Obj} (hg : ∀ o, π (g o) = π o) : Keeps π s (updObj s k g) :=
  fun l o ho => by
    rw [getObj_updObj, ho]
    split <;> simp [hg]

/-- Two changes of one object that agree in `π`. -/
theorem Keeps.updObj_congr (s : State) (k : Nat) {f g : Obj → Obj} (hfg : ∀ o, π (g o) = π (f o)) :
    Keeps π (Machine.updObj s k f) (Machine.updObj s k g) := fun l v hv => by
  rw [getObj_updObj] at hv ⊢
  by_cases hkl : k = l
  · rw [if_pos hkl] at hv ⊢
    obtain ⟨o, ho, rfl⟩ := Option.map_eq_some_iff.1 hv
    rw [ho, Option.map_some, Option.map_some, hfg]
  · rw [if_neg hkl] at hv ⊢
    rw [hv, Option.map_some]

/-- A step that is taken on a condition. -/
theorem Keeps.step_if {c : Prop} [Decidable c] (ht : Keeps π s t) (hu : Keeps π t u) : Keeps π s (if c then u else t) := by
  split
  · exact ht.trans hu
  · exact ht

/-- A step that a condition spares. -/
theorem Keeps.step_unless {c : Prop} [Decidable c] (ht : Keeps π s t) (hu : Keeps π t u) : Keeps π s (if c then t else u) := by
  split
  · exact ht
  · exact ht.trans hu

theorem Keeps.foldl {α : Type} {f : State → α → State} (hf : ∀ s x, Keeps π s (f s x)) (l : List α) (s : State) :
    Keeps π s (l.foldl f s) := by
  induction l generalizing s with
  | nil => exact .refl π s
  | cons x l ih => exact (hf s x).trans (ih _)

end

/-- A fold of steps that leave the table of objects leaves it. -/
theorem foldl_objs {α : Type} {f : State → α → State} (hf : ∀ s x, (f s x).obj.objs = s.obj.objs) (l : List α)
    (s : State) : (l.foldl f s).obj.objs = s.obj.objs := by
  induction l generalizing s with
  | nil => rfl
  | cons x l ih => rw [List.foldl_cons, ih, hf]

/-! ## Reservations -/

theorem syncResv_objs (s : State) : (syncResv s).obj.objs = s.obj.objs := by
  unfold syncResv
  refine foldl_objs (fun s w => ?_) _ s
  split <;> rfl

theorem clearResv_keeps (k : Nat) (s : State) : Keeps Obj.offBooks s (clearResv k s) := .updObj s k fun _ => rfl

theorem commitResv_keeps (k : Nat) (s : State) : Keeps Obj.offBooks s (commitResv k s) := .updObj s k fun _ => rfl

theorem commitIdle_keeps (k : Nat) (s : State) : Keeps Obj.offBooks s (commitIdle k s) := by
  unfold commitIdle
  split
  · split
    · exact commitResv_keeps k s
    · exact .refl _ s
  · exact .refl _ s

theorem syncRungs_keeps (y : Nat) (s : State) : Keeps Obj.offBooks s (syncRungs y s) := by
  unfold syncRungs
  refine .foldl (fun s q => ?_) _ s
  exact .updObj s q.1 fun _ => rfl

theorem pickFree_objs (tag : Nat) (l : List Nat) (s : State) : (pickFree tag l s).2.obj.objs = s.obj.objs := by
  unfold pickFree
  split <;> rfl

theorem place_keeps {k : Nat} {old : List Resv} {a : Ask} {s t : State} (h : place k old a s = .ok t) :
    Keeps Obj.offBooks s t := by
  unfold place at h
  dsimp only at h
  split at h
  · cases h
  · cases h
    exact (Keeps.of_objs (pickFree_objs _ _ s)).trans (.updObj _ k fun _ => rfl)

theorem placeAll_keeps {k : Nat} {old : List Resv} {l : List Ask} {s t : State} (h : placeAll k old l s = .ok t) :
    Keeps Obj.offBooks s t := by
  induction l generalizing s with
  | nil =>
    cases h
    exact .refl _ _
  | cons a l ih =>
    unfold placeAll at h
    split at h
    · cases h
    · rename_i s1 h1
      exact (place_keeps h1).trans (ih h)

theorem replace_keeps {k : Nat} {asks : Except Shut (List Ask)} {s t : State} (h : replace k asks s = .ok t) :
    Keeps Obj.offBooks s t := by
  unfold replace replaceWith at h
  cases asks with
  | error e => cases h
  | ok l => exact (clearResv_keeps k s).trans (placeAll_keeps h)

theorem resettle_keeps (c : Nat) (s : State) : Keeps Obj.offBooks s (resettle c s) := by
  unfold resettle resettleWith
  split
  · rename_i t ht
    exact (replace_keeps ht).trans (commitResv_keeps c t)
  · exact clearResv_keeps c s

theorem keepPlaced_keeps (ks : List Nat) (t s : State) : Keeps Obj.offBooks s (keepPlaced ks t s) := by
  unfold keepPlaced
  refine (Keeps.of_objs (by rfl)).trans (.foldl (fun s k => ?_) ks { s with free := t.free })
  split
  · exact .updObj s k fun _ => rfl
  · exact .refl _ s

theorem admitInto_keeps {ks : List Nat} {t s u : State} (h : admitInto ks t s = .ok u) : Keeps Obj.offBooks s u := by
  unfold admitInto at h
  split at h
  · cases h
    exact .refl _ s
  · cases ha : admitAll ks t with
    | error e => simp [ha, Except.map] at h
    | ok v =>
      simp only [ha, Except.map, Except.ok.injEq] at h
      subst h
      exact (keepPlaced_keeps _ v s).trans (.of_objs (syncResv_objs _))

/-! ## Surfaces and memory of a first activation -/

theorem newSurf_obj {part f w h owner : Nat} {s : State} {a : Nat × State} (ha : newSurf part f w h owner s = some a) :
    a.2.obj = s.obj := by
  obtain ⟨n, -, rfl⟩ := Option.map_eq_some_iff.1 ha
  rfl

theorem newSurfs_obj {part f w h owner n : Nat} {s : State} {a : List Nat × State}
    (ha : newSurfs part f w h owner n s = some a) : a.2.obj = s.obj := by
  induction n generalizing s a with
  | zero =>
    cases ha
    rfl
  | succ n ih =>
    obtain ⟨b, hb, hm⟩ := Option.bind_eq_some_iff.1 ha
    obtain ⟨c, hc, rfl⟩ := Option.map_eq_some_iff.1 hm
    exact (ih hc).trans (newSurf_obj hb)

theorem reconSurfs_obj {part f r : Nat} {l : List (Nat × Nat × Nat × Nat)} {s : State} {a : List Nat × State}
    (ha : reconSurfs part f r l s = some a) : a.2.obj = s.obj := by
  induction l generalizing s a with
  | nil =>
    cases ha
    rfl
  | cons x l ih =>
    obtain ⟨b, hb, hm⟩ := Option.bind_eq_some_iff.1 ha
    obtain ⟨c, hc, rfl⟩ := Option.map_eq_some_iff.1 hm
    exact (ih hc).trans (newSurfs_obj hb)

theorem allotDecoder_objs {x : Nat} {s t : State} (h : allotDecoder x s = some t) : t.obj.objs = s.obj.objs := by
  unfold allotDecoder at h
  split at h
  · cases h
  · obtain ⟨a, ha, rfl⟩ := Option.map_eq_some_iff.1 h
    have hobjs : a.2.obj.objs = s.obj.objs := by rw [newSurfs_obj ha]
    exact hobjs

theorem allotEncoder_objs {r : Nat} {s t : State} (h : allotEncoder r s = some t) : t.obj.objs = s.obj.objs := by
  unfold allotEncoder at h
  split at h
  · cases h
  · obtain ⟨a, ha, rfl⟩ := Option.map_eq_some_iff.1 h
    have hobjs : a.2.obj.objs = s.obj.objs := by rw [reconSurfs_obj ha]
    exact hobjs

theorem dropExtents_objs (es : List Nat) (s : State) : (dropExtents es s).obj.objs = s.obj.objs := by
  unfold dropExtents
  exact foldl_objs (fun s e => by simp) es s

/-- `takeExtents` with the number of extents of the device left open: the kernel would compute with the sizes that
`takeExtents` names, and runs out of stack. -/
def takeExtentsOf (most : State → Nat) (p : Nat) : Nat → State → Option State
  | 0, s => some s
  | n + 1, s =>
    match lowestFree (Tab.keys s.mem.extents) 0 (most s) with
    | none => none
    | some e => takeExtentsOf most p n
        (setMem s { s.mem with extents := Tab.set s.mem.extents e { owner := some p, zeroing := false } })

theorem takeExtents_eq (p n : Nat) (s : State) :
    takeExtents p n s = takeExtentsOf (fun s => dramBytes s / 2097152) p n s := by
  obtain ⟨most, hm⟩ : ∃ most : State → Nat, (fun s => dramBytes s / 2097152) = most := ⟨_, rfl⟩
  have hm' : ∀ s, dramBytes s / 2097152 = most s := congrFun hm
  rw [hm]
  delta takeExtents takeExtents._f takeExtentsOf takeExtentsOf._f
  simp only [hm'] <;> rfl

theorem takeExtentsOf_obj {most : State → Nat} {p n : Nat} {s t : State} (h : takeExtentsOf most p n s = some t) :
    t.obj = s.obj := by
  induction n generalizing s with
  | zero =>
    cases h
    rfl
  | succ n ih =>
    unfold takeExtentsOf at h
    split at h
    · cases h
    · rw [ih h, setMem_obj]

theorem takeExtents_objs {p n : Nat} {s t : State} (h : takeExtents p n s = some t) : t.obj.objs = s.obj.objs := by
  rw [takeExtents_eq] at h
  rw [takeExtentsOf_obj h]

theorem fitMem_objs {p : Nat} {s t : State} (h : fitMem p s = some t) : t.obj.objs = s.obj.objs := by
  unfold fitMem at h
  dsimp only at h
  split at h
  · cases h
    exact dropExtents_objs _ s
  · split at h
    · cases h
    · split at h
      · cases h
      · exact takeExtents_objs h

theorem allot_objs {k : Nat} {s t : State} (h : allot k s = .ok t) : t.obj.objs = s.obj.objs := by
  unfold allot at h
  dsimp only at h
  split at h
  · cases h
    rfl
  split at h
  · cases h
  split at h
  · cases h
  split at h
  · cases h
  rename_i u hu
  have hu' : u.obj.objs = s.obj.objs := by
    split at hu
    · exact allotDecoder_objs hu
    · exact allotEncoder_objs hu
  split at h
  · cases h
  split at h
  · cases h
  rename_i v hv
  cases h
  exact (fitMem_objs hv).trans hu'

/-- The header that an allotment is made with is put back. -/
theorem allotAs_keeps {β : Type} (π : Obj → β) {k : Nat} {o : Obj} {s t : State} (h : allotAs k o s = .ok t) :
    Keeps π s t := by
  unfold allotAs at h
  split at h
  · cases h
    exact .refl π s
  · rename_i v hv
    cases ha : allot k (updObj s k fun _ => o) with
    | error e => simp [ha, Except.map] at h
    | ok u =>
      simp only [ha, Except.map, Except.ok.injEq] at h
      subst h
      have hu : ∀ l, getObj u l = getObj (updObj s k fun _ => o) l := fun l => by simp only [getObj, allot_objs ha]
      refine .of_getObj fun l _ => ?_
      rw [getObj_updObj, hu, getObj_updObj]
      split
      · subst_vars
        simp [hv]
      · rfl

/-! ## What the life-cycle commands leave of every object -/

theorem queueAct_keeps (k : Nat) (a : PendAct) (due : Nat) (s : State) : Keeps Obj.unqueued s (queueAct k a due s) :=
  .updObj s k fun _ => rfl

theorem queueBounds_keeps (t : State) (ks : List Nat) (s : State) : Keeps Obj.unqueued s (queueBounds t ks s) :=
  .foldl (fun _ _ => queueAct_keeps _ _ _ _) ks s

theorem queueModify_keeps (k : Nat) (es : Tab Int) (fx cr : Option Bool) (zero : Bool) (s : State) :
    Keeps Obj.unqueued s (queueModify k es fx cr zero s) := by
  unfold queueModify
  dsimp only
  have audio := fun a : Tab Int => (Keeps.refl Obj.unqueued s).step_unless (c := a.isEmpty)
    (queueAct_keeps k (.modify a none none zero) 0 s)
  split
  · exact (audio _).step_unless (queueAct_keeps _ _ _ _)
  · exact (Keeps.refl _ s).step_unless (queueAct_keeps _ _ _ _)

@[simp] theorem noContext_effect (fixed : Bool) (lim : Nat) (s u : State) : effect u (noContext fixed lim s) = u := by
  cases fixed <;> rfl

/-- A new object takes an index that no object has. -/
theorem addObject_keeps {β : Type} (π : Obj → β) {ty i : Nat} {s : State} (hty : ty ≤ 7)
    (hi : lowestFree ((objKeys s ty).map fun k => k % 1048576) 0 (typeMax ty) = some i)
    (g pt par : Nat) (fixed crit : Bool) (fs : Tab Int) (e : Nat) :
    Keeps π s (addObject (okey ty i) g pt par fixed crit fs e s) := by
  obtain ⟨-, hlt, hnot, -⟩ := lowestFree_spec hi
  have hmax : typeMax ty ≤ 16384 := by interval_cases ty <;> decide
  have hdiv : okey ty i / 1048576 = ty := by unfold okey; omega
  have hmod : okey ty i % 1048576 = i := by unfold okey; omega
  refine .of_getObj fun k hk => ?_
  rw [getObj_addObject, if_neg]
  rintro rfl
  obtain ⟨o, ho⟩ := Option.isSome_iff_exists.1 hk
  have hmem := mem_objKeys ho
  rw [hdiv] at hmem
  exact hnot (List.mem_map.2 ⟨_, hmem, hmod⟩)

section
variable {ty : Nat} (F : Nat) (p d : Bytes) (s : State)

theorem bodyCreate_keeps (hty : ty ≤ 7) : Keeps Obj.unqueued s (effect s (bodyCreate ty F p d s)) := by
  unfold bodyCreate
  dsimp only
  split
  · rename_i st _
    rcases checked_cases _ (fun _ => Ans.no st []) with ⟨st', h⟩ | ⟨-, h⟩ <;> rw [h] <;> exact .refl _ s
  · rcases checked_cases _ _ with ⟨st, h⟩ | ⟨hl, h⟩
    · rw [h]
      exact .refl _ s
    · rw [h]
      obtain ⟨hcommon, -⟩ := (lowest_append _ _).1 ((lowest_append _ _).1 hl).1
      obtain ⟨-, hown⟩ := (lowest_append _ _).1 hcommon
      have hslot := (lowest_eq_none _).1 hown _ List.mem_cons_self
      obtain ⟨i, hi⟩ := Option.isSome_iff_exists.1 hslot
      rw [effect_ok]
      exact addObject_keeps _ hty (by rw [hi, Option.getD_some]) _ _ _ _ _ _ _

theorem modifyQueued_keeps (k : Nat) (fx : Option Bool) (cs ks : List Nat) (t : State) :
    Keeps Obj.unqueued s (modifyQueued ty k p fx cs ks t s) := by
  unfold modifyQueued
  dsimp only
  refine (queueModify_keeps k (modifyFields ty p) fx (modifyMark p) (bitOf (le p 5 1) 2) s).trans ?_
  refine (Keeps.foldl (fun s q => queueAct_keeps q (.modify [] fx none false) 0 s) cs _).trans ?_
  exact (Keeps.step_if (.refl _ _) (queueAct_keeps _ _ _ _)).trans (queueBounds_keeps _ _ _)

theorem modifyAnswer_keeps (k : Nat) (o : Obj) (fx : Option Bool) (cs : List Nat) (t : State) :
    Keeps Obj.unqueued s (effect s (modifyAnswer ty k p o fx cs t s)) := by
  unfold modifyAnswer
  split
  · rw [noContext_effect]
    exact .refl _ s
  · rename_i s1 h1
    have k1 : Keeps Obj.unqueued s s1 := by
      split at h1
      · exact allotAs_keeps _ h1
      · cases h1
        exact .refl _ s
    dsimp only
    split
    · exact .refl _ s
    · rename_i s2 h2
      refine k1.trans ((admitInto_keeps h2).unqueued.trans ?_)
      exact modifyQueued_keeps p s2 k fx cs _ t

theorem bodyModify_keeps : Keeps Obj.unqueued s (effect s (bodyModify ty F p d s)) := by
  cases hr : resolve s F ty (le p 0 4) with
  | none =>
    simp only [bodyModify, hr]
    exact .refl _ s
  | some k =>
    rw [bodyModify_of_resolve hr]
    rcases checked_cases _ _ with ⟨st, h⟩ | ⟨-, h⟩
    · rw [h]
      exact .refl _ s
    · rw [h]
      exact modifyAnswer_keeps _ _ _ _ _ _ _

theorem bodyActivate_keeps : Keeps Obj.unqueued s (effect s (bodyActivate ty F p d s)) := by
  unfold bodyActivate
  split
  · exact .refl _ s
  rename_i k _
  dsimp only
  rcases checked_cases _ _ with ⟨st, h⟩ | ⟨-, h⟩
  · rw [h]
    exact .refl _ s
  rw [h]
  split
  · exact .refl _ s
  split
  · rw [noContext_effect]
    exact .refl _ s
  rename_i s1 h1
  split
  · exact .refl _ s
  rename_i s2 h2
  have placed : Keeps Obj.unqueued s s2 := (allotAs_keeps _ h1).trans (admitInto_keeps h2).unqueued
  have refixed : ∀ t (due : Nat) (ks : List Nat), Keeps Obj.unqueued s2
      (ks.foldl (fun s q => queueAct q (.bound (boundOf t q)) due (queueAct q .refix due s)) s2) := fun t due ks =>
    .foldl (fun _ _ => (queueAct_keeps _ _ _ _).trans (queueAct_keeps _ _ _ _)) ks s2
  rw [effect_ok]
  refine .trans ?_ (queueBounds_keeps _ _ _)
  refine .step_if ?_ (queueAct_keeps _ _ _ _)
  refine .step_unless ?_ (queueAct_keeps _ _ _ _)
  exact .step_if placed (refixed _ _ _)

theorem bodyHold_keeps : Keeps Obj.unqueued s (effect s (bodyHold ty F p d s)) := by
  unfold bodyHold
  split
  · exact .refl _ s
  · rename_i k _
    rcases checked_cases [(willActive s k, .badState)] fun _ => .ok [] 0 (queueAct k (.state .held) (dueOf s k) s)
      with ⟨st, h⟩ | ⟨-, h⟩ <;> rw [h]
    · exact .refl _ s
    · exact queueAct_keeps _ _ _ _

theorem bodyRead_keeps : Keeps Obj.unqueued s (effect s (bodyRead ty F p d s)) := by
  unfold bodyRead
  split <;> exact .refl _ s

end

/-! ## DELETE -/

/-- DELETE makes one object DRAINING, and changes nothing else of any object but reservations and what waits. -/
theorem drain_keeps (k : Nat) (s : State) :
    drain k s = s ∨ Keeps Obj.unqueued (updObj s k fun o => { o with state := .draining }) (drain k s) := by
  unfold drain
  split
  · exact .inl rfl
  · right
    dsimp only
    have pend : Keeps Obj.unqueued (updObj s k fun o => { o with state := .draining })
        (updObj s k fun o => { o with state := .draining, pend := [{ act := .free, due := dueOf s k }], resvNew := [] }) :=
      .updObj_congr s k fun _ => rfl
    refine .step_unless pend (Keeps.trans ?_ (.of_objs (syncResv_objs _)))
    split
    · exact (resettle_keeps _ _).unqueued
    · exact .step_if (.refl _ _) (syncRungs_keeps _ _).unqueued

/-- What DELETE can leave of an object: all but its state, which may be DRAINING. -/
theorem drain_header (k : Nat) {s : State} {l : Nat} {o : Obj} (ho : getObj s l = some o) :
    ∃ o', getObj (drain k s) l = some o' ∧ (o'.state = o.state ∨ o'.state = .draining) ∧ o'.fields = o.fields ∧
      o'.fixed = o.fixed := by
  rcases drain_keeps k s with h | h
  · rw [h]
    exact ⟨o, ho, .inl rfl, rfl, rfl⟩
  · obtain ⟨v, hv, hst, hf, hx⟩ : ∃ v, getObj (updObj s k fun o => { o with state := .draining }) l = some v ∧
        (v.state = o.state ∨ v.state = .draining) ∧ v.fields = o.fields ∧ v.fixed = o.fixed := by
      rw [getObj_updObj, ho]
      split
      · exact ⟨_, rfl, .inr rfl, rfl, rfl⟩
      · exact ⟨_, rfl, .inl rfl, rfl, rfl⟩
    obtain ⟨o', ho', hu⟩ := h.exists hv
    obtain ⟨hst', hx', -, hf', -⟩ := Obj.unqueued_eq hu
    exact ⟨o', ho', hst' ▸ hst, hf'.trans hf, hx'.trans hx⟩

theorem bodyDelete_effect (ty F : Nat) (p d : Bytes) (s : State) :
    effect s (bodyDelete ty F p d s) = s ∨ ∃ k, effect s (bodyDelete ty F p d s) = drain k s := by
  unfold bodyDelete
  split
  · exact .inl rfl
  · rename_i k _
    rcases checked_cases [(stateOf s k != .draining, .badState), ((children s k).isEmpty, .notEmpty)] fun _ => .ok [] 0 (drain k s)
      with ⟨st, h⟩ | ⟨-, h⟩ <;> rw [h]
    · exact .inl rfl
    · exact .inr ⟨k, rfl⟩

/-! ## Boundaries -/

/-- Steps that leave the part `obj` of the state, folded. -/
theorem foldl_obj {α : Type} {f : State → α → State} (hf : ∀ s x, (f s x).obj = s.obj) (l : List α) (s : State) :
    (l.foldl f s).obj = s.obj := by
  induction l generalizing s with
  | nil => rfl
  | cons x l ih => rw [List.foldl_cons, ih, hf]

@[simp] theorem spillCharge_obj (s : State) (n : Nat) : (spillCharge s n).obj = s.obj := rfl

@[simp] theorem qStore_obj (q : Nat) (s : State) : (qStore q s).obj = s.obj := by
  unfold qStore
  simp only [apply_ite State.obj, setQ_obj, spillCharge_obj, ite_self]

@[simp] theorem sendFc_obj (p mask quanta : Nat) (s : State) : (sendFc p mask quanta s).obj = s.obj := rfl

@[simp] theorem fcSync_obj (p : Nat) (s : State) : (fcSync p s).obj = s.obj := by
  unfold fcSync
  refine foldl_obj (fun s r => ?_) _ s
  dsimp only
  split
  · rfl
  · split <;> rfl

@[simp] theorem groupEvent_obj (g : Nat) (s : State) : (groupEvent g s).obj = s.obj := by simp [groupEvent]

@[simp] theorem groupReport_obj (g : Nat) (s : State) : (groupReport g s).obj = s.obj := by
  unfold groupReport
  simp only [apply_ite State.obj, groupEvent_obj, setGroup_obj, ite_self]

@[simp] theorem pinSync_obj (s : State) : (pinSync s).obj = s.obj := rfl

@[simp] theorem groupCheck_obj (g : Nat) (s : State) : (groupCheck g s).obj = s.obj := by
  unfold groupCheck
  simp only [apply_ite State.obj, fcSync_obj, pinSync_obj, groupReport_obj, setGroup_obj, ite_self]

@[simp] theorem qChanged_obj (q : Nat) (s : State) : (qChanged q s).obj = s.obj := by
  unfold qChanged
  split
  · exact groupCheck_obj _ s
  · rfl

@[simp] theorem qDiscard_obj (q : Nat) (f : Item → Bool) (s : State) : (qDiscard q f s).obj = s.obj := by
  simp [qDiscard]

@[simp] theorem emptyQueue_obj (q : Nat) (s : State) : (emptyQueue q s).obj = s.obj := by
  unfold emptyQueue
  split
  · exact qDiscard_obj _ _ s
  · rfl

/-- What becoming HELD brings about lies outside the objects' headers. -/
theorem suspended_objs (k : Nat) (s : State) : (suspended k s).obj.objs = s.obj.objs := by
  unfold suspended
  split
  · have hq : (emptyQueue (qStream k) s).obj.objs = s.obj.objs := by rw [emptyQueue_obj]
    dsimp only
    split <;> exact hq
  · split
    · rw [foldl_obj fun s x => emptyQueue_obj (qStream x) s]
    · rfl

theorem enter_held (k : Nat) {s : State} {o : Obj} (ho : getObj s k = some o) :
    getObj (enter k .held s) k = some { o with state := .held } := by
  have hs : getObj (updObj s k fun o => o.act (.state .held)) k = some { o with state := .held } := getObj_updObj_same _ ho
  unfold enter
  simp only [ho, show ¬((ObjSt.held = ObjSt.active) ∧ o.state ≠ .active) by simp, if_false]
  split
  · simp only [getObj, suspended_objs]
    exact hs
  · exact hs

/-- Nothing waits: a boundary changes nothing. -/
theorem settleAt_of_pend_nil {s : State} {k : Nat} {o : Obj} (x : Nat) (ho : getObj s k = some o) (hp : o.pend = []) :
    settleAt x s k = s := by
  simp [settleAt, settleIf, ho, hp]

/-- A change of state is due when its time has come, but on a layer. -/
theorem dueAt_state {s : State} {k x d : Nat} (st : ObjSt) (hk : k / 1048576 ≠ 6) (hd : d ≤ x) :
    dueAt s k x { act := .state st, due := d } = true := by
  simp [dueAt, PendAct.isClass, hd, hk]

/-- The end of an object's boundary, once what was due has taken effect: the books. -/
def settled (k : Nat) (s : State) : State :=
  let s4 := commitIdle k s
  syncResv (if k / 1048576 = 7 then syncRungs (parentKey s4 k) s4 else if k / 1048576 = 5 then syncRungs k s4 else s4)

theorem settled_keeps (k : Nat) (s : State) : Keeps Obj.offBooks s (settled k s) := by
  refine Keeps.trans ?_ (.of_objs (syncResv_objs _))
  refine (commitIdle_keeps k s).trans ?_
  split
  · exact syncRungs_keeps _ _
  · exact .step_if (.refl _ _) (syncRungs_keeps _ _)

/-- An object on which `p` waits no more. -/
def withoutPend (p : Pend) (o : Obj) : Obj := { o with pend := o.pend.filter fun q => !([p].contains q) }

/-- A boundary at which just one change waits, is due, and does not alter the class. -/
theorem settleAt_of_single {s : State} {k x : Nat} {o : Obj} {p : Pend} (ho : getObj s k = some o) (hp : o.pend = [p])
    (hd : dueAt s k x p = true) (hc : p.act.isClass = false) :
    settleAt x s k = settled k (applyAct k (updObj s k (withoutPend p)) p.act) := by
  simp only [settleAt, settleIf, ho, hp, hd, Bool.true_and, List.filter_cons_of_pos, List.filter_nil, List.isEmpty_cons,
    List.foldl_cons, List.foldl_nil, List.any_cons, List.any_nil, hc, Bool.or_false, Bool.false_eq_true, if_false]
  rfl

theorem settleAt_of_held {s : State} {k x d : Nat} {o : Obj} (ho : getObj s k = some o) (hk : k / 1048576 ≠ 6)
    (hp : o.pend = [{ act := .state .held, due := d }]) (hd : d ≤ x) :
    ((getObj (settleAt x s k) k).map fun v => (v.state, v.pend)) = some (.held, []) := by
  have htaken := getObj_updObj_same (withoutPend { act := .state .held, due := d }) ho
  obtain ⟨v, hv, hb⟩ := (settled_keeps k _).exists (enter_held k htaken)
  obtain ⟨hst, hpend⟩ := Obj.offBooks_eq hb
  rw [settleAt_of_single ho hp (dueAt_state _ hk hd) rfl, applyAct, hv, Option.map_some, hst, hpend]
  simp [withoutPend, hp]

/-! ## Accepted changes wait -/

/-- What a served command keeps of every object, when its body does. -/
theorem serve_keeps {β : Type} {π : Obj → β} {op : Nat} {src : Src} {d : Bytes} {body : Body} {s t : State}
    (hb : ∀ F p, Keeps π s (effect s (body F p d s))) (h : serve op src d body s = .next t) : Keeps π s t :=
  serve_obj_induct (P := fun ob => ∀ k o, getObj s k = some o → (Tab.get ob.objs k).map π = some (π o)) (Keeps.refl π s) hb h

theorem create_modify_activate_hold_read_keep {s t : State} {ty : Nat} {src : Src} {c : Instr} (h2 : 2 ≤ ty) (h7 : ty ≤ 7)
    (hc : c ∈ [createOf ty src, modifyOf ty src, activateOf ty src, holdOf ty src, readOf ty src]) (h : exec c s = .next t) :
    Keeps Obj.unqueued s t := by
  simp only [List.mem_cons, List.not_mem_nil, or_false] at hc
  rcases hc with rfl | rfl | rfl | rfl | rfl
  · exact serve_keeps (fun F p => bodyCreate_keeps F p _ s h7) (exec_createOf src s h2 h7 ▸ h)
  · exact serve_keeps (fun F p => bodyModify_keeps F p _ s) (exec_modifyOf src s h2 h7 ▸ h)
  · exact serve_keeps (fun F p => bodyActivate_keeps F p _ s) (exec_activateOf src s h2 h7 ▸ h)
  · exact serve_keeps (fun F p => bodyHold_keeps F p _ s) (exec_holdOf src s h2 h7 ▸ h)
  · exact serve_keeps (fun F p => bodyRead_keeps F p _ s) (exec_readOf src s h2 h7 ▸ h)

theorem delete_header {s t : State} {ty k : Nat} {src : Src} {o : Obj} (h2 : 2 ≤ ty) (h7 : ty ≤ 7)
    (h : exec (deleteOf ty src) s = .next t) (ho : getObj s k = some o) :
    ∃ o', getObj t k = some o' ∧ (o'.state = o.state ∨ o'.state = .draining) ∧ o'.fields = o.fields ∧
      o'.fixed = o.fixed := by
  refine serve_obj_induct (P := fun ob => ∃ o', Tab.get ob.objs k = some o' ∧ (o'.state = o.state ∨ o'.state = .draining) ∧
    o'.fields = o.fields ∧ o'.fixed = o.fixed) ⟨o, ho, .inl rfl, rfl, rfl⟩ (fun F p => ?_) (exec_deleteOf src s h2 h7 ▸ h)
  rcases bodyDelete_effect ty F p [] s with he | ⟨q, he⟩ <;> rw [he]
  · exact ⟨o, ho, .inl rfl, rfl, rfl⟩
  · exact drain_header q ho

/-- Settles O12: no body of the five changes a header, DELETE only drains, and a boundary takes what is due. -/
theorem acceptedChangesWait : Obligations.AcceptedChangesWait := by
  unfold Obligations.AcceptedChangesWait
  refine ⟨fun s t ty k src c o h2 h7 hc h ho => ?_, fun s t ty k src o h2 h7 h ho => delete_header h2 h7 h ho,
    fun s x k d o ho hk => ⟨fun hp hd => settleAt_of_held ho hk hp hd, fun hp => settleAt_of_pend_nil x ho hp⟩⟩
  obtain ⟨o', ho', hu⟩ := (create_modify_activate_hold_read_keep h2 h7 hc h).exists ho
  exact ⟨o', ho', Obj.unqueued_eq hu⟩

end Sys2Proof.Proofs
end

section
/-!
PROOFS. The timeline of chapter 2 by itself: the frame instants (R104) and the ticks of the PHC (R77, R84).
-/

namespace Sys2Proof.Proofs

open Sys2Proof Sys2Proof.Machine Sys2Proof.Laws

/-! ## Frame instants -/

/-- Every rate of Table 2-7 is positive, and no two of its instants fall into one nanosecond. -/
theorem rateOf_bounds {r : Nat} (hr : r < 13) : 0 < (rateOf r).1 ∧ (rateOf r).1 ≤ (rateOf r).2 * secNs := by
  interval_cases r <;> decide

theorem nextFrameInstant_of_before {r t : Nat} (h : frameAt r (t * (rateOf r).1 / ((rateOf r).2 * secNs)) < t) :
    nextFrameInstant r t = (t * (rateOf r).1 / ((rateOf r).2 * secNs) + 1,
      frameAt r (t * (rateOf r).1 / ((rateOf r).2 * secNs) + 1)) := if_pos h

theorem nextFrameInstant_of_reached {r t : Nat} (h : ¬frameAt r (t * (rateOf r).1 / ((rateOf r).2 * secNs)) < t) :
    nextFrameInstant r t = (t * (rateOf r).1 / ((rateOf r).2 * secNs), frameAt r (t * (rateOf r).1 / ((rateOf r).2 * secNs))) :=
  if_neg h

section
variable {r : Nat} (hr : r < 13)
include hr

theorem le_frameAt_iff {k t : Nat} : t ≤ frameAt r k ↔ t * (rateOf r).1 ≤ k * ((rateOf r).2 * secNs) := by
  rw [frameAt, Nat.le_div_iff_mul_le (rateOf_bounds hr).1, Nat.mul_assoc k]

theorem frameAt_lt_succ (k : Nat) : frameAt r k < frameAt r (k + 1) := by
  obtain ⟨hpos, hle⟩ := rateOf_bounds hr
  have hk : frameAt r k * (rateOf r).1 ≤ k * ((rateOf r).2 * secNs) := (le_frameAt_iff hr).1 le_rfl
  refine (le_frameAt_iff hr).2 ?_
  linarith

theorem frameAt_strictMono : StrictMono (frameAt r) := strictMono_nat_of_lt_succ (frameAt_lt_succ hr)

/-- The quotient k of R104: instant k is not past `t`, and the next is not before it. -/
theorem frameAt_quotient (t : Nat) :
    frameAt r (t * (rateOf r).1 / ((rateOf r).2 * secNs)) ≤ t ∧
      t ≤ frameAt r (t * (rateOf r).1 / ((rateOf r).2 * secNs) + 1) := by
  obtain ⟨hpos, hle⟩ := rateOf_bounds hr
  constructor
  · rw [frameAt, Nat.mul_assoc]
    exact Nat.div_le_of_le_mul ((Nat.div_mul_le_self _ _).trans_eq (Nat.mul_comm _ _))
  · exact (le_frameAt_iff hr).2 (Nat.lt_div_mul_add (hpos.trans_le hle) |>.le.trans_eq (Nat.succ_mul _ _).symm)

/-- The two cases of the pseudocode: the quotient's instant lies before `t`, or at it. -/
theorem nextFrameInstant_first (t : Nat) :
    (nextFrameInstant r t).2 = frameAt r (nextFrameInstant r t).1 ∧ t ≤ (nextFrameInstant r t).2 ∧
      ∀ k, k < (nextFrameInstant r t).1 → frameAt r k < t := by
  obtain ⟨hle, hnext⟩ := frameAt_quotient hr t
  have hmono := frameAt_strictMono hr
  by_cases hlt : frameAt r (t * (rateOf r).1 / ((rateOf r).2 * secNs)) < t
  · rw [nextFrameInstant_of_before hlt]
    exact ⟨rfl, hnext, fun k hk => (hmono.monotone (Nat.lt_succ_iff.1 hk)).trans_lt hlt⟩
  · rw [nextFrameInstant_of_reached hlt]
    exact ⟨rfl, Nat.le_of_not_lt hlt, fun k hk => (hmono hk).trans_le hle⟩

end

/-- Settles O13: an instant is the floor it is defined as, and the answer is the first one at or after `t`. -/
theorem nextFrameInstantIsTheFirst : Obligations.NextFrameInstantIsTheFirst := by
  unfold Obligations.NextFrameInstantIsTheFirst
  exact fun r t hr => ⟨fun _ => rfl, nextFrameInstant_first hr t⟩

/-! ## Running a command -/

@[simp] theorem setTime_time (s : State) (t : TimePart) : (setTime s t).time = t := rfl

/-- A command of the running device. -/
theorem live_run {s : State} (hs : halted s = false) (f : State → State) : live s f = .next (keep s (f s)) :=
  onPart_run rfl hs

/-! ## PHC ticks -/

/-- What remains of a number after a part of its magnitude is taken off. -/
theorem natAbs_sub_toward_zero {x : Int} {b : Nat} (h : b ≤ x.natAbs) :
    (x - if 0 ≤ x then (b : Int) else -b).natAbs + (b : Int).natAbs = x.natAbs := by
  split <;> omega

theorem exec_phcTick_of_low {s : State} (n : Nat) (h : s.boot.porstLow = true) : exec (.phcTick n) s = .next s := by
  have hc : (!s.boot.porstLow) = false := by simp [h]
  exact congrArg (fun t => Host.Outcome.next (keep s t)) (guarded_false hc)

theorem exec_phcTick_of_high {s : State} (n : Nat) (h : s.boot.porstLow = false) :
    exec (.phcTick n) s = .next (setTime s (tickPhc s n)) := by
  have hc : (!s.boot.porstLow) = true := by simp [h]
  exact congrArg (fun t => Host.Outcome.next (keep s t)) (guarded_true hc)

/-- The PHC ticks of R77 and R84, but for the level of PPS_OUT. -/
theorem tickPhc_eq (s : State) (n : Nat) :
    tickPhc s n = { s.time with
      ticks := s.time.ticks + n
      phc := ((s.time.phc : Int) + n * s.time.incr
        + if 0 ≤ s.time.slew then ((min (n * slewTerm s) s.time.slew.natAbs : Nat) : Int)
          else -((min (n * slewTerm s) s.time.slew.natAbs : Nat) : Int)).toNat % phcMod
      slew := s.time.slew - if 0 ≤ s.time.slew then ((min (n * slewTerm s) s.time.slew.natAbs : Nat) : Int)
        else -((min (n * slewTerm s) s.time.slew.natAbs : Nat) : Int)
      ppsOut := (tickPhc s n).ppsOut } := by
  simp only [tickPhc, Nat.cast_add, Nat.cast_mul]

/-- Settles O14: the ticks are `tickPhc`, and the slew term takes no more than what remains. -/
theorem phcTicks : Obligations.PhcTicks := by
  unfold Obligations.PhcTicks
  intro s n
  refine ⟨exec_phcTick_of_low n, fun h => ?_⟩
  intro term
  have hterm : slewTerm s = term := rfl
  clear_value term
  subst hterm
  intro m a
  refine ⟨(tickPhc s n).ppsOut, ?_, fun hp => ?_, ?_⟩
  · rw [exec_phcTick_of_high n h, tickPhc_eq]
    rfl
  · simp [tickPhc, hp]
  · exact natAbs_sub_toward_zero (Nat.min_le_right _ _)

end Sys2Proof.Proofs
end

section
/-!
PROOFS. What acts on the timeline: corrections and steps (R112 to R116), holdover, references and PPS (R118 to R123), the servo
(R99, R130); and with these the statements on them.
-/

namespace Sys2Proof.Proofs

open Sys2Proof Sys2Proof.Machine Sys2Proof.Laws

/-! ## Corrections -/

section
variable {c : Int} {s : State}

theorem actionOf_of_below {sum : Int} (h : sum.natAbs < (timePrm s 3).toNat * 2 ^ 32) : actionOf s sum = 0 := if_pos h

theorem actionOf_of_reached {sum : Int} (h : (timePrm s 3).toNat * 2 ^ 32 ≤ sum.natAbs) :
    actionOf s sum = if 0 < sum then 1 else 2 := if_neg (Nat.not_lt.2 h)

/-- A step is called for whichever way it goes. -/
theorem actionOf_ne_zero {sum : Int} (h : (timePrm s 3).toNat * 2 ^ 32 ≤ sum.natAbs) : actionOf s sum ≠ 0 := by
  rw [actionOf_of_reached h]
  split <;> decide

theorem takeCorrection_of_below (h : (c * 2 ^ 32 + remaining s).natAbs < (timePrm s 3).toNat * 2 ^ 32) :
    takeCorrection c s = (0, setTime s { s.time with slew := c * 2 ^ 32 + remaining s, deferred := none }) := by
  rw [takeCorrection, actionOf_of_below h]
  rfl

section
variable (h : (timePrm s 3).toNat * 2 ^ 32 ≤ (c * 2 ^ 32 + remaining s).natAbs)
include h

theorem takeCorrection_of_stepped (hst : s.time.stepped = true) :
    takeCorrection c s = (if 0 < c * 2 ^ 32 + remaining s then 1 else 2,
      setTime s { s.time with slew := 0, deferred := some (c * 2 ^ 32 + remaining s) }) := by
  rw [takeCorrection, if_neg (actionOf_ne_zero h), if_pos hst, actionOf_of_reached h]

theorem takeCorrection_of_not_stepped (hst : s.time.stepped = false) :
    takeCorrection c s = (if 0 < c * 2 ^ 32 + remaining s then 1 else 2,
      applyStep (c * 2 ^ 32 + remaining s) (setTime s { s.time with slew := 0, deferred := none })) := by
  rw [takeCorrection, if_neg (actionOf_ne_zero h), if_neg (by simp [hst]), actionOf_of_reached h]

end
end

/-! ## Steps -/

@[simp] theorem stepEvent_time (T T' : Nat) (s : State) : (stepEvent T T' s).time = s.time := by
  unfold stepEvent
  split <;> exact emit_time _ _ _ _ _

/-- A PHC count within its range is not wrapped. -/
theorem wrap_phc {v : Int} (h0 : 0 ≤ v) (h : v < phcMod) : wrap 112 v % phcMod = v.toNat := by
  have hmod : phcMod < 2 ^ 112 := by decide
  have hv : v.toNat < phcMod := by omega
  rw [wrap, Int.emod_eq_of_lt h0 (h.trans (Int.ofNat_lt.2 hmod)), Nat.mod_eq_of_lt hv]

section
variable {s : State} {c : Int}

/-- The timeline after a forward step of `c` that ends at PHC count `v`. -/
theorem applyStep_time_forward {v : Nat} (hv : wrap 112 ((s.time.phc : Int) + c) % phcMod = v) (hc : 0 ≤ c) :
    (applyStep c s).time = { s.time with
      phc := v, slew := 0, stepped := true
      strokeNext := boundaryStep strokeNs (phcNs s.time) (v / 2 ^ 32) s.time.strokeNext
      skip := (phcNs s.time, v / 2 ^ 32), ppsNext := v / 2 ^ 32 / secNs + 1, mclkAl := false
      frames := framesStep (phcNs s.time) (v / 2 ^ 32) s.time.frames
      ctrs := bump s.time.ctrs .skippedStrokes (v / 2 ^ 32 / strokeNs - phcNs s.time / strokeNs) } := by
  simp only [applyStep, stepEvent_time, setTime_time, hv, hc, decide_true, if_true]

/-- The timeline after a backward step of `c` that ends at PHC count `v`. -/
theorem applyStep_time_backward {v : Nat} (hv : wrap 112 ((s.time.phc : Int) + c) % phcMod = v) (hc : ¬0 ≤ c) :
    (applyStep c s).time = { s.time with
      phc := v, slew := 0, stepped := true
      eOff := s.time.eOff - ((phcNs s.time - v / 2 ^ 32 : Nat) : Int)
      ePrev := some s.time.eOff, epoch := (s.time.epoch + 1) % 2 ^ 32
      strokeNext := boundaryStep strokeNs (phcNs s.time) (v / 2 ^ 32) s.time.strokeNext
      skip := (0, 0), ppsNext := v / 2 ^ 32 / secNs + 1, mclkAl := false
      frames := framesStep (phcNs s.time) (v / 2 ^ 32) s.time.frames } := by
  simp only [applyStep, stepEvent_time, setTime_time, hv, hc, decide_false, if_false, Bool.false_eq_true]

end

theorem boundaryStep_backward {P T T' : Nat} (b : Nat) (h : T' < T) : boundaryStep P T T' b = b - (T - T') / P * P :=
  if_neg (Nat.not_le.2 h)

/-- A boundary that was still to come lies past the span of a forward step. -/
theorem lt_boundaryStep_forward {P T T' b : Nat} (hP : 0 < P) (h : T ≤ T') (hb : T < b) : T' < boundaryStep P T T' b := by
  rw [boundaryStep, if_pos h, if_neg (Nat.not_le.2 hb), Nat.succ_mul]
  exact lt_max_of_lt_right (Nat.lt_div_mul_add hP)

/-- A forward step: where it ends, and the next stroke boundary past its span. -/
theorem takeCorrection_forward {s : State} {c sum : Int} (hsum : sum = c * 2 ^ 32 + remaining s)
    (hthr : (timePrm s 3).toNat * 2 ^ 32 ≤ sum.natAbs) (hst : s.time.stepped = false) (hpos : 0 < sum)
    (hlt : (s.time.phc : Int) + sum < phcMod) :
    (takeCorrection c s).1 = 1 ∧ (takeCorrection c s).2.time = { s.time with
      phc := ((s.time.phc : Int) + sum).toNat, slew := 0, deferred := none, stepped := true
      strokeNext := boundaryStep strokeNs (phcNs s.time) (((s.time.phc : Int) + sum).toNat / 2 ^ 32) s.time.strokeNext
      skip := (phcNs s.time, ((s.time.phc : Int) + sum).toNat / 2 ^ 32)
      ppsNext := ((s.time.phc : Int) + sum).toNat / 2 ^ 32 / secNs + 1, mclkAl := false
      frames := framesStep (phcNs s.time) (((s.time.phc : Int) + sum).toNat / 2 ^ 32) s.time.frames
      ctrs := bump s.time.ctrs .skippedStrokes
        (((s.time.phc : Int) + sum).toNat / 2 ^ 32 / strokeNs - phcNs s.time / strokeNs) } := by
  subst hsum
  have h0 : 0 ≤ (s.time.phc : Int) + (c * 2 ^ 32 + remaining s) := by omega
  rw [takeCorrection_of_not_stepped hthr hst]
  exact ⟨if_pos hpos, applyStep_time_forward (s := setTime s { s.time with slew := 0, deferred := none })
    (wrap_phc h0 hlt) hpos.le⟩

/-- A backward step. -/
theorem takeCorrection_backward {s : State} {c sum : Int} (hsum : sum = c * 2 ^ 32 + remaining s)
    (hthr : (timePrm s 3).toNat * 2 ^ 32 ≤ sum.natAbs) (hst : s.time.stepped = false) (hneg : sum < 0)
    (hge : 0 ≤ (s.time.phc : Int) + sum) (hphc : s.time.phc < phcMod) :
    (takeCorrection c s).1 = 2 ∧ (takeCorrection c s).2.time = { s.time with
      phc := ((s.time.phc : Int) + sum).toNat, slew := 0, deferred := none, stepped := true
      eOff := s.time.eOff - ((phcNs s.time - ((s.time.phc : Int) + sum).toNat / 2 ^ 32 : Nat) : Int)
      ePrev := some s.time.eOff, epoch := (s.time.epoch + 1) % 2 ^ 32
      strokeNext := boundaryStep strokeNs (phcNs s.time) (((s.time.phc : Int) + sum).toNat / 2 ^ 32) s.time.strokeNext
      skip := (0, 0), ppsNext := ((s.time.phc : Int) + sum).toNat / 2 ^ 32 / secNs + 1, mclkAl := false
      frames := framesStep (phcNs s.time) (((s.time.phc : Int) + sum).toNat / 2 ^ 32) s.time.frames } := by
  subst hsum
  have hlt : (s.time.phc : Int) + (c * 2 ^ 32 + remaining s) < phcMod := by omega
  rw [takeCorrection_of_not_stepped hthr hst]
  exact ⟨if_neg hneg.not_gt, applyStep_time_backward (s := setTime s { s.time with slew := 0, deferred := none })
    (wrap_phc hge hlt) hneg.not_ge⟩

/-- Settles O15: the three cases of `takeCorrection`, and the timeline that a step in each direction leaves. -/
theorem correctionsSlewOrStep : Obligations.CorrectionsSlewOrStep := by
  unfold Obligations.CorrectionsSlewOrStep
  intro s c sum thr r T
  have hsum : sum = c * 2 ^ 32 + remaining s := Int.add_assoc _ _ _
  clear_value sum
  refine ⟨fun h => ?_, fun h hst => ?_, fun h hst hpos hlt => ?_, fun h hst hneg hge hphc => ?_⟩
  · subst hsum
    exact takeCorrection_of_below h
  · subst hsum
    exact takeCorrection_of_stepped h hst
  · obtain ⟨hr, ht⟩ := takeCorrection_forward hsum h hst hpos hlt
    intro t T'
    have hT : T ≤ T' := Nat.div_le_div_right (by omega)
    rw [show t = _ from ht]
    exact ⟨hr, Int.toNat_of_nonneg (by omega), rfl, rfl, rfl, rfl, rfl, rfl, rfl,
      lt_boundaryStep_forward (by decide) hT⟩
  · intro t d hd
    have hlt : sum < 0 := by
      rcases hneg.lt_or_eq with hlt | rfl
      · exact hlt
      · simp [d, T] at hd
    obtain ⟨hr, ht⟩ := takeCorrection_backward hsum h hst hlt hge hphc
    rw [show t = _ from ht]
    exact ⟨hr, Int.toNat_of_nonneg hge, rfl, rfl, rfl, rfl, rfl, rfl, rfl,
      boundaryStep_backward _ (Nat.lt_of_sub_pos hd)⟩

/-! ## Holdover -/

/-- An increment put in force changes the increment and its history. -/
theorem setIncr_time (v : Nat) (s : State) : ∃ l, (setIncr v s).time = { s.time with incr := v, incrs := l } := ⟨_, rfl⟩

theorem holdoverDue_of_late {s : State} {F : Nat} (ho : timeOwner s = some F) (hl : s.time.tstate = .locked)
    (hd : max s.time.lastCorr s.time.ownedAt + nsTicks (timePrm s 5).toNat ≤ s.time.ticks) : holdoverDue s = true := by
  rw [holdoverDue, ho, hl, Bool.and_eq_true]
  exact ⟨rfl, decide_eq_true hd⟩

/-- The increment in holdover: kept where CLK10M steers it, else the mean (R119). -/
theorem enterHoldover_time (s : State) : ∃ l, (enterHoldover s).time = { s.time with
    incr := if timePrm s 6 = 1 ∧ s.time.clk10m = true then s.time.incr else meanIncr s
    incrs := l, tstate := .holdover, holdAt := s.time.ticks, steerAt := s.time.ticks } := by
  unfold enterHoldover
  by_cases hc : timePrm s 6 = 1 ∧ s.time.clk10m = true
  · have hb : (timePrm s 6 == 1 && s.time.clk10m) = true := by simp [hc]
    rw [hb, if_pos hc, emit_time]
    exact ⟨s.time.incrs, rfl⟩
  · have hb : (timePrm s 6 == 1 && s.time.clk10m) = false := by simpa using hc
    rw [hb, if_neg hc, emit_time]
    exact ⟨_, rfl⟩

section
variable {s : State} (hs : halted s = false)
include hs

theorem exec_holdoverEntry_of_due {clk : Bool} (hd : holdoverDue s = true) (hl : s.time.holdLate = none)
    (ha : s.time.alone = false) :
    exec (.holdoverEntry clk) s = .next (keep s (enterHoldover (setTime s { s.time with clk10m := clk }))) := by
  have hc : (holdoverDue s && s.time.holdLate.isNone) = true := by simp [hd, hl]
  change execHoldoverEntry clk s = _
  rw [execHoldoverEntry, live_run hs, guarded_true hc]
  simp only [setTime_time, ha, Bool.false_eq_true, if_false]

theorem exec_holdoverSteer_of_due {v : Nat} (hst : s.time.tstate = .holdover) (hr : timePrm s 6 = 1)
    (hclk : s.time.clk10m = true) (hv : incrOk v = true) (hd : s.time.steerAt + tS ≤ s.time.ticks) :
    exec (.holdoverSteer v) s =
      .next (keep s (setTime (setIncr v s) { (setIncr v s).time with steerAt := s.time.ticks })) := by
  have hc : (s.time.tstate == .holdover && timePrm s 6 == 1 && s.time.clk10m && incrOk v
      && decide (s.time.steerAt + tS ≤ s.time.ticks)) = true := by simp [hst, hr, hclk, hv, hd]
  change execHoldoverSteer v s = _
  rw [execHoldoverSteer, live_run hs, guarded_true hc]
  rfl

/-! ## References and PPS -/

theorem exec_refLost_clk10m :
    ∃ t, exec (.refLost 0) s = .next t ∧ t.time = { s.time with clk10m := false } :=
  ⟨_, (rfl : _ = execRefLost 0 s).trans (onPart_run (decide_eq_true (by decide)) hs), by rw [keep_time, emit_time]; rfl⟩

theorem exec_refLost_ppsIn : ∃ t, exec (.refLost 1) s = .next t ∧ t.time = { s.time with ppsIn := false } :=
  ⟨_, (rfl : _ = execRefLost 1 s).trans (onPart_run (decide_eq_true (by decide)) hs), by rw [keep_time, emit_time]; rfl⟩

section
variable (hn : s.time.ppsNext * secNs ≤ phcNs s.time) (hen : s.time.ppsEn = true)
include hn hen

theorem exec_ppsOutEdge_of_far (h : ∀ l, s.time.ppsLast = some l → l + 500 * tMs ≤ s.time.ticks) :
    exec .ppsOutEdge s = .next (keep s (setTime s { s.time with
      ppsNext := phcNs s.time / secNs + 1, ppsLast := some s.time.ticks, ppsOut := true })) := by
  change execPpsOutEdge s = _
  rw [execPpsOutEdge, live_run hs, guarded_true (decide_eq_true hn)]
  cases hl : s.time.ppsLast with
  | none => simp only [hen, hl, Bool.not_true, Bool.false_eq_true, if_false]
  | some l =>
    have hf : decide (s.time.ticks < l + 500 * tMs) = false := decide_eq_false (Nat.not_lt.2 (h l hl))
    simp only [hen, hl, hf, Bool.not_true, Bool.false_eq_true, if_false]

theorem exec_ppsOutEdge_of_near {l : Nat} (hl : s.time.ppsLast = some l) (h : s.time.ticks < l + 500 * tMs) :
    exec .ppsOutEdge s = .next (keep s (setTime s { s.time with
      ppsNext := phcNs s.time / secNs + 1, ctrs := bump s.time.ctrs .ppsSuppressed })) := by
  change execPpsOutEdge s = _
  rw [execPpsOutEdge, live_run hs, guarded_true (decide_eq_true hn)]
  simp only [hen, hl, decide_eq_true h, Bool.not_true, Bool.false_eq_true, if_false, if_true]

end

theorem exec_ppsInStamp_of_owner {F : Nat} (ho : timeOwner s = some F) :
    ∃ t, exec .ppsInStamp s = .next t ∧ t.time = { s.time with ppsIn := true } := by
  refine ⟨_, (rfl : _ = execPpsInStamp s).trans (live_run hs _), ?_⟩
  simp only [ho, keep_time, emit_time, setTime_time]

end

/-! ## The servo -/

/-- A correction that has been applied leaves the state LOCKED, and the PHC as it is. -/
theorem corrected_time (c : Int) (s : State) :
    (corrected c s).time.tstate = .locked ∧ (corrected c s).time.incr = s.time.incr ∧
      (corrected c s).time.slew = s.time.slew ∧ (corrected c s).time.phc = s.time.phc := by
  unfold corrected
  by_cases h : s.time.tstate = .locked
  · rw [if_pos h]
    exact ⟨h, rfl, rfl, rfl⟩
  · rw [if_neg h, emit_time]
    exact ⟨rfl, rfl, rfl, rfl⟩

/-- The alignment counters are all that an update moves beside its correction (R130). -/
theorem alignUpdate_time (off : Int) (s : State) : ∃ good bad lost,
    (alignUpdate off s).time = { s.time with alignGood := good, alignBad := bad, alignLost := lost } := by
  unfold alignUpdate
  split <;>
  · dsimp only
    split
    · rw [emit_time]
      exact ⟨_, _, _, rfl⟩
    · exact ⟨_, _, _, rfl⟩

/-- The increment of a servo update, put in force unless it is already. -/
theorem servoIncr_time {v : Nat} (hv : incrOk v = true) (s : State) : ∃ l,
    (if incrOk v && v != s.time.incr then setIncr v s else s).time = { s.time with incr := v, incrs := l } := by
  by_cases h : v = s.time.incr
  · subst h
    simp only [bne_self_eq_false, Bool.and_false, Bool.false_eq_true, if_false]
    exact ⟨s.time.incrs, rfl⟩
  · have hc : (incrOk v && v != s.time.incr) = true := by simp [hv, h]
    rw [if_pos hc]
    exact setIncr_time v s

/-- A servo update with a correction below the threshold: it is slewed, the state LOCKED. -/
theorem servoSlew_time {s : State} {off c : Int} (hsum : (c * 2 ^ 32 + remaining s).natAbs < (timePrm s 3).toNat * 2 ^ 32) :
    let t := alignUpdate off (corrected c (takeCorrection c s).2)
    t.time.tstate = .locked ∧ t.time.incr = s.time.incr ∧ t.time.slew = c * 2 ^ 32 + remaining s ∧
      t.time.phc = s.time.phc := by
  obtain ⟨hlock, hincr, hslew, hphc⟩ := corrected_time c (takeCorrection c s).2
  obtain ⟨good, bad, lost, hal⟩ := alignUpdate_time off (corrected c (takeCorrection c s).2)
  rw [takeCorrection_of_below hsum] at hlock hincr hslew hphc hal ⊢
  simp only [hal, hlock, hincr, hslew, hphc, setTime_time, and_self]

theorem exec_firmwareServoUpdate_slew {s : State} (hs : halted s = false) {off c : Int} {v : Nat} (ho : timeOwner s = none)
    (hdev : s.host.dev = .ready) (href : timePrm s 1 ≠ 5) (hv : incrOk v = true)
    (hsum : (c * 2 ^ 32 + remaining s).natAbs < (timePrm s 3).toNat * 2 ^ 32) :
    ∃ t, exec (.firmwareServoUpdate off c v) s = .next t ∧ t.time.tstate = .locked ∧ t.time.incr = v ∧
      t.time.slew = c * 2 ^ 32 + remaining s ∧ t.time.phc = s.time.phc := by
  have hc : ((timeOwner s).isNone && s.host.dev == .ready && !(timePrm s 1 == 5)) = true := by simp [ho, hdev, href]
  obtain ⟨l, ht⟩ := servoIncr_time hv s
  change ∃ t, execFirmwareServoUpdate off c v s = .next t ∧ _
  rw [execFirmwareServoUpdate, live_run hs, guarded_true hc]
  dsimp only
  generalize (if incrOk v && v != s.time.incr then setIncr v s else s) = s1 at ht ⊢
  have hrem : remaining s1 = remaining s := by simp only [remaining, ht]
  have hthr : timePrm s1 3 = timePrm s 3 := by simp only [timePrm, ht]
  rw [← hrem, ← hthr] at hsum
  have h := servoSlew_time (off := off) hsum
  simp only [ht, hrem] at h
  exact ⟨_, rfl, by rw [keep_time]; exact h⟩

theorem exec_firmwarePtpMessage_of_firmware {s : State} (hs : halted s = false) {p : Nat} (frame : Bytes) (hp : p < 8)
    (ho : timeOwner s = none) (ha : s.time.alone = false) (href : timePrm s 1 ≠ 5) :
    exec (.firmwarePtpMessage p frame) s = .next (keep s (intoClass p 7
      { kind := .ptp, len := max 64 (frame.length + 4), stream := p, data := frame, stamp := none } s)) := by
  have hc : ((timeOwner s).isNone && !s.time.alone && decide (timePrm s 1 ≠ 5)) = true := by simp [ho, ha, href]
  change execFirmwarePtpMessage p frame s = _
  rw [execFirmwarePtpMessage, onPart_run (decide_eq_true hp) hs, guarded_true hc, hostFrame, List.take_length]

/-- Settles O17: one lemma above for each event. -/
theorem referencesAndServo : Obligations.ReferencesAndServo := by
  unfold Obligations.ReferencesAndServo
  intro s hs
  refine ⟨fun F clk ho hl hlate ha hd => ?_, fun v hst hr hclk hv hd => ?_, exec_refLost_clk10m hs, exec_refLost_ppsIn hs,
    fun hn hen => ⟨exec_ppsOutEdge_of_far hs hn hen, fun l => exec_ppsOutEdge_of_near hs hn hen⟩,
    fun F => exec_ppsInStamp_of_owner hs, fun off c v => exec_firmwareServoUpdate_slew hs,
    (rfl : _ = execMclkAligned s).trans (live_run hs _),
    fun p frame => exec_firmwarePtpMessage_of_firmware hs frame⟩
  · obtain ⟨l, ht⟩ := enterHoldover_time (setTime s { s.time with clk10m := clk })
    refine ⟨_, exec_holdoverEntry_of_due hs (holdoverDue_of_late ho hl hd) hlate ha, ?_⟩
    rw [keep_time, ht]
    exact ⟨rfl, rfl, rfl, rfl, rfl⟩
  · exact ⟨_, exec_holdoverSteer_of_due hs hst hr hclk hv hd, rfl, rfl, hst⟩

end Sys2Proof.Proofs
end

section
/-!
PROOFS. What events, completions, detections and the reset of the domains leave of the host and dependability parts (R760 to
R762, R775).
-/

namespace Sys2Proof.Proofs

open Sys2Proof Sys2Proof.Machine Sys2Proof.Laws

@[simp] theorem setDep_dep (s : State) (d : DepPart) : (setDep s d).dep = d := rfl

/-! ## What lasts -/

/-- The host part without its functions and what waits to be served again, and the dependability part without its fault
records: what neither events, completions and detections change, nor the reset of the domains. -/
def lasting (s : State) : HostPart × DepPart :=
  ({ s.host with fns := [], replay := [] }, { s.dep with recs := [], lostHolds := false })

theorem lasting_dev {s t : State} (h : lasting t = lasting s) : t.host.dev = s.host.dev := congrArg (·.1.dev) h

/-- What holds of both branches holds of the choice. -/
theorem ite_elim {α : Type} {P : α → Prop} {c : Prop} [Decidable c] {a b : α} (ha : P a) (hb : P b) :
    P (if c then a else b) := by
  split
  · exact ha
  · exact hb

/-- A choice between two states with the same lasting parts. -/
theorem lasting_ite {c : Prop} [Decidable c] {a b : State} {v : HostPart × DepPart} (ha : lasting a = v) (hb : lasting b = v) :
    lasting (if c then a else b) = v :=
  ite_elim (P := fun t => lasting t = v) ha hb

/-- A fold of steps that leave a reading of the state leaves it. -/
theorem foldl_unchanged {α β : Type} {π : State → β} {f : State → α → State} (hf : ∀ s x, π (f s x) = π s) (l : List α)
    (s : State) : π (l.foldl f s) = π s := by
  induction l generalizing s with
  | nil => rfl
  | cons x l ih => rw [List.foldl_cons, ih, hf]

/-- A fold of steps that each leave the state. -/
theorem foldl_fixed_of_mem {α : Type} {f : State → α → State} {s : State} {l : List α} (h : ∀ x ∈ l, f s x = s) :
    l.foldl f s = s := by
  induction l with
  | nil => rfl
  | cons x l ih =>
    rw [List.foldl_cons, h x List.mem_cons_self]
    exact ih fun y hy => h y (List.mem_cons_of_mem x hy)

/-! ## Events, completions and detections -/

@[simp] theorem emit_lasting (d : Dest) (typ handle : Nat) (pay : Bytes) (s : State) :
    lasting (emit d typ handle pay s) = lasting s := by
  obtain ⟨t, h⟩ := emit_frame d typ handle pay s
  rw [h]
  rfl

@[simp] theorem completeMb_lasting (F : Nat) (m : Mb) (st : Status) (out : Bytes) (s : State) :
    lasting (completeMb F m st out s) = lasting s := by
  obtain ⟨t, h⟩ := completeMb_frame F m st out s
  rw [h]
  rfl

/-- `t` is `s` with other fault records and functions, and nothing else. -/
def RecordsMoved (s t : State) : Prop :=
  ∃ recs fns, t = { s with dep := { s.dep with recs := recs }, host := { s.host with fns := fns } }

theorem faultEvent_frame (i : Nat) (s : State) : RecordsMoved s (faultEvent i s) := by
  unfold faultEvent
  split
  · exact ⟨s.dep.recs, s.host.fns, rfl⟩
  · refine ite_elim (P := RecordsMoved s) ?_ ⟨s.dep.recs, s.host.fns, rfl⟩
    obtain ⟨t, h⟩ := emit_frame .all 0x0B0 _ _ _
    exact ⟨_, t, h⟩

/-- A detection changes fault records, functions and the device's counters, nothing else. -/
theorem detect_frame (mech inst obj detail : Nat) (persist crit : Bool) (s : State) :
    ∃ recs lost fns ctrs, detect mech inst obj detail persist crit s = { s with
      dep := { s.dep with recs := recs, lostHolds := lost }
      host := { s.host with fns := fns }
      time := { s.time with ctrs := ctrs } } := by
  unfold detect
  dsimp only
  split
  · split
    · obtain ⟨recs, fns, h⟩ := faultEvent_frame _ _
      exact ⟨recs, s.dep.lostHolds, fns, s.time.ctrs, h⟩
    · exact ⟨_, s.dep.lostHolds, s.host.fns, s.time.ctrs, rfl⟩
  · split
    · obtain ⟨recs, fns, h⟩ := faultEvent_frame _ _
      exact ⟨recs, s.dep.lostHolds, fns, s.time.ctrs, h⟩
    · exact ⟨s.dep.recs, _, s.host.fns, _, rfl⟩

@[simp] theorem detect_lasting (mech inst obj detail : Nat) (persist crit : Bool) (s : State) :
    lasting (detect mech inst obj detail persist crit s) = lasting s := by
  obtain ⟨recs, lost, fns, ctrs, h⟩ := detect_frame mech inst obj detail persist crit s
  rw [h]
  rfl

@[simp] theorem conditionEnd_lasting (mech inst obj : Nat) (s : State) : lasting (conditionEnd mech inst obj s) = lasting s :=
  rfl

@[simp] theorem detect_ticks (mech inst obj detail : Nat) (persist crit : Bool) (s : State) :
    (detect mech inst obj detail persist crit s).time.ticks = s.time.ticks := by
  obtain ⟨recs, lost, fns, ctrs, h⟩ := detect_frame mech inst obj detail persist crit s
  rw [h]

/-! ## Objects that a recovery faults -/

theorem pickFree_lasting (tag : Nat) (l : List Nat) (s : State) : lasting (pickFree tag l s).2 = lasting s := by
  unfold pickFree
  split <;> rfl

theorem place_lasting {k : Nat} {old : List Resv} {a : Ask} {s t : State} (h : place k old a s = .ok t) :
    lasting t = lasting s := by
  unfold place at h
  dsimp only at h
  split at h
  · cases h
  · cases h
    exact pickFree_lasting _ _ s

theorem placeAll_lasting {k : Nat} {old : List Resv} {l : List Ask} {s t : State} (h : placeAll k old l s = .ok t) :
    lasting t = lasting s := by
  induction l generalizing s with
  | nil =>
    cases h
    rfl
  | cons a l ih =>
    unfold placeAll at h
    split at h
    · cases h
    · rename_i s1 h1
      exact (ih h).trans (place_lasting h1)

theorem replace_lasting {k : Nat} {asks : Except Shut (List Ask)} {s t : State} (h : replace k asks s = .ok t) :
    lasting t = lasting s := by
  unfold replace replaceWith at h
  cases asks with
  | error e => cases h
  | ok l => exact placeAll_lasting (s := clearResv k s) h

theorem resettle_lasting (c : Nat) (s : State) : lasting (resettle c s) = lasting s := by
  unfold resettle resettleWith
  split
  · rename_i t ht
    change lasting t = lasting s
    exact replace_lasting ht
  · rfl

theorem syncRungs_lasting (y : Nat) (s : State) : lasting (syncRungs y s) = lasting s := by
  unfold syncRungs
  refine foldl_unchanged (fun s q => ?_) _ s
  rfl

theorem syncResv_lasting (s : State) : lasting (syncResv s) = lasting s := by
  unfold syncResv
  refine foldl_unchanged (fun s w => ?_) _ s
  split <;> rfl

theorem faultObject_lasting (k : Nat) (s : State) : lasting (faultObject k s) = lasting s := by
  unfold faultObject
  split
  · rfl
  · split
    · dsimp only
      rw [syncResv_lasting]
      split
      · exact resettle_lasting _ _
      · split
        · exact syncRungs_lasting _ _
        · rfl
    · rfl

/-! ## Queues and ports that a recovery empties -/

theorem fcSync_lasting (p : Nat) (s : State) : lasting (fcSync p s) = lasting s := by
  unfold fcSync
  refine foldl_unchanged (fun s r => ?_) _ s
  dsimp only
  split
  · rfl
  · split <;> rfl

theorem groupReport_lasting (g : Nat) (s : State) : lasting (groupReport g s) = lasting s := by
  unfold groupReport
  exact lasting_ite (lasting_ite (emit_lasting _ _ _ _ _) rfl) rfl

theorem groupCheck_lasting (g : Nat) (s : State) : lasting (groupCheck g s) = lasting s := by
  unfold groupCheck
  refine lasting_ite ((fcSync_lasting _ _).trans ?_) ?_ <;>
  exact lasting_ite (groupReport_lasting _ _) (lasting_ite (groupReport_lasting _ _) rfl)

theorem qChanged_lasting (q : Nat) (s : State) : lasting (qChanged q s) = lasting s := by
  unfold qChanged
  split
  · exact groupCheck_lasting _ s
  · rfl

theorem qStore_lasting (q : Nat) (s : State) : lasting (qStore q s) = lasting s := by
  unfold qStore
  refine lasting_ite rfl (lasting_ite ?_ rfl)
  exact lasting_ite rfl rfl

theorem qDiscard_lasting (q : Nat) (f : Item → Bool) (s : State) : lasting (qDiscard q f s) = lasting s :=
  (qChanged_lasting _ _).trans (qStore_lasting _ _)

theorem qPop_lasting (q : Nat) (s : State) : lasting (qPop q s) = lasting s := by
  unfold qPop
  dsimp only
  split
  · rfl
  · exact (qChanged_lasting _ _).trans (qStore_lasting _ _)

theorem dropStamp_lasting (p : Nat) (pk : Pkt) (s : State) : lasting (dropStamp p pk s) = lasting s := by
  unfold dropStamp
  split
  · unfold pushStamp
    dsimp only
    split <;> rfl
  · rfl

theorem dropHead_lasting (p c : Nat) (ct : Ctr) (s : State) : lasting (dropHead p c ct s) = lasting s := by
  unfold dropHead
  split
  · rfl
  · exact (dropStamp_lasting _ _ _).trans (qPop_lasting _ s)

theorem dropAll_lasting (p c n : Nat) (s : State) : lasting (dropAll p c n s) = lasting s := by
  induction n generalizing s with
  | zero => rfl
  | succ n ih =>
    unfold dropAll
    split
    · rfl
    · rw [ih, dropHead_lasting]

theorem linkDrop_lasting (p : Nat) (s : State) : lasting (linkDrop p s) = lasting s := by
  unfold linkDrop
  split
  · exact foldl_unchanged (fun s c => dropAll_lasting p c _ s) _ _
  · rfl

/-! ## The reset of the domains (R775) -/

theorem syncWait_lasting (x : Nat) (s : State) : lasting (syncWait x s) = lasting s := rfl

theorem updPort_lasting (s : State) (p : Nat) (g : EthPort → EthPort) : lasting (updPort s p g) = lasting s := rfl

theorem resetContexts_lasting (s : State) : lasting (resetContexts s) = lasting s := by
  unfold resetContexts
  extract_lets s1
  have h1 : lasting s1 = lasting s :=
    foldl_unchanged (π := lasting) (fun s (x : Nat × StreamDyn) => lasting_ite rfl (syncWait_lasting x.1 s)) _ s
  clear_value s1
  exact h1

theorem resetDomains_lasting (s : State) : lasting (resetDomains s) = lasting s := by
  unfold resetDomains
  extract_lets s1 s2
  have h1 : lasting s1 = lasting s :=
    foldl_unchanged (π := lasting) (fun s p => (updPort_lasting _ _ _).trans (linkDrop_lasting p s)) _ s
  have h2 : lasting s2 = lasting s1 := foldl_unchanged (π := lasting) (fun s q => qDiscard_lasting q _ s) _ s1
  clear_value s1 s2
  exact h2.trans h1

theorem dropCommandJobs_lasting (s : State) : lasting (dropCommandJobs s) = lasting s := rfl

/-- What a recovery that begins makes of the host and dependability parts. -/
theorem beginRecovery_lasting {s : State} (cause : Nat) (h : s.host.dev = .ready ∨ s.host.dev = .fwRestarting) :
    lasting (beginRecovery cause s) =
      ({ s.host with dev := .resetting, fns := [], replay := [] },
       { s.dep with recoverBy := some (cause, s.time.ticks), restartAt := none, recs := [], lostHolds := false }) := by
  have hc : (s.host.dev == .ready || s.host.dev == .fwRestarting || s.host.dev == .recovery) = true := by
    rcases h with h | h <;> rw [h] <;> rfl
  rw [beginRecovery, if_pos hc]
  rw [dropCommandJobs_lasting, resetDomains_lasting, resetContexts_lasting,
    foldl_unchanged (π := lasting) fun s k => faultObject_lasting k s]
  rfl

end Sys2Proof.Proofs
end

section
/-!
PROOFS. Mailboxes: what the delivery of events and a completion leave of them (R691, R695, R708), and the order in which waiting
commands arrived (R136).
-/

namespace Sys2Proof.Proofs

open Sys2Proof Sys2Proof.Machine Sys2Proof.Laws

/-! ## What the delivery of events leaves of a function -/

/-- The declared interface version of a function and its mailboxes. -/
def calls (f : Func) : Nat × Mbox × Mbox := (f.iface, f.admin, f.media)

theorem signalVec_calls (f : Func) (v : Nat) : calls (signalVec f v) = calls f := by
  unfold signalVec
  split <;> rfl

theorem setStatus_calls (f : Func) (n : Nat) : calls (setStatus f n) = calls f := by
  unfold setStatus
  dsimp only
  split
  · rfl
  · exact signalVec_calls _ _

theorem eqWrite_calls (tick : Nat) (f : Func) (qi : Nat) (q : EvQueue) (r : EvRec) :
    calls (eqWrite tick f qi q r) = calls f := by
  unfold eqWrite
  dsimp only
  split
  · exact signalVec_calls _ _
  · rfl

theorem eqLost_calls (tick mt : Nat) (f : Func) (qi : Nat) : calls (eqLost tick mt f qi) = calls f := by
  unfold eqLost
  split
  · split
    · exact eqWrite_calls tick f qi _ _
    · rfl
  · rfl

theorem eqPut_calls (tick mt : Nat) (f : Func) (qi : Nat) (r : EvRec) : calls (eqPut tick mt f qi r) = calls f := by
  unfold eqPut
  split
  · rfl
  · have hlost := eqLost_calls tick mt f qi
    generalize eqLost tick mt f qi = f1 at hlost ⊢
    dsimp only
    split
    · exact hlost
    · split
      · exact (eqWrite_calls tick f1 qi _ r).trans hlost
      · split
        · exact hlost
        · exact (setStatus_calls _ _).trans hlost

theorem deliver_calls (r : EvRec) (F G : Nat) (s : State) : calls (getFn (deliver r F s) G) = calls (getFn s G) := by
  have hset : ∀ f, calls f = calls (getFn s F) → calls (getFn (setFn s F f) G) = calls (getFn s G) := fun f hf => by
    rw [getFn_setFn]
    split
    · subst_vars
      exact hf
    · rfl
  unfold deliver
  dsimp only
  split
  · exact hset _ rfl
  · exact hset _ (eqPut_calls _ _ _ _ _)

@[simp] theorem emit_calls (d : Dest) (typ handle : Nat) (pay : Bytes) (s : State) (G : Nat) :
    calls (getFn (emit d typ handle pay s) G) = calls (getFn s G) :=
  foldl_unchanged (π := fun s => calls (getFn s G)) (fun s F => deliver_calls _ F G s) _ s

/-! ## Mailboxes -/

theorem getMb_of_calls {s t : State} {F : Nat} (h : calls (getFn t F) = calls (getFn s F)) (m : Mb) :
    getMb t F m = getMb s F m := by
  cases m
  · exact congrArg (·.2.1) h
  · exact congrArg (·.2.2) h

theorem getMb_setMb (s : State) (F G : Nat) (m n : Mb) (b : Mbox) :
    getMb (setMb s F m b) G n = if F = G ∧ m = n then b else getMb s G n := by
  by_cases hF : F = G
  · subst hF
    by_cases hm : m = n
    · subst hm
      simp
    · rw [getMb_setMb_other s F b hm, if_neg fun h => hm h.2]
  · rw [if_neg fun h => hF h.1, getMb, setMb, updFn, getFn_setFn_other s _ hF, getMb]

/-- A completed command is DONE; no other mailbox changes its state. -/
theorem completeMb_state (F G : Nat) (m n : Mb) (st : Status) (out : Bytes) (s : State) :
    (getMb (completeMb F m st out s) G n).state = if F = G ∧ m = n then .done else (getMb s G n).state := by
  have hset : ∀ b : Mbox, b.state = .done → (getMb (setMb { s with host := { s.host with
      replay := s.host.replay.filter fun e => e ≠ (F, m) } } F m b) G n).state
        = if F = G ∧ m = n then .done else (getMb s G n).state := fun b hb => by
    rw [getMb_setMb]
    split
    · exact hb
    · rfl
  unfold completeMb
  dsimp only
  split
  · rw [getMb_of_calls (emit_calls _ _ _ _ _ _)]
    exact hset _ rfl
  · exact hset _ rfl

/-! ## Tables whose entries change in place -/

theorem tab_get_map {α : Type} (t : Tab α) (g : α → α) (k : Nat) :
    Tab.get (t.map fun e => (e.1, g e.2)) k = (Tab.get t k).map g := by
  induction t with
  | nil => rfl
  | cons e t ih =>
    simp only [List.map_cons, Tab.get]
    split
    · rfl
    · exact ih

/-- The record of a function once every listed one has changed by `g`. -/
theorem getFn_of_mapFns {s t : State} {g : Func → Func} (h : t.host.fns = s.host.fns.map fun e => (e.1, g e.2)) (F : Nat) :
    getFn t F = ((Tab.get s.host.fns F).map g).getD {} := by
  rw [getFn, h, Tab.getD, tab_get_map]

theorem allStatus_calls (n : Nat) (s : State) (F : Nat) : calls (getFn (allStatus n s) F) = calls (getFn s F) := by
  rw [getFn_of_mapFns (s := s) (g := fun f => setStatus f n) rfl, getFn, Tab.getD]
  cases Tab.get s.host.fns F with
  | none => rfl
  | some f => exact setStatus_calls f n

/-- In a table without a second entry for a key, every entry is the one read. -/
theorem tab_get_of_mem {α : Type} {t : Tab α} (hn : (Tab.keys t).Nodup) {e : Nat × α} (he : e ∈ t) :
    Tab.get t e.1 = some e.2 := by
  induction t with
  | nil => cases he
  | cons a t ih =>
    rw [Tab.keys, List.map_cons, List.nodup_cons] at hn
    rcases List.mem_cons.1 he with rfl | he
    · exact if_pos rfl
    · have hne : a.1 ≠ e.1 := fun h => hn.1 (h ▸ List.mem_map_of_mem he)
      exact (if_neg hne).trans (ih hn.2 he)

/-! ## The order of arrival -/

theorem insertBy_of_le {α : Type} {le : α → α → Bool} {a : α} {l : List α} (h : ∀ b ∈ l, le a b = true) :
    insertBy le a l = a :: l := by
  cases l with
  | nil => rfl
  | cons b l => exact if_pos (h b List.mem_cons_self)

/-- Sorting leaves a list that is in order. -/
theorem sortBy_of_sorted {α : Type} {le : α → α → Bool} {l : List α} (h : l.Pairwise fun a b => le a b = true) :
    sortBy l le = l := by
  induction h with
  | nil => rfl
  | cons ha _ ih => rw [sortBy, ih, insertBy_of_le ha]

/-- The PENDING mailboxes of the functions in a table, with the tick of their arrival. -/
def arrivals (t : Tab Func) : List (Nat × Nat × Mb) :=
  t.flatMap fun e =>
    (if e.2.admin.state == .pending then [(e.2.admin.since, e.1, Mb.admin)] else []) ++
    (if e.2.media.state == .pending then [(e.2.media.since, e.1, Mb.media)] else [])

theorem pendingMbs_eq (s : State) :
    pendingMbs s = (sortBy (arrivals s.host.fns) fun a b => decide (a.1 ≤ b.1)).map (·.2) := rfl

/-- An arrival is a mailbox of a listed function, and the tick is its own. -/
theorem arrival_of_mem {t : Tab Func} {a : Nat × Nat × Mb} (ha : a ∈ arrivals t) :
    ∃ f, (a.2.1, f) ∈ t ∧ (f.mbox a.2.2).since = a.1 := by
  obtain ⟨⟨F, f⟩, he, ha⟩ := List.mem_flatMap.1 ha
  rcases List.mem_append.1 ha with ha | ha <;>
  · split at ha
    · rw [List.mem_singleton.1 ha]
      exact ⟨f, he, rfl⟩
    · cases ha

/-- The waiting commands stand in the order of their arrival (R136). -/
theorem pendingMbs_sorted {s : State} (hn : (Tab.keys s.host.fns).Nodup) :
    (pendingMbs s).map (fun e => (getMb s e.1 e.2).since)
      = sortBy ((pendingMbs s).map fun e => (getMb s e.1 e.2).since) (fun a b => decide (a ≤ b)) := by
  have hsince : (pendingMbs s).map (fun e => (getMb s e.1 e.2).since)
      = (sortBy (arrivals s.host.fns) fun a b => decide (a.1 ≤ b.1)).map (·.1) := by
    rw [pendingMbs_eq, List.map_map]
    refine List.map_congr_left fun a ha => ?_
    obtain ⟨f, hf, hs⟩ := arrival_of_mem ((mem_sortBy _ _ _).1 ha)
    rw [← hs]
    simp only [Function.comp_apply, getMb, getFn, Tab.getD, tab_get_of_mem hn hf, Option.getD_some]
  have hsorted := sortBy_sorted (arrivals s.host.fns) (fun a b => decide (a.1 ≤ b.1))
    (fun a b => by simpa using Nat.le_total a.1 b.1) fun a b c => by simpa using Nat.le_trans
  rw [hsince]
  exact (sortBy_of_sorted (List.pairwise_map.2 hsorted)).symm

end Sys2Proof.Proofs
end

section
/-!
PROOFS. Heartbeats and watchdogs (R771 to R773, R137), what begins a recovery, power failure (R790), and the return of firmware
(R774, R136, R694).
-/

namespace Sys2Proof.Proofs

open Sys2Proof Sys2Proof.Machine Sys2Proof.Laws

/-! ## Heartbeats and watchdogs (R771 to R773, R137) -/

section
variable {s : State} (hs : halted s = false)
include hs

theorem exec_firmwareHeartbeat_of_serving (hv : serving s = true) :
    exec .firmwareHeartbeat s = .next (keep s (setDep s { s.dep with hbFw := s.time.ticks })) := by
  change execFirmwareHeartbeat s = _
  rw [execFirmwareHeartbeat, live_run hs, guarded_true hv]

theorem exec_clampHeartbeat_run : exec .clampHeartbeat s =
    .next (keep s (setDep s { s.dep with hbClamp := s.time.ticks, confirmed := s.dep.hbFw })) := by
  change execClampHeartbeat s = _
  rw [execClampHeartbeat, live_run hs]

theorem exec_firmwareTaskTimeout_of_none (hv : serving s = true) :
    exec (.firmwareTaskTimeout none) s = .next (keep s (bumpDev s .fwTaskTimeout)) := by
  change execFirmwareTaskTimeout none s = _
  rw [execFirmwareTaskTimeout, live_run hs, guarded_true hv]

theorem exec_firmwareTaskTimeout_of_media (hv : serving s = true) {F : Nat} (hp : (getMb s F .media).state = .pending) :
    exec (.firmwareTaskTimeout (some (F, .media))) s =
      .next (keep s (completeMb F .media .timeout [] (bumpDev s .fwTaskTimeout))) := by
  have hp' : ((getMb (bumpDev s .fwTaskTimeout) F .media).state == .pending) = true := beq_iff_eq.2 hp
  change execFirmwareTaskTimeout (some (F, .media)) s = _
  rw [execFirmwareTaskTimeout, live_run hs, guarded_true hv]
  exact congrArg (fun t => Host.Outcome.next (keep s t)) (if_pos hp')

theorem exec_benchWatchdogExpiry_of_due (hdev : s.host.dev = .ready) (hd : s.dep.hbFw + tS ≤ s.time.ticks) :
    ∃ t, exec .benchWatchdogExpiry s = .next t ∧ t.host.dev = .fwRestarting ∧ t.time.alone = true ∧
      t.time.aloneAt = s.time.ticks ∧ t.time.shadow = [] ∧ t.time.commit = false ∧ t.dep.restartAt = some s.time.ticks ∧
      t.obj = s.obj ∧ t.vid = s.vid ∧ t.batten = s.batten := by
  have hc : (s.host.dev == .ready && decide (s.dep.hbFw + tS ≤ s.time.ticks)) = true := by simp [hdev, hd]
  obtain ⟨recs, lost, fns, ctrs, hdet⟩ := detect_frame 0x0E 0xFFFF 0 0 false false s
  change ∃ t, execBenchWatchdogExpiry s = .next t ∧ _
  rw [execBenchWatchdogExpiry, live_run hs, guarded_true hc, hdet]
  exact ⟨_, rfl, rfl, rfl, rfl, rfl, rfl, rfl, rfl, rfl, rfl⟩

theorem exec_sequencerAloneExpiry_of_due (ha : s.time.alone = true) (hst : s.time.stopped = false)
    (hd : s.time.aloneAt + tS ≤ s.time.ticks) :
    ∃ t, exec .sequencerAloneExpiry s = .next t ∧ t.time.stopped = true ∧ t.obj = s.obj := by
  have hc : (s.time.alone && !s.time.stopped && decide (s.time.aloneAt + tS ≤ s.time.ticks)) = true := by simp [ha, hst, hd]
  obtain ⟨recs, lost, fns, ctrs, hdet⟩ := detect_frame 0x0F 0xFFFF 0 0 true true (setTime s { s.time with stopped := true })
  change ∃ t, execSequencerAloneExpiry s = .next t ∧ _
  rw [execSequencerAloneExpiry, live_run hs, guarded_true hc, hdet]
  exact ⟨_, rfl, rfl, rfl⟩

/-! ## The beginning of a recovery -/

omit hs in
/-- A recovery that a detection begins. -/
theorem beginRecovery_detect (cause mech : Nat) (persist crit : Bool) (h : s.host.dev = .ready ∨ s.host.dev = .fwRestarting) :
    let t := beginRecovery cause (detect mech 0xFFFF 0 0 persist crit s)
    t.host.dev = .resetting ∧ t.dep.recoverBy = some (cause, s.time.ticks) := by
  have hdev := lasting_dev (detect_lasting mech 0xFFFF 0 0 persist crit s)
  have hrec := beginRecovery_lasting cause (s := detect mech 0xFFFF 0 0 persist crit s) (by rwa [hdev])
  refine ⟨congrArg (·.1.dev) hrec, (congrArg (·.2.recoverBy) hrec).trans ?_⟩
  dsimp only
  rw [detect_ticks]

theorem exec_deviceWatchdogExpiry_of_due (hdev : s.host.dev = .ready ∨ s.host.dev = .fwRestarting)
    (hd : s.dep.confirmed + 4 * tS ≤ s.time.ticks ∨ s.dep.hbClamp + 4 * tS ≤ s.time.ticks) :
    exec .deviceWatchdogExpiry s = .next (keep s (beginRecovery 0x10 (detect 0x10 0xFFFF 0 0 false true s))) := by
  have hc : ((s.host.dev == .ready || s.host.dev == .fwRestarting)
      && (decide (s.dep.confirmed + 4 * tS ≤ s.time.ticks) || decide (s.dep.hbClamp + 4 * tS ≤ s.time.ticks))) = true := by
    simpa using ⟨hdev, hd⟩
  change execDeviceWatchdogExpiry s = _
  rw [execDeviceWatchdogExpiry, live_run hs, guarded_true hc]

theorem exec_clampLockstepMismatch_run :
    exec .clampLockstepMismatch s = .next (keep s (beginRecovery 0x0D (detect 0x0D 0xFFFF 0 0 false true s))) := by
  change execClampLockstepMismatch s = _
  rw [execClampLockstepMismatch, live_run hs]

/-! ## Power failure (R790) -/

theorem exec_powerFail_of_first (hpf : s.dep.pfAt = none) :
    ∃ t, exec .powerFail s = .next t ∧ t.dep.storeMode = true ∧ t.dep.pfAt = some s.time.ticks ∧
      (s.boot.flashOp = none → t.dep.writeDis = true) := by
  obtain ⟨⟨hlow, -⟩, htrip⟩ : (s.boot.porstLow = false ∧ s.dep.storeMode = false) ∧ s.dep.thermtrip = false := by
    simpa [halted] using hs
  have hc : (!s.boot.porstLow && s.dep.pfAt.isNone) = true := by simp [hlow, hpf]
  obtain ⟨recs, lost, fns, ctrs, hdet⟩ := detect_frame 0x13 0xFFFF 0 0 true true s
  change ∃ t, execPowerFail s = .next t ∧ _
  rw [execPowerFail, onAon, if_pos rfl, guarded_true hc, hdet]
  simp only [htrip, Bool.not_false, if_true, setDep_dep]
  exact ⟨_, rfl, rfl, rfl, fun hf => by simp [hf]⟩

end

theorem exec_powerRestore_of_failed {s : State} (hpf : s.dep.pfAt ≠ none) (htrip : s.dep.thermtrip = false)
    (hdev : s.host.dev = .ready) :
    ∃ t, exec .powerRestore s = .next t ∧ t.dep.storeMode = false ∧ t.dep.pfAt = none ∧ t.host.dev = .resetting ∧
      t.dep.recoverBy = some (0x13, s.time.ticks) := by
  have hc : s.dep.pfAt.isSome = true := Option.isSome_iff_ne_none.2 hpf
  have htrip' : ¬(conditionEnd 0x13 0xFFFF 0 s).dep.thermtrip = true := by simpa [conditionEnd] using htrip
  have hrec := beginRecovery_lasting 0x13 (s := setDep (conditionEnd 0x13 0xFFFF 0 s)
    { (conditionEnd 0x13 0xFFFF 0 s).dep with pfAt := none, storeMode := false, writeDis := false }) (.inl hdev)
  change ∃ t, execPowerRestore s = .next t ∧ _
  rw [execPowerRestore, onAon, if_pos rfl, guarded_true hc, if_neg htrip']
  exact ⟨_, rfl, congrArg (·.2.storeMode) hrec, congrArg (·.2.pfAt) hrec, congrArg (·.1.dev) hrec,
    congrArg (·.2.recoverBy) hrec⟩

/-! ## Firmware re-attaches (R774, R136, R694) -/

/-- A function whose waiting commands were not in service since firmware went away. -/
def shiftCalls (s : State) (f : Func) : Func := { f with
  admin := f.admin.shift s.time.ticks (s.dep.restartAt.getD s.time.ticks)
  media := f.media.shift s.time.ticks (s.dep.restartAt.getD s.time.ticks) }

/-- The device READY again, the waiting commands in order of arrival. -/
def reattached (s : State) : State := { s with
  host := { s.host with
    dev := .ready, restarts := (s.host.restarts + 1) % 2 ^ 32, replay := pendingMbs s
    fns := s.host.fns.map fun e => (e.1, shiftCalls s e.2) }
  dep := { s.dep with restartAt := none, hbFw := s.time.ticks }
  time := { s.time with alone := false, stopped := false } }

/-- The return of firmware announced to every function. -/
def announced (s : State) : State :=
  emit .all 0x007 0
    (toLe 4 ((s.host.restarts + 1) % 2 ^ 32) ++
      toLe 4 (min ((s.time.ticks - s.dep.restartAt.getD s.time.ticks) / tUs) 0xFFFFFFFF))
    (allStatus 1 (conditionEnd 0x0F 0xFFFF 0 (reattached s)))

theorem announced_frame (s : State) : ∃ fns recs, announced s = { reattached s with
    host := { (reattached s).host with fns := fns }, dep := { (reattached s).dep with recs := recs } } := by
  obtain ⟨t, h⟩ := emit_frame .all 0x007 0 (toLe 4 ((s.host.restarts + 1) % 2 ^ 32) ++
      toLe 4 (min ((s.time.ticks - s.dep.restartAt.getD s.time.ticks) / tUs) 0xFFFFFFFF))
    (allStatus 1 (conditionEnd 0x0F 0xFFFF 0 (reattached s)))
  exact ⟨t, _, h⟩

theorem announced_calls (s : State) (F : Nat) : calls (getFn (announced s) F) = calls (shiftCalls s (getFn s F)) := by
  rw [announced, emit_calls, allStatus_calls]
  change calls (getFn (reattached s) F) = _
  rw [getFn_of_mapFns (s := s) (g := shiftCalls s) rfl, getFn, Tab.getD]
  cases Tab.get s.host.fns F <;> rfl

theorem getMb_announced (s : State) (F : Nat) (m : Mb) :
    getMb (announced s) F m = (getMb s F m).shift s.time.ticks (s.dep.restartAt.getD s.time.ticks) := by
  cases m
  · exact congrArg (·.2.1) (announced_calls s F)
  · exact congrArg (·.2.2) (announced_calls s F)

/-- The refusals of R693 do not look at the time of arrival. -/
theorem r693_shift (s : State) (F : Nat) (m : Mb) (b : Mbox) (now_ r : Nat) :
    r693 s F m (b.shift now_ r) = r693 s F m b := by
  unfold Mbox.shift
  split <;> rfl

/-- What the refusals of R693 look at beside the command. -/
theorem r693_congr {s t : State} {F : Nat} (hd : (t.host.dev == .recovery) = (s.host.dev == .recovery))
    (hv : t.host.version = s.host.version) (hi : (getFn t F).iface = (getFn s F).iface) (m : Mb) (b : Mbox) :
    r693 t F m b = r693 s F m b := by
  have hver : versionOk t F b.op = versionOk s F b.op := by simp only [versionOk, compat, hv, hi]
  simp only [r693, hd, hver]

theorem refuseWaiting_announced {s : State} (hdev : s.host.dev = .fwRestarting) {e : Nat × Mb}
    (he : r693 s e.1 e.2 (getMb s e.1 e.2) = none) : refuseWaiting (announced s) e = announced s := by
  obtain ⟨fns, recs, h⟩ := announced_frame s
  have hd : ((announced s).host.dev == .recovery) = (s.host.dev == .recovery) := by rw [h, hdev]; rfl
  have hv : (announced s).host.version = s.host.version := by rw [h]; rfl
  have hi : (getFn (announced s) e.1).iface = (getFn s e.1).iface := congrArg (·.1) (announced_calls s e.1)
  rw [refuseWaiting, getMb_announced, r693_shift, r693_congr hd hv hi, he]

theorem exec_fwRestarted_of_accepted {s : State} (hs : halted s = false) (hdev : s.host.dev = .fwRestarting)
    (hl : s.time.holdLate = none) (hr : ∀ e ∈ pendingMbs s, r693 s e.1 e.2 (getMb s e.1 e.2) = none) :
    exec .fwRestarted s = .next (keep s (announced s)) := by
  have hfold : (pendingMbs s).foldl refuseWaiting (announced s) = announced s :=
    foldl_fixed_of_mem fun e he => refuseWaiting_announced hdev (hr e he)
  have hlate : ((pendingMbs s).foldl refuseWaiting (announced s)).time.holdLate = none := by
    obtain ⟨fns, recs, h⟩ := announced_frame s
    rw [hfold, h]
    exact hl
  change execFwRestarted s = _
  rw [execFwRestarted, live_run hs, guarded_true (beq_iff_eq.2 hdev)]
  dsimp only
  split
  · rename_i hsome
    cases hsome.symm.trans hlate
  · exact congrArg (fun t => Host.Outcome.next (keep s t)) hfold

end Sys2Proof.Proofs
end

section
/-!
PROOFS. The end of a recovery (R775, R776, R695), and the statement on restarts, recovery and power failure.
-/

namespace Sys2Proof.Proofs

open Sys2Proof Sys2Proof.Machine Sys2Proof.Laws

/-! ## Commands that a recovery aborts (R695) -/

/-- What a recovery does with the command in one mailbox: ABORTED when it waits. -/
def abortMb (F : Nat) (s : State) (m : Mb) : State :=
  if (getMb s F m).state == .pending then completeMb F m .aborted [] s else setMb s F m { getMb s F m with orphan := none }

/-- The rings of a function after a recovery: STOPPED, and fetched no further than served. -/
def stopRings (f : Func) : Func := setStatus { f with
  rings := f.rings.map fun e => (e.1, { e.2 with
    fetch := e.2.head, state := if e.2.state == .running then .stopped else e.2.state }) } 0

theorem abortFn_eq (s : State) (F : Nat) : abortFn s F = updFn (abortMb F (abortMb F s .admin) .media) F stopRings := rfl

theorem stopRings_calls (f : Func) : calls (stopRings f) = calls f := setStatus_calls _ 0

theorem updFn_lasting (s : State) (F : Nat) (g : Func → Func) : lasting (updFn s F g) = lasting s := rfl

theorem abortMb_lasting (F : Nat) (s : State) (m : Mb) : lasting (abortMb F s m) = lasting s :=
  lasting_ite (completeMb_lasting _ _ _ _ _) rfl

theorem abortFn_lasting (s : State) (F : Nat) : lasting (abortFn s F) = lasting s := by
  rw [abortFn_eq, updFn_lasting, abortMb_lasting, abortMb_lasting]

/-- A mailbox whose command is aborted is not PENDING, and no other becomes so. -/
theorem abortMb_not_pending {F G : Nat} {s : State} {m n : Mb} (h : (F = G ∧ m = n) ∨ (getMb s G n).state ≠ .pending) :
    (getMb (abortMb F s m) G n).state ≠ .pending := by
  unfold abortMb
  split
  case isTrue =>
    rw [completeMb_state]
    split
    · decide
    · exact h.resolve_left ‹_›
  case isFalse hp =>
    rw [getMb_setMb]
    split
    · rename_i hsame
      obtain ⟨rfl, rfl⟩ := hsame
      simpa using hp
    · exact h.resolve_left ‹_›

/-- After the commands of function `F` are aborted, neither of its mailboxes is PENDING, and no other becomes so. -/
theorem abortFn_not_pending {F G : Nat} {s : State} {n : Mb} (h : F = G ∨ (getMb s G n).state ≠ .pending) :
    (getMb (abortFn s F) G n).state ≠ .pending := by
  have hrings : calls (getFn (abortFn s F) G) = calls (getFn (abortMb F (abortMb F s .admin) .media) G) := by
    rw [abortFn_eq, updFn, getFn_setFn]
    split
    · subst_vars
      exact stopRings_calls _
    · rfl
  rw [getMb_of_calls hrings]
  rcases h with rfl | h
  · cases n
    · exact abortMb_not_pending (.inr (abortMb_not_pending (.inl ⟨rfl, rfl⟩)))
    · exact abortMb_not_pending (.inl ⟨rfl, rfl⟩)
  · exact abortMb_not_pending (.inr (abortMb_not_pending (.inr h)))

theorem foldl_abortFn_not_pending {l : List Nat} {G : Nat} {s : State} {n : Mb}
    (h : G ∈ l ∨ (getMb s G n).state ≠ .pending) : (getMb (l.foldl abortFn s) G n).state ≠ .pending := by
  induction l generalizing s with
  | nil => exact h.resolve_left List.not_mem_nil
  | cons F l ih =>
    refine ih ?_
    rcases h with h | h
    · rcases List.mem_cons.1 h with rfl | h
      · exact .inr (abortFn_not_pending (.inl rfl))
      · exact .inl h
    · exact .inr (abortFn_not_pending (.inr h))

/-- A function that is not listed has no command waiting. -/
theorem getMb_of_not_listed {s : State} {F : Nat} (h : F ∉ Tab.keys s.host.fns) (n : Mb) :
    (getMb s F n).state ≠ .pending := by
  rw [getMb, getFn, Tab.getD, (tab_get_none _ _).2 h]
  cases n <;> decide

/-- No command waits once those of every listed function are aborted. -/
theorem abortAll_not_pending (s : State) (F : Nat) (n : Mb) :
    (getMb ((Tab.keys s.host.fns).foldl abortFn s) F n).state ≠ .pending := by
  by_cases h : F ∈ Tab.keys s.host.fns
  · exact foldl_abortFn_not_pending (.inl h)
  · exact foldl_abortFn_not_pending (.inr (getMb_of_not_listed h n))

theorem reportReduced_lasting (s : State) : lasting (reportReduced s) = lasting s :=
  foldl_unchanged (π := lasting) (fun _ _ => emit_lasting _ _ _ _ _) _ s

theorem reportReduced_calls (s : State) (F : Nat) : calls (getFn (reportReduced s) F) = calls (getFn s F) :=
  foldl_unchanged (π := fun s => calls (getFn s F)) (fun _ _ => emit_calls _ _ _ _ _ _) _ s

/-! ## The end of a recovery (R776) -/

/-- The device as a recovery returns it: READY, its conditions ended, only what `bad` lists out of service. -/
def recoveredReady (bad : List (Nat × Nat)) (s : State) : State :=
  let s1 := { s with
    host := { s.host with dev := .ready, recoveries := (s.host.recoveries + 1) % 2 ^ 32 }
    mem := { s.mem with ranks := s.mem.ranks.map fun e =>
      (e.1, { e.2 with power := 0, lastReq := s.time.ticks, lastRef := s.time.ticks }) }
    dep := { s.dep with
      recoverBy := none, removed := s.dep.removed.filter fun r => bad.contains r
      hbFw := s.time.ticks, hbClamp := s.time.ticks, confirmed := s.time.ticks, off := [] } }
  (List.range 18).foldl (fun s d => conditionEnd 0x09 d 0 s) (conditionEnd 0x0F 0xFFFF 0 s1)

theorem recoveredReady_lasting (bad : List (Nat × Nat)) (s : State) : lasting (recoveredReady bad s) =
    ({ s.host with dev := .ready, recoveries := (s.host.recoveries + 1) % 2 ^ 32, fns := [], replay := [] },
     { s.dep with
      recoverBy := none, removed := s.dep.removed.filter fun r => bad.contains r, hbFw := s.time.ticks
      hbClamp := s.time.ticks, confirmed := s.time.ticks, off := [], recs := [], lostHolds := false }) :=
  foldl_unchanged (π := lasting) (fun s d => conditionEnd_lasting 0x09 d 0 s) _ _

section
variable {s : State} (hs : halted s = false) {bad : List (Nat × Nat)} {cause at_ : Nat}
variable (hrec : s.dep.recoverBy = some (cause, at_)) (hdev : s.host.dev = .resetting)
include hs hrec hdev

theorem exec_deviceRecovered_of_passed (hbad : ∀ b ∈ bad, b ∈ s.dep.removed) :
    exec (.deviceRecovered bad) s = .next (keep s (reportReduced (emit .all 0x006 0
      (toLe 4 ((s.host.recoveries + 1) % 2 ^ 32) ++ toLe 4 cause)
      ((Tab.keys (recoveredReady bad s).host.fns).foldl abortFn (recoveredReady bad s))))) := by
  have hd : ¬(s.host.dev != .resetting) = true := by simp [hdev]
  have hb : ¬(bad.any fun b => !(s.dep.removed.contains b)) = true := by simpa using fun a b h => hbad (a, b) h
  change execDeviceRecovered bad s = _
  rw [execDeviceRecovered, live_run hs]
  simp only [hrec]
  rw [if_neg hd, if_neg hb]
  rfl

theorem exec_deviceRecovered_ready (hbad : ∀ b ∈ bad, b ∈ s.dep.removed) :
    ∃ t, exec (.deviceRecovered bad) s = .next t ∧ t.host.dev = .ready ∧
      t.host.recoveries = (s.host.recoveries + 1) % 2 ^ 32 ∧ t.dep.recoverBy = none ∧
      t.dep.removed = s.dep.removed.filter (fun r => bad.contains r) ∧ ∀ F m, (getMb t F m).state ≠ .pending := by
  refine ⟨_, exec_deviceRecovered_of_passed hs hrec hdev hbad, ?_⟩
  generalize hu : (Tab.keys (recoveredReady bad s).host.fns).foldl abortFn (recoveredReady bad s) = u
  have hlast : lasting u = _ := hu ▸ (foldl_unchanged (π := lasting) abortFn_lasting _ _).trans (recoveredReady_lasting bad s)
  have hidle : ∀ F m, (getMb u F m).state ≠ .pending := fun F m => hu ▸ abortAll_not_pending _ F m
  generalize hv : emit .all 0x006 0 (toLe 4 ((s.host.recoveries + 1) % 2 ^ 32) ++ toLe 4 cause) u = v
  have hv' : lasting (reportReduced v) = lasting u := by rw [reportReduced_lasting, ← hv, emit_lasting]
  rw [hlast] at hv'
  refine ⟨congrArg (·.1.dev) hv', congrArg (·.1.recoveries) hv', congrArg (·.2.recoverBy) hv', congrArg (·.2.removed) hv',
    fun F m => ?_⟩
  have hcalls : calls (getFn (reportReduced v) F) = calls (getFn u F) := by rw [reportReduced_calls, ← hv, emit_calls]
  have hmb : getMb (keep s (reportReduced v)) F m = getMb u F m := getMb_of_calls hcalls m
  rw [hmb]
  exact hidle F m

/-- A unit in service that fails its test. -/
theorem exec_deviceRecovered_of_failed {b : Nat × Nat} (hb : b ∈ bad) (hin : b ∉ s.dep.removed) :
    ∃ t, exec (.deviceRecovered bad) s = .next t ∧ t.host.dev = .failed := by
  have hd : ¬(s.host.dev != .resetting) = true := by simp [hdev]
  have hany : (bad.any fun b => !(s.dep.removed.contains b)) = true := List.any_eq_true.2 ⟨b, hb, by simpa using hin⟩
  change ∃ t, execDeviceRecovered bad s = .next t ∧ _
  rw [execDeviceRecovered, live_run hs]
  simp only [hrec]
  rw [if_neg hd, if_pos hany]
  exact ⟨_, rfl, rfl⟩

end

/-- Settles O57: one lemma above for each event; a recovery ends in what `lasting` holds. -/
theorem restartsAndRecovery : Obligations.RestartsAndRecovery := by
  unfold Obligations.RestartsAndRecovery
  refine ⟨fun s hs => ⟨fun hv => ⟨exec_firmwareHeartbeat_of_serving hs hv, exec_firmwareTaskTimeout_of_none hs hv,
    fun F => exec_firmwareTaskTimeout_of_media hs hv⟩, exec_clampHeartbeat_run hs, exec_benchWatchdogExpiry_of_due hs,
    exec_sequencerAloneExpiry_of_due hs, fun hdev hl hr => ?_, fun hdev hd => ?_, fun hdev => ?_,
    fun bad cause at_ hrec hdev => ⟨exec_deviceRecovered_ready hs hrec hdev,
      fun b hb => exec_deviceRecovered_of_failed hs hrec hdev hb⟩, exec_powerFail_of_first hs⟩,
    fun s => exec_powerRestore_of_failed⟩
  · obtain ⟨fns, recs, h⟩ := announced_frame s
    refine ⟨keep s (announced s), exec_fwRestarted_of_accepted hs hdev hl hr, ?_⟩
    have hmb : ∀ F m, getMb (keep s (announced s)) F m = _ := getMb_announced s
    simp only [keep_host, keep_time, keep_dep, keep_obj]
    refine ⟨?_, ?_, ?_, ?_, ?_, ?_, ?_, hmb, pendingMbs_sorted⟩ <;> rw [h] <;> rfl
  · exact ⟨_, exec_deviceWatchdogExpiry_of_due hs hdev hd, beginRecovery_detect 0x10 0x10 false true hdev⟩
  · exact ⟨_, exec_clampLockstepMismatch_run hs, beginRecovery_detect 0x0D 0x0D false true (.inl hdev)⟩

end Sys2Proof.Proofs
end

section
/-!
PROOFS. The SRTP replay window of chapter 3 (R159 to R161): the cases of the replay check, and that an index it accepted is
refused when it comes again.
-/

namespace Sys2Proof.Proofs

open Sys2Proof Sys2Proof.Machine Sys2Proof.Laws

/-! ## Bits of the window -/

/-- A bit that is clear is set by adding its weight. -/
theorem bitOf_add_two_pow {w i : Nat} (h : bitOf w i = false) : bitOf (w + 2 ^ i) i = true := by
  have hclear : w / 2 ^ i % 2 ≠ 1 := by simpa [bitOf] using h
  rw [bitOf, Nat.add_div_right w (Nat.two_pow_pos i), beq_iff_eq]
  omega

theorem bitOf_one_zero : bitOf 1 0 = true := by decide

/-- A window shifted up by at least one index, with its lowest bit set. -/
theorem bitOf_shifted_zero (w : Nat) {k : Nat} (hk : 0 < k) : bitOf ((w * 2 ^ k + 1) % 2 ^ 128) 0 = true := by
  obtain ⟨n, rfl⟩ := Nat.exists_eq_add_of_lt hk
  rw [bitOf, beq_iff_eq, pow_zero, Nat.div_one, Nat.mod_mod_of_dvd _ (by norm_num), pow_succ, ← mul_assoc]
  omega

/-! ## The cases of the replay check -/

section
variable {c : Crypto} {v : Nat}

theorem replayCheck_of_newer (h : c.hi < v) : replayCheck (some c) v =
    some { hi := v, win := if 128 ≤ v - c.hi then 1 else (c.win * 2 ^ (v - c.hi) + 1) % 2 ^ 128 } := if_pos h

theorem replayCheck_of_too_old (h : v + 127 < c.hi) : replayCheck (some c) v = none := by
  rw [replayCheck, if_neg (by omega), if_pos (.inl (by omega))]

theorem replayCheck_of_seen (hle : v ≤ c.hi) (h : bitOf c.win (c.hi - v) = true) : replayCheck (some c) v = none := by
  rw [replayCheck, if_neg hle.not_gt, if_pos (.inr h)]

theorem replayCheck_of_unseen (hle : v ≤ c.hi) (hw : c.hi - v ≤ 127) (h : bitOf c.win (c.hi - v) = false) :
    replayCheck (some c) v = some { c with win := c.win + 2 ^ (c.hi - v) } := by
  rw [replayCheck, if_neg hle.not_gt, if_neg (by simp [h]; omega)]

end

/-- The highest index is refused once the window's lowest bit marks it. -/
theorem replayCheck_highest {c : Crypto} (h : bitOf c.win 0 = true) : replayCheck (some c) c.hi = none :=
  replayCheck_of_seen le_rfl (by rwa [Nat.sub_self])

/-- Acceptance marks the index in the window: at its lowest bit for a new highest, at its distance for an older one. -/
theorem replayCheck_again {o : Option Crypto} {v : Nat} {c1 : Crypto} (h : replayCheck o v = some c1) :
    replayCheck (some c1) v = none := by
  cases o with
  | none =>
    obtain rfl : _ = c1 := Option.some.inj h
    exact replayCheck_highest (c := { hi := v, win := 1 }) bitOf_one_zero
  | some c =>
    rcases lt_or_ge c.hi v with hnew | hle
    · rw [replayCheck_of_newer hnew] at h
      obtain rfl := Option.some.inj h
      refine replayCheck_highest (c := { hi := v, win := _ }) ?_
      split
      · exact bitOf_one_zero
      · exact bitOf_shifted_zero c.win (Nat.sub_pos_of_lt hnew)
    · by_cases hw : 127 < c.hi - v
      · rw [replayCheck_of_too_old (by omega)] at h
        cases h
      cases hb : bitOf c.win (c.hi - v) with
      | true =>
        rw [replayCheck_of_seen hle hb] at h
        cases h
      | false =>
        rw [replayCheck_of_unseen hle (Nat.le_of_not_lt hw) hb] at h
        obtain rfl := Option.some.inj h
        exact replayCheck_of_seen hle (bitOf_add_two_pow hb)

/-- Settles O19: what acceptance marks is refused, and the two ends of the window. -/
theorem replayedIndexIsRefused : Obligations.ReplayedIndexIsRefused := by
  unfold Obligations.ReplayedIndexIsRefused
  exact ⟨fun _ _ _ => replayCheck_again, fun _ _ => replayCheck_of_too_old,
    fun _ _ hnew => ⟨_, replayCheck_of_newer hnew, rfl⟩⟩

end Sys2Proof.Proofs
end

section
/-!
PROOFS. What the commands on MAC filters, local addresses, the DSCP table and keys answer when their checks pass (R143, R147,
R155 to R157, R167, R741, R746).
-/

namespace Sys2Proof.Proofs

open Sys2Proof Sys2Proof.Machine Sys2Proof.Laws

/-! ## MAC filters -/

/-- A port number is not the one that names the device-wide multicast table. -/
theorem port_beq_multicast {p : Nat} (h : p < 8) : (p == 0xFF) = false := by
  simp only [beq_eq_false_iff_ne]
  omega

section
variable {s : State} {F i : Nat} {p d : Bytes}

theorem bodyMacFilterAdd_of_unicast (ho : s.host.owner = F) (hp : le p 6 1 < 8) (hm : le p 0 6 % 2 = 0)
    (hnew : ∀ e ∈ (getPort s (le p 6 1)).filters, e.2 ≠ le p 0 6)
    (hi : lowestFree (Tab.keys (getPort s (le p 6 1)).filters) 0 64 = some i) :
    bodyMacFilterAdd F p d s = .ok (toLe 2 i ++ zeros 6) 0
      (setPort s (le p 6 1) { getPort s (le p 6 1) with
        filters := Tab.set (getPort s (le p 6 1)).filters i (le p 0 6) }) := by
  have hmulti := port_beq_multicast hp
  have hfree : ((getPort s (le p 6 1)).filters.any fun x => x.2 = le p 0 6) = false := by simpa using hnew
  simp [bodyMacFilterAdd, hmulti, hfree, hi, isOwner, ho, hp, hm, b2n, checked]

theorem bodyMacFilterAdd_of_multicast {pt : Nat} (hpt : (getFn s F).part = some pt) (hp : le p 6 1 = 0xFF)
    (hm : le p 0 6 % 2 = 1) (hnew : ∀ e ∈ s.eth.mcast, e.2.1 ≠ le p 0 6)
    (hi : lowestFree (Tab.keys s.eth.mcast) 0 1024 = some i) :
    bodyMacFilterAdd F p d s = .ok (toLe 2 i ++ zeros 6) 0
      { s with eth := { s.eth with mcast := Tab.set s.eth.mcast i (le p 0 6, pt) } } := by
  have hfree : (s.eth.mcast.any fun x => x.2.1 = le p 0 6) = false := by simpa using hnew
  simp [bodyMacFilterAdd, hp, hfree, hi, hpt, hm, b2n, checked]

theorem bodyMacFilterRemove_of_present (ho : s.host.owner = F) (hp : le p 2 1 < 8)
    (hf : Tab.has (getPort s (le p 2 1)).filters (le p 0 2) = true) :
    bodyMacFilterRemove F p d s = .ok [] 0 (setPort s (le p 2 1) { getPort s (le p 2 1) with
      filters := Tab.del (getPort s (le p 2 1)).filters (le p 0 2) }) := by
  have hmulti := port_beq_multicast hp
  simp [bodyMacFilterRemove, hmulti, isOwner, ho, hp, hf, checked]

end

/-! ## Local addresses -/

section
variable {s : State} {F : Nat} {p d : Bytes}

theorem bodyAddressAdd_of_free {pt i : Nat} (hpt : resolvePart s (le p 24 4) = some pt)
    (hvlan : le p 0 2 = 0xFFFF ∨ le p 0 2 < 4096) (hlo : 1 ≤ le p 2 2) (hhi : le p 2 2 ≤ le p 4 2)
    (hnew : ∀ e ∈ s.eth.addrs,
      ¬(e.2.vlan = le p 0 2 ∧ e.2.ip = le p 8 16 ∧ e.2.lo ≤ le p 4 2 ∧ le p 2 2 ≤ e.2.hi))
    (hi : lowestFree (Tab.keys s.eth.addrs) 0 1024 = some i) :
    bodyAddressAdd F p d s = .ok (toLe 2 i ++ zeros 6) 0 { s with eth := { s.eth with
      addrs := Tab.set s.eth.addrs i
        { vlan := le p 0 2, ip := le p 8 16, lo := le p 2 2, hi := le p 4 2, part := pt } } } := by
  have hfree : (s.eth.addrs.any fun e => e.2.vlan = le p 0 2 && e.2.ip = le p 8 16 && decide (e.2.lo ≤ le p 4 2)
      && decide (le p 2 2 ≤ e.2.hi)) = false := by
    rw [List.any_eq_false]
    intro e he
    simpa [and_assoc] using hnew e he
  have hv : (le p 0 2 == 0xFFFF || decide (le p 0 2 < 4096)) = true := by simpa using hvlan
  simp [bodyAddressAdd, hpt, hfree, hi, hv, hlo, hhi, checked]

theorem bodyAddressRemove_of_unnamed (hf : Tab.has s.eth.addrs (le p 0 2) = true)
    (hleg : ∀ l ∈ objKeys s 3, legKind s l ≤ 1 → ofldN s l (fk 0x01 2 0) ≠ le p 0 2) :
    bodyAddressRemove F p d s = .ok [] 0 { s with eth := { s.eth with addrs := Tab.del s.eth.addrs (le p 0 2) } } := by
  have hfree : ((objKeys s 3).any fun l => decide (legKind s l ≤ 1) && decide (ofldN s l (fk 0x01 2 0) = le p 0 2))
      = false := by
    simpa using hleg
  simp [bodyAddressRemove, hf, hfree, checked]

end

/-! ## Keys -/

theorem bodyKeyInstall_of_checked {s : State} {F l : Nat} {p d : Bytes} (hr : resolve s F 3 (le p 0 4) = some l)
    (hdir : le p 4 1 < 2) (hslot : le p 5 1 < 2) (h6 : le p 6 1 = 0) (h7 : le p 7 1 = 0)
    {mode : Nat} (hmode : mode = if le p 4 1 = 0 then inMode s l else outMode s l) (hprot : mode ≠ 0)
    (hkey : le p (16 + (keyLens mode).1) (32 - (keyLens mode).1) = 0)
    (hsalt : le p (48 + (keyLens mode).2) (14 - (keyLens mode).2) = 0)
    (hidle : le p 5 1 = 1 ∨ (getObj s l).map (·.state) = some .idle)
    {key : Bytes} (hk : key = (p.drop 16).take (keyLens mode).1 ++ (p.drop 48).take (keyLens mode).2) :
    bodyKeyInstall F p d s = .ok [] 0 (setLeg s l
      (if le p 4 1 = 0 then
        (if le p 5 1 = 0 then { getLeg s l with keyCur := some key } else { getLeg s l with keyNext := some key })
      else if le p 5 1 = 0 then { getLeg s l with outCur := some key }
      else { getLeg s l with outNext := some key, outAt := le p 8 8 })) := by
  have hst : (decide (le p 5 1 = 1) || (getObj s l).map (·.state) == some ObjSt.idle) = true := by simpa using hidle
  simp only [bodyKeyInstall, hr, ← hmode, ← hk]
  refine checked_ok ?_
  simp only [List.mem_cons, List.not_mem_nil, or_false, forall_eq_or_imp, forall_eq]
  exact ⟨by simp [hdir, hslot, h6, h7, hprot, hkey, hsalt], hst⟩

/-! ## The DSCP table -/

/-- The pair of bits at 2d is digit d to base 4. -/
theorem bits_pair (v d : Nat) : bits v (2 * d + 1) (2 * d) = v / 4 ^ d % 4 := by
  rw [bits, pow_mul, show 2 * d + 1 + 1 - 2 * d = 2 by omega]
  rfl

/-- Settles O21: each command is its body served, and each body's checks are the hypotheses. -/
theorem addressesFiltersAndKeys : Obligations.AddressesFiltersAndKeys := by
  unfold Obligations.AddressesFiltersAndKeys
  intro s F src p
  refine ⟨fun i hu ho hp hm hnew hi => ?_, fun i pt hu hpt hp hm hnew hi => ?_, fun hu ho hp hf => ?_,
    fun pt i hu hpt hvlan hlo hhi hnew hi => ?_, fun hu hf hleg => ?_,
    fun l hu hr hdir hslot h6 h7 => ?_, fun hu => ⟨_, ?_, fun d hd => ?_, serve_ok hu rfl⟩⟩
  · exact serve_ok hu (bodyMacFilterAdd_of_unicast ho hp hm hnew hi)
  · exact serve_ok hu (bodyMacFilterAdd_of_multicast hpt hp hm hnew hi)
  · exact serve_ok hu (bodyMacFilterRemove_of_present ho hp hf)
  · exact serve_ok hu (bodyAddressAdd_of_free hpt hvlan hlo hhi hnew hi)
  · exact serve_ok hu (bodyAddressRemove_of_unnamed hf hleg)
  · intro mode n hprot hkey hsalt hidle key
    exact serve_ok hu (bodyKeyInstall_of_checked hr hdir hslot h6 h7 rfl hprot hkey hsalt hidle rfl)
  · simp
  · rw [List.getElem?_map, List.getElem?_range hd, Option.map_some, bits_pair]

end Sys2Proof.Proofs
end

section
/-!
PROOFS. The receive direction of chapter 3: what the FIFO behind a held packet takes (R621), and where a frame leaves the order
of Table 3-2, one lemma for each exit that the statement on reception names.
-/

namespace Sys2Proof.Proofs

open Sys2Proof Sys2Proof.Machine Sys2Proof.Laws

/-! ## Arrival at a port -/

/-- A frame as port `p` receives it now, with its stamp and epoch (R86, R87). -/
def arriving (s : State) (p : Nat) (ok : Bool) (b : Bytes) (x : FrameX) : RxFrame :=
  { fcsOk := ok, bytes := b, x := x, phc := rxStamp s p, epoch := s.time.epoch }

/-- The stamp of a frame that arrives now is of the epoch in force. -/
theorem stampMt_arriving (s : State) (p : Nat) (ok : Bool) (b : Bytes) (x : FrameX) :
    ∃ mt, stampMt s (arriving s p ok b x) = some mt := ⟨_, if_pos rfl⟩

section
variable {s : State} {p : Nat} (ok : Bool) {b : Bytes} (x : FrameX)
variable (hs : halted s = false) (hp : p < 8) (hn : p < nPorts s) (hup : (getPort s p).up = true)
include hs hp hn hup

theorem exec_ethFrameReceive_of_free (hh : (getPort s p).held = none) :
    exec (.ethFrameReceive p ok b x) s = .next (keep s (classify p (arriving s p ok b x) s)) := by
  change execEthFrameReceive p ok b x s = _
  rw [execEthFrameReceive, onPart_run (decide_eq_true hp) hs]
  simp [hup, hn, hh, arriving]

/-- Behind a held packet the FIFO takes the frame or drops it. -/
theorem exec_ethFrameReceive_of_held (hh : (getPort s p).held.isSome = true) :
    exec (.ethFrameReceive p ok b x) s = .next (keep s
      (if 262144 < fifoBytes (getPort s p) + b.length then bumpPort s p .rxFifoDrop
        else fifoSync p (setPort s p { getPort s p with fifo := (getPort s p).fifo ++ [arriving s p ok b x] }))) := by
  change execEthFrameReceive p ok b x s = _
  have hheld : (getPort s p).held.isNone = false := by simpa [Option.isSome_iff_ne_none] using hh
  rw [execEthFrameReceive, onPart_run (decide_eq_true hp) hs]
  simp [hup, hn, hheld, arriving]

end

/-! ## Steps 1 to 9: length, FCS, destination -/

section
variable {s : State} {p : Nat} {f : RxFrame}

theorem classify_of_runt (h : f.bytes.length + 4 < 64) : classify p f s = bumpPort s p .rxRunt := if_pos h

section
variable (hmin : 64 ≤ f.bytes.length + 4)
include hmin

theorem classify_of_oversize
    (h : fldN (getPort s p).fields (fk 0x12 1 0) + 4 * countTags f.bytes 12 8 < f.bytes.length + 4) :
    classify p f s = bumpPort s p .rxOversize := by
  rw [classify, if_neg hmin.not_gt, if_pos h]

section
variable (hmax : f.bytes.length + 4 ≤ fldN (getPort s p).fields (fk 0x12 1 0) + 4 * countTags f.bytes 12 8)
include hmax

theorem classify_of_wrong_fcs (h : f.fcsOk = false) : classify p f s = bumpPort s p .rxFcsErr := by
  simp [classify, hmin.not_gt, hmax.not_gt, h]

theorem classify_of_filtered (hok : f.fcsOk = true) (h : macOk s p (le f.bytes 0 6) = false) :
    classify p f s = bumpPort s p .rxMacFiltered := by
  simp [classify, hmin.not_gt, hmax.not_gt, hok, h]

theorem classify_of_udp (hok : f.fcsOk = true) (hmac : macOk s p (le f.bytes 0 6) = true) {mt : Nat}
    (hmt : stampMt s f = some mt) {u : UdpIn} (hu : classifyFrame f.bytes = .udp u) :
    classify p f s = udpIn p f mt u s := by
  simp [classify, hmin.not_gt, hmax.not_gt, hok, hmac, hmt, hu]

end
end
end

/-! ## Steps 10 to 12: the address table and the first bytes of the payload -/

section
variable {s : State} {p mt : Nat} {f : RxFrame} {u : UdpIn}

theorem udpIn_of_no_entry (h : addrFor s u.vlan u.dst u.dport = none) :
    udpIn p f mt u s = exceptOwner p 0x0B u.vlan f f.bytes s := by
  simp [udpIn, h]

section
variable {ai : Nat} {a : Addr} (ha : addrFor s u.vlan u.dst u.dport = some (ai, a)) (hpay : u.pay ≠ [])
include ha hpay

theorem udpIn_of_stun (h : be u.pay 0 1 ≤ 3) : udpIn p f mt u s = exceptTo a.part p 0x02 u.vlan f f.bytes s := by
  simp [udpIn, ha, hpay, h]

theorem udpIn_of_dtls (hlo : 20 ≤ be u.pay 0 1) (hhi : be u.pay 0 1 ≤ 63) :
    udpIn p f mt u s = exceptTo a.part p 0x03 u.vlan f f.bytes s := by
  have hstun : ¬be u.pay 0 1 ≤ 3 := by omega
  simp [udpIn, ha, hpay, hstun, hlo, hhi]

theorem udpIn_of_rtp (hlo : 128 ≤ be u.pay 0 1) (hhi : be u.pay 0 1 ≤ 191)
    (hrtcp : ¬(192 ≤ be u.pay 1 1 ∧ be u.pay 1 1 ≤ 223)) {h : RtpIn} (hh : parseRtp u.pay = some h) :
    udpIn p f mt u s = rtpIn p ai a.part f mt u h s := by
  have hstun : ¬be u.pay 0 1 ≤ 3 := by omega
  have hdtls : ¬(20 ≤ be u.pay 0 1 ∧ be u.pay 0 1 ≤ 63) := by omega
  have hother : ¬(be u.pay 0 1 < 128 ∨ 191 < be u.pay 0 1) := by omega
  simp only [udpIn, ha, List.isEmpty_iff, hpay, hstun, hdtls, hother, hrtcp, if_false, hh]

end

/-! ## Steps 14 and 15: the stream and its leg's keys -/

variable {ai pt : Nat} {h : RtpIn}

theorem rtpIn_of_no_stream (hx : lookupRtp s (legsFor s ai pt u) h = none) :
    rtpIn p ai pt f mt u h s = exceptTo pt p 0x01 u.vlan f f.bytes s := by
  simp [rtpIn, hx]

/-- A tag that verifies under no key fails on every leg that authenticates. -/
theorem srtpAuth_none {l : Nat} (hm : inMode s l ≠ 0) : srtpAuth l none s = (false, s) := if_neg hm

theorem rtpIn_of_no_key {y : Nat} (hx : lookupRtp s (legsFor s ai pt u) h = some y) (hy : isActive s y = true)
    (hl : isActive s (legOfStream s y) = true) (hm : inMode s (legOfStream s y) ≠ 0) (hk : f.x.key = none) :
    rtpIn p ai pt f mt u h s = bumpObj s (legOfStream s y) .rxAuthFail := by
  simp [rtpIn, hx, hy, hl, hk, srtpAuth_none hm]

end

/-- Settles O18: a held packet sends the frame to the FIFO; otherwise the frame is classified, and each case is one exit of the
order of Table 3-2. -/
theorem frameReception : Obligations.FrameReception := by
  unfold Obligations.FrameReception
  intro s p ok b x hs hp hn hup e n f max_ c
  have hfifo := exec_ethFrameReceive_of_held ok (b := b) x hs hp hn hup
  refine ⟨fun hh hfull => ?_, fun hh hroom => ?_, fun hh => ?_⟩
  · rw [hfifo hh, if_pos hfull]
  · rw [hfifo hh, if_neg hroom.not_gt]
    rfl
  obtain ⟨mt, hmt⟩ := stampMt_arriving s p ok b x
  have hexec {t : State} (h : classify p f s = t) : exec c s = .next (keep s t) :=
    h ▸ exec_ethFrameReceive_of_free ok x hs hp hn hup hh
  refine ⟨fun hlt => hexec (classify_of_runt hlt), fun hmin h => hexec (classify_of_oversize hmin h),
    fun hmin hmax h => hexec (classify_of_wrong_fcs hmin hmax h),
    fun hmin hmax hok h => hexec (classify_of_filtered hmin hmax hok h), fun u hmin hmax hok hmac hu => ?_⟩
  have hudp {t : State} (h : udpIn p f mt u s = t) : exec c s = .next (keep s t) :=
    hexec ((classify_of_udp hmin hmax hok hmac hmt hu).trans h)
  refine ⟨fun hnone => hudp (udpIn_of_no_entry hnone), fun ai a ha hpay => ⟨fun h => hudp (udpIn_of_stun ha hpay h),
    fun hlo hhi => hudp (udpIn_of_dtls ha hpay hlo hhi), fun h hlo hhi hrtcp hh => ?_⟩⟩
  have hrtp := udpIn_of_rtp (p := p) (f := f) (mt := mt) ha hpay hlo hhi hrtcp hh
  exact ⟨fun hx => hudp (hrtp.trans (rtpIn_of_no_stream hx)),
    fun y hx hy hl hm hk => hudp (hrtp.trans (rtpIn_of_no_key hx hy hl hm hk))⟩

end Sys2Proof.Proofs
end

section
/-!
PROOFS. The leg governor (chapter 4): the bounds of the increase step, of a loss evaluation and of the target rate, the budget of
the up-steps of allocation (R227, R231, R232, R243), and what the governor commands answer when their checks pass (R238, R258).
-/

namespace Sys2Proof.Proofs

open Sys2Proof Sys2Proof.Machine Sys2Proof.Laws

/-! ## The governor of a leg -/

@[simp] theorem getGov_setGov_same (s : State) (l : Nat) (g : Gov) : getGov (setGov s l g) l = g := by
  simp [getGov, setGov]

@[simp] theorem getGov_bumpObj (s : State) (l k : Nat) (c : Ctr) (n : Nat) : getGov (bumpObj s k c n) l = getGov s l := rfl

/-! ## Estimators and the target rate -/

theorem increaseStep_of_not_underuse {s : State} {l : Nat} (h : (getGov s l).dstate ≠ 2) : increaseStep l s = s := if_pos h

/-- In UNDERUSE, A_d takes some step up, held at the cap of R227, and nothing else of the governor changes. -/
theorem getGov_increaseStep_of_underuse {s : State} {l : Nat} (h : (getGov s l).dstate = 2) :
    ∃ step, getGov (increaseStep l s) l = { getGov s l with
      aD := max (getGov s l).aD (min ((getGov s l).aD + step) (3 * rAcked s l / 2 + 64000)) } := by
  simp only [increaseStep, h, ne_eq, not_true_eq_false, if_false, getGov_setGov_same]
  exact ⟨_, rfl⟩

/-- A loss evaluation notes L, smooths it, and cuts A_l above the upper threshold or raises it below the lower one (R231). -/
theorem getGov_lossStep (s : State) (l n d : Nat) :
    ∃ q, getGov (lossStep l n d s) l = { getGov s l with
      lossN := n, lossD := d, ls := q
      aL := if gprm s l 13 * d < 1000 * n then max (gprm s l 2) ((getGov s l).aL * (2 * d - n) / (2 * d))
        else if 1000 * n < gprm s l 12 * d then min (gprm s l 3) ((getGov s l).aL + (getGov s l).aL / 20)
        else (getGov s l).aL } := by
  unfold lossStep
  split_ifs <;> exact ⟨_, getGov_setGov_same ..⟩

theorem targetRate_of_trunk {s : State} {l : Nat} (h : legKind s l = 1) : targetRate s l = gprm s l 3 := if_pos h

/-- Except on a trunk leg, A is A_MIN or a rate that A_MAX bounds, whichever is more (R232). -/
theorem targetRate_of_not_trunk {s : State} {l : Nat} (h : legKind s l ≠ 1) :
    ∃ v, v ≤ gprm s l 3 ∧ targetRate s l = max (gprm s l 2) v := by
  simp only [targetRate, h, if_false]
  refine ⟨_, ?_, rfl⟩
  have hv : (if ccMode s l then min (min (getGov s l).aL (gprm s l 3)) (getGov s l).aD
      else min (getGov s l).aL (gprm s l 3)) ≤ gprm s l 3 := by
    split_ifs <;> omega
  cases aRemb s l with
  | none => exact hv
  | some r => exact (min_le_left _ r).trans hv

/-! ## The up-steps of allocation -/

/-- The rate that an entry's selection takes. -/
def rateChosen (a : Alloc) : Int := ((a.sel.map a.rate).getD 0 : Nat)

/-- The rates that all selections take. -/
def rateTotal (as : List Alloc) : Int := (as.map rateChosen).sum

/-- The entry of stream `x` selects position `j`. -/
def raiseTo (x j : Nat) (as : List Alloc) : List Alloc := as.map fun c => if c.x = x then { c with sel := some j } else c

theorem ne_of_not_mem_map_x {x : Nat} {c : Alloc} {as : List Alloc} (h : x ∉ as.map (·.x)) (hc : c ∈ as) : c.x ≠ x :=
  fun he => h (List.mem_map.2 ⟨c, hc, he⟩)

theorem map_x_raiseTo (x j : Nat) (as : List Alloc) : (raiseTo x j as).map (·.x) = as.map (·.x) := by
  simp only [raiseTo, List.map_map]
  refine List.map_congr_left fun c _ => ?_
  simp only [Function.comp_apply]
  split <;> rfl

theorem raiseTo_of_not_mem {x : Nat} (j : Nat) {as : List Alloc} (h : x ∉ as.map (·.x)) : raiseTo x j as = as :=
  (List.map_congr_left fun _ hc => if_neg (ne_of_not_mem_map_x h hc)).trans (List.map_id as)

/-- With distinct subscriptions, one new selection moves the total by that entry's rates. -/
theorem rateTotal_raiseTo (j : Nat) {a : Alloc} {as : List Alloc} (ha : a ∈ as) (hnd : (as.map (·.x)).Nodup) :
    rateTotal (raiseTo a.x j as) = rateTotal as + (a.rate j - rateChosen a) := by
  induction as with
  | nil => cases ha
  | cons c t ih =>
    obtain ⟨hc, ht⟩ := List.nodup_cons.1 hnd
    have hcons : rateTotal (raiseTo a.x j (c :: t))
        = rateChosen (if c.x = a.x then { c with sel := some j } else c) + rateTotal (raiseTo a.x j t) := rfl
    have hold : rateTotal (c :: t) = rateChosen c + rateTotal t := rfl
    rw [hcons, hold]
    rcases List.mem_cons.1 ha with rfl | hmem
    · have hnew : rateChosen { a with sel := some j } = a.rate j := rfl
      rw [if_pos rfl, raiseTo_of_not_mem j hc, hnew]
      omega
    · rw [if_neg (ne_of_not_mem_map_x hc hmem).symm, ih hmem ht]
      omega

/-- What an up-step needs covers the rise of the rate, when UP_MARGIN is at least 64 (in 1/64). -/
theorem rise_le_upNeed {now_ hold margin : Nat} {a : Alloc} {n : Int} (hm : 64 ≤ margin)
    (h : upNeed now_ hold margin a = some n) : ∃ i, a.sel = some i ∧ (a.rate (i + 1) : Int) - a.rate i ≤ n := by
  unfold upNeed at h
  cases hs : a.sel with
  | none => simp [hs] at h
  | some i =>
    refine ⟨i, rfl, ?_⟩
    have hmargin : a.rate (i + 1) ≤ a.rate (i + 1) * margin / 64 :=
      (Nat.le_div_iff_mul_le (by decide)).2 (Nat.mul_le_mul_left _ hm)
    simp only [hs] at h
    generalize a.rate (i + 1) * margin / 64 = need at h hmargin
    split_ifs at h <;> cases h <;> omega

/-- The loop ends, or one entry whose need the budget covers climbs by one position. -/
theorem allocUp_succ_cases (now_ hold margin fuel : Nat) (b : Int) (as : List Alloc) :
    allocUp now_ hold margin (fuel + 1) (b, as) = (b, as) ∨
    ∃ a ∈ as, ∃ n, upNeed now_ hold margin a = some n ∧ n ≤ b ∧
      allocUp now_ hold margin (fuel + 1) (b, as) = allocUp now_ hold margin fuel
        (b - ((a.rate (a.sel.getD 0 + 1) : Int) - a.rate (a.sel.getD 0)), raiseTo a.x (a.sel.getD 0 + 1) as) := by
  simp only [allocUp]
  split
  case h_1 => exact .inl rfl
  case h_2 a hfind =>
    obtain ⟨hmem, hneed⟩ := List.mem_filter.1 (List.mem_of_find?_eq_some hfind)
    cases hn : upNeed now_ hold margin a with
    | none => simp [hn] at hneed
    | some n => exact .inr ⟨a, hmem, n, hn, by simpa [hn] using hneed, rfl⟩

theorem allocUp_keeps_budget (now_ hold fuel : Nat) {margin : Nat} (hm : 64 ≤ margin) {b : Int} {as : List Alloc} (hb : 0 ≤ b)
    (hnd : (as.map (·.x)).Nodup) :
    let r := allocUp now_ hold margin fuel (b, as)
    0 ≤ r.1 ∧ r.1 + rateTotal r.2 = b + rateTotal as ∧ r.2.map (·.x) = as.map (·.x) := by
  induction fuel generalizing b as with
  | zero => exact ⟨hb, rfl, rfl⟩
  | succ fuel ih =>
    rcases allocUp_succ_cases now_ hold margin fuel b as with hstop | ⟨a, ha, n, hn, hnb, hstep⟩
    · rw [hstop]
      exact ⟨hb, rfl, rfl⟩
    · obtain ⟨i, hsel, hrise⟩ := rise_le_upNeed hm hn
      simp only [hsel, Option.getD_some] at hstep
      have hchosen : rateChosen a = a.rate i := by simp [rateChosen, hsel]
      obtain ⟨hleft, hsum, hx⟩ := ih (b := b - ((a.rate (i + 1) : Int) - a.rate i)) (as := raiseTo a.x (i + 1) as)
        (by omega) ((map_x_raiseTo ..).symm ▸ hnd)
      rw [hstep]
      refine ⟨hleft, hsum.trans ?_, hx.trans (map_x_raiseTo ..)⟩
      rw [rateTotal_raiseTo _ ha hnd, hchosen]
      omega

/-- Settles O22: the estimators by their one equation each, the up-steps by induction on the fuel of their loop. -/
theorem ratesAndAllocationWithinBounds : Obligations.RatesAndAllocationWithinBounds := by
  unfold Obligations.RatesAndAllocationWithinBounds
  refine ⟨fun s l => ?_, fun s l n d _ _ => ?_, fun s l => ?_, fun now_ hold margin fuel b as hm hb hnd =>
    allocUp_keeps_budget now_ hold fuel hm hb hnd⟩
  · by_cases h : (getGov s l).dstate = 2
    · obtain ⟨step, hg⟩ := getGov_increaseStep_of_underuse h
      simp only [hg]
      exact ⟨le_max_left .., max_le_max_left _ (min_le_right ..), fun hne => absurd h hne, trivial⟩
    · simp [increaseStep_of_not_underuse h]
  · obtain ⟨q, hg⟩ := getGov_lossStep s l n d
    simp only [hg]
    exact ⟨trivial, trivial, trivial, fun hcut => if_pos hcut, fun hno hraise => by rw [if_neg hno.not_gt, if_pos hraise],
      fun hno hhold => by rw [if_neg hno.not_gt, if_neg hhold.not_gt]⟩
  · by_cases h : legKind s l = 1
    · rw [targetRate_of_trunk h]
      exact ⟨le_max_right .., fun hne => absurd h hne⟩
    · obtain ⟨v, hv, hA⟩ := targetRate_of_not_trunk h
      rw [hA]
      exact ⟨max_le_max_left _ hv, fun _ => le_max_left ..⟩

/-! ## The governor commands -/

theorem bodyGovernorConfig_of_checked {s : State} {F k ty : Nat} {p d : Bytes} {o : Obj} (ho : getObj s k = some o)
    (hty : ty = hType (le p 0 4)) (hrow : ty = 3 ∨ ty = 4 ∨ ty = 7) (hr : resolve s F ty (le p 0 4) = some k)
    (hin : ty = 4 → isOut s k = false)
    (hent : lowest (entryChecks (entries p 8 (le p 6 2)) fun e => fTable e = 0x02 && govRowOk ty (fRow e)) = none)
    (hcons : ty = 3 → govConsistent (applyEntries o.fields (entries p 8 (le p 6 2))) = true) :
    bodyGovernorConfig F p d s = .ok [] 0 (setObjs s (Tab.set s.obj.objs k
      { o with fields := applyEntries o.fields (entries p 8 (le p 6 2)) })) := by
  have hdir : (ty ≠ 4 || !(isOut s k)) = true := by simpa [or_iff_not_imp_left] using hin
  have hleg : (ty ≠ 3 || govConsistent (applyEntries o.fields (entries p 8 (le p 6 2)))) = true := by
    simpa [or_iff_not_imp_left] using hcons
  simp only [bodyGovernorConfig, ← hty, if_pos hrow, hr, ho, Option.map_some, Option.getD_some, hdir, hleg]
  rw [checked_of_lowest ((lowest_append ..).2 ⟨hent, rfl⟩), updObj_of_getObj _ ho]

theorem bodyGovernorRead_of_leg {s : State} {F l : Nat} {p d : Bytes} (hr : resolve s F 3 (le p 0 4) = some l) :
    bodyGovernorRead F p d s = .ok (if (getGov s l).snap = [] then snapReset else (getGov s l).snap) 0 s := by
  simp [bodyGovernorRead, hr]

/-- Settles O24: each command is its body served, and each body's checks are the hypotheses. -/
theorem governorCommands : Obligations.GovernorCommands := by
  unfold Obligations.GovernorCommands
  intro s F k src p o ho
  refine ⟨fun ty hu hty hrow hr hin => ?_, fun hu hr => ?_⟩
  · intro es fs hent hcons
    exact serve_ok hu (bodyGovernorConfig_of_checked ho hty hrow hr hin hent hcons)
  · exact serve_ok hu (bodyGovernorRead_of_leg hr)

end Sys2Proof.Proofs
end

section
/-!
PROOFS. Composition on samples and on line buffers (chapter 6): the range of a composed sample (R328, R330), and which layers
R326 takes out.
-/

namespace Sys2Proof.Proofs

open Sys2Proof Sys2Proof.Machine Sys2Proof.Laws

/-! ## Samples -/

/-- A blend of two samples weighs them with 256 parts in all, so it does not leave their range (R328). -/
theorem blendInlay_le {a s d m : Nat} (ha : a ≤ 256) (hs : s ≤ m) (hd : d ≤ m) : blendInlay a s d ≤ m := by
  have hweights : a * s + (256 - a) * d ≤ 256 * m := calc
    a * s + (256 - a) * d ≤ a * m + (256 - a) * m := by gcongr
    _ = 256 * m := by rw [← Nat.add_mul, Nat.add_sub_cancel' ha]
  rw [blendInlay]
  omega

@[simp] theorem blendInlay_opaque (s d : Nat) : blendInlay 256 s d = s := by
  rw [blendInlay]
  omega

@[simp] theorem blendInlay_transparent (s d : Nat) : blendInlay 0 s d = d := by
  rw [blendInlay]
  omega

/-- Blending layer upon layer keeps the range of the background and of the layers. -/
theorem inlayAt_le {vs : List LayerView} {bg : Nat → Nat} {m : Nat} (c x y : Nat) (hbg : bg c ≤ m)
    (hvs : ∀ v ∈ vs, v.la ≤ 256 ∧ ∀ c x y, v.smp c x y ≤ m) : inlayAt vs bg c x y ≤ m := by
  refine List.foldlRecOn vs _ (motive := (· ≤ m)) hbg fun d hd v hv => ?_
  obtain ⟨hla, hsmp⟩ := hvs v hv
  cases hit : v.hit c x y with
  | none => simpa [hit] using hd
  | some o => simpa [hit] using blendInlay_le hla (hsmp c o.1 o.2) hd

/-- The stored sample is clipped to its depth, but for a 10-bit Inlay sample, which is stored as it is. -/
theorem storeSample_lt {marq : Bool} {depth v : Nat} (hdepth : depth = 8 ∨ depth = 10) (hv : marq = false → v ≤ 1023) :
    storeSample marq depth v < 2 ^ depth := by
  cases marq with
  | true => rcases hdepth with rfl | rfl <;> norm_num [storeSample]
  | false =>
    have hrange := hv rfl
    rcases hdepth with rfl | rfl
    · norm_num [storeSample]
    · simpa [storeSample] using Nat.lt_succ_of_le hrange

theorem composed_lt {vs : List LayerView} {bg : Nat → Nat} {depth : Nat} (marq : Bool) (c x y : Nat)
    (hdepth : depth = 8 ∨ depth = 10) (hbg : bg c ≤ 1023)
    (hvs : ∀ v ∈ vs, v.la ≤ 256 ∧ ∀ c x y, v.smp c x y ≤ 1023) : composed marq depth vs bg c x y < 2 ^ depth := by
  refine storeSample_lt hdepth ?_
  rintro rfl
  exact inlayAt_le c x y hbg hvs

/-! ## Layers taken out (R326) -/

/-- The layers that stay when the layers of `ks` are taken out. -/
def without (ks : List Nat) (vs : List SpanIn) : List SpanIn := vs.filter fun v => v.k ∉ ks

@[simp] theorem without_nil (vs : List SpanIn) : without [] vs = vs := by simp [without]

theorem without_cons (k : Nat) (ks : List Nat) (vs : List SpanIn) :
    without (k :: ks) vs = without ks (vs.filter fun v => v.k ≠ k) := by
  simp only [without, List.filter_filter, List.mem_cons, not_or]
  congr 1
  funext v
  simp [Bool.and_comm]

section
variable (marq : Bool) (w : Nat)

theorem shed_cons_of_fits {k : Nat} {ks : List Nat} {vs : List SpanIn} (h : fits marq w vs = true) :
    shed marq w (k :: ks) vs = [] := if_pos h

theorem shed_cons_of_not_fits {k : Nat} {ks : List Nat} {vs : List SpanIn} (h : fits marq w vs = false) :
    shed marq w (k :: ks) vs = k :: shed marq w ks (vs.filter fun v => v.k ≠ k) := if_neg (by simp [h])

theorem shed_prefix (ks : List Nat) (vs : List SpanIn) : shed marq w ks vs <+: ks := by
  induction ks generalizing vs with
  | nil => exact List.prefix_refl _
  | cons k ks ih =>
    cases h : fits marq w vs with
    | true => simp [shed_cons_of_fits marq w h]
    | false => simpa [shed_cons_of_not_fits marq w h] using ih _

theorem shed_all_or_rest_fits (ks : List Nat) (vs : List SpanIn) :
    shed marq w ks vs = ks ∨ fits marq w (without (shed marq w ks vs) vs) = true := by
  induction ks generalizing vs with
  | nil => exact .inl rfl
  | cons k ks ih =>
    cases h : fits marq w vs with
    | true => exact .inr (by rwa [shed_cons_of_fits marq w h, without_nil])
    | false =>
      rw [shed_cons_of_not_fits marq w h, without_cons, List.cons.injEq]
      exact (ih _).imp_left fun hall => ⟨rfl, hall⟩

/-- Fewer layers taken out leave a rest that does not fit. -/
theorem not_fits_of_fewer (ks : List Nat) (vs : List SpanIn) {m : Nat} (hm : m < (shed marq w ks vs).length) :
    fits marq w (without ((shed marq w ks vs).take m) vs) = false := by
  induction ks generalizing vs m with
  | nil => simp [shed] at hm
  | cons k ks ih =>
    cases h : fits marq w vs with
    | true => simp [shed_cons_of_fits marq w h] at hm
    | false =>
      rw [shed_cons_of_not_fits marq w h] at hm ⊢
      cases m with
      | zero => simpa using h
      | succ m =>
        rw [List.take_succ_cons, without_cons]
        exact ih _ (Nat.lt_of_succ_lt_succ hm)

end

/-- Settles O26: a blend keeps the range, and `shed` stops at the first rest that fits. -/
theorem picturesStayInRange : Obligations.PicturesStayInRange := by
  unfold Obligations.PicturesStayInRange
  refine ⟨fun vs bg depth c x y hdepth hbg hvs => ?_, fun a b => ?_, fun marq w ks vs => ?_⟩
  · exact ⟨composed_lt false c x y hdepth (hbg c) hvs, composed_lt true c x y hdepth (hbg c) hvs⟩
  · exact ⟨blendInlay_opaque a b, blendInlay_transparent a b⟩
  · exact ⟨List.prefix_iff_eq_take.1 (shed_prefix marq w ks vs), shed_all_or_rest_fits marq w ks vs,
      fun _ => not_fits_of_fewer marq w ks vs⟩

end Sys2Proof.Proofs
end

section
/-!
PROOFS. The events of composition and of the display (chapter 6): what a readiness check leaves of layers and layouts (R332 to
R335), the start of a fixed composition (R341, R343), the sink's comings and goings (R353) and the VSYNC (R349 to R351).
-/

namespace Sys2Proof.Proofs

open Sys2Proof Sys2Proof.Machine Sys2Proof.Laws

/-! ## The readiness check -/

/-- What a readiness check leaves: the layouts, and of each layer the content, the descriptor in force and the stale run. -/
def onShow (s : State) : Tab LayoutDyn × (Nat → Option Shown × Nat × Nat) :=
  (s.obj.layouts, fun z => ((getLayer s z).cur, (getLayer s z).desc, (getLayer s z).stale))

theorem getLayout_of_onShow {s t : State} (h : onShow t = onShow s) (y : Nat) : getLayout t y = getLayout s y :=
  congrArg (fun v : Tab LayoutDyn => Tab.getD v y {}) (congrArg Prod.fst h)

theorem onShow_layer {s t : State} (h : onShow t = onShow s) (z : Nat) :
    (getLayer t z).cur = (getLayer s z).cur ∧ (getLayer t z).desc = (getLayer s z).desc ∧
      (getLayer t z).stale = (getLayer s z).stale := by
  simpa [onShow] using congrFun (congrArg Prod.snd h) z

@[simp] theorem onShow_emitObj (s : State) (k typ : Nat) (pay : Bytes) : onShow (emitObj s k typ pay) = onShow s := by
  obtain ⟨t, h⟩ := emitObj_frame s k typ pay
  rw [h]
  rfl

/-- A layer replaced by one with the same content, descriptor and stale run. -/
theorem onShow_setLayer {s : State} {k : Nat} {l : LayerDyn} (hcur : l.cur = (getLayer s k).cur)
    (hdesc : l.desc = (getLayer s k).desc) (hstale : l.stale = (getLayer s k).stale) : onShow (setLayer s k l) = onShow s := by
  refine Prod.ext rfl (funext fun z => ?_)
  by_cases h : k = z
  · subst h
    simp [onShow, hcur, hdesc, hstale]
  · simp [onShow, getLayer_setLayer_other s l h]

theorem onShow_latchPend (x k : Nat) (s : State) : onShow (latchPend x k s) = onShow s := rfl

theorem onShow_latchDesc (s : State) (k : Nat) : onShow (latchDesc s k) = onShow s := by
  unfold latchDesc
  split
  · rfl
  · split
    · exact onShow_setLayer rfl rfl rfl
    · rfl

theorem onShow_untake (s : State) (k : Nat) : onShow (untake s k) = onShow s := by
  unfold untake
  dsimp only
  split
  · rfl
  · exact onShow_setLayer rfl rfl rfl

theorem onShow_planLayer (s : State) (k : Nat) (hold : Bool) : onShow (planLayer s k hold) = onShow s := by
  unfold planLayer
  exact ite_elim (P := fun l => onShow (setLayer s k l) = onShow s) (onShow_setLayer rfl rfl rfl) (onShow_setLayer rfl rfl rfl)

theorem onShow_planSpans (y : Nat) (s : State) : onShow (planSpans y s) = onShow s := by
  unfold planSpans
  refine foldl_unchanged (fun s v => ?_) _ s
  refine ite_elim (P := fun t => onShow t = onShow s) ?_ (onShow_setLayer rfl rfl rfl)
  rw [onShow_emitObj]
  exact onShow_setLayer rfl rfl rfl

/-- A readiness check plans for every layer, changes nothing shown, and marks the layout checked. -/
theorem readiness_frame (y k x : Nat) (s : State) :
    ∃ u, onShow u = onShow s ∧ readiness y k x s = setLayout u y { getLayout s y with checked := some k } := by
  set s1 := (kids s 6 y).foldl (fun s o => latchPend x o s) s
  set s2 := (kids s 6 y).foldl untake ((kids s 6 y).foldl latchDesc s1)
  set s3 := (checkLayers s2 y).foldl (fun s k => planLayer s k (groupLate s2 y (dGlue (descOf s2 k)))) s2
  have hs3 : onShow s3 = onShow s := calc
    onShow s3 = onShow s2 := foldl_unchanged (fun s k => onShow_planLayer s k _) _ _
    _ = onShow ((kids s 6 y).foldl latchDesc s1) := foldl_unchanged onShow_untake _ _
    _ = onShow s1 := foldl_unchanged onShow_latchDesc _ _
    _ = onShow s := foldl_unchanged (fun s o => onShow_latchPend x o s) _ _
  refine ⟨planSpans y s3, (onShow_planSpans y s3).trans hs3, ?_⟩
  rw [← getLayout_of_onShow hs3 y]
  rfl

/-! ## The start of a fixed composition -/

@[simp] theorem getLayout_emitObj (s : State) (k typ : Nat) (pay : Bytes) (y : Nat) :
    getLayout (emitObj s k typ pay) y = getLayout s y := by simp [getLayout]

@[simp] theorem getLayout_bumpObj (s : State) (k : Nat) (c : Ctr) (n y : Nat) :
    getLayout (bumpObj s k c n) y = getLayout s y := rfl

/-- Counting bad tiles leaves the video part, and what the layout last composed. -/
theorem countPoison_frame (y : Nat) (s : State) :
    (countPoison y s).vid = s.vid ∧ (getLayout (countPoison y s) y).out = (getLayout s y).out := by
  refine Prod.mk.inj (foldl_unchanged (π := fun s => (s.vid, (getLayout s y).out)) (fun s k => ?_) _ s)
  refine ite_elim (P := fun t => (t.vid, (getLayout t y).out) = (s.vid, (getLayout s y).out)) rfl ?_
  refine ite_elim (P := fun t => (t.vid, (getLayout t y).out) = (s.vid, (getLayout s y).out)) ?_ ?_ <;> simp

theorem startComp_of_due {y : Nat} {s : State} {j : CompJob} (hj : (getLayout s y).due = some j) :
    ∃ u l, startComp y s = setLayout u y l ∧ u.vid.comps = Tab.set s.vid.comps (compIdx s y) y ∧
      l.run = some j ∧ l.due = none ∧ l.bands = 0 ∧ l.out = (getLayout s y).out := by
  obtain ⟨hvid, hout⟩ := countPoison_frame y { s with vid := { s.vid with comps := Tab.set s.vid.comps (compIdx s y) y } }
  simp only [startComp, hj]
  exact ⟨_, _, rfl, congrArg (·.comps) hvid, rfl, rfl, rfl, hout⟩

/-! ## The display -/

theorem linkEvent_disp (s : State) : (linkEvent s).vid.disp = s.vid.disp := by simp [linkEvent]

@[simp] theorem disp_updDisp (s : State) (f : Disp → Disp) : (updDisp s f).vid.disp = f s.vid.disp := rfl

@[simp] theorem vid_emit_if (c : Prop) [Decidable c] (d : Dest) (typ h : Nat) (pay : Bytes) (s : State) :
    (if c then emit d typ h pay s else s).vid = s.vid :=
  ite_elim (P := fun t : State => t.vid = s.vid) (emit_vid ..) rfl

@[simp] theorem getLayout_emit_if (c : Prop) [Decidable c] (d : Dest) (typ h : Nat) (pay : Bytes) (s : State) (y : Nat) :
    getLayout (if c then emit d typ h pay s else s) y = getLayout s y :=
  ite_elim (P := fun t => getLayout t y = getLayout s y) (by simp [getLayout]) rfl

@[simp] theorem getLayout_updDisp (s : State) (f : Disp → Disp) (y : Nat) : getLayout (updDisp s f) y = getLayout s y := rfl

/-- The display after a VSYNC edge `e` ns off its instant, before it takes a picture (R349, R350). -/
def edged (d : Disp) (e adj : Int) (locked : Bool) : Disp := { d with
  err := e
  adj := adj
  good := if e.natAbs ≤ 1000 then min 16 (d.good + 1) else 0
  bad := if e.natAbs ≤ 1000 then 0 else min 16 (d.bad + 1)
  locked := locked }

theorem edged_of_in_lock (d : Disp) {e : Int} (adj : Int) (locked : Bool) (h : -1000 ≤ e ∧ e ≤ 1000) :
    (edged d e adj locked).good = min 16 (d.good + 1) ∧ (edged d e adj locked).bad = 0 :=
  have habs : e.natAbs ≤ 1000 := by omega
  ⟨if_pos habs, if_pos habs⟩

theorem edged_of_out_of_lock (d : Disp) {e : Int} (adj : Int) (locked : Bool) (h : e < -1000 ∨ 1000 < e) :
    (edged d e adj locked).bad = min 16 (d.bad + 1) ∧ (edged d e adj locked).good = 0 :=
  have habs : ¬e.natAbs ≤ 1000 := by omega
  ⟨if_neg habs, if_neg habs⟩

/-- A VSYNC edge takes the latest picture of the layout, or counts that it shows the one it has (R351). -/
def pictured (d : Disp) (k : Nat) (out : Mem) : Disp :=
  if d.shown = some k then { d with ctrs := bump d.ctrs .dispRepeat } else { d with shown := some k, frame := out }

theorem pictured_of_shown {d : Disp} {k : Nat} {out : Mem} (h : d.shown = some k) :
    pictured d k out = { d with ctrs := bump d.ctrs .dispRepeat } := if_pos h

theorem pictured_of_new {d : Disp} {k : Nat} {out : Mem} (h : d.shown ≠ some k) :
    pictured d k out = { d with shown := some k, frame := out } := if_neg h

theorem pictured_keeps (d : Disp) (k : Nat) (out : Mem) : (pictured d k out).err = d.err ∧
    (pictured d k out).fields = d.fields ∧ (pictured d k out).good = d.good ∧ (pictured d k out).bad = d.bad :=
  ite_elim (P := fun x : Disp => x.err = d.err ∧ x.fields = d.fields ∧ x.good = d.good ∧ x.bad = d.bad)
    ⟨rfl, rfl, rfl, rfl⟩ ⟨rfl, rfl, rfl, rfl⟩

/-! ## The events of the running device -/

section
variable {s : State} (hs : halted s = false)
include hs

theorem exec_readinessCheck_of_due {n k x : Nat} (hn : n < 512)
    (hframe : s.time.frames[layoutRate s (okey 5 n)]? = some (k, x)) (hact : willActive s (okey 5 n) = true)
    (hx : x ≤ phcNs s.time + 200000) (hck : (getLayout s (okey 5 n)).checked ≠ some k) :
    exec (.readinessCheck n) s = .next (keep s (readiness (okey 5 n) k x s)) := by
  change execReadinessCheck n s = _
  rw [execReadinessCheck, onPart_run (decide_eq_true hn) hs]
  simp [hframe, hact, hx, hck, guarded]

/-- A free compositor starts the only composition due on it; a fixed one asks for no room before a window. -/
theorem exec_compositionStart_of_only {c y : Nat} (hc : c < 36)
    (hys : ((objKeys s 5).filter fun y => compIdx s y == c && (getLayout s y).due.isSome) = [y])
    (hfree : Tab.get s.vid.comps c = none) (hfix : isFixed s y = true) :
    exec (.compositionStart c) s = .next (keep s (startComp y s)) := by
  change execCompositionStart c s = _
  rw [execCompositionStart, onPart_run (decide_eq_true hc) hs]
  simp [hys, sortBy, insertBy, Tab.has, hfree, hfix, guarded]

theorem exec_hpdRise_of_absent (edid : Bytes) (h : s.vid.disp.hpd = false) :
    exec (.hpdRise edid) s =
      .next (keep s (linkEvent (updDisp s fun d => { d with hpd := true, link := 1, edid := edid }))) := by
  change execHpdRise edid s = _
  rw [execHpdRise, live_run hs, guarded_true (by simp [h])]

theorem exec_hpdRise_of_present (edid : Bytes) (h : s.vid.disp.hpd = true) : exec (.hpdRise edid) s = .next s := by
  change execHpdRise edid s = _
  rw [execHpdRise, live_run hs, guarded_false (by simp [h]), keep_self]

theorem exec_hpdFall_of_present (h : s.vid.disp.hpd = true) :
    exec .hpdFall s = .next (keep s (linkEvent (updDisp s fun d =>
      { d with hpd := false, link := 0, edid := [], shown := none, frame := [] }))) := by
  change execHpdFall s = _
  rw [execHpdFall, live_run hs, guarded_true h]

theorem exec_displayTrainingDone_of_training (ok : Bool) (h : s.vid.disp.link = 1) :
    exec (.displayTrainingDone ok) s =
      .next (keep s (linkEvent (updDisp s fun d => { d with link := if ok then 2 else 3 }))) := by
  change execDisplayTrainingDone ok s = _
  rw [execDisplayTrainingDone, live_run hs, guarded_true (beq_iff_eq.2 h)]

/-- The lock event of an edge leaves display and layouts, so the edge counts, and then the latest picture is taken. -/
theorem exec_displayVsync_of_linked {e : Int} {j : CompJob} (hlink : s.vid.disp.link = 2) (hy : dispLayout s ≠ 0)
    (hrun : s.time.stopped = false) (hon : 14 ∉ s.dep.off) (hlast : (getLayout s (dispLayout s)).last = some j) :
    ∃ t, exec (.displayVsync e) s = .next t ∧
      t.vid.disp = pictured (edged s.vid.disp e t.vid.disp.adj t.vid.disp.locked) j.k (getLayout s (dispLayout s)).out := by
  have hc : (s.vid.disp.link == 2 && dispLayout s != 0 && !s.time.stopped && !(s.dep.off.contains 14)) = true := by
    simp [hlink, hy, hrun, hon]
  change ∃ t, execDisplayVsync e s = .next t ∧ _
  rw [execDisplayVsync, live_run hs, guarded_true hc]
  refine ⟨_, rfl, ?_⟩
  simp only [getLayout_emit_if, getLayout_updDisp, hlast, keep_vid]
  by_cases hk : s.vid.disp.shown = some j.k
  · simp only [if_pos hk, disp_updDisp, vid_emit_if, decide_eq_true_eq]
    exact (pictured_of_shown (d := edged _ _ _ _) hk).symm
  · simp only [if_neg hk, disp_updDisp, vid_emit_if, decide_eq_true_eq]
    exact (pictured_of_new (d := edged _ _ _ _) hk).symm

end

/-- Settles O27: one lemma above for each event. -/
theorem compositionAndDisplayEvents : Obligations.CompositionAndDisplayEvents := by
  unfold Obligations.CompositionAndDisplayEvents
  intro s hs
  refine ⟨?_, ?_, ?_, fun edid => exec_hpdRise_of_present hs edid, ?_, ?_, ?_⟩
  · intro n k x hn y hframe hact hx hck
    obtain ⟨u, hu, hready⟩ := readiness_frame y k x s
    refine ⟨_, exec_readinessCheck_of_due hs hn hframe hact hx hck, ?_, fun z => ?_⟩
    · rw [hready]
      exact getLayout_setLayout_same u y _
    · rw [hready]
      exact onShow_layer hu z
  · intro c y j hc hys hj hfree hfix
    obtain ⟨u, l, hstart, hcomps, hl⟩ := startComp_of_due hj
    have hmem : y ∈ (objKeys s 5).filter fun y => compIdx s y == c && (getLayout s y).due.isSome := by rw [hys]; simp
    obtain ⟨-, hidx, -⟩ : y ∈ objKeys s 5 ∧ compIdx s y = c ∧ (getLayout s y).due.isSome = true := by simpa using hmem
    refine ⟨_, exec_compositionStart_of_only hs hc hys hfree hfix, ?_⟩
    have hlay : getLayout (startComp y s) y = l := by rw [hstart, getLayout_setLayout_same]
    refine ⟨?_, hlay ▸ hl⟩
    rw [keep_vid, hstart, setLayout_vid, hcomps, hidx, tab_get_set_same]
  · exact fun edid h => ⟨_, exec_hpdRise_of_absent hs edid h, linkEvent_disp _⟩
  · exact fun h => ⟨_, exec_hpdFall_of_present hs h, linkEvent_disp _⟩
  · exact fun ok h => ⟨_, exec_displayTrainingDone_of_training hs ok h, linkEvent_disp _⟩
  · intro e j hlink hy hrun hon hlast
    obtain ⟨t, ht, hdisp⟩ := exec_displayVsync_of_linked hs (e := e) hlink hy hrun hon hlast
    refine ⟨t, ht, ?_⟩
    obtain ⟨herr, hfields, hgood, hbad⟩ := pictured_keeps (edged s.vid.disp e t.vid.disp.adj t.vid.disp.locked) j.k
      (getLayout s (dispLayout s)).out
    rw [hdisp, herr, hfields, hgood, hbad]
    refine ⟨rfl, rfl, edged_of_in_lock _ _ _, edged_of_out_of_lock _ _ _, fun hk => ?_, fun hk => ?_⟩
    · rw [pictured_of_new (d := edged _ _ _ _) hk]
      exact ⟨rfl, rfl⟩
    · rw [pictured_of_shown (d := edged _ _ _ _) hk]
      exact ⟨rfl, rfl⟩

end Sys2Proof.Proofs
end

section
/-!
PROOFS. What the commands on the display, on coefficient sets and on flips answer when their checks pass (R321, R322, R333, R346
to R348, R353), and that each flip of a LAYER_FLIP waits at its layer.
-/

namespace Sys2Proof.Proofs

open Sys2Proof Sys2Proof.Machine Sys2Proof.Laws

/-! ## The display -/

section
variable {s : State} {F : Nat} {p d : Bytes}

theorem bodyDisplayConfig_of_no_layout
    (hent : lowest (entryChecks (entries p 8 (le p 6 2)) fun k => fTable k == 0x11) = none)
    (hno : fldN (applyEntries s.vid.disp.fields (entries p 8 (le p 6 2))) (fk 0x11 0 0) = 0) :
    bodyDisplayConfig F p d s = .ok [] 0 (updDisp s fun x => { x with
      fields := applyEntries s.vid.disp.fields (entries p 8 (le p 6 2))
      shown := if dispLayout s = 0 then x.shown else none
      frame := if dispLayout s = 0 then x.frame else [] }) := by
  simp only [bodyDisplayConfig, hno]
  rw [checked_of_lowest ((lowest_append ..).2 ⟨hent, rfl⟩)]
  simp

theorem bodyDisplayEdid_of_window (hhpd : s.vid.disp.hpd = true)
    (hwin : inWindow (getFn s F) (le p 0 8) s.vid.disp.edid.length true = true) :
    bodyDisplayEdid F p d s = .ok (toLe 4 s.vid.disp.edid.length) 0
      (updFn s F fun f => { f with lastWr := some (le p 0 8, s.vid.disp.edid) }) := by
  simp [bodyDisplayEdid, hhpd, hwin, checked]

end

/-! ## Coefficient sets -/

section
variable {s : State} {F pt cls dir slot key : Nat} {p d : Bytes}
variable (hpt : (getFn s F).part = some pt) (hcls : cls = le p 0 1) (hdir : dir = le p 1 1) (hslot : slot = le p 2 1)
variable (hkey : key = cls * 32 + dir * 16 + slot) (hfree : coefNamed s cls dir slot = false)
include hpt hcls hdir hslot hkey hfree

theorem bodyCoefLoad_of_checked {t : Nat} {cs : List Int} (ht : t = if dir = 0 then 8 else if cls = 0 then 4 else 6)
    (hcs : cs = coefList d (64 * t)) (hc1 : cls ≤ 1) (hd1 : dir ≤ 1) (hs1 : 1 ≤ slot) (hs15 : slot ≤ 15)
    (hn : le p 16 4 = 8 + 128 * t) (hlen : d.length = 8 + 128 * t)
    (hwin : inWindow (getFn s F) (le p 8 8) (8 + 128 * t) false = true)
    (himg : le d 0 1 = t ∧ le d 1 1 = dir ∧ le d 2 1 = cls ∧ le d 3 1 = 0 ∧ le d 4 4 = crc32 (d.drop 8))
    (hrange : ∀ c ∈ cs, -512 ≤ c ∧ c ≤ 511) (hsum : ∀ ph, ph < 64 → ((cs.drop (ph * t)).take t).sum = 256)
    (hroom : Tab.get s.vid.coefs key = none ∧ (s.vid.coefs.filter fun e => e.2.part = pt).length < quota s pt 4 1 ∨
      ∃ c, Tab.get s.vid.coefs key = some c ∧ c.part = pt) :
    bodyCoefLoad F p d s = .ok [] 0
      { s with vid := { s.vid with coefs := Tab.set s.vid.coefs key { part := pt, taps := t, coef := cs } } } := by
  have hsums : ((List.range 64).all fun ph => ((cs.drop (ph * t)).take t).sum == 256) = true := by simpa using hsum
  have hcoefs : (cs.all fun c => -512 ≤ c && decide (c ≤ 511)) = true := by simpa using hrange
  have hown : ((Tab.get s.vid.coefs key).map fun c => c.part == pt).getD true = true := by
    rcases hroom with ⟨hnone, -⟩ | ⟨c, hc, hpart⟩
    · simp [hnone]
    · simp [hc, hpart]
  have hquota : ((Tab.get s.vid.coefs key).isSome
      || decide ((s.vid.coefs.filter fun e => e.2.part = pt).length < quota s pt 4 1)) = true := by
    rcases hroom with ⟨hnone, hlt⟩ | ⟨c, hc, -⟩
    · simp [hlt]
    · simp [hc]
  obtain ⟨himgT, himgD, himgC, himg0, hcrc⟩ := himg
  simp only [bodyCoefLoad, hpt, ← hcls, ← hdir, ← hslot, ← hkey, ← ht, ← hcs, hn, hwin]
  refine checked_ok ?_
  simp [hc1, hd1, hs1, hs15, hlen, himgT, himgD, himgC, himg0, hcrc, hsums, hcoefs, hfree, hown, hquota]

theorem bodyCoefUnload_of_own {c : CoefSet} (hc : Tab.get s.vid.coefs key = some c) (hown : c.part = pt) :
    bodyCoefUnload F p d s = .ok [] 0 { s with vid := { s.vid with
      coefs := Tab.del s.vid.coefs key } } := by
  subst hcls hdir hslot hkey
  simp [bodyCoefUnload, hpt, hc, hown, hfree, checked]

end

/-! ## Flips -/

/-- A flip comes to wait at its layer; one that waited there is replaced and counted (R333). -/
def putFlip (s : State) (e : Nat × Flip) : State :=
  setLayer (if (getLayer s e.1).flip.isSome then bumpObj s e.1 .flipReplaced else s) e.1
    { getLayer s e.1 with flip := some e.2 }

@[simp] theorem getLayer_bumpObj (s : State) (k : Nat) (c : Ctr) (n z : Nat) : getLayer (bumpObj s k c n) z = getLayer s z := rfl

theorem flip_putFlip_same (s : State) (e : Nat × Flip) : (getLayer (putFlip s e) e.1).flip = some e.2 := by
  rw [putFlip, getLayer_setLayer_same]

theorem getLayer_putFlip_other (s : State) {e : Nat × Flip} {z : Nat} (h : e.1 ≠ z) :
    getLayer (putFlip s e) z = getLayer s z := by
  rw [putFlip, getLayer_setLayer_other _ _ h]
  exact ite_elim (P := fun t => getLayer t z = getLayer s z) rfl rfl

theorem getLayer_putFlips_other {ws : List (Nat × Flip)} {z : Nat} (h : z ∉ ws.map (·.1)) (s : State) :
    getLayer (ws.foldl putFlip s) z = getLayer s z := by
  induction ws generalizing s with
  | nil => rfl
  | cons e ws ih =>
    obtain ⟨hz, hws⟩ := not_or.1 (List.mem_cons.not.1 h)
    rw [List.foldl_cons, ih hws, getLayer_putFlip_other s (Ne.symm hz)]

/-- Of flips to distinct layers, each waits at its layer. -/
theorem flip_putFlips {ws : List (Nat × Flip)} (hnd : (ws.map (·.1)).Nodup) {e : Nat × Flip} (he : e ∈ ws) (s : State) :
    (getLayer (ws.foldl putFlip s) e.1).flip = some e.2 := by
  induction ws generalizing s with
  | nil => cases he
  | cons a ws ih =>
    obtain ⟨ha, hws⟩ := List.nodup_cons.1 hnd
    rw [List.foldl_cons]
    rcases List.mem_cons.1 he with rfl | he
    · rw [getLayer_putFlips_other ha, flip_putFlip_same]
    · exact ih hws he _

/-- The flips that a LAYER_FLIP of the layers `ks` carries. -/
def flipsOf (p : Bytes) (ks : List Nat) : List (Nat × Flip) :=
  (List.range ks.length).map fun j => ((ks[j]?).getD 0, flipItem p (8 + 40 * j))

theorem flipsOf_layers (p : Bytes) (ks : List Nat) : (flipsOf p ks).map (·.1) = ks := by
  refine List.ext_getElem (by simp [flipsOf]) fun j h1 h2 => ?_
  simp [flipsOf, h2]

theorem mem_flipsOf (p : Bytes) {ks : List Nat} {j : Nat} (hj : j < ks.length) :
    ((ks[j]?).getD 0, flipItem p (8 + 40 * j)) ∈ flipsOf p ks := List.mem_map_of_mem (List.mem_range.2 hj)

section
variable {s : State} {F y : Nat} {p d : Bytes} {ks : List Nat}

/-- The items that LAYER_FLIP reads, once their layers are found and their reserved bytes are zero. -/
theorem flipItems_of_resolved (hn : ks.length = le p 0 1)
    (hitem : ∀ j, j < ks.length → resolve s F 6 (le p (8 + 40 * j) 4) = ks[j]? ∧ le p (8 + 40 * j + 12) 4 = 0) :
    ((List.range (le p 0 1)).map fun j =>
      (resolve s F 6 (le p (8 + 40 * j) 4), flipItem p (8 + 40 * j), le p (8 + 40 * j + 12) 4)) =
    (flipsOf p ks).map fun e => (some e.1, e.2, 0) := by
  rw [← hn, flipsOf, List.map_map]
  refine List.map_congr_left fun j hj => ?_
  have hj' := List.mem_range.1 hj
  obtain ⟨hres, hzero⟩ := hitem j hj'
  simp [hres, hzero, hj']

/-- The layers of the items are `ks`, so each check speaks of `flipsOf p ks`, and the fold puts each flip at its layer. -/
theorem bodyLayerFlip_of_checked {part : Nat} (hn : ks.length = le p 0 1) (h1 : 1 ≤ ks.length) (h8 : ks.length ≤ 8)
    (hnd : ks.Nodup) (hpart : part = ((getObj s (ks.headD 0)).map (·.part)).getD 0)
    (hy : ∀ k ∈ ks, parentKey s k = y)
    (hitem : ∀ j, j < ks.length → resolve s F 6 (le p (8 + 40 * j) 4) = ks[j]? ∧ le p (8 + 40 * j + 12) 4 = 0)
    (hnames : ∀ e ∈ flipsOf p ks, ((surfIn s part e.2.src).isSome = true ∨ (streamIn s part e.2.src).isSome = true) ∧
      (e.2.fence = 0 ∨ fenceOk s part e.2.fence = true))
    {news : List (Nat × Nat)} (hnews : news = (flipsOf p ks).map fun e => (e.1, flipDesc (descOf (latchDesc s e.1) e.1) e.2))
    (hdesc : ∀ e ∈ news, descOk s y e.2 = true) (hfits : layoutFits s y (descsWith s y news) = true) :
    bodyLayerFlip F p d s = .ok [] 0 ((flipsOf p ks).foldl putFlip s) := by
  have hks : ((flipsOf p ks).map fun e => ((some e.1 : Option Nat), e.2, 0)).filterMap (·.1) = ks := by
    rw [List.filterMap_map]
    exact (congrFun List.filterMap_eq_map' _).trans (flipsOf_layers p ks)
  have hnews' : ((flipsOf p ks).map fun e => ((some e.1 : Option Nat), e.2, 0)).filterMap
      (fun e => e.1.map fun k => (k, flipDesc (descOf (latchDesc s k) k) e.2.1)) = news := by
    rw [List.filterMap_map, hnews]
    exact congrFun List.filterMap_eq_map _
  have hhead : parentKey s (ks.headD 0) = y := hy _ (by
    cases ks with
    | nil => simp at h1
    | cons k ks => simp)
  simp only [bodyLayerFlip, flipItems_of_resolved hn hitem, hks, hnews', hhead, ← hpart]
  rw [checked_ok, List.foldl_map]
  · rfl
  · simp only [List.mem_cons, List.not_mem_nil, or_false, forall_eq_or_imp, forall_eq]
    refine ⟨by simp, decide_eq_true hn, ?_, ?_, ?_⟩
    · simpa using hnames
    · rw [← hn]
      simpa [h1, h8, hnd] using hy
    · simpa [hfits] using hdesc

end

/-- Settles O28: each command is its body served, and each body's checks are the hypotheses. -/
theorem displayCoefficientAndFlipCommands : Obligations.DisplayCoefficientAndFlipCommands := by
  unfold Obligations.DisplayCoefficientAndFlipCommands
  intro s F src p
  refine ⟨?_, ?_, ?_, ?_⟩
  · exact fun hu hent hno => serve_ok hu (bodyDisplayConfig_of_no_layout hent hno)
  · exact fun hu hhpd hwin => serve_ok hu (bodyDisplayEdid_of_window hhpd hwin)
  · intro pt d hpt cls dir slot key t cs
    refine ⟨?_, fun c hu hc hown hfree => serve_ok hu (bodyCoefUnload_of_own hpt rfl rfl rfl rfl hfree hc hown)⟩
    intro hu hc1 hd1 hs1 hs15 hn hlen hwin himgT himgD himgC himg0 hcrc hrange hsum hfree hroom
    exact serve_ok hu (bodyCoefLoad_of_checked hpt rfl rfl rfl rfl hfree rfl rfl hc1 hd1 hs1 hs15 hn hlen hwin
      ⟨himgT, himgD, himgC, himg0, hcrc⟩ hrange hsum hroom)
  · intro ks y part hu hn h1 h8 hnd hpart hy hitems news hdesc hfits
    have hnames : ∀ e ∈ flipsOf p ks,
        ((surfIn s part e.2.src).isSome = true ∨ (streamIn s part e.2.src).isSome = true) ∧
          (e.2.fence = 0 ∨ fenceOk s part e.2.fence = true) := by
      intro e he
      obtain ⟨j, hj, rfl⟩ := List.mem_map.1 he
      exact (hitems j (List.mem_range.1 hj)).2.2
    have hnews : news = (flipsOf p ks).map fun e => (e.1, flipDesc (descOf (latchDesc s e.1) e.1) e.2) := by
      simp [news, flipsOf]
    have hbody := bodyLayerFlip_of_checked (d := []) hn h1 h8 hnd hpart hy
      (fun j hj => ⟨(hitems j hj).1, (hitems j hj).2.1⟩) hnames hnews hdesc hfits
    have hdistinct : ((flipsOf p ks).map (·.1)).Nodup := by rwa [flipsOf_layers]
    refine ⟨_, serve_ok hu hbody, fun j hj => flip_putFlips hdistinct (mem_flipsOf p hj) s, fun z hz => ?_⟩
    exact getLayer_putFlips_other (by rwa [flipsOf_layers]) s

end Sys2Proof.Proofs
end

section
/-!
PROOFS. The ranking of a block (R434) and the sums of mix-minus (R437, R438): a ranked set keeps its size, its distinct keys and
the members within HOLD through every admission of the second loop; a 48-bit sum is the same in any order of its signals, and a
signal taken from it leaves the sum of the others.
-/

namespace Sys2Proof.Proofs

open Sys2Proof Sys2Proof.Machine Sys2Proof.Laws

/-! ## The member that a candidate displaces -/

/-- The choice between the weakest member so far and another member. -/
def weaker (ord : Nat → Nat) (b : Option Rank) (r : Rank) : Option Rank :=
  match b with
  | none => some r
  | some v => if r.es < v.es ∨ (r.es = v.es ∧ ord v.key < ord r.key) then some r else some v

theorem weakest_eq (ord : Nat → Nat) (t hold : Nat) (l : List Rank) :
    weakest ord t hold l = (l.filter fun r => decide (r.entered + hold ≤ t)).foldl (weaker ord) none := rfl

theorem weaker_eq_or (ord : Nat → Nat) (b : Option Rank) (r : Rank) : weaker ord b r = some r ∨ weaker ord b r = b := by
  cases b with
  | none => exact .inl rfl
  | some v => exact ite_eq_or_eq ..

theorem mem_of_foldl_weaker {ord : Nat → Nat} {l : List Rank} {b : Option Rank} {v : Rank}
    (h : l.foldl (weaker ord) b = some v) : b = some v ∨ v ∈ l := by
  induction l generalizing b with
  | nil => exact .inl h
  | cons r l ih =>
    rcases ih h with hb | hl
    · rcases weaker_eq_or ord b r with hr | hr
      · exact .inr (by simp [Option.some.inj (hr.symm.trans hb)])
      · exact .inl (hr.symm.trans hb)
    · exact .inr (List.mem_cons_of_mem _ hl)

/-- Only a member held for HOLD or longer is displaced. -/
theorem weakest_mem {ord : Nat → Nat} {t hold : Nat} {l : List Rank} {v : Rank} (h : weakest ord t hold l = some v) :
    v ∈ l ∧ v.entered + hold ≤ t := by
  rw [weakest_eq] at h
  simpa using (mem_of_foldl_weaker h).resolve_left (by simp)

/-! ## The admissions of a block -/

/-- The member that a candidate becomes at `t`. -/
def entrant (t : Nat) (c : Cand) : Rank := { key := c.key, entered := t, last := t, es := c.es }

/-- A set within TOP_K, and candidates that are not in it, each named once. -/
structure Admissible (top : Nat) (cs : List Cand) (l : List Rank) : Prop where
  nodup : (l.map (·.key) ++ cs.map (·.key)).Nodup
  size  : l.length ≤ top

/-- What an admission at `t` leaves of the set `l` before its candidate enters: room for it, and every member within HOLD. -/
structure MadeRoom (t hold top : Nat) (l l' : List Rank) : Prop where
  sub  : l'.Sublist l
  room : l'.length < top
  held : ∀ q ∈ l, t < q.entered + hold → q ∈ l'

/-- What the admissions of the candidates `cs` at `t` make of the set `l`. -/
structure Admitted (t hold top : Nat) (cs : List Cand) (l r : List Rank) : Prop where
  nodup  : (r.map (·.key)).Nodup
  size   : r.length ≤ top
  held   : ∀ q ∈ l, t < q.entered + hold → q ∈ r
  origin : ∀ q ∈ r, q ∈ l ∨ ∃ c ∈ cs, q = entrant t c

section
variable {ord : Nat → Nat} {t hold top : Nat} {hyst : Int} {c : Cand} {cs : List Cand} {l l' r : List Rank}

theorem Admissible.nodup_keys (h : Admissible top cs l) : (l.map (·.key)).Nodup := h.nodup.of_append_left

/-- The displaced member's place is free, and it was no member within HOLD. -/
theorem madeRoom_displace {v : Rank} (hnd : (l.map (·.key)).Nodup) (hsize : l.length ≤ top)
    (hv : v ∈ l) (hold_v : v.entered + hold ≤ t) : MadeRoom t hold top l (l.filter fun r => r.key ≠ v.key) where
  sub := List.filter_sublist
  room := by
    have hlt : (l.filter fun r => r.key ≠ v.key).length < l.length :=
      List.length_filter_lt_length_iff_exists.2 ⟨v, hv, by simp⟩
    omega
  held q hq hlate := by
    refine List.mem_filter.2 ⟨hq, decide_eq_true fun hkey => ?_⟩
    have hqv : q = v := List.inj_on_of_nodup_map hnd hq hv hkey
    subst hqv
    omega

/-- A candidate ends the loop, or it enters where room was made. -/
theorem admitRanks_cons (h : Admissible top (c :: cs) l) :
    admitRanks ord t hold top hyst (c :: cs) l = l ∨
      ∃ l', MadeRoom t hold top l l' ∧
        admitRanks ord t hold top hyst (c :: cs) l = admitRanks ord t hold top hyst cs (l' ++ [entrant t c]) := by
  simp only [admitRanks]
  split
  · next hroom => exact .inr ⟨l, ⟨List.Sublist.refl l, hroom, fun q hq _ => hq⟩, rfl⟩
  · split
    · next v hv =>
      obtain ⟨hmem, hheld⟩ := weakest_mem hv
      split
      · exact .inr ⟨_, madeRoom_displace h.nodup_keys h.size hmem hheld, rfl⟩
      · exact .inl rfl
    · exact .inl rfl

theorem Admissible.step (h : Admissible top (c :: cs) l) (hr : MadeRoom t hold top l l') :
    Admissible top cs (l' ++ [entrant t c]) where
  nodup := by simpa [entrant] using h.nodup.sublist ((hr.sub.map (·.key)).append_right _)
  size := by simpa using hr.room

theorem Admitted.refl (h : Admissible top cs l) : Admitted t hold top cs l l :=
  ⟨h.nodup_keys, h.size, fun _ hq _ => hq, fun _ hq => .inl hq⟩

theorem Admitted.step (hr : MadeRoom t hold top l l') (h : Admitted t hold top cs (l' ++ [entrant t c]) r) :
    Admitted t hold top (c :: cs) l r where
  nodup := h.nodup
  size := h.size
  held q hq hlate := h.held q (List.mem_append_left _ (hr.held q hq hlate)) hlate
  origin q hq := by
    rcases h.origin q hq with hq | ⟨d, hd, hq⟩
    · rcases List.mem_append.1 hq with hq | hq
      · exact .inl (hr.sub.subset hq)
      · exact .inr ⟨c, List.mem_cons_self, List.mem_singleton.1 hq⟩
    · exact .inr ⟨d, List.mem_cons_of_mem _ hd, hq⟩

/-- The second loop of R434. -/
theorem admitRanks_admitted (h : Admissible top cs l) :
    Admitted t hold top cs l (admitRanks ord t hold top hyst cs l) := by
  induction cs generalizing l with
  | nil => exact .refl h
  | cons c cs ih =>
    rcases admitRanks_cons (ord := ord) (t := t) (hold := hold) (hyst := hyst) h with hend | ⟨l', hroom, hnext⟩
    · rw [hend]
      exact .refl h
    · rw [hnext]
      exact .step hroom (ih (h.step hroom))

end

/-! ## The set that the candidates of a block meet -/

/-- A member with its score and its last activity as the candidates show them at `t`. -/
def scored (t : Nat) (cs : List Cand) (r : Rank) : Rank :=
  match cs.find? fun c => c.key == r.key with
  | some c => { r with es := c.es, last := if c.act then t else r.last }
  | none => { r with es := -32768 }

/-- The members of the TOP_K first ranks. -/
def cutRanks (top : Nat) (l : List Rank) : List Rank :=
  l.filter fun r => ((byRank l).take top).any fun q => q.key == r.key

/-- The members that the first loop of R434 leaves. -/
def heldRanks (t hold top : Nat) (cs : List Cand) (l : List Rank) : List Rank :=
  ((cutRanks top l).map (scored t cs)).filter fun r => decide (t < r.last + hold)

/-- The active candidates that are not in the set, in the order in which they are admitted. -/
def entrants (ord : Nat → Nat) (cs : List Cand) (l : List Rank) : List Cand :=
  sortBy (cs.filter fun c => c.act && !(l.any fun r => r.key == c.key)) fun a b =>
    decide (b.es < a.es) || (a.es == b.es && decide (ord a.key ≤ ord b.key))

section
variable {ord : Nat → Nat} {t hold top : Nat} {hyst : Int} {c : Cand} {cs : List Cand} {l : List Rank} {m q : Rank}

theorem rankStep_eq : rankStep ord t hold top hyst cs l =
    admitRanks ord t hold top hyst (entrants ord cs (heldRanks t hold top cs l)) (heldRanks t hold top cs l) := rfl

@[simp] theorem scored_key (t : Nat) (cs : List Cand) (r : Rank) : (scored t cs r).key = r.key := by
  unfold scored
  split <;> rfl

@[simp] theorem scored_entered (t : Nat) (cs : List Cand) (r : Rank) : (scored t cs r).entered = r.entered := by
  unfold scored
  split <;> rfl

theorem scored_last_of_active (hnd : (cs.map (·.key)).Nodup) (hc : c ∈ cs) (hkey : c.key = m.key) (hact : c.act = true) :
    (scored t cs m).last = t := by
  unfold scored
  split
  · next d hd =>
    have hdc : d = c := List.inj_on_of_nodup_map hnd (List.mem_of_find?_eq_some hd) hc
      ((by simpa using List.find?_some hd : d.key = m.key).trans hkey.symm)
    simp [hdc, hact]
  · next hnone => exact absurd hkey (by simpa using List.find?_eq_none.1 hnone c hc)

theorem cutRanks_length_le (hnd : (l.map (·.key)).Nodup) : (cutRanks top l).length ≤ top := by
  have hkeys : ((cutRanks top l).map (·.key)).Nodup := hnd.sublist (List.filter_sublist.map _)
  have hsub : (cutRanks top l).map (·.key) ⊆ ((byRank l).take top).map (·.key) := by
    intro k hk
    obtain ⟨r, hr, rfl⟩ := List.mem_map.1 hk
    obtain ⟨q, hq, hkey⟩ := List.any_eq_true.1 (List.mem_filter.1 hr).2
    exact List.mem_map.2 ⟨q, hq, by simpa using hkey⟩
  calc (cutRanks top l).length = ((cutRanks top l).map (·.key)).length := by simp
    _ ≤ (((byRank l).take top).map (·.key)).length := (List.subperm_of_subset hkeys hsub).length_le
    _ ≤ top := by simp

theorem cutRanks_of_length_le (h : l.length ≤ top) : cutRanks top l = l := by
  have htake : (byRank l).take top = byRank l := List.take_of_length_le (by simpa [byRank] using h)
  refine List.filter_eq_self.2 fun r hr => ?_
  rw [htake]
  exact List.any_eq_true.2 ⟨r, by simpa [byRank] using hr, by simp⟩

theorem heldRanks_keys_sublist : ((heldRanks t hold top cs l).map (·.key)).Sublist (l.map (·.key)) := by
  have hkeys : ((cutRanks top l).map (scored t cs)).map (·.key) = (cutRanks top l).map (·.key) := by simp
  exact (List.filter_sublist.map _).trans (hkeys ▸ List.filter_sublist.map _)

theorem heldRanks_length_le (hnd : (l.map (·.key)).Nodup) : (heldRanks t hold top cs l).length ≤ top := by
  have hfilter : (heldRanks t hold top cs l).length ≤ ((cutRanks top l).map (scored t cs)).length := List.length_filter_le ..
  exact hfilter.trans (by simpa using cutRanks_length_le hnd)

theorem mem_of_mem_heldRanks (hq : q ∈ heldRanks t hold top cs l) : ∃ m ∈ l, q = scored t cs m := by
  obtain ⟨m, hm, rfl⟩ := List.mem_map.1 (List.mem_filter.1 hq).1
  exact ⟨m, (List.mem_filter.1 hm).1, rfl⟩

/-- A member whose candidate is active passes the first loop. -/
theorem scored_mem_heldRanks (hnd : (cs.map (·.key)).Nodup) (hm : m ∈ l) (hsize : l.length ≤ top)
    (hc : c ∈ cs) (hkey : c.key = m.key) (hact : c.act = true) (hhold : 0 < hold) :
    scored t cs m ∈ heldRanks t hold top cs l := by
  refine List.mem_filter.2 ⟨List.mem_map_of_mem (by rwa [cutRanks_of_length_le hsize]), ?_⟩
  simpa [scored_last_of_active hnd hc hkey hact] using hhold

theorem mem_entrants : c ∈ entrants ord cs l ↔ c ∈ cs ∧ c.act = true ∧ ∀ r ∈ l, r.key ≠ c.key := by
  simp [entrants]

theorem entrants_keys_nodup (hnd : (cs.map (·.key)).Nodup) : ((entrants ord cs l).map (·.key)).Nodup :=
  ((sortBy_perm _ _).map _).nodup_iff.2 (hnd.sublist (List.filter_sublist.map _))

theorem admissible_heldRanks (hl : (l.map (·.key)).Nodup) (hcs : (cs.map (·.key)).Nodup) :
    Admissible top (entrants ord cs (heldRanks t hold top cs l)) (heldRanks t hold top cs l) where
  nodup := by
    refine (hl.sublist heldRanks_keys_sublist).append (entrants_keys_nodup hcs) fun k hk hk' => ?_
    obtain ⟨r, hr, rfl⟩ := List.mem_map.1 hk
    obtain ⟨c, hc, hkey⟩ := List.mem_map.1 hk'
    obtain ⟨-, -, hnew⟩ := mem_entrants.1 hc
    exact hnew r hr hkey.symm
  size := heldRanks_length_le hl

theorem rankStep_admitted (hl : (l.map (·.key)).Nodup) (hcs : (cs.map (·.key)).Nodup) :
    Admitted t hold top (entrants ord cs (heldRanks t hold top cs l)) (heldRanks t hold top cs l)
      (rankStep ord t hold top hyst cs l) :=
  admitRanks_admitted (admissible_heldRanks hl hcs)

end

/-! ## Sums of signals in 48 bits -/

theorem wrap48_eq_bmod (v : Int) : wrap48 v = v.bmod (2 ^ 48) := by
  simp only [wrap48, signed, wrap, Int.bmod]
  omega

theorem wrap48_wrap48_add (x y : Int) : wrap48 (wrap48 x + y) = wrap48 (x + y) := by
  simp only [wrap48_eq_bmod, Int.bmod_add_bmod]

theorem wrap48_wrap48_sub (x y : Int) : wrap48 (wrap48 x - y) = wrap48 (x - y) := by
  simp only [wrap48_eq_bmod, Int.bmod_sub_bmod]

@[simp] theorem wrap48_zero : wrap48 0 = 0 := rfl

@[simp] theorem wrap48_wrap48 (v : Int) : wrap48 (wrap48 v) = wrap48 v := by
  simpa using wrap48_wrap48_add v 0

theorem addSig_right_comm (z x y : List Int) : addSig (addSig z x) y = addSig (addSig z y) x := by
  refine List.ext_getElem (by simp [addSig, min_right_comm]) fun i _ _ => ?_
  simp only [addSig, List.getElem_zipWith, wrap48_wrap48_add]
  rw [Int.add_right_comm]

/-- A sum does not depend on the order of its signals. -/
theorem sumSig_perm (n : Nat) {l l' : List (List Int)} (h : l.Perm l') : sumSig n l = sumSig n l' :=
  h.foldl_eq' (fun x _ y _ z => addSig_right_comm z x y) _

theorem sumSig_concat (n : Nat) (l : List (List Int)) (a : List Int) : sumSig n (l ++ [a]) = addSig (sumSig n l) a := by
  simp [sumSig]

theorem sumSig_length {n : Nat} {l : List (List Int)} (h : ∀ v ∈ l, v.length = n) : (sumSig n l).length = n := by
  induction l using List.reverseRecOn with
  | nil => simp [sumSig]
  | append_singleton l a ih =>
    rw [sumSig_concat, addSig, List.length_zipWith, ih fun v hv => h v (List.mem_append_left _ hv), h a (by simp), min_self]

/-- A sum is in 48 bits already. -/
theorem map_wrap48_sumSig (n : Nat) (l : List (List Int)) : (sumSig n l).map wrap48 = sumSig n l := by
  induction l using List.reverseRecOn with
  | nil => simp [sumSig]
  | append_singleton l a _ => simp [sumSig_concat, addSig, List.map_zipWith]

theorem subSig_addSig {x a : List Int} (h : x.length = a.length) : subSig (addSig x a) a = x.map wrap48 := by
  refine List.ext_getElem (by simp [subSig, addSig, h]) fun i _ _ => ?_
  simp only [subSig, addSig, List.getElem_zipWith, List.getElem_map, wrap48_wrap48_sub, Int.add_sub_cancel]

/-- Mix-minus (R438): the sum without one of its signals is the sum of the others. -/
theorem subSig_sumSig {n : Nat} {a : List Int} {b c : List (List Int)} (ha : a.length = n)
    (h : ∀ v ∈ b ++ c, v.length = n) : subSig (sumSig n (b ++ a :: c)) a = sumSig n (b ++ c) := by
  have hlast : (b ++ a :: c).Perm ((b ++ c) ++ [a]) := List.perm_middle.trans (List.perm_append_singleton a _).symm
  rw [sumSig_perm n hlast, sumSig_concat, subSig_addSig ((sumSig_length h).trans ha.symm), map_wrap48_sumSig]

/-! ## The statement -/

/-- Settles O29: the first loop of R434 leaves an admissible set, every admission keeps it so, and a 48-bit sum may be taken in
the order that ends with the signal to be removed. -/
theorem rankingAndMixMinus : Obligations.RankingAndMixMinus := by
  unfold Obligations.RankingAndMixMinus
  refine ⟨?_, fun n a b c ha h => subSig_sumSig ha h⟩
  intro ord t hold top hyst cs l hl hcs r
  obtain ⟨hnodup, hsize, hheld, horigin⟩ : Admitted t hold top _ _ r := rankStep_admitted hl hcs
  refine ⟨hnodup, hsize, fun m hm c hc htop hkey hact hhold hlate => ?_, fun q hq => ?_⟩
  · have hmem := scored_mem_heldRanks (t := t) hcs hm htop hc hkey hact hhold
    exact ⟨scored t cs m, hheld _ hmem (by simpa using hlate), by simp, by simp⟩
  · rcases horigin q hq with hq | ⟨c, hc, rfl⟩
    · obtain ⟨m, hm, rfl⟩ := mem_of_mem_heldRanks hq
      exact .inl ⟨m, hm, by simp, by simp⟩
    · obtain ⟨hmem, hact, -⟩ := mem_entrants.1 hc
      exact .inr ⟨rfl, c, hmem, rfl, hact⟩

end Sys2Proof.Proofs
end

section
/-!
PROOFS. The events of audio ports (chapter 10): what a frame edge leaves of a port, what enters the receive ring of a GRAPH-mode
port, clock faults and measurements, AES3 channel status and muting.
-/

namespace Sys2Proof.Proofs

open Sys2Proof Sys2Proof.Machine Sys2Proof.Laws

/-! ## Ports after updates elsewhere -/

theorem getAPort_of_aud {s t : State} (h : t.aud = s.aud) (p : Nat) : getAPort t p = getAPort s p :=
  congrArg (fun v : AudPart => Tab.getD v.ports p {}) h

@[simp] theorem getAPort_keep (s t : State) (p : Nat) : getAPort (keep s t) p = getAPort t p := rfl

@[simp] theorem getAPort_emit (d : Dest) (typ handle : Nat) (pay : Bytes) (s : State) (p : Nat) :
    getAPort (emit d typ handle pay s) p = getAPort s p := getAPort_of_aud (emit_aud ..) p

@[simp] theorem getAPort_nonaudio (p begins src : Nat) (s : State) (q : Nat) :
    getAPort (nonaudio p begins src s) q = getAPort s q := getAPort_emit ..

@[simp] theorem getAPort_portClock (p : Nat) (s : State) (q : Nat) : getAPort (portClock p s) q = getAPort s q := getAPort_emit ..

@[simp] theorem getAPort_bumpAPort (s : State) (p : Nat) (c : Ctr) (n : Nat) :
    getAPort (bumpAPort s p c n) p = { getAPort s p with ctrs := bump (getAPort s p).ctrs c n } := getAPort_setAPort_same ..

@[simp] theorem aprm_setAPort (s : State) (p r : Nat) (a : APort) : aprm (setAPort s p a) p r = fldN a.fields (fk 0x0C r 0) := by
  simp [aprm]

@[simp] theorem getAPort_aesDetect (p src : Nat) (s : State) :
    getAPort (aesDetect p src s) p = { getAPort s p with mute := some 0 } := by
  unfold aesDetect
  dsimp only
  split <;> simp

/-! ## The kinds of audio port -/

theorem isAudioPort_of_range {p : Nat} (h8 : 8 ≤ p) (h19 : p ≤ 19) : isAudioPort p = true := by simp [isAudioPort, h8, h19]

theorem isAesIn_of_tdm {p : Nat} (h15 : p ≤ 15) : isAesIn p = false := by
  simp only [isAesIn, Bool.or_eq_false_iff, beq_eq_false_iff_ne]
  omega

theorem isAesIn_of_input {p : Nat} (h : p = 16 ∨ p = 17) : isAesIn p = true := by simpa [isAesIn] using h

theorem isAesOut_of_receiver {p : Nat} (h17 : p ≤ 17) : isAesOut p = false := by
  simp only [isAesOut, Bool.or_eq_false_iff, beq_eq_false_iff_ne]
  omega

/-! ## What the two sides of a frame edge leave of their port -/

section
variable (p : Nat) (s : State)

theorem indexWrite_frame (now_ : Bool) : ∃ n, getAPort (indexWrite p now_ s) p = { getAPort s p with since := n } := by
  unfold indexWrite
  dsimp only
  split
  · exact ⟨_, rfl⟩
  · split
    · exact ⟨0, getAPort_setAPort_same ..⟩
    · exact ⟨_, getAPort_setAPort_same ..⟩

/-- The receive ring changes nothing but its own indices and frames, and counters. -/
theorem rxFrame_frame (fr : List Int) : ∃ buf prod cons since ctrs, getAPort (rxFrame p fr s) p =
    { getAPort s p with rxBuf := buf, rxProd := prod, rxCons := cons, since := since, ctrs := ctrs } := by
  unfold rxFrame
  dsimp only
  split
  · exact ⟨_, _, _, _, _, rfl⟩
  · split
    · obtain ⟨n, h⟩ := indexWrite_frame p (bumpAPort s p .portRxOverrun) true
      rw [h, getAPort_bumpAPort]
      exact ⟨_, _, _, _, _, rfl⟩
    · obtain ⟨n, h⟩ := indexWrite_frame p (setAPort s p { getAPort s p with
        rxBuf := Tab.set (getAPort s p).rxBuf ((getAPort s p).rxProd % aprm s p 15) fr
        rxProd := (getAPort s p).rxProd + 1
        rxCons := if aprm s p 14 = 1 then (getAPort s p).rxCons else (getAPort s p).rxProd + 1 }) false
      rw [h, getAPort_setAPort_same]
      exact ⟨_, _, _, _, _, rfl⟩

/-- The transmit side changes nothing but its own pins, index and frames, and counters. -/
theorem txEdge_frame (good : Bool) (host : Bytes) : ∃ out cons buf since ctrs, getAPort (txEdge p good host s) p =
    { getAPort s p with out := out, txCons := cons, txBuf := buf, since := since, ctrs := ctrs } := by
  unfold txEdge
  split
  · exact ⟨_, _, _, _, _, rfl⟩
  · dsimp only
    split
    · obtain ⟨n, h⟩ := indexWrite_frame p (bumpAPort (setAPort s p _) p .portTxUnderrun) true
      rw [h, getAPort_bumpAPort, getAPort_setAPort_same]
      exact ⟨_, _, _, _, _, rfl⟩
    · split
      · obtain ⟨n, h⟩ := indexWrite_frame p (setAPort s p _) false
        rw [h, getAPort_setAPort_same]
        exact ⟨_, _, _, _, _, rfl⟩
      · exact ⟨_, _, _, _, _, getAPort_setAPort_same ..⟩

/-- The configuration of a port and what a frame edge decides before a frame passes: state, good frames and masks. -/
def standing (a : APort) : Tab Int × Nat × Nat × Nat × Nat × Option (Nat × Nat) :=
  (a.fields, a.st, a.good, a.rx, a.tx, a.newMask)

theorem rxFrame_standing (fr : List Int) : standing (getAPort (rxFrame p fr s) p) = standing (getAPort s p) := by
  obtain ⟨_, _, _, _, _, h⟩ := rxFrame_frame p s fr
  rw [h]
  rfl

theorem bumpAPort_standing (c : Ctr) (n : Nat) : standing (getAPort (bumpAPort s p c n) p) = standing (getAPort s p) := by
  rw [getAPort_bumpAPort]
  rfl

theorem aesDetect_standing (src : Nat) : standing (getAPort (aesDetect p src s) p) = standing (getAPort s p) := by
  rw [getAPort_aesDetect]
  rfl

theorem aesRx_standing (f : AudFrame) : standing (getAPort (aesRx p f s) p) = standing (getAPort s p) := by
  have hcount : ∀ t : State, standing (getAPort t p) = standing (getAPort s p) →
      standing (getAPort (if (getAPort s p).muted then bumpAPort t p .aes3NonaudioFrames else t) p) = standing (getAPort s p) :=
    fun t h => ite_elim (P := fun t => standing (getAPort t p) = _) ((bumpAPort_standing ..).trans h) h
  unfold aesRx
  refine ite_elim (P := fun t => standing (getAPort t p) = standing (getAPort s p)) ((aesDetect_standing ..).trans ?_) ?_
  all_goals
    refine (rxFrame_standing ..).trans (hcount _ ?_)
    simp only [getAPort_setAPort_same, getAPort_bumpAPort]
    rfl

end

/-! ## The receive ring of a GRAPH-mode port -/

/-- A port whose receive ring has taken a frame that its converter reads at once. -/
def received (size : Nat) (fr : List Int) (a : APort) : APort :=
  { a with rxBuf := Tab.set a.rxBuf (a.rxProd % size) fr, rxProd := a.rxProd + 1, rxCons := a.rxProd + 1 }

section
variable {p : Nat} {s : State}

theorem rxFrame_of_graph (fr : List Int) (hgraph : aprm s p 14 = 0) (h17 : p ≤ 17) :
    rxFrame p fr s = setAPort s p (received (aprm s p 15) fr (getAPort s p)) := by
  have hmode : fldN (getAPort s p).fields (fk 0x0C 14 0) = 0 := hgraph
  simp [rxFrame, isAesOut_of_receiver h17, hgraph, indexWrite, hmode, received]

theorem tdmRx_of_graph (f : AudFrame) (hgraph : aprm s p 14 = 0) (hdepth : aprm s p 6 = 24) (h17 : p ≤ 17) :
    tdmRx p f s = setAPort s p (received (aprm s p 15)
      ((List.range (slotsOf p (getAPort s p).fields)).map fun c =>
        if bitOf (getAPort s p).rx c then signed 24 (wrap 24 (f.smp[c]?.getD 0)) else 0) (getAPort s p)) := by
  simp [tdmRx, hdepth, rxFrame_of_graph _ hgraph h17]

end

/-! ## When a measurement counts -/

theorem measurement_named {p r : Nat} (h8 : 8 ≤ p) (h19 : p ≤ 19) (hr : r < 2 ^ 32) :
    (isAudioPort p && decide (r < 2 ^ 32)) = true := by
  rw [isAudioPort_of_range h8 h19, decide_eq_true hr]
  rfl

theorem measurement_due {p : Nat} {a : APort} (hst : a.st ≠ 0) (hgood : 32 ≤ a.good) (hclk : onTimeline p a.fields = false) :
    (a.st != 0 && decide (32 ≤ a.good) && !(onTimeline p a.fields)) = true := by
  simp [hst, hgood, hclk]

/-! ## Frame edges -/

/-- A RUNNING port as a frame edge begins: the frame counted, the masks that waited in force (R539). -/
def edgeBegun (good : Bool) (a : APort) : APort := { a with
  good := if good then a.good + 1 else 0
  rx := (a.newMask.getD (a.rx, a.tx)).1
  tx := (a.newMask.getD (a.rx, a.tx)).2
  newMask := none }

/-- What the receive side of the edge makes of a state in which the edge has begun. -/
def edgeReceived (p : Nat) (f : AudFrame) (s : State) : State :=
  if f.good then (if isAesIn p then aesRx p f s else tdmRx p f s)
  else rxFrame p (List.replicate (slotsOf p (getAPort s p).fields) 0) (bumpAPort s p .portGlitch)

theorem edgeReceived_standing (p : Nat) (f : AudFrame) (s : State) :
    standing (getAPort (edgeReceived p f s) p) = standing (getAPort s p) := by
  unfold edgeReceived
  split
  · split
    · exact aesRx_standing ..
    · exact rxFrame_standing ..
  · exact (rxFrame_standing ..).trans (bumpAPort_standing ..)

theorem edgeReceived_of_graph {p : Nat} {f : AudFrame} {s : State} (h15 : p ≤ 15) (hgood : f.good = true)
    (hgraph : aprm s p 14 = 0) (hdepth : aprm s p 6 = 24) :
    getAPort (edgeReceived p f s) p = received (aprm s p 15)
      ((List.range (slotsOf p (getAPort s p).fields)).map fun c =>
        if bitOf (getAPort s p).rx c then signed 24 (wrap 24 (f.smp[c]?.getD 0)) else 0) (getAPort s p) := by
  rw [edgeReceived, if_pos hgood, if_neg (by simp [isAesIn_of_tdm h15]), tdmRx_of_graph f hgraph hdepth (by omega),
    getAPort_setAPort_same]

section
variable {s : State} (hs : halted s = false) {p : Nat} (h8 : 8 ≤ p) (h19 : p ≤ 19)
include hs h8 h19

theorem exec_audioFrameEdge_of_running (f : AudFrame) (hst : (getAPort s p).st = 1) :
    exec (.audioFrameEdge p f) s = .next (keep s (txEdge p f.good f.host
      (edgeReceived p f (setAPort s p (edgeBegun f.good (getAPort s p)))))) := by
  change execAudioFrameEdge p f s = _
  rw [execAudioFrameEdge, onPart_run (isAudioPort_of_range h8 h19) hs]
  simp [hst, edgeReceived, edgeBegun]

/-- Neither side of the edge alters what it decided as it began, and the transmit side leaves the receive ring. -/
theorem exec_audioFrameEdge_port (f : AudFrame) (hst : (getAPort s p).st = 1) :
    ∃ t, exec (.audioFrameEdge p f) s = .next t ∧
      standing (getAPort t p) = standing (edgeBegun f.good (getAPort s p)) ∧
      (getAPort t p).rxProd = (getAPort (edgeReceived p f (setAPort s p (edgeBegun f.good (getAPort s p)))) p).rxProd ∧
      (getAPort t p).rxBuf = (getAPort (edgeReceived p f (setAPort s p (edgeBegun f.good (getAPort s p)))) p).rxBuf := by
  refine ⟨_, exec_audioFrameEdge_of_running hs h8 h19 f hst, ?_⟩
  have hstand := edgeReceived_standing p f (setAPort s p (edgeBegun f.good (getAPort s p)))
  rw [getAPort_setAPort_same] at hstand
  obtain ⟨_, _, _, _, _, htx⟩ := txEdge_frame p
    (edgeReceived p f (setAPort s p (edgeBegun f.good (getAPort s p)))) f.good f.host
  rw [getAPort_keep, htx]
  exact ⟨hstand, rfl, rfl⟩

/-! ## Clock faults -/

theorem exec_portClockLoss_of_clocked (hst : (getAPort s p).st = 1 ∨ (getAPort s p).st = 3)
    (hclk : onTimeline p (getAPort s p).fields = false) :
    exec (.portClockLoss p) s = .next (keep s (portClock p (bumpAPort (setAPort s p
      { getAPort s p with st := 2, good := 0, out := (getAPort s p).out.map fun _ => 0 }) p .portHolds))) := by
  have hc : (((getAPort s p).st == 1 || (getAPort s p).st == 3) && !(onTimeline p (getAPort s p).fields)) = true := by
    simpa [hclk] using hst
  change execPortClockLoss p s = _
  rw [execPortClockLoss, onPart_run (isAudioPort_of_range h8 h19) hs]
  exact congrArg (fun t => Host.Outcome.next (keep s t)) (guarded_true hc)

/-- In HOLD or FAULT a GRAPH-mode port takes a zero frame, and what its transmit ring then gives up leaves the rest. -/
theorem exec_portHoldFrame_of_graph (h17 : p ≤ 17) (hst : (getAPort s p).st = 2 ∨ (getAPort s p).st = 3)
    (hgraph : aprm s p 14 = 0) : ∃ t cons buf, exec (.portHoldFrame p) s = .next t ∧ getAPort t p =
      { received (aprm s p 15) (List.replicate (slotsOf p (getAPort s p).fields) 0) (getAPort s p) with
        txCons := cons, txBuf := buf } := by
  have hc : ((getAPort s p).st == 2 || (getAPort s p).st == 3) = true := by simpa using hst
  have hmode : fldN (getAPort s p).fields (fk 0x0C 14 0) = 0 := hgraph
  change ∃ t cons buf, execPortHoldFrame p s = .next t ∧ _
  rw [execPortHoldFrame, onPart_run (isAudioPort_of_range h8 h19) hs, guarded_true hc, rxFrame_of_graph _ hgraph h17]
  cases hin : isAesIn p
  · refine ⟨_, (getAPort s p).txCons + 1, Tab.del (getAPort s p).txBuf ((getAPort s p).txCons % aprm s p 15), rfl, ?_⟩
    simp [received, hmode, aprm]
  · exact ⟨_, _, _, rfl, getAPort_setAPort_same ..⟩

/-! ## Measurements -/

section
variable {r : Nat} (hr : r < 2 ^ 32) (hst : (getAPort s p).st ≠ 0) (hgood : 32 ≤ (getAPort s p).good)
variable (hclk : onTimeline p (getAPort s p).fields = false)
include hr hst hgood hclk

theorem exec_portRateMeasure_of_fit {n : Nat} (hfit : fitRate s p r = some n) :
    ∃ t, exec (.portRateMeasure p r) s = .next t ∧ (getAPort t p).st = 1 ∧ (getAPort t p).rate = r ∧
      (getAPort t p).ratio = ((r : Int) - 16 * n) * 100000000 / (16 * n) := by
  change ∃ t, execPortRateMeasure p r s = .next t ∧ _
  rw [execPortRateMeasure, onPart_run (measurement_named h8 h19 hr) hs, guarded_true (measurement_due hst hgood hclk), hfit]
  refine ⟨_, rfl, ?_⟩
  dsimp only
  split
  case isTrue h1 => simp [h1]
  case isFalse => split <;> simp

theorem exec_portRateMeasure_of_no_fit (hfit : fitRate s p r = none) :
    ∃ t, exec (.portRateMeasure p r) s = .next t ∧ (getAPort t p).st = 3 ∧ (getAPort t p).rate = r := by
  change ∃ t, execPortRateMeasure p r s = .next t ∧ _
  rw [execPortRateMeasure, onPart_run (measurement_named h8 h19 hr) hs, guarded_true (measurement_due hst hgood hclk), hfit]
  refine ⟨_, rfl, ?_⟩
  dsimp only
  split
  case isTrue h3 => simp [h3]
  case isFalse => simp

end

end

/-! ## AES3 inputs -/

/-- The muting that a channel-status block begins or ends leaves the blocks stored. -/
theorem cs_of_muting {p : Nat} {s : State} {v : Bytes × Bytes} {begins ends : Bool} (h : (getAPort s p).cs = v) :
    (getAPort (if begins then aesDetect p 0 s
      else if ends then nonaudio p 0 0 (setAPort s p { getAPort s p with gate := false }) else s) p).cs = v := by
  split
  · rw [getAPort_aesDetect]
    exact h
  · split
    · rw [getAPort_nonaudio, getAPort_setAPort_same]
      exact h
    · exact h

section
variable {s : State} (hs : halted s = false) {p : Nat} (hin : p = 16 ∨ p = 17)
include hs hin

/-- The accepted blocks are stored first; the event and the muting that may follow leave them. -/
theorem exec_aes3CsBlock_of_accepted {a b : Bytes} (hst : (getAPort s p).st = 1) (ha : csOk a = true) (hb : csOk b = true) :
    ∃ t, exec (.aes3CsBlock p a b) s = .next t ∧ (getAPort t p).cs = (a, b) := by
  change ∃ t, execAes3CsBlock p a b s = .next t ∧ _
  rw [execAes3CsBlock, onPart_run (isAesIn_of_input hin) hs, guarded_true (beq_iff_eq.2 hst)]
  refine ⟨_, rfl, ?_⟩
  simp only [ha, hb, if_true, getAPort_keep]
  exact cs_of_muting (ite_elim (P := fun t => (getAPort t p).cs = (a, b)) (by simp) (by simp))

theorem exec_aes3NonaudioEnd_of_quiet {n : Nat} (hmute : (getAPort s p).mute = some n) (hn : 4096 ≤ n) :
    ∃ t, exec (.aes3NonaudioEnd p) s = .next t ∧ getAPort t p = { getAPort s p with mute := none } := by
  change ∃ t, execAes3NonaudioEnd p s = .next t ∧ _
  rw [execAes3NonaudioEnd, onPart_run (isAesIn_of_input hin) hs, guarded_true (by simp [hmute, hn])]
  refine ⟨_, rfl, ?_⟩
  dsimp only
  split <;> simp

end

/-- Settles O35: at a frame edge the two sides of the port leave what the edge has decided, and the receive side gives a GRAPH-mode
ring its frame; for each other event one lemma above. -/
theorem audioPortEvents : Obligations.AudioPortEvents := by
  unfold Obligations.AudioPortEvents
  intro s p hs h8 h19 a
  refine ⟨fun f hst => ?_, fun hst hclk => ?_, fun hst hgraph h17 => ?_,
    fun r hr hst hgood hclk => ⟨fun n hfit => ?_, fun hfit => ?_⟩, fun ba bb hin hst ha hb => ?_, fun n hin hmute hn => ?_⟩
  · obtain ⟨t, ht, hstand, hprod, hbuf⟩ := exec_audioFrameEdge_port hs h8 h19 f hst
    simp only [standing, Prod.mk.injEq] at hstand
    obtain ⟨-, hst', hgood, hrx, htx, hmask⟩ := hstand
    refine ⟨t, ht, hst'.trans hst, hgood, hrx, htx, hmask, fun h15 hg hgraph hdepth => ?_⟩
    have hrecv := edgeReceived_of_graph (s := setAPort s p (edgeBegun f.good a)) h15 hg ((aprm_setAPort ..).trans hgraph)
      ((aprm_setAPort ..).trans hdepth)
    rw [hprod, hbuf, hrecv, getAPort_setAPort_same, aprm_setAPort]
    exact ⟨rfl, tab_get_set_same ..⟩
  · exact ⟨_, exec_portClockLoss_of_clocked hs h8 h19 hst hclk, by simp [a]⟩
  · obtain ⟨t, _, _, ht, hp⟩ := exec_portHoldFrame_of_graph hs h8 h19 h17 hst hgraph
    refine ⟨t, ht, ?_⟩
    rw [hp]
    exact ⟨rfl, rfl, tab_get_set_same ..⟩
  · exact exec_portRateMeasure_of_fit hs h8 h19 hr hst hgood hclk hfit
  · exact exec_portRateMeasure_of_no_fit hs h8 h19 hr hst hgood hclk hfit
  · exact exec_aes3CsBlock_of_accepted hs hin hst ha hb
  · exact exec_aes3NonaudioEnd_of_quiet hs hin hmute hn

end Sys2Proof.Proofs
end

section
/-!
PROOFS. The commands on audio and Ethernet ports: what each body answers when its checks pass (R527 to R530, R534, R539, R549,
R552, R565, R742), and that completion leaves the ports.
-/

namespace Sys2Proof.Proofs

open Sys2Proof Sys2Proof.Machine Sys2Proof.Laws

/-! ## Completion -/

theorem completeRing_frame (F k : Nat) (e : Bytes) (st : Status) (h : Nat) (s : State) :
    ∃ x, completeRing F k e st h s = { s with host := x } := by
  unfold completeRing
  split
  · exact ⟨_, rfl⟩
  · dsimp only
    split
    · exact ⟨_, rfl⟩
    · exact ⟨_, rfl⟩

/-- The completion of a command changes the host part alone. -/
theorem finish_frame (F : Nat) (src : Src) (st : Status) (out : Bytes) (h : Nat) (u : State) :
    ∃ x, finish F src st out h u = { u with host := x } := by
  cases src with
  | mbox f m =>
    obtain ⟨t, ht⟩ := completeMb_frame F m st out u
    exact ⟨_, ht⟩
  | ring f k e => exact completeRing_frame F k e st h u

section
variable (F : Nat) (src : Src) (st : Status) (out : Bytes) (h : Nat) (u : State)

@[simp] theorem finish_aud : (finish F src st out h u).aud = u.aud := by
  obtain ⟨x, hx⟩ := finish_frame F src st out h u
  rw [hx]

@[simp] theorem finish_eth : (finish F src st out h u).eth = u.eth := by
  obtain ⟨x, hx⟩ := finish_frame F src st out h u
  rw [hx]

end

/-! ## Flow control of an Ethernet port -/

/-- What flow control leaves of the ports: the mode and a port's fields. -/
def laidOut (i : Nat) (s : State) : Nat × Tab Int := (s.eth.mode, (getPort s i).fields)

theorem laidOut_setPort_same (s : State) (i : Nat) (e : EthPort) : laidOut i (setPort s i e) = (s.eth.mode, e.fields) :=
  congrArg (fun f : EthPort => (s.eth.mode, f.fields)) (getPort_setPort_same s i e)

theorem laidOut_setPort {s : State} {i : Nat} {e : EthPort} (h : e.fields = (getPort s i).fields) :
    laidOut i (setPort s i e) = laidOut i s := by
  rw [laidOut_setPort_same, h, laidOut]

theorem sendFc_laidOut (i m q : Nat) (s : State) : laidOut i (sendFc i m q s) = laidOut i s := by
  simp [sendFc, bumpPort, updPort, laidOut_setPort]

theorem fcSync_laidOut (i : Nat) (s : State) : laidOut i (fcSync i s) = laidOut i s := by
  unfold fcSync
  refine foldl_unchanged (fun s r => ?_) _ s
  dsimp only
  split
  · exact (sendFc_laidOut ..).trans (laidOut_setPort rfl)
  · split
    · exact (sendFc_laidOut ..).trans (laidOut_setPort rfl)
    · rfl

theorem fifoSync_laidOut (i : Nat) (s : State) : laidOut i (fifoSync i s) = laidOut i s := by
  unfold fifoSync
  dsimp only
  split
  · exact (fcSync_laidOut ..).trans (laidOut_setPort rfl)
  · split
    · exact (fcSync_laidOut ..).trans (laidOut_setPort rfl)
    · rfl

/-! ## PORT_CONFIG of an audio port -/

theorem getAPort_setAuds (ls : List Nat) (g : State → Nat → LegAud) (s : State) (p : Nat) :
    getAPort (ls.foldl (fun s l => setAud s l (g s l)) s) p = getAPort s p :=
  getAPort_of_aud (foldl_unchanged (π := State.aud) (f := fun s l => setAud s l (g s l)) (fun _ _ => rfl) ls s) p

section
variable {s : State} {F i : Nat} {p d : Bytes} (hi : resolvePort (le p 0 4) = some i)
include hi

/-- A DISABLED audio port starts with the entries applied. -/
theorem bodyPortConfig_of_disabled {fs : Tab Int} (hfs : fs = applyEntries (getAPort s i).fields (entries p 8 (le p 6 2)))
    (h8 : 8 ≤ i) (h19 : i ≤ 19)
    (hent : lowest (entryChecks (entries p 8 (le p 6 2)) fun k => fTable k == 0x0C && portRow i (fRow k)) = none)
    (hfit : portFieldsOk s i fs = true)
    (hlegs : ∀ l ∈ portLegs s i, ∀ o, getObj s l = some o → o.state ≠ .active ∧ o.state ≠ .held)
    (hst : (getAPort s i).st = 0) :
    ∃ u, bodyPortConfig F p d s = .ok [] 0 u ∧ getAPort u i = startPort i fs (getAPort s i) := by
  subst hfs
  simp only [bodyPortConfig, hi, if_neg (Nat.not_lt.2 h8), isAudioPort_of_range h8 h19, if_true, audioConfig]
  rw [checked_of_lowest ((lowest_append ..).2 ⟨hent, ?_⟩), if_pos (.inr hst)]
  · exact ⟨_, rfl, (getAPort_setAuds ..).trans (getAPort_setAPort_same ..)⟩
  · simp only [lowest_eq_none, List.mem_cons, List.not_mem_nil, or_false, forall_eq_or_imp, forall_eq, Bool.or_eq_true,
      Bool.not_eq_true', List.any_eq_false]
    refine ⟨hfit, .inr fun l hl => ?_⟩
    cases ho : getObj s l with
    | none => simp
    | some o => simpa using hlegs l hl o ho

/-! ## PORT_CONFIG of an Ethernet port -/

/-- Without an entry for MODE the layout stays, and flow control leaves the fields applied. -/
theorem bodyPortConfig_of_same_mode (h8 : i < 8)
    (hent : lowest (entryChecks (entries p 8 (le p 6 2)) fun k => fTable k == 0x12 && decide (fRow k ≤ 6)) = none)
    (hmode : ∀ e ∈ entries p 8 (le p 6 2), fRow e.key ≠ 0)
    (hfifo : fifoOk (applyEntries (getPort s i).fields (entries p 8 (le p 6 2))) = true)
    (heven : fld (applyEntries (getPort s i).fields (entries p 8 (le p 6 2))) (fk 0x12 3 0) % 2 = 0) :
    ∃ u, bodyPortConfig F p d s = .ok [] 0 u ∧
      laidOut i u = (s.eth.mode, applyEntries (getPort s i).fields (entries p 8 (le p 6 2))) := by
  have hfind : (entries p 8 (le p 6 2)).find? (fun x => fRow x.key = 0) = none := by simpa using hmode
  have hall : (entries p 8 (le p 6 2)).filter (fun x => fRow x.key ≠ 0) = entries p 8 (le p 6 2) := by
    simpa [List.filter_eq_self] using hmode
  simp only [bodyPortConfig, hi, if_pos h8, ethConfig, hfind, hall, if_true]
  rw [checked_of_lowest ((lowest_append ..).2 ⟨hent, by simp [hfifo, heven]⟩)]
  refine ⟨_, rfl, (fcSync_laidOut ..).trans ((fifoSync_laidOut ..).trans (laidOut_setPort_same ..))⟩

/-! ## PORT_READ and PORT_SLOTS -/

theorem bodyPortRead_of_ethernet (h8 : i < 8) : bodyPortRead F p d s = .ok (ethStatus s i) 0 s := by
  simp [bodyPortRead, hi, h8]

theorem bodyPortRead_of_audio (h8 : 8 ≤ i) (h19 : i ≤ 19) : bodyPortRead F p d s = .ok (portStatus s i) 0 s := by
  simp [bodyPortRead, hi, Nat.not_lt.2 h8, isAudioPort_of_range h8 h19]

theorem bodyPortSlots_of_fitting (h8 : 8 ≤ i) (h15 : i ≤ 15) (hrx : le p 4 4 < 2 ^ slotsOf i (getAPort s i).fields)
    (htx : le p 8 4 < 2 ^ slotsOf i (getAPort s i).fields) :
    bodyPortSlots F p d s = .ok [] 0 (setAPort s i { getAPort s i with
      fields := Tab.set (Tab.set (getAPort s i).fields (fk 0x0C 12 0) (le p 4 4)) (fk 0x0C 12 1) (le p 8 4)
      newMask := some (le p 4 4, le p 8 4) }) := by
  have htdm : isTdm i = true := by simp [isTdm, h8, h15]
  simp [bodyPortSlots, hi, htdm, isAudioPort_of_range h8 (by omega : i ≤ 19), hrx, htx, checked]

/-! ## AES3 channel status -/

theorem bodyAes3Read_of_input (hin : i = 16 ∨ i = 17) :
    bodyAes3Read F p d s = .ok (padTo 24 (getAPort s i).cs.1 ++ padTo 24 (getAPort s i).cs.2) 0 s := by
  simp [bodyAes3Read, hi, isAesIn_of_input hin]

theorem bodyAes3OutStatus_of_output (hout : i = 18 ∨ i = 19) :
    bodyAes3OutStatus F p d s = .ok [] 0 (setAPort s i
      { getAPort s i with csOut := (csSent ((p.drop 8).take 23), csSent ((p.drop 32).take 23)) }) := by
  have h : isAesOut i = true := by simpa [isAesOut] using hout
  simp [bodyAes3OutStatus, hi, h]

end

/-! ## AUDIO_CLOCK -/

theorem bodyAudioClock_of_idle {s : State} {F : Nat} {q d : Bytes} (hfam : le q 0 1 ≤ 1) (h1 : 1 ≤ le q 1 1) (h2 : le q 1 1 ≤ 2)
    (hen : le q 2 1 ≤ 1) (hidle : ∀ e ∈ s.aud.ports, e.2.st = 1 → onTimeline e.1 e.2.fields = false) :
    bodyAudioClock F q d s = .ok [] 0 (setTime s { s.time with
      mclkFam := le q 0 1, mclkMult := le q 1 1, mclkEn := le q 2 1 == 1
      mclkAl := s.time.mclkAl && le q 0 1 == s.time.mclkFam }) := by
  have hbusy : (s.aud.ports.any fun e => e.2.st == 1 && onTimeline e.1 e.2.fields) = false := by
    rw [List.any_eq_false]
    intro e he
    simpa using hidle e he
  simp [bodyAudioClock, hbusy, hfam, h1, h2, hen, checked]

/-- Settles O36: each command is its body served, and each body's checks are the hypotheses. -/
theorem portCommands : Obligations.PortCommands := by
  unfold Obligations.PortCommands
  intro s F src p i hi a
  refine ⟨fun hu _ h8 h19 hent hfit hlegs hst => ?_, fun hu h8 hent hmode hfifo heven => ?_, fun hu h19 => ?_,
    fun hu h8 h15 hrx htx => ?_, fun q hu hfam h1 h2 hen hidle => ?_, fun hu hin => ?_, fun hu hout => ?_⟩
  · obtain ⟨u, hb, hport⟩ := bodyPortConfig_of_disabled hi rfl h8 h19 hent hfit hlegs hst
    refine ⟨_, serve_ok hu hb, ?_⟩
    rw [getAPort_keep, getAPort_of_aud (finish_aud ..), hport]
    exact ⟨rfl, rfl, rfl, rfl⟩
  · obtain ⟨u, hb, hlaid⟩ := bodyPortConfig_of_same_mode hi h8 hent hmode hfifo heven
    obtain ⟨hm, hf⟩ := Prod.mk.inj hlaid
    refine ⟨_, serve_ok hu hb, ?_, ?_⟩
    · simpa [getPort] using hf
    · simpa using hm
  · rcases Nat.lt_or_ge i 8 with h8 | h8
    · exact ⟨_, serve_ok hu (bodyPortRead_of_ethernet hi h8), fun _ => rfl, fun h => absurd h (Nat.not_le.2 h8)⟩
    · exact ⟨_, serve_ok hu (bodyPortRead_of_audio hi h8 h19), fun h => absurd h (Nat.not_lt.2 h8), fun _ => rfl⟩
  · exact serve_ok hu (bodyPortSlots_of_fitting hi h8 h15 hrx htx)
  · exact serve_ok hu (bodyAudioClock_of_idle hfam h1 h2 hen hidle)
  · exact serve_ok hu (bodyAes3Read_of_input hi hin)
  · exact serve_ok hu (bodyAes3OutStatus_of_output hi hout)

end Sys2Proof.Proofs
end

section
/-!
PROOFS. Token buckets (R574) and policers (R164 to R168): what a refill gives, and a marker as a refill of both buckets that one of
three colours follows.
-/

namespace Sys2Proof.Proofs

open Sys2Proof Sys2Proof.Machine Sys2Proof.Laws

/-! ## Token buckets -/

/-- The tokens that the ticks since a bucket's latest update bring, before the burst cuts them (R574). -/
def gained (b : Bucket) (now_ : Nat) : Nat := b.rate * (now_ - b.at_) * 5 * 65536 / 32000000000

theorem refill_eq (b : Bucket) (burst now_ : Nat) : b.refill burst now_ =
    { b with tok := min ((burst : Int) * 65536) (b.tok + gained b now_), at_ := now_ } := rfl

theorem cast_gained {b : Bucket} {now_ : Nat} (h : b.at_ ≤ now_) :
    (gained b now_ : Int) = (b.rate * ((now_ : Int) - b.at_) * 5 * 65536) / 32000000000 := by
  simp [gained, Nat.cast_sub h]

/-- Settles O37: the floor of the ticks' tokens is the same number in Nat and in Int. -/
theorem tokenBucketPseudocode : Obligations.TokenBucketPseudocode := by
  unfold Obligations.TokenBucketPseudocode
  intro b burst now_ l h
  rw [← cast_gained h]
  exact ⟨⟨rfl, rfl, rfl⟩, decide_eq_true_iff, rfl⟩

section
variable {b : Bucket}

/-- Two floors lose at least as much as the floor of the sum. -/
theorem gained_refill_le (burst : Nat) {t1 t2 : Nat} (h1 : b.at_ ≤ t1) (h2 : t1 ≤ t2) :
    gained b t1 + gained (b.refill burst t1) t2 ≤ gained b t2 := by
  have hsum : b.rate * (t1 - b.at_) * 5 * 65536 + b.rate * (t2 - t1) * 5 * 65536 = b.rate * (t2 - b.at_) * 5 * 65536 := by
    rw [← Nat.add_mul, ← Nat.add_mul, ← Nat.mul_add, Nat.add_comm (t1 - _), Nat.sub_add_sub_cancel h2 h1]
  calc gained b t1 + gained (b.refill burst t1) t2
    _ ≤ (b.rate * (t1 - b.at_) * 5 * 65536 + b.rate * (t2 - t1) * 5 * 65536) / 32000000000 := Nat.div_add_div_le_add_div ..
    _ = gained b t2 := by rw [hsum, gained]

theorem refill_refill_tok_le (burst : Nat) {t1 t2 : Nat} (h1 : b.at_ ≤ t1) (h2 : t1 ≤ t2) :
    ((b.refill burst t1).refill burst t2).tok ≤ (b.refill burst t2).tok := by
  have h := gained_refill_le burst h1 h2
  simp only [refill_eq] at h ⊢
  omega

theorem refill_tok_le (b : Bucket) (burst now_ : Nat) : (b.refill burst now_).tok ≤ burst * 65536 := min_le_left ..

theorem neg_le_charge_tok (l : Nat) (h : b.may = true) : -(l * 65536 : Int) ≤ (b.charge l).tok := by
  have h0 : 0 ≤ b.tok := of_decide_eq_true h
  simp only [Bucket.charge]
  omega

end

/-! ## Markers -/

/-- What the single-rate marker makes of a packet that finds `tc` and `te` tokens (R166). -/
def srSpend (x : Policer) (pre : Colour) (n tc te : Nat) : Colour × Policer :=
  if pre = .green ∧ n * 65536 ≤ tc then (.green, { x with tc := tc - n * 65536, te := te })
  else if pre ≠ .red ∧ n * 65536 ≤ te then (.yellow, { x with tc := tc, te := te - n * 65536 })
  else (.red, { x with tc := tc, te := te })

/-- What the two-rate marker makes of a packet that finds `tc` and `tp` tokens (R166). -/
def trSpend (x : Policer) (pre : Colour) (n tc tp : Nat) : Colour × Policer :=
  if pre = .red ∨ tp < n * 65536 then (.red, { x with tc := tc, tp := tp })
  else if pre = .yellow ∨ tc < n * 65536 then (.yellow, { x with tc := tc, tp := tp - n * 65536 })
  else (.green, { x with tc := tc - n * 65536, tp := tp - n * 65536 })

section
variable (x : Policer) (pre : Colour) (n dt : Nat)

theorem srSpend_cases (tc te : Nat) :
    (pre = .green ∧ n * 65536 ≤ tc ∧ srSpend x pre n tc te = (.green, { x with tc := tc - n * 65536, te := te })) ∨
    (pre ≠ .red ∧ n * 65536 ≤ te ∧ srSpend x pre n tc te = (.yellow, { x with tc := tc, te := te - n * 65536 })) ∨
    srSpend x pre n tc te = (.red, { x with tc := tc, te := te }) := by
  unfold srSpend
  by_cases hg : pre = .green ∧ n * 65536 ≤ tc
  · exact .inl ⟨hg.1, hg.2, if_pos hg⟩
  · rw [if_neg hg]
    by_cases hy : pre ≠ .red ∧ n * 65536 ≤ te
    · exact .inr (.inl ⟨hy.1, hy.2, if_pos hy⟩)
    · exact .inr (.inr (if_neg hy))

theorem trSpend_cases (tc tp : Nat) :
    (pre = .green ∧ n * 65536 ≤ tc ∧ n * 65536 ≤ tp ∧
      trSpend x pre n tc tp = (.green, { x with tc := tc - n * 65536, tp := tp - n * 65536 })) ∨
    (pre ≠ .red ∧ n * 65536 ≤ tp ∧ trSpend x pre n tc tp = (.yellow, { x with tc := tc, tp := tp - n * 65536 })) ∨
    trSpend x pre n tc tp = (.red, { x with tc := tc, tp := tp }) := by
  unfold trSpend
  by_cases hr : pre = .red ∨ tp < n * 65536
  · exact .inr (.inr (if_pos hr))
  · obtain ⟨hpre, htp⟩ := not_or.1 hr
    rw [if_neg hr]
    by_cases hy : pre = .yellow ∨ tc < n * 65536
    · exact .inr (.inl ⟨hpre, Nat.le_of_not_lt htp, if_pos hy⟩)
    · obtain ⟨hpre', htc⟩ := not_or.1 hy
      have hgreen : pre = .green := by cases pre <;> trivial
      exact .inl ⟨hgreen, Nat.le_of_not_lt htc, Nat.le_of_not_lt htp, if_neg hy⟩

/-- The single-rate marker refills both buckets, what overflows the committed one going to the excess one, and spends. -/
theorem srtcm_refills : ∃ tc te, tc ≤ fldN x.fields (fk 0x0D 3 0) * 65536 ∧
    (x.te ≤ fldN x.fields (fk 0x0D 4 0) * 65536 → te ≤ fldN x.fields (fk 0x0D 4 0) * 65536) ∧
    tc + te ≤ x.tc + x.te + fldN x.fields (fk 0x0D 2 0) * dt * 5 * 65536 / 4000000000 ∧
    srtcm x pre n dt = srSpend x pre n tc te := by
  refine ⟨_, _, min_le_left .., ?_, ?_, rfl⟩
  · split <;> omega
  · split <;> omega

/-- The two-rate marker refills each bucket by its own rate, and spends. -/
theorem trtcm_refills : ∃ tc tp, tc ≤ fldN x.fields (fk 0x0D 3 0) * 65536 ∧ tp ≤ fldN x.fields (fk 0x0D 6 0) * 65536 ∧
    tc ≤ x.tc + fldN x.fields (fk 0x0D 2 0) * dt * 5 * 65536 / 4000000000 ∧
    tp ≤ x.tp + polPir x.fields * dt * 5 * 65536 / 4000000000 ∧ trtcm x pre n dt = trSpend x pre n tc tp :=
  ⟨_, _, min_le_left .., min_le_left .., min_le_right .., min_le_right .., rfl⟩

theorem srtcm_keeps : (srtcm x pre n dt).2.fields = x.fields ∧ (srtcm x pre n dt).2.ctrs = x.ctrs := by
  obtain ⟨tc, te, -, -, -, hr⟩ := srtcm_refills x pre n dt
  rw [hr]
  rcases srSpend_cases x pre n tc te with ⟨-, -, h⟩ | ⟨-, -, h⟩ | h <;> simp [h]

theorem trtcm_keeps : (trtcm x pre n dt).2.fields = x.fields ∧ (trtcm x pre n dt).2.ctrs = x.ctrs := by
  obtain ⟨tc, tp, -, -, -, -, hr⟩ := trtcm_refills x pre n dt
  rw [hr]
  rcases trSpend_cases x pre n tc tp with ⟨-, -, -, h⟩ | ⟨-, -, h⟩ | h <;> simp [h]

/-- No marker raises a packet above its pre-colour. -/
theorem srtcm_colour : (pre ≠ .green → (srtcm x pre n dt).1 ≠ .green) ∧ (pre = .red → (srtcm x pre n dt).1 = .red) := by
  obtain ⟨tc, te, -, -, -, hr⟩ := srtcm_refills x pre n dt
  rw [hr]
  rcases srSpend_cases x pre n tc te with ⟨hpre, -, -⟩ | ⟨hpre, -, h⟩ | h
  · simp [hpre]
  · simp [h, hpre]
  · simp [h]

theorem trtcm_colour : (pre ≠ .green → (trtcm x pre n dt).1 ≠ .green) ∧ (pre = .red → (trtcm x pre n dt).1 = .red) := by
  obtain ⟨tc, tp, -, -, -, -, hr⟩ := trtcm_refills x pre n dt
  rw [hr]
  rcases trSpend_cases x pre n tc tp with ⟨hpre, -, -, -⟩ | ⟨hpre, -, h⟩ | h
  · simp [hpre]
  · simp [h, hpre]
  · simp [h]

theorem srtcm_bounds (hte : x.te ≤ fldN x.fields (fk 0x0D 4 0) * 65536) :
    (srtcm x pre n dt).2.tc ≤ fldN x.fields (fk 0x0D 3 0) * 65536 ∧
    (srtcm x pre n dt).2.te ≤ fldN x.fields (fk 0x0D 4 0) * 65536 ∧
    ((srtcm x pre n dt).1 ≠ .red → (srtcm x pre n dt).2.tc + (srtcm x pre n dt).2.te + n * 65536 ≤
      x.tc + x.te + fldN x.fields (fk 0x0D 2 0) * dt * 5 * 65536 / 4000000000) := by
  obtain ⟨tc, te, hc, he, hsum, hr⟩ := srtcm_refills x pre n dt
  rw [hr]
  rcases srSpend_cases x pre n tc te with ⟨-, hn, h⟩ | ⟨-, hn, h⟩ | h <;> simp only [h, ne_eq, not_true_eq_false]
  · exact ⟨by omega, he hte, fun _ => by omega⟩
  · exact ⟨hc, by omega, fun _ => by omega⟩
  · exact ⟨hc, he hte, False.elim⟩

theorem trtcm_bounds :
    (trtcm x pre n dt).2.tc ≤ fldN x.fields (fk 0x0D 3 0) * 65536 ∧
    (trtcm x pre n dt).2.tp ≤ fldN x.fields (fk 0x0D 6 0) * 65536 ∧
    ((trtcm x pre n dt).1 ≠ .red →
      (trtcm x pre n dt).2.tp + n * 65536 ≤ x.tp + polPir x.fields * dt * 5 * 65536 / 4000000000) ∧
    ((trtcm x pre n dt).1 = .green →
      (trtcm x pre n dt).2.tc + n * 65536 ≤ x.tc + fldN x.fields (fk 0x0D 2 0) * dt * 5 * 65536 / 4000000000) := by
  obtain ⟨tc, tp, hc, hp, hc', hp', hr⟩ := trtcm_refills x pre n dt
  rw [hr]
  rcases trSpend_cases x pre n tc tp with ⟨-, hnc, hnp, h⟩ | ⟨-, hnp, h⟩ | h <;> simp only [h, ne_eq, not_true_eq_false]
  · exact ⟨by omega, by omega, fun _ => by omega, fun _ => by omega⟩
  · exact ⟨hc, by omega, fun _ => by omega, fun hgreen => nomatch hgreen⟩
  · exact ⟨hc, hp, False.elim, fun hgreen => nomatch hgreen⟩

end

/-! ## Policing a packet -/

/-- What the marker of a policer's ALGORITHM makes of a packet (R166). -/
def marked (x : Policer) (pre : Colour) (n dt : Nat) : Colour × Policer :=
  if fld x.fields (fk 0x0D 0 0) = 0 then srtcm x pre n dt else trtcm x pre n dt

theorem marked_keeps (x : Policer) (pre : Colour) (n dt : Nat) :
    (marked x pre n dt).2.fields = x.fields ∧ (marked x pre n dt).2.ctrs = x.ctrs := by
  unfold marked
  split
  · exact srtcm_keeps ..
  · exact trtcm_keeps ..

/-- A packet of `n` bytes in the two counters of its colour (R168). -/
def counted (cs : Counters) (n : Nat) : Colour → Counters
  | .green => bump (bump cs .greenPackets) .greenBytes n
  | .yellow => bump (bump cs .yellowPackets) .yellowBytes n
  | .red => bump (bump cs .redPackets) .redBytes n

theorem getPol_police {s : State} {p i : Nat} {x : Policer} (n d : Nat) (hx : getPol s p i = some x) :
    ∃ y, getPol (police p i n d s).2 p i = some y ∧ y.at_ = s.time.ticks ∧ y.fields = x.fields ∧
      y.ctrs = counted x.ctrs n (police p i n d s).1 := by
  obtain ⟨hfields, hctrs⟩ := marked_keeps x (preColour s x d) n (s.time.ticks - x.at_)
  refine ⟨{ (marked x (preColour s x d) n (s.time.ticks - x.at_)).2 with
    at_ := s.time.ticks
    ctrs := counted x.ctrs n (marked x (preColour s x d) n (s.time.ticks - x.at_)).1 }, ?_, rfl, hfields, ?_⟩
  · refine (tab_get_set_same ..).trans ?_
    simp only [hx, Option.getD_some, ← hctrs]
    rfl
  · simp only [police, hx, Option.getD_some]
    rfl

/-- Settles O38: every marker is a refill and one of three spendings. -/
theorem bucketsAndMarkers : Obligations.BucketsAndMarkers := by
  unfold Obligations.BucketsAndMarkers
  refine ⟨fun b burst t1 t2 h1 h2 => ⟨refill_refill_tok_le burst h1 h2, refill_tok_le ..⟩, fun b l h => neg_le_charge_tok l h,
    fun x pre n dt => ?_, fun s p i n d x hx => getPol_police n d hx⟩
  obtain ⟨hgreen, hred⟩ := srtcm_colour x pre n dt
  obtain ⟨hgreen', hred'⟩ := trtcm_colour x pre n dt
  exact ⟨fun _ => srtcm_bounds x pre n dt, fun h => ⟨hgreen h, hgreen' h⟩, fun h => ⟨hred h, hred' h⟩,
    fun _ _ => trtcm_bounds x pre n dt⟩

end Sys2Proof.Proofs
end

section
/-!
PROOFS. Time gates and received flow control (R144, R585, R588 to R590): what a due gate event and a flow-control frame make of
their port.
-/

namespace Sys2Proof.Proofs

open Sys2Proof Sys2Proof.Machine Sys2Proof.Laws

@[simp] theorem getPort_keep (s t : State) (p : Nat) : getPort (keep s t) p = getPort t p := rfl

theorem getPort_of_eth {s t : State} (h : t.eth = s.eth) (p : Nat) : getPort t p = getPort s p :=
  congrArg (fun e : EthPart => Tab.getD e.ports p {}) h

/-! ## Gate events -/

section
variable {s : State} {p : Nat} {g : GateList} (hs : halted s = false) (hp : p < 8)
include hs hp

theorem exec_gateEntryChange_of_due (hg : (getPort s p).gates = some g) (hend : (getPort s p).gateEnd ≤ phcNs s.time)
    (hin : (getPort s p).gateEnd < (getPort s p).gateCycle + g.cycle) (hmore : (getPort s p).gateIdx + 1 < g.ents.length) :
    exec (.gateEntryChange p) s = .next (keep s (setPort s p { getPort s p with
      gateIdx := (getPort s p).gateIdx + 1
      gateEnd := entryEnd g (getPort s p).gateCycle ((getPort s p).gateIdx + 1) })) := by
  change execGateEntryChange p s = _
  rw [execGateEntryChange, onPart_run (decide_eq_true hp) hs]
  simp only [hg]
  rw [guarded_true (by simp [hend, hin, hmore])]

theorem exec_gateCycleBoundary_of_due (hg : (getPort s p).gates = some g)
    (hdue : (getPort s p).gateHold.getD ((getPort s p).gateCycle + g.cycle) ≤ phcNs s.time) :
    exec (.gateCycleBoundary p) s = .next (keep s (setPort s p { getPort s p with
      gateIdx := 0, gateCycle := (getPort s p).gateHold.getD ((getPort s p).gateCycle + g.cycle)
      gateEnd := entryEnd g ((getPort s p).gateHold.getD ((getPort s p).gateCycle + g.cycle)) 0, gateHold := none })) := by
  change execGateCycleBoundary p s = _
  rw [execGateCycleBoundary, onPart_run (decide_eq_true hp) hs]
  simp only [hg]
  rw [guarded_true (decide_eq_true hdue)]

theorem exec_gateListActive_of_due {ct : Nat} (hg : (getPort s p).gatesNew = some (g, ct)) (hdue : ct ≤ phcNs s.time) :
    ∃ t, exec (.gateListActive p) s = .next t ∧ t.time = s.time ∧ getPort t p = { getPort s p with
      gates := if g.ents = [] then none else some g
      gatesNew := none, gateIdx := 0, gateCycle := ct, gateEnd := entryEnd g ct 0, gateHold := none } := by
  change ∃ t, execGateListActive p s = .next t ∧ _
  rw [execGateListActive, onPart_run (decide_eq_true hp) hs]
  simp only [hg]
  refine ⟨_, rfl, ?_⟩
  rw [guarded_true (decide_eq_true hdue), getPort_keep, getPort_of_eth (emit_eth ..), getPort_setPort_same]
  exact ⟨emit_time .., by simp⟩

end

/-- An entry that is not the last of its list and may be cut by the cycle boundary (R589). -/
theorem entryEnd_of_follows {g : GateList} {i : Nat} (cyc : Nat) (h : i + 1 < g.ents.length) : entryEnd g cyc (i + 1) =
    if i + 2 = g.ents.length then cyc + g.cycle
    else min (cyc + g.cycle) (cyc + ((g.ents.take (i + 2)).map (·.2)).sum) := by
  have hlast : g.ents.length ≤ i + 1 + 1 ↔ i + 2 = g.ents.length := by omega
  simp only [entryEnd, hlast]

/-! ## Flow control received -/

/-- The table `t` of paused classes after class `c` of a PFC frame: a class of the mask is paused until the tick that `until_` gives
for its quanta, or resumes with quanta 0 (R585). -/
def pfcPaused (until_ : Nat → Nat) (mask : Nat) (quanta : List Nat) (t : Tab Nat) (c : Nat) : Tab Nat :=
  if bitOf mask c then
    (let q := quanta[c]?.getD 0
     if q = 0 then Tab.del t c else Tab.set t c (until_ q))
  else t

/-- The tick at which a pause for `q` quanta of 512 bit times on port `p` ends; none for 0 (R585). -/
def pauseEnd (s : State) (p q : Nat) : Option Nat :=
  if q = 0 then none else some (s.time.ticks + ceilDiv (512 * q * 4) (portGb s p * 5))

section
variable (until_ : Nat → Nat) (mask : Nat) (quanta : List Nat)

theorem get_pfcPaused (t : Tab Nat) (c d : Nat) : Tab.get (pfcPaused until_ mask quanta t c) d =
    if c = d ∧ bitOf mask d = true then (if quanta[d]?.getD 0 = 0 then none else some (until_ (quanta[d]?.getD 0)))
    else Tab.get t d := by
  unfold pfcPaused
  by_cases hcd : c = d
  · subst hcd
    by_cases hb : bitOf mask c = true
    · by_cases hq : quanta[c]?.getD 0 = 0 <;> simp [hb, hq, tab_get_del]
    · simp [hb]
  · by_cases hq : quanta[c]?.getD 0 = 0 <;> simp [hcd, hq, tab_get_del, tab_get_set, apply_ite (Tab.get · d)]

/-- Each class of the frame is set once. -/
theorem get_foldl_pfcPaused (cs : List Nat) (t : Tab Nat) (d : Nat) :
    Tab.get (cs.foldl (pfcPaused until_ mask quanta) t) d =
      if d ∈ cs ∧ bitOf mask d = true then (if quanta[d]?.getD 0 = 0 then none else some (until_ (quanta[d]?.getD 0)))
      else Tab.get t d := by
  induction cs generalizing t with
  | nil => simp
  | cons c cs ih =>
    rw [List.foldl_cons, ih, get_pfcPaused]
    by_cases hb : bitOf mask d = true
    · by_cases hd : d ∈ cs
      · simp [hb, hd]
      · simp [hb, hd, eq_comm]
    · simp [hb]

end

/-- A table that gives the keys of a list one value. -/
theorem tab_get_map_const {α : Type} (v : α) (ks : List Nat) (k : Nat) :
    Tab.get (ks.map fun c => (c, v)) k = if k ∈ ks then some v else none := by
  induction ks with
  | nil => rfl
  | cons c ks ih =>
    simp only [List.map_cons, Tab.get, ih, List.mem_cons]
    by_cases h : c = k
    · simp [h]
    · simp [h, Ne.symm h]

section
variable {s : State} {p : Nat} (mask : Nat) (quanta : List Nat) (hs : halted s = false) (hp : p < 8)
include hs hp

theorem exec_flowControlFrameReceive_of_pfc (hflow : portFlow s p = 2) :
    ∃ t, exec (.flowControlFrameReceive p true mask quanta) s = .next t ∧
      getPort t p = { getPort s p with
        ctrs := bump (getPort s p).ctrs .rxPause, pausedTo := (getPort t p).pausedTo } ∧
      ∀ c, c < 8 → Tab.get (getPort t p).pausedTo c =
        if bitOf mask c then pauseEnd s p (quanta[c]?.getD 0) else Tab.get (getPort s p).pausedTo c := by
  change ∃ t, execFlowControlFrameReceive p true mask quanta s = .next t ∧ _
  rw [execFlowControlFrameReceive, onPart_run (decide_eq_true hp) hs]
  refine ⟨_, rfl, ?_⟩
  rw [getPort_keep, if_pos (by simp [hflow])]
  rw [updPort, getPort_setPort_same, bumpPort, updPort, getPort_setPort_same]
  refine ⟨rfl, fun c hc => ?_⟩
  refine (get_foldl_pfcPaused (fun q => s.time.ticks + ceilDiv (512 * q * 4) (portGb s p * 5)) mask quanta (List.range 8)
    (getPort s p).pausedTo c).trans ?_
  simp [hc, pauseEnd]

theorem exec_flowControlFrameReceive_of_pause (hflow : portFlow s p = 1) :
    ∃ t, exec (.flowControlFrameReceive p false mask quanta) s = .next t ∧
      getPort t p = { getPort s p with
        ctrs := bump (getPort s p).ctrs .rxPause, pausedTo := (getPort t p).pausedTo } ∧
      ∀ c, c < 8 → Tab.get (getPort t p).pausedTo c = pauseEnd s p (quanta.head?.getD 0) := by
  change ∃ t, execFlowControlFrameReceive p false mask quanta s = .next t ∧ _
  rw [execFlowControlFrameReceive, onPart_run (decide_eq_true hp) hs]
  refine ⟨_, rfl, ?_⟩
  rw [getPort_keep, if_neg (by simp), if_pos (by simp [hflow])]
  rw [updPort, getPort_setPort_same, bumpPort, updPort, getPort_setPort_same]
  refine ⟨rfl, fun c hc => ?_⟩
  by_cases hq : quanta.head?.getD 0 = 0
  · simp [hq, pauseEnd]
  · simp [hq, pauseEnd, tab_get_map_const, hc]

theorem exec_flowControlFrameReceive_of_other_mode {pfc : Bool} (hpfc : pfc = true → portFlow s p ≠ 2)
    (hpause : pfc = false → portFlow s p ≠ 1) :
    exec (.flowControlFrameReceive p pfc mask quanta) s = .next (keep s (bumpPort s p .rxPause)) := by
  change execFlowControlFrameReceive p pfc mask quanta s = _
  rw [execFlowControlFrameReceive, onPart_run (decide_eq_true hp) hs, if_neg (by simpa using hpfc),
    if_neg (by simpa using hpause)]

theorem exec_pauseHoldExpiry_of_due {c at_ : Nat} (hc : c < 8) (hget : Tab.get (getPort s p).pausedTo c = some at_)
    (hdue : at_ ≤ s.time.ticks) : exec (.pauseHoldExpiry p c) s =
      .next (keep s (setPort s p { getPort s p with pausedTo := Tab.del (getPort s p).pausedTo c })) := by
  change execPauseHoldExpiry p c s = _
  rw [execPauseHoldExpiry, onPart_run (by simp [hp, hc]) hs]
  simp only [hget]
  rw [guarded_true (decide_eq_true hdue)]
  rfl

end

/-- Settles O39: each event is due by its hypotheses, and a frame sets each class of its mask once. -/
theorem gatesAndFlowControl : Obligations.GatesAndFlowControl := by
  unfold Obligations.GatesAndFlowControl
  intro s p hs hp e stop
  refine ⟨fun g hg hend hin hmore => ?_, fun g hg hdue => exec_gateCycleBoundary_of_due hs hp hg hdue,
    fun g ct hg hdue => exec_gateListActive_of_due hs hp hg hdue,
    fun mask quanta hflow => exec_flowControlFrameReceive_of_pfc mask quanta hs hp hflow,
    fun mask quanta hflow => exec_flowControlFrameReceive_of_pause mask quanta hs hp hflow,
    fun _ mask quanta hpfc hpause => exec_flowControlFrameReceive_of_other_mode mask quanta hs hp hpfc hpause,
    fun c _ hc hget hdue => exec_pauseHoldExpiry_of_due hs hp hc hget hdue⟩
  rw [exec_gateEntryChange_of_due hs hp hg hend hin hmore, entryEnd_of_follows _ hmore]

end Sys2Proof.Proofs
end

section
/-!
PROOFS. The Kerf commands (R570, R588 to R591, R595, R599, R600): the change time of a gate list, the list as DMA reads it, a
policer written without RESET, and what each body answers when its checks pass.
-/

namespace Sys2Proof.Proofs

open Sys2Proof Sys2Proof.Machine Sys2Proof.Laws

/-! ## Field lists -/

theorem get_applyEntries_of_not_named {k : Nat} {es : List Entry} (h : ∀ e ∈ es, e.key ≠ k) (fs : Tab Int) :
    Tab.get (applyEntries fs es) k = Tab.get fs k := by
  induction es generalizing fs with
  | nil => rfl
  | cons e es ih =>
    obtain ⟨he, hes⟩ := List.forall_mem_cons.1 h
    exact (ih hes _).trans (tab_get_set_other _ _ he)

/-! ## Gate lists -/

theorem le_ceilDiv_mul {n m : Nat} (hm : 0 < m) : n ≤ ceilDiv n m * m := by
  have h := Nat.lt_div_mul_add (a := n + m - 1) hm
  simp only [ceilDiv]
  omega

theorem ceilDiv_mul_lt {n m : Nat} (hn : 0 < n) : ceilDiv n m * m < n + m := by
  have h := Nat.div_mul_le_self (n + m - 1) m
  simp only [ceilDiv]
  omega

/-- The change time is the first boundary of the list's cycles at or after the next stroke boundary (R590). -/
theorem changeTime_first (s : State) (base : Nat) {cycle : Nat} (hc : 0 < cycle) :
    s.time.strokeNext ≤ changeTime s base cycle ∧ base ≤ changeTime s base cycle ∧
      (changeTime s base cycle - base) % cycle = 0 ∧
      (base + cycle ≤ changeTime s base cycle → changeTime s base cycle < s.time.strokeNext + cycle) := by
  unfold changeTime
  dsimp only
  split
  case isTrue h => exact ⟨h, le_rfl, by simp, fun hlate => by omega⟩
  case isFalse h =>
    have hle := le_ceilDiv_mul (n := s.time.strokeNext - base) hc
    have hlt := ceilDiv_mul_lt (n := s.time.strokeNext - base) (m := cycle) (by omega)
    exact ⟨by omega, by omega, by simp, fun _ => by omega⟩

theorem gateEntries_eq (d : Bytes) (o n : Nat) :
    gateEntries d o n = (List.range n).map fun j => (le d (o + 8 * j) 1, le d (o + 8 * j + 4) 4) := by
  induction n generalizing o with
  | zero => rfl
  | succ n ih =>
    rw [gateEntries, ih, List.range_succ_eq_map, List.map_cons, List.map_map]
    congr 1
    refine List.map_congr_left fun j _ => ?_
    rw [Function.comp, show o + 8 + 8 * j = o + 8 * (j + 1) by omega]

section
variable {s : State} {F i : Nat} {p d : Bytes} (hi : resolvePort (le p 0 4) = some i) (h8 : i < 8)
include hi h8

theorem bodyKerfPortConfig_of_fitting
    (hent : lowest (entryChecks (entries p 8 (le p 6 2)) fun k => fTable k == 0x12 && decide (7 ≤ fRow k)) = none)
    {s1 : State} (hs1 : s1 = setPort s i { getPort s i with
      fields := applyEntries (getPort s i).fields (entries p 8 (le p 6 2)) })
    (hfit : portFails (future s1) i (gateLists (getPort s1 i)) = none) :
    bodyKerfPortConfig F p d s = .ok (zeros 16) 0 s1 := by
  subst hs1
  simp only [bodyKerfPortConfig, hi, updPort]
  rw [checked_of_lowest ((lowest_append ..).2 ⟨hent, by simp [h8]⟩), hfit]

/-- A list of valid entries becomes the pending list. -/
theorem bodyGateListSet_of_fitting {g : GateList} (hbase : g.base = le p 8 6 * secNs + le p 16 4)
    (hcycle : g.cycle = le p 20 4) (hents : g.ents = gateEntries d 0 (le p 4 2)) (hlen : le p 4 2 ≤ 256)
    (hlo : 1000 ≤ le p 20 4) (hhi : le p 20 4 ≤ 1000000000) (hns : le p 16 4 < secNs)
    (hwin : le p 4 2 = 0 ∨ inWindow (getFn s F) (le p 24 8) (8 * le p 4 2) false = true)
    (hok : ∀ j, j < le p 4 2 → le d (8 * j + 1) 3 = 0 ∧ 8 ≤ le d (8 * j + 4) 4 ∧ le d (8 * j + 4) 4 ≤ 1000000000)
    (hfit : portFails (future s) i [(getPort s i).gates, if le p 4 2 = 0 then none else some g] = none) :
    bodyGateListSet F p d s = .ok (zeros 16) 0
      (updPort (if (getPort s i).gatesNew.isSome then bumpPort s i .gateListReplaced else s) i fun e =>
        { e with gatesNew := some (g, changeTime s g.base g.cycle) }) := by
  obtain ⟨base, cycle, ents⟩ := g
  obtain rfl : base = _ := hbase
  obtain rfl : cycle = _ := hcycle
  obtain rfl : ents = _ := hents
  have hdma : (le p 4 2 == 0 || inWindow (getFn s F) (le p 24 8) (8 * le p 4 2) false) = true := by simpa using hwin
  have hres : ((List.range (le p 4 2)).all fun j => le d (8 * j + 1) 3 == 0) = true := by
    simpa using fun j hj => (hok j hj).1
  have hint : ((gateEntries d 0 (le p 4 2)).all fun x => decide (8 ≤ x.2) && decide (x.2 ≤ 1000000000)) = true := by
    simpa [gateEntries_eq] using fun j hj => (hok j hj).2
  simp only [bodyGateListSet, hi, hdma, hres, hint]
  rw [checked_ok (by simp [h8, hlen, hlo, hhi, hns])]
  simp [hfit]

end

/-- The active list as GATE_LIST_READ writes it. -/
def activeBytes (e : EthPort) : Bytes := (e.gates.map gateBytes).getD []

/-- The pending list as GATE_LIST_READ writes it. -/
def pendingBytes (e : EthPort) : Bytes := (e.gatesNew.map fun x => gateBytes x.1).getD []

/-- What GATE_LIST_READ answers: the lists' lengths, the entry in force and the change time (R591). -/
def gateAnswer (e : EthPort) : Bytes :=
  toLe 2 ((activeBytes e).length / 8) ++ toLe 2 ((pendingBytes e).length / 8) ++ toLe 2 e.gateIdx ++ zeros 2
    ++ toLe 6 ((e.gatesNew.map (·.2)).getD 0 / secNs) ++ zeros 2 ++ toLe 4 ((e.gatesNew.map (·.2)).getD 0 % secNs) ++ zeros 4

section
variable {s : State} {F i : Nat} {p d : Bytes} (hi : resolvePort (le p 0 4) = some i) (h8 : i < 8)
include hi h8

theorem bodyGateListRead_of_ethernet : bodyGateListRead F p d s =
    (if 0 < (activeBytes (getPort s i)).length + (pendingBytes (getPort s i)).length ∧
        !(inWindow (getFn s F) (le p 8 8) ((activeBytes (getPort s i)).length + (pendingBytes (getPort s i)).length) true) then
      .dma (le p 8 8) ((activeBytes (getPort s i)).length + (pendingBytes (getPort s i)).length) 1
    else .ok (gateAnswer (getPort s i)) 0
      (if (activeBytes (getPort s i)).length + (pendingBytes (getPort s i)).length = 0 then s
      else updFn s F fun f =>
        { f with lastWr := some (le p 8 8, activeBytes (getPort s i) ++ pendingBytes (getPort s i)) })) := by
  simp only [bodyGateListRead, hi]
  rw [checked_ok (by simp [h8])]
  rfl

theorem bodyGateListRead_of_no_list (h : activeBytes (getPort s i) ++ pendingBytes (getPort s i) = []) :
    bodyGateListRead F p d s = .ok (gateAnswer (getPort s i)) 0 s := by
  have hlen : (activeBytes (getPort s i)).length + (pendingBytes (getPort s i)).length = 0 := by
    rw [← List.length_append, h, List.length_nil]
  rw [bodyGateListRead_of_ethernet hi h8]
  simp only [hlen, Nat.lt_irrefl, false_and, if_false, if_true]

theorem bodyGateListRead_of_window (h : activeBytes (getPort s i) ++ pendingBytes (getPort s i) ≠ [])
    (hwin : inWindow (getFn s F) (le p 8 8)
      ((activeBytes (getPort s i)).length + (pendingBytes (getPort s i)).length) true = true) :
    bodyGateListRead F p d s = .ok (gateAnswer (getPort s i)) 0
      (updFn s F fun f => { f with lastWr := some (le p 8 8, activeBytes (getPort s i) ++ pendingBytes (getPort s i)) }) := by
  have hlen : (activeBytes (getPort s i)).length + (pendingBytes (getPort s i)).length ≠ 0 := by
    rwa [← List.length_append, Ne, List.length_eq_zero_iff]
  rw [bodyGateListRead_of_ethernet hi h8, hwin, if_neg (by simp), if_neg hlen]

end

/-! ## Policers -/

section
variable {s : State} {pt n : Nat} {es : List Entry} (hreset : ∀ e ∈ es, e.key ≠ fk 0x0D 7 0)
include hreset

theorem polFields_of_no_reset :
    polFields s pt n es = applyEntries (((getPol s pt n).map (·.fields)).getD []) es := by
  rw [polFields, List.filter_eq_self.2 (by simpa using hreset)]

/-- Without an entry for RESET every bucket is filled (R600). -/
theorem polWrite_of_no_reset : polWrite s pt n es = { fullPol (polFields s pt n es) s.time.ticks with
    ctrs := ((getPol s pt n).getD (fullPol [] s.time.ticks)).ctrs } := by
  have hfull : fld (applyEntries [] es) (fk 0x0D 7 0) = 0 := by
    rw [fld, get_applyEntries_of_not_named hreset]
    decide
  simp only [polWrite, hfull]
  exact if_neg (by simp)

theorem bodyPolicerConfig_of_kept_cbs {F : Nat} {p d : Bytes} (hes : es = entries p 8 (le p 6 2)) (hn : n = le p 0 2)
    (hpt : (getFn s F).part = some pt) (hq : n < quota s pt 5 0)
    (hent : lowest (entryChecks es fun k => fTable k == 0x0D) = none)
    (halg : fld (polFields s pt n es) (fk 0x0D 0 0) ≠ 1)
    (hcbs : fldN (polFields s pt n es) (fk 0x0D 3 0) =
      fldN ((getPol s pt n).getD (fullPol [] s.time.ticks)).fields (fk 0x0D 3 0)) :
    bodyPolicerConfig F p d s = .ok (zeros 16) 0 { s with eth := { s.eth with
      pol := Tab.set s.eth.pol (pt * 8192 + n) { fullPol (polFields s pt n es) s.time.ticks with
        ctrs := ((getPol s pt n).getD (fullPol [] s.time.ticks)).ctrs } } } := by
  subst hes hn
  simp only [bodyPolicerConfig, hpt]
  rw [checked_of_lowest ((lowest_append ..).2 ⟨hent, (lowest_eq_none _).2 (by simp [hq, halg])⟩), if_pos hcbs,
    polWrite_of_no_reset hreset]

end

/-- Settles O41: each command is its body served, and each body's checks are the hypotheses. -/
theorem gateListsAndPolicers : Obligations.GateListsAndPolicers := by
  unfold Obligations.GateListsAndPolicers
  intro s F src p
  refine ⟨?_, ?_, ?_, ?_⟩
  · intro i hu hi h8 es s1 hent hfit
    exact serve_ok hu (bodyKerfPortConfig_of_fitting hi h8 hent rfl hfit)
  · intro i d hu hi h8 hlen hlo hhi hns hwin hok g hfit s1
    have hents : g.ents = gateEntries d 0 (le p 4 2) := by simp [g, gateEntries_eq]
    exact ⟨_, serve_ok hu (bodyGateListSet_of_fitting hi h8 rfl rfl hents hlen hlo hhi hns hwin hok hfit),
      changeTime_first s g.base (Nat.lt_of_lt_of_le (by decide) hlo)⟩
  · intro i hu hi h8 cur pen ct out
    exact ⟨fun hnone => serve_ok hu (bodyGateListRead_of_no_list hi h8 hnone),
      fun hsome hwin => serve_ok hu (bodyGateListRead_of_window hi h8 hsome hwin)⟩
  · intro pt hu hpt hq n es old fs hreset hent halg hcbs
    have hfs : polFields s pt n es = fs := polFields_of_no_reset hreset
    have hb := bodyPolicerConfig_of_kept_cbs (d := []) hreset rfl rfl hpt hq hent (hfs ▸ halg) (hfs ▸ hcbs)
    rw [hfs] at hb
    exact serve_ok hu hb

end Sys2Proof.Proofs
end

section
/-!
PROOFS. The commands on one queue, the spill pool and the QXOFF pins (R601, R609 to R612, R625, R626, R633, R638): what each body
answers when its checks pass.
-/

namespace Sys2Proof.Proofs

open Sys2Proof Sys2Proof.Machine Sys2Proof.Laws

/-! ## Queues -/

section
variable {s : State} {F : Nat} {p d : Bytes}

/-- Table 12-7 of queue `q`. -/
def queueRecord (s : State) (q : Nat) : Bytes :=
  toLe 2 (qKind q + 16 * b2n (qFixed s q) + 32 * b2n (getQ s q).heldSince.isSome
      + 64 * b2n ((getQ s q).cut.getD (qKind q == 0 || qKind q == 2)))
    ++ toLe 1 ((getQ s q).group.getD 0) ++ toLe 1 (b2n (getQ s q).group.isSome) ++ toLe 4 (getQ s q).items.length
    ++ toLe 4 (qDepth (getQ s q)) ++ toLe 2 ((getQ s q).cells + (getQ s q).ycells)
    ++ toLe 2 (if qFixed s q then (getQ s q).resv else 0) ++ toLe 4 (getQ s q).pages
    ++ toLe 4 (((getQ s q).items.head?.map fun e => (s.time.ticks - e.tick) / tUs).getD 0) ++ zeros 8

theorem bodyQueueRead_of_owner (ho : s.host.owner = F) (hq : le p 0 2 < 32768) :
    bodyQueueRead F p d s = .ok (queueRecord s (le p 0 2)) 0 s := by
  simp only [bodyQueueRead, queueRecord]
  rw [checked_ok (by simp [isOwner, ho, hq])]
  cases (getQ s (le p 0 2)).items.head? <;> rfl

theorem bodyQueueConfig_of_seen (hq : le p 0 2 < 32768) (hm : mayQueue s F (le p 0 2) = true) (hc : le p 2 1 < 2)
    (hrung : ¬(qKind (le p 0 2) = 1 ∧ le p 2 1 = 1)) :
    bodyQueueConfig F p d s =
      .ok [] 0 (setQ s (le p 0 2) { getQ s (le p 0 2) with cut := some (le p 2 1 == 1) }) := by
  simp only [bodyQueueConfig]
  rw [checked_ok (by simpa [hm, hq, hc] using not_and_or.1 hrung)]

theorem bodyQueueFlush_of_issuer (hq : le p 0 2 < 32768)
    (hm : s.host.owner = F ∨ (qKind (le p 0 2) ≠ 2 ∧ qKind (le p 0 2) ≠ 7 ∧ mayQueue s F (le p 0 2) = true)) :
    bodyQueueFlush F p d s = .ok [] 0 (setQ s (le p 0 2) { getQ s (le p 0 2) with flush := true }) := by
  have hsees : mayQueue s F (le p 0 2) = true := by
    rcases hm with ho | ⟨-, -, h⟩
    · simp [mayQueue, isOwner, ho]
    · exact h
  have howner : (qKind (le p 0 2) ≠ 2 ∧ qKind (le p 0 2) ≠ 7) ∨ isOwner s F = true := by
    rcases hm with ho | ⟨h2, h7, -⟩
    · simp [isOwner, ho]
    · exact .inl ⟨h2, h7⟩
  simp only [bodyQueueFlush]
  rw [checked_ok (by simpa [hq, hsees] using howner)]

/-! ## The spill pool -/

theorem bodySpillConfig_of_unused (hlo : 268435456 ≤ le p 0 8) (hhi : le p 0 8 ≤ 34359738368) (hpage : le p 0 8 % 4096 = 0)
    (hfree : queuedPages s.batten = 0) :
    bodySpillConfig F p d s = .ok [] 0 { s with batten := { s.batten with spill := le p 0 8 } } := by
  simp only [bodySpillConfig]
  rw [checked_ok (by simp [hlo, hhi, hpage, hfree])]

theorem bodySpillConfig_of_held (hlo : 268435456 ≤ le p 0 8) (hhi : le p 0 8 ≤ 34359738368) (hpage : le p 0 8 % 4096 = 0)
    (hheld : queuedPages s.batten ≠ 0) : bodySpillConfig F p d s = .no .busy [] := by
  simp [bodySpillConfig, checked, lowest, hlo, hhi, hpage, hheld]

/-! ## The QXOFF pins -/

/-- A pin as QXOFF_CONFIG's word `w` leaves its fields, before the groups drive it (R633). -/
def pinSet (w : Nat) (y : QPin) : QPin := { y with en := bitOf w 0, low := bitOf w 1, minNs := w / 65536 }

/-- All pins with their fields set. -/
def pinsSet (p : Bytes) (s : State) : State :=
  { s with batten := { s.batten with pins := (List.range 8).map fun n => pinSet (le p (4 * n) 4) (s.batten.pins[n]?.getD {}) } }

theorem bodyQxoffConfig_of_known_bits (hw : ∀ n, n < 8 → le p (4 * n) 4 % 65536 < 4) :
    bodyQxoffConfig F p d s = .ok [] 0 (pinSync (pinsSet p s)) := by
  have hres : ((List.range 8).all fun n => decide (le p (4 * n) 4 % 65536 / 4 = 0)) = true := by
    simpa using hw
  simp only [bodyQxoffConfig, hres]
  rfl

theorem pinSync_pins {n : Nat} (hn : n < 8) (s : State) : (pinSync s).batten.pins[n]? =
    some { s.batten.pins[n]?.getD {} with on := pinHeld s n (s.batten.pins[n]?.getD {}) } := by
  simp [pinSync, List.getElem?_range hn]

theorem pinsSet_pins {n : Nat} (hn : n < 8) (p : Bytes) (s : State) :
    (pinsSet p s).batten.pins[n]? = some (pinSet (le p (4 * n) 4) (s.batten.pins[n]?.getD {})) := by
  simp [pinsSet, List.getElem?_range hn]

end

end Sys2Proof.Proofs
end

section
/-!
PROOFS. The commands on queue groups (R601 to R604, R627, R628, R631), what a comparison leaves of queues and groups, and the
statement on the commands of chapter 12.
-/

namespace Sys2Proof.Proofs

open Sys2Proof Sys2Proof.Machine Sys2Proof.Laws

/-! ## What a comparison of group `g` leaves -/

/-- The queues, the fields and the partition of group `g`, and the other groups. -/
def besideMarks (g : Nat) (s : State) : Tab Queue × (Nat → Group) :=
  (s.batten.queues, fun h => if h = g then { fields := (getGroup s g).fields, part := (getGroup s g).part } else getGroup s h)

section
variable {g : Nat} {s t : State}

theorem besideMarks_of_batten (h : t.batten = s.batten) : besideMarks g t = besideMarks g s := by
  simp [besideMarks, getGroup, h]

theorem besideMarks_setGroup {x : Group} (hf : x.fields = (getGroup s g).fields) (hp : x.part = (getGroup s g).part) :
    besideMarks g (setGroup s g x) = besideMarks g s := by
  refine Prod.ext rfl (funext fun h => ?_)
  by_cases hg : h = g
  · simp [besideMarks, hg, hf, hp]
  · simp [besideMarks, hg, getGroup_setGroup_other s x (Ne.symm hg)]

theorem getQ_of_besideMarks (h : besideMarks g t = besideMarks g s) (q : Nat) : getQ t q = getQ s q :=
  congrArg (fun v : Tab Queue × (Nat → Group) => Tab.getD v.1 q {}) h

theorem fields_part_of_besideMarks (h : besideMarks g t = besideMarks g s) :
    (getGroup t g).fields = (getGroup s g).fields ∧ (getGroup t g).part = (getGroup s g).part := by
  have hg := congrFun (congrArg Prod.snd h) g
  simp only [besideMarks, if_true] at hg
  exact ⟨(congrArg Group.fields hg :), (congrArg Group.part hg :)⟩

theorem getGroup_of_besideMarks (h : besideMarks g t = besideMarks g s) {k : Nat} (hk : k ≠ g) : getGroup t k = getGroup s k := by
  simpa [besideMarks, hk] using congrFun (congrArg Prod.snd h) k

end

@[simp] theorem sendFc_batten (p mask quanta : Nat) (s : State) : (sendFc p mask quanta s).batten = s.batten := rfl

@[simp] theorem fcSync_batten (p : Nat) (s : State) : (fcSync p s).batten = s.batten := by
  unfold fcSync
  refine foldl_unchanged (fun s r => ?_) _ s
  dsimp only
  split
  · rfl
  · split <;> rfl

section
variable (g : Nat) (s : State)

theorem groupEvent_besideMarks : besideMarks g (groupEvent g s) = besideMarks g s :=
  (besideMarks_of_batten (emit_batten ..)).trans (besideMarks_setGroup rfl rfl)

theorem groupReport_besideMarks : besideMarks g (groupReport g s) = besideMarks g s := by
  unfold groupReport
  dsimp only
  split
  · exact ite_elim (P := fun t => besideMarks g t = _) (groupEvent_besideMarks g s) (besideMarks_setGroup rfl rfl)
  · rfl

theorem pinSync_besideMarks : besideMarks g (pinSync s) = besideMarks g s := rfl

theorem groupCheck_besideMarks : besideMarks g (groupCheck g s) = besideMarks g s := by
  have hpins : ∀ t ps, besideMarks g { t with batten := { t.batten with pins := ps } } = besideMarks g t := fun _ _ => rfl
  unfold groupCheck
  refine ite_elim (P := fun t => besideMarks g t = _) ((besideMarks_of_batten (fcSync_batten ..)).trans ?_) ?_
  all_goals
    refine (pinSync_besideMarks g _).trans (ite_elim (P := fun t => besideMarks g t = _) ?_
      (ite_elim (P := fun t => besideMarks g t = _) ?_ (besideMarks_setGroup rfl rfl)))
    · exact (groupReport_besideMarks ..).trans ((hpins ..).trans (besideMarks_setGroup rfl rfl))
    · exact (groupReport_besideMarks ..).trans (besideMarks_setGroup rfl rfl)

end

/-! ## QGROUP_SET -/

/-- What QGROUP_SET does with one queue it names: operation 0 puts it into group `g`, the other takes it out (R627). -/
def regroup (op g : Nat) (s : State) (q : Nat) : State :=
  let y := getQ s q
  if op = 0 then setQ s q { y with group := some g }
  else if y.group = some g then setQ s q { y with group := none } else s

/-- A queue that QGROUP_SET names, before and after. -/
def regrouped (op g : Nat) (y : Queue) : Queue :=
  if op = 0 then { y with group := some g } else if y.group = some g then { y with group := none } else y

theorem regrouped_regrouped (op g : Nat) (y : Queue) : regrouped op g (regrouped op g y) = regrouped op g y := by
  unfold regrouped
  split
  · rfl
  · split <;> simp_all

theorem getQ_regroup (op g : Nat) (s : State) (q r : Nat) :
    getQ (regroup op g s q) r = if q = r then regrouped op g (getQ s r) else getQ s r := by
  unfold regroup regrouped
  by_cases hr : q = r
  · subst hr
    dsimp only
    split
    · simp
    · split <;> simp
  · dsimp only
    split
    · simp [getQ_setQ, hr]
    · split <;> simp [getQ_setQ, hr]

theorem getQ_foldl_regroup (op g : Nat) (qs : List Nat) (s : State) (r : Nat) :
    getQ (qs.foldl (regroup op g) s) r = if r ∈ qs then regrouped op g (getQ s r) else getQ s r := by
  induction qs generalizing s with
  | nil => simp
  | cons q qs ih =>
    rw [List.foldl_cons, ih, getQ_regroup]
    by_cases hq : q = r
    · simp [hq, regrouped_regrouped]
    · simp [hq, Ne.symm hq]

/-! ## The commands of the owner function on a group -/

section
variable {s : State} {F : Nat} {p d : Bytes} (ho : s.host.owner = F)
include ho

theorem mayGroup_of_owner (g : Nat) : mayGroup s F g = true := by simp [mayGroup, isOwner, ho]

theorem bodyQgroupSet_of_owner (hq : ∀ q ∈ groupItems p 4 (le p 2 2), q < 32768) (hop : le p 1 1 < 2)
    (hfree : le p 1 1 = 0 → ∀ q ∈ groupItems p 4 (le p 2 2), qPart s q = (getGroup s (le p 0 1)).part ∧
      ((getQ s q).group = none ∨ (getQ s q).group = some (le p 0 1))) :
    bodyQgroupSet F p d s =
      .ok [] 0 (groupCheck (le p 0 1) ((groupItems p 4 (le p 2 2)).foldl (regroup (le p 1 1) (le p 0 1)) s)) := by
  have hpart : (le p 1 1 ≠ 0 || (groupItems p 4 (le p 2 2)).all fun q => qPart s q == (getGroup s (le p 0 1)).part) = true := by
    simpa [or_iff_not_imp_left] using fun h0 q hm => (hfree h0 q hm).1
  have hgroup : (le p 1 1 ≠ 0 || (groupItems p 4 (le p 2 2)).all fun q =>
      (getQ s q).group == none || (getQ s q).group == some (le p 0 1)) = true := by
    simpa [or_iff_not_imp_left] using fun h0 q hm => or_iff_not_imp_left.1 (hfree h0 q hm).2
  simp only [bodyQgroupSet]
  rw [checked_ok (by simpa [mayGroup_of_owner ho, hop] using ⟨hq, by simpa using hpart, by simpa using hgroup⟩)]
  rfl

theorem bodyQgroupConfig_of_kept_part (hpt : le p 4 4 = 0xFFFFFFFF) {fs : Tab Int}
    (hfs : fs = applyEntries (getGroup s (le p 0 1)).fields (entries p 16 (le p 8 2)))
    (hent : lowest (entryChecks (entries p 16 (le p 8 2)) fun k => fTable k == 0x0E) = none)
    (hmarks : fld fs (fk 0x0E 1 0) < fld fs (fk 0x0E 0 0)) :
    ∃ u, bodyQgroupConfig F p d s = .ok [] 0 u ∧ besideMarks (le p 0 1) u =
      besideMarks (le p 0 1) (setGroup s (le p 0 1) { getGroup s (le p 0 1) with fields := fs }) := by
  subst hfs
  simp only [bodyQgroupConfig, hpt]
  rw [checked_of_lowest ((lowest_append ..).2
    ⟨hent, (lowest_eq_none _).2 (by simp [isOwner, ho, mayGroup_of_owner ho, hmarks])⟩)]
  refine ⟨_, rfl, ite_elim (P := fun t => besideMarks _ t = _)
    ((besideMarks_of_batten (fcSync_batten ..)).trans (groupCheck_besideMarks ..)) (groupCheck_besideMarks ..)⟩

theorem bodyQgroupRead_of_owner : bodyQgroupRead F p d s = .ok
    (toLe 4 (b2n (getGroup s (le p 0 1)).above + 2 * b2n (getGroup s (le p 0 1)).hiSeen + 4 * b2n (getGroup s (le p 0 1)).loSeen)
      ++ toLe 4 (min 0xFFFFFFFF (groupLevel s (le p 0 1))) ++ toLe 4 (min 0xFFFFFFFF (getGroup s (le p 0 1)).peak) ++ zeros 4
      ++ toLe 8 (getGroup s (le p 0 1)).hiX ++ toLe 8 (getGroup s (le p 0 1)).loX) 0 s := by
  simp only [bodyQgroupRead]
  rw [checked_ok (by simp [mayGroup_of_owner ho])]

theorem bodyQgroupClear_of_owner (hm : le p 1 1 < 4) :
    bodyQgroupClear F p d s = .ok [] 0 (setGroup s (le p 0 1) { getGroup s (le p 0 1) with
      hiSeen := (getGroup s (le p 0 1)).hiSeen && !(bitOf (le p 1 1) 0)
      loSeen := (getGroup s (le p 0 1)).loSeen && !(bitOf (le p 1 1) 1)
      peak := if bitOf (le p 1 1) 0 then groupLevel s (le p 0 1) else (getGroup s (le p 0 1)).peak }) := by
  simp only [bodyQgroupClear]
  rw [checked_ok (by simp [mayGroup_of_owner ho, hm])]

theorem bodyHistConfig_of_owner (hu : le p 1 1 ≤ 20) (hv : le p 2 1 ≤ 20) :
    bodyHistConfig F p d s = .ok [] 0 (setGroup s (le p 0 1)
      { getGroup s (le p 0 1) with depth := { u := le p 1 1 }, soj := { u := le p 2 1 } }) := by
  simp only [bodyHistConfig]
  rw [checked_ok (by simp [mayGroup_of_owner ho, hu, hv])]

theorem bodyHistRead_of_owner (hc : le p 1 1 < 2) : bodyHistRead F p d s =
    .ok (histBytes (getGroup s (le p 0 1)).depth ++ histBytes (getGroup s (le p 0 1)).soj) 0
      (if le p 1 1 = 1 then setGroup s (le p 0 1) { getGroup s (le p 0 1) with
        depth := { u := (getGroup s (le p 0 1)).depth.u }, soj := { u := (getGroup s (le p 0 1)).soj.u } } else s) := by
  have hbit : bitOf (le p 1 1) 0 = true ↔ le p 1 1 = 1 := by
    simp only [bitOf, pow_zero, Nat.div_one, beq_iff_eq]
    omega
  simp only [bodyHistRead, hbit]
  rw [checked_ok (by simp [mayGroup_of_owner ho, hc])]

end

/-- Settles O42: each command is its body served, and each body's checks are the hypotheses. -/
theorem queueAndGroupCommands : Obligations.QueueAndGroupCommands := by
  unfold Obligations.QueueAndGroupCommands
  constructor
  · intro s F src p q x
    refine ⟨fun hu hq ho => serve_ok hu (bodyQueueRead_of_owner ho hq),
      fun hu hq hm hc hrung => serve_ok hu (bodyQueueConfig_of_seen hq hm hc hrung),
      fun hu hq hm => serve_ok hu (bodyQueueFlush_of_issuer hq hm), fun hu => serve_ok hu rfl,
      fun hu hlo hhi hpage => ⟨fun hfree => serve_ok hu (bodySpillConfig_of_unused hlo hhi hpage hfree), fun hheld => ?_⟩,
      fun hu hw => ⟨_, serve_ok hu (bodyQxoffConfig_of_known_bits hw), rfl, by simp [pinSync], ?_⟩⟩
    · exact (serve_no hu (bodySpillConfig_of_held hlo hhi hpage hheld)).trans (by rw [afterNo_of_ne (by decide)])
    · intro n hn y w
      rw [pinSync_pins hn, pinsSet_pins hn]
      rfl
  · intro s F src p ho g x qs
    refine ⟨fun hu hq => ⟨fun hop hfree => ?_, fun hop => ?_⟩, ?_,
      fun hu => serve_ok hu (bodyQgroupRead_of_owner ho), fun hu hm => serve_ok hu (bodyQgroupClear_of_owner ho hm),
      fun hu hd hv => serve_ok hu (bodyHistConfig_of_owner ho hd hv), fun hu hc => serve_ok hu (bodyHistRead_of_owner ho hc)⟩
    · refine ⟨_, serve_ok hu (bodyQgroupSet_of_owner ho hq (by omega) fun _ => hfree), fun q => ?_⟩
      rw [getQ_of_besideMarks (groupCheck_besideMarks ..), getQ_foldl_regroup, hop]
      rfl
    · refine ⟨_, serve_ok hu (bodyQgroupSet_of_owner ho hq (by omega) fun h => by omega), fun q => ?_⟩
      rw [getQ_of_besideMarks (groupCheck_besideMarks ..), getQ_foldl_regroup, hop]
      simp only [regrouped, ite_and, if_neg Nat.one_ne_zero]
      rfl
    · intro hu hpt es fs hent hmarks
      obtain ⟨u, hb, hkeep⟩ := bodyQgroupConfig_of_kept_part (d := []) ho hpt rfl hent hmarks
      obtain ⟨hf, hp⟩ := fields_part_of_besideMarks hkeep
      refine ⟨u, serve_ok hu hb, hf.trans (by simp [fs, es, x, g]), hp.trans (by simp [x, g]), fun h hg => ?_,
        congrArg Prod.fst hkeep⟩
      exact (getGroup_of_besideMarks hkeep hg).trans (getGroup_setGroup_other _ _ (Ne.symm hg))

end Sys2Proof.Proofs
end

section
/-!
PROOFS. What a rearrangement of a queue's storage (R614 to R618) and a comparison of its group leave of the queues, the books of a
queue (R611, Table 12-8) after a push, a pop, a drop and a discard, and the statement on them.
-/

namespace Sys2Proof.Proofs

open Sys2Proof Sys2Proof.Machine Sys2Proof.Laws

/-! ## What a comparison and a rearrangement leave of the queues -/

@[simp] theorem getQ_keep (s t : State) (q : Nat) : getQ (keep s t) q = getQ t q := rfl

@[simp] theorem getQ_qChanged (q : Nat) (s : State) (r : Nat) : getQ (qChanged q s) r = getQ s r := by
  unfold qChanged
  cases (getQ s q).group with
  | none => rfl
  | some g => exact getQ_of_besideMarks (groupCheck_besideMarks g s) r

section
variable (q : Nat) (s : State)

/-- The cells that the lines of a queue ask for (R614). -/
def cellsAsked : Nat :=
  let lines := qLines (getQ s q) false + qLines (getQ s q) true
  if lines = 0 then 0 else if lines ≤ 8 then 1 else 2

/-- The cells a floating queue is left with: those asked for, as far as the pool has them (R617). -/
def cellsTaken : Nat := min (cellsAsked q s) ((getQ s q).cells + poolFree s.batten)

/-- The pages that hold the lines outside those cells. -/
def pagesNeeded : Nat := ceilDiv (qLines (getQ s q) false + qLines (getQ s q) true - 8 * cellsTaken q s) 64

/-- Whether a queue has those pages or may take the missing ones (R618). -/
def PagesHad : Prop := pagesNeeded q s ≤ (getQ s q).pages ∨ pagesOk s q (pagesNeeded q s - (getQ s q).pages) = true

/-- The counters of a queue after a rearrangement that may have missed a cell (R617). -/
def missCounted : Counters :=
  if decide (cellsTaken q s < cellsAsked q s) = true then bump (getQ s q).ctrs .poolMiss else (getQ s q).ctrs

theorem qStore_of_fixed (hf : qFixed s q = true) : qStore q s = setQ s q { getQ s q with
    cells := ceilDiv (qLines (getQ s q) false) 8, ycells := ceilDiv (qLines (getQ s q) true) 8, pages := 0, stall := false } :=
  if_pos hf

theorem qStore_of_had (hf : qFixed s q = false) (hp : PagesHad q s) : qStore q s =
    setQ (if (getQ s q).pages < pagesNeeded q s then spillCharge s (4096 * (pagesNeeded q s - (getQ s q).pages)) else s) q
      { getQ s q with
        cells := cellsTaken q s, ycells := 0, pages := pagesNeeded q s, stall := false, ctrs := missCounted q s } :=
  (if_neg (by simp [hf])).trans (if_pos hp)

theorem qStore_of_missed (hf : qFixed s q = false) (hp : ¬PagesHad q s) : qStore q s = setQ s q { getQ s q with
    cells := cellsTaken q s, ycells := 0, stall := true
    ctrs := if (getQ s q).stall then missCounted q s else bump (missCounted q s) .spillStall } :=
  (if_neg (by simp [hf])).trans (if_neg hp)

theorem ctr_missCounted {c : Ctr} (hc : .poolMiss ≠ c) : ctr (missCounted q s) c = ctr (getQ s q).ctrs c := by
  unfold missCounted
  split
  · rw [ctr_bump, if_neg hc]
  · rfl

/-- A rearrangement writes its queue, and may charge spill traffic. -/
theorem qStore_writes : ∃ u x, qStore q s = setQ u q x ∧ (∀ r, getQ u r = getQ s r) ∧ x.items = (getQ s q).items ∧
    ∀ c, .poolMiss ≠ c → .spillStall ≠ c → ctr x.ctrs c = ctr (getQ s q).ctrs c := by
  cases hf : qFixed s q with
  | true => exact ⟨s, _, qStore_of_fixed q s hf, fun _ => rfl, rfl, fun _ _ _ => rfl⟩
  | false =>
    by_cases hp : PagesHad q s
    · exact ⟨_, _, qStore_of_had q s hf hp, fun r => ite_elim (P := fun u => getQ u r = getQ s r) rfl rfl, rfl,
        fun c hm _ => ctr_missCounted q s hm⟩
    · refine ⟨s, _, qStore_of_missed q s hf hp, fun _ => rfl, rfl, fun c hm hs => ?_⟩
      have hc := ctr_missCounted q s hm
      exact ite_elim (P := fun cs => ctr cs c = _) hc ((ctr_bump ..).trans ((if_neg hs).trans hc))

end

/-! ## The books of a queue -/

/-- The items of a queue and what its counters say of them. -/
structure Account where
  items : List Item
  pushed : Nat
  popped : Nat
  dropped : Nat

/-- The account of queue `q`. -/
def account (s : State) (q : Nat) : Account :=
  { items := (getQ s q).items
    pushed := ctr (getQ s q).ctrs .pushedItems
    popped := ctr (getQ s q).ctrs .poppedItems
    dropped := ctr (getQ s q).ctrs .droppedItems }

/-- The items counted in are those counted out, those dropped and those held. -/
def Account.Balanced (a : Account) : Prop := (a.popped + a.dropped + a.items.length) % 2 ^ 64 = a.pushed % 2 ^ 64

theorem account_congr {s t : State} {q : Nat} (h : getQ t q = getQ s q) : account t q = account s q := by
  simp only [account, h]

section
variable (q : Nat) (s : State)

theorem getQ_qStore_other {r : Nat} (hr : q ≠ r) : getQ (qStore q s) r = getQ s r := by
  obtain ⟨u, x, hw, hu, -, -⟩ := qStore_writes q s
  rw [hw, getQ_setQ_other u x hr, hu]

theorem account_qStore : account (qStore q s) q = account s q := by
  obtain ⟨u, x, hw, -, hi, hc⟩ := qStore_writes q s
  rw [hw]
  simp [account, hi, hc]

variable (x : Queue)

/-- What follows every change of a queue's content keeps its account. -/
theorem account_qChanged_qStore_setQ : account (qChanged q (qStore q (setQ s q x))) q = account (setQ s q x) q :=
  (account_congr (getQ_qChanged ..)).trans (account_qStore ..)

theorem getQ_qChanged_qStore_setQ_other {r : Nat} (hr : r ≠ q) : getQ (qChanged q (qStore q (setQ s q x))) r = getQ s r :=
  (getQ_qChanged ..).trans ((getQ_qStore_other q _ hr.symm).trans (getQ_setQ_other s x hr.symm))

end

section
variable (q : Nat) (s : State)

theorem account_qPush (it : Item) (front : Bool) : account (qPush q it front s) q =
    { account s q with
      items := if front then it :: (getQ s q).items else (getQ s q).items ++ [it]
      pushed := ((account s q).pushed + 1) % 2 ^ 64 } := by
  refine (account_qChanged_qStore_setQ ..).trans ?_
  cases hh : (getQ s q).heldSince <;> simp [account, ctr_bump]

theorem qPop_of_nil (h : (getQ s q).items = []) : qPop q s = s := by
  simp only [qPop, h]

theorem account_qPop_of_cons {it : Item} {l : List Item} (h : (getQ s q).items = it :: l) : account (qPop q s) q =
    { account s q with items := l, popped := ((account s q).popped + 1) % 2 ^ 64 } := by
  simp only [qPop, h]
  refine (account_qChanged_qStore_setQ ..).trans ?_
  simp [account, ctr_bump]

theorem account_qDrop (len : Nat) : account (qDrop q len s) q =
    { account s q with
      pushed := ((account s q).pushed + 1) % 2 ^ 64, dropped := ((account s q).dropped + 1) % 2 ^ 64 } := by
  simp [qDrop, qCount, account, ctr_bump]

theorem account_qDiscard (f : Item → Bool) : account (qDiscard q f s) q =
    { account s q with
      items := (getQ s q).items.filter fun i => !(f i)
      dropped := ((account s q).dropped + ((getQ s q).items.filter f).length) % 2 ^ 64 } := by
  refine (account_qChanged_qStore_setQ ..).trans ?_
  simp [account, ctr_bump]

theorem getQ_qPush_other (it : Item) (front : Bool) {r : Nat} (hr : r ≠ q) : getQ (qPush q it front s) r = getQ s r :=
  getQ_qChanged_qStore_setQ_other q s _ hr

theorem getQ_qPop_other {r : Nat} (hr : r ≠ q) : getQ (qPop q s) r = getQ s r := by
  unfold qPop
  dsimp only
  split
  · rfl
  · exact getQ_qChanged_qStore_setQ_other q s _ hr

theorem items_qPop : (getQ (qPop q s) q).items = (getQ s q).items.tail := by
  cases h : (getQ s q).items with
  | nil => rw [qPop_of_nil q s h, h, List.tail_nil]
  | cons it l => exact congrArg Account.items (account_qPop_of_cons q s h)

end

section
variable {q : Nat} {s : State} (h : (account s q).Balanced)
include h

theorem balanced_qPush (it : Item) (front : Bool) : (account (qPush q it front s) q).Balanced := by
  have hlen : (if front then it :: (getQ s q).items else (getQ s q).items ++ [it]).length = (getQ s q).items.length + 1 := by
    split <;> simp
  rw [account_qPush, Account.Balanced, hlen]
  simp only [Account.Balanced, account] at h ⊢
  omega

theorem balanced_qPop : (account (qPop q s) q).Balanced := by
  cases hi : (getQ s q).items with
  | nil => rwa [qPop_of_nil q s hi]
  | cons it l =>
    rw [account_qPop_of_cons q s hi]
    simp only [Account.Balanced, account, hi, List.length_cons] at h ⊢
    omega

theorem balanced_qDrop (len : Nat) : (account (qDrop q len s) q).Balanced := by
  rw [account_qDrop]
  simp only [Account.Balanced, account] at h ⊢
  omega

/-- A discarded item is counted as dropped, and every other is still held. -/
theorem balanced_qDiscard (f : Item → Bool) : (account (qDiscard q f s) q).Balanced := by
  have hlen := List.length_eq_length_filter_add (l := (getQ s q).items) f
  rw [account_qDiscard]
  simp only [Account.Balanced, account] at h ⊢
  omega

end

/-- Settles O44: each operation's account says what it counts, and what follows it keeps the account. -/
theorem queueBooksBalance : Obligations.QueueBooksBalance := by
  unfold Obligations.QueueBooksBalance
  intro s q book
  exact ⟨fun it front h => balanced_qPush h it front, fun h => balanced_qPop h, fun n h => balanced_qDrop h n,
    fun f h => balanced_qDiscard h f,
    fun it => ⟨congrArg Account.items (account_qPush q s it false), congrArg Account.items (account_qPush q s it true)⟩,
    items_qPop q s,
    fun r it front hr => ⟨congrArg Queue.items (getQ_qPush_other q s it front hr), congrArg Queue.items (getQ_qPop_other q s hr)⟩⟩

end Sys2Proof.Proofs
end

section
/-!
PROOFS. The moves of spilled queues (R614, R618), the crossings of a group's marks (R629, R630), the QXOFF pins (R634), the repeated
flow-control frames (R623), and the statement on these events of chapter 12.
-/

namespace Sys2Proof.Proofs

open Sys2Proof Sys2Proof.Machine Sys2Proof.Laws

/-! ## Spill moves -/

section
variable {s : State} {q : Nat} (hs : halted s = false) (hq : q < 32768)
include hs hq

theorem exec_spillMoveComplete_of_stalled (hst : (getQ s q).stall = true) :
    exec (.spillMoveComplete q) s = .next (keep s (qStore q s)) := by
  change execSpillMoveComplete q s = _
  rw [execSpillMoveComplete, onPart_run (decide_eq_true hq) hs, guarded_true hst]

theorem exec_spillMoveComplete_of_flowing (hst : (getQ s q).stall = false) : exec (.spillMoveComplete q) s = .next s := by
  change execSpillMoveComplete q s = _
  rw [execSpillMoveComplete, onPart_run (decide_eq_true hq) hs, guarded_false hst, keep_self]

end

section
variable {s : State} {q : Nat} (hf : qFixed s q = false)
include hf

theorem getQ_qStore_of_had (hp : PagesHad q s) : getQ (qStore q s) q = { getQ s q with
    cells := cellsTaken q s, ycells := 0, pages := pagesNeeded q s, stall := false, ctrs := missCounted q s } := by
  rw [qStore_of_had q s hf hp, getQ_setQ_same]

theorem getQ_qStore_of_missed (hp : ¬PagesHad q s) : getQ (qStore q s) q = { getQ s q with
    cells := cellsTaken q s, ycells := 0, stall := true
    ctrs := if (getQ s q).stall then missCounted q s else bump (missCounted q s) .spillStall } := by
  rw [qStore_of_missed q s hf hp, getQ_setQ_same]

theorem cells_qStore_of_floating : (getQ (qStore q s) q).cells = cellsTaken q s := by
  by_cases hp : PagesHad q s
  · rw [getQ_qStore_of_had hf hp]
  · rw [getQ_qStore_of_missed hf hp]

end

/-! ## The marks of a group -/

/-- A group but for what a report of its crossings writes (R630). -/
def unreported (x : Group) : Group := { x with evAt := none, owed := false }

/-- A group that was compared with its marks at level `lv`, but for the report of a crossing (R629). -/
def compared (x : Group) (lv : Nat) : Group :=
  if !x.above && decide (fldN x.fields (fk 0x0E 0 0) ≤ lv) then
    { x with peak := max x.peak lv, above := true, hiSeen := true, hiX := x.hiX + 1 }
  else if x.above && decide (lv ≤ fldN x.fields (fk 0x0E 1 0)) then
    { x with peak := max x.peak lv, above := false, loSeen := true, loX := x.loX + 1 }
  else { x with peak := max x.peak lv }

section
variable {x : Group} {lv : Nat}

theorem compared_of_rise (ha : x.above = false) (hi : fldN x.fields (fk 0x0E 0 0) ≤ lv) :
    compared x lv = { x with peak := max x.peak lv, above := true, hiSeen := true, hiX := x.hiX + 1 } :=
  if_pos (by simp [ha, hi])

theorem compared_of_below (ha : x.above = false) (hi : lv < fldN x.fields (fk 0x0E 0 0)) :
    compared x lv = { x with peak := max x.peak lv } :=
  (if_neg (by simp [hi])).trans (if_neg (by simp [ha]))

theorem compared_of_fall (ha : x.above = true) (lo : lv ≤ fldN x.fields (fk 0x0E 1 0)) :
    compared x lv = { x with peak := max x.peak lv, above := false, loSeen := true, loX := x.loX + 1 } :=
  (if_neg (by simp [ha])).trans (if_pos (by simp [ha, lo]))

theorem compared_of_above (ha : x.above = true) (lo : fldN x.fields (fk 0x0E 1 0) < lv) :
    compared x lv = { x with peak := max x.peak lv } :=
  (if_neg (by simp [ha])).trans (if_neg (by simp [lo]))

variable (x lv)

theorem peak_fields_compared : (compared x lv).peak = max x.peak lv ∧ (compared x lv).fields = x.fields :=
  ite_elim (P := fun y : Group => y.peak = max x.peak lv ∧ y.fields = x.fields) ⟨rfl, rfl⟩
    (ite_elim (P := fun y : Group => y.peak = max x.peak lv ∧ y.fields = x.fields) ⟨rfl, rfl⟩ ⟨rfl, rfl⟩)

end

section
variable (g : Nat) (s : State)

theorem getGroup_of_batten {s t : State} (h : t.batten = s.batten) (g : Nat) : getGroup t g = getGroup s g := by
  simp only [getGroup, h]

theorem getGroup_groupEvent : getGroup (groupEvent g s) g = { getGroup s g with evAt := some s.time.ticks, owed := false } :=
  (getGroup_of_batten (emit_batten ..) g).trans (getGroup_setGroup_same ..)

theorem unreported_groupReport : unreported (getGroup (groupReport g s) g) = unreported (getGroup s g) := by
  unfold groupReport
  dsimp only
  split
  · refine ite_elim (P := fun t => unreported (getGroup t g) = _) ?_ ?_
    · rw [getGroup_groupEvent]
      rfl
    · rw [getGroup_setGroup_same]
      rfl
  · rfl

theorem unreported_groupCheck :
    unreported (getGroup (groupCheck g s) g) = unreported (compared (getGroup s g) (groupLevel s g)) := by
  have hpins : ∀ t ps, getGroup { t with batten := { t.batten with pins := ps } } g = getGroup t g := fun _ _ => rfl
  have hsync : ∀ t, getGroup (pinSync t) g = getGroup t g := fun _ => rfl
  unfold groupCheck compared
  dsimp only
  refine ite_elim (P := fun t => unreported (getGroup t g) = _)
    ((congrArg unreported (getGroup_of_batten (fcSync_batten ..) g)).trans ?_) ?_
  all_goals
    rw [hsync]
    split
    · rw [unreported_groupReport, hpins, getGroup_setGroup_same]
    · split
      · rw [unreported_groupReport, getGroup_setGroup_same]
      · rw [getGroup_setGroup_same]

/-- What a comparison leaves of a group's marks and counts: no report of a crossing touches them. -/
theorem groupCheck_marks :
    let y := getGroup (groupCheck g s) g
    let z := compared (getGroup s g) (groupLevel s g)
    y.peak = z.peak ∧ y.fields = z.fields ∧ y.above = z.above ∧ y.hiSeen = z.hiSeen ∧ y.loSeen = z.loSeen ∧
      y.hiX = z.hiX ∧ y.loX = z.loX := by
  have h := unreported_groupCheck g s
  exact ⟨(congrArg Group.peak h :), (congrArg Group.fields h :), (congrArg Group.above h :), (congrArg Group.hiSeen h :),
    (congrArg Group.loSeen h :), (congrArg Group.hiX h :), (congrArg Group.loX h :)⟩

end

/-! ## The events of groups, pins and ports -/

section
variable {s : State} (hs : halted s = false)
include hs

theorem exec_qgroupEventWindow_of_owed {g at_ : Nat} (hg : g < 256) (ho : (getGroup s g).owed = true)
    (hat : (getGroup s g).evAt = some at_) (hdue : at_ + 10 * tMs ≤ s.time.ticks) :
    exec (.qgroupEventWindow g) s = .next (keep s (groupEvent g s)) := by
  change execQgroupEventWindow g s = _
  rw [execQgroupEventWindow, onPart_run (decide_eq_true hg) hs]
  simp only [hat]
  rw [guarded_true (Bool.and_eq_true_iff.2 ⟨ho, decide_eq_true hdue⟩)]

theorem exec_qxoffMinExpiry_of_due {n : Nat} (hn : n < 8) (hon : (s.batten.pins[n]?.getD {}).on = true)
    (hdue : (s.batten.pins[n]?.getD {}).entry + nsTicks (s.batten.pins[n]?.getD {}).minNs ≤ s.time.ticks) :
    exec (.qxoffMinExpiry n) s = .next (keep s (pinSync s)) := by
  change execQxoffMinExpiry n s = _
  rw [execQxoffMinExpiry, onPart_run (decide_eq_true hn) hs]
  dsimp only
  rw [guarded_true (by simp [hon, hdue])]

theorem exec_pfcRepeat_of_due {p r at_ : Nat} (hp : p < 8) (hr : r < 8) (hat : Tab.get (getPort s p).holds r = some at_)
    (hdue : at_ ≤ s.time.ticks) :
    exec (.pfcRepeat p r) s = .next (keep s (sendFc p (2 ^ r) (fldN (getPort s p).fields (fk 0x12 6 0))
      (setPort s p { getPort s p with holds := Tab.set (getPort s p).holds r (s.time.ticks + halfQuanta s p) }))) := by
  change execPfcRepeat p r s = _
  rw [execPfcRepeat, onPart_run (by simp [hp, hr]) hs]
  simp only [hat]
  rw [guarded_true (decide_eq_true hdue)]
  rfl

end

/-- A pin whose minimum time has run is held by the groups that drive it alone (R634). -/
theorem pinHeld_of_expired {s : State} {n : Nat} {x : QPin} (hdue : x.entry + nsTicks x.minNs ≤ s.time.ticks) :
    pinHeld s n x = (x.en && s.batten.groups.any fun g => g.2.above && bitOf (fldN g.2.fields (fk 0x0E 2 0)) n) := by
  simp [pinHeld, not_lt.2 hdue]

/-! ## Flow-control frames sent -/

theorem tab_set_set {α : Type} (t : Tab α) (k : Nat) (v w : α) : Tab.set (Tab.set t k v) k w = Tab.set t k w := by
  induction t with
  | nil => simp [Tab.set]
  | cons e t ih =>
    obtain ⟨a, b⟩ := e
    by_cases hlt : k < a
    · simp [Tab.set, hlt]
    · by_cases ha : a = k
      · simp [Tab.set, ha]
      · simp [Tab.set, hlt, ha, ih]

theorem setPort_setPort (s : State) (p : Nat) (e f : EthPort) : setPort (setPort s p e) p f = setPort s p f := by
  simp only [setPort, tab_set_set]

/-- A frame sent from a port that was just written: one write of the port. -/
theorem sendFc_setPort (p mask quanta : Nat) (s : State) (e : EthPort) :
    sendFc p mask quanta (setPort s p e) = setPort s p { e with
      fc := some (mask, quanta)
      ctrs := bump e.ctrs (if fldN e.fields (fk 0x12 2 0) = 2 then .pfcSent else .pauseSent) } := by
  simp only [sendFc, bumpPort, updPort, portFlow, getPort_setPort_same, setPort_setPort]

/-- Settles O43: each event is due by its hypotheses; a move takes `cellsTaken` and its pages, and a comparison leaves `compared`. -/
theorem spillMarksAndRepeats : Obligations.SpillMarksAndRepeats := by
  unfold Obligations.SpillMarksAndRepeats
  intro s hs
  refine ⟨fun q hq hst hf => ⟨_, exec_spillMoveComplete_of_stalled hs hq hst, congrArg Account.items (account_qStore q s),
      cells_qStore_of_floating hf, fun hp => ?_, fun hlt hno => ?_⟩,
    fun q hq hst => exec_spillMoveComplete_of_flowing hs hq hst, fun g hg => ?_,
    fun g at_ hg ho hat hdue => ⟨_, exec_qgroupEventWindow_of_owed hs hg ho hat hdue, getGroup_groupEvent g s, rfl⟩,
    fun n hn => ?_, fun p r at_ hp hr hat hdue => ?_⟩
  · rw [getQ_keep, getQ_qStore_of_had hf hp]
    exact ⟨rfl, rfl⟩
  · have hp : ¬PagesHad q s := not_or.2 ⟨not_le.2 hlt, Bool.eq_false_iff.1 hno⟩
    rw [getQ_keep, getQ_qStore_of_missed hf hp]
    exact ⟨rfl, rfl⟩
  · intro x y lv
    obtain ⟨hpeak, hfields, habove, hhiSeen, hloSeen, hhiX, hloX⟩ := groupCheck_marks g s
    obtain ⟨hcpeak, hcfields⟩ := peak_fields_compared x lv
    refine ⟨hpeak.trans hcpeak, hfields.trans hcfields, fun ha h => ?_, fun ha h => ?_, fun ha h => ?_, fun ha h => ?_⟩
    · rw [compared_of_rise ha h] at habove hhiSeen hhiX hloX
      exact ⟨habove, hhiSeen, hhiX, hloX⟩
    · rw [compared_of_below ha h] at habove hhiX hloX
      exact ⟨habove.trans ha, hhiX, hloX⟩
    · rw [compared_of_fall ha h] at habove hloSeen hhiX hloX
      exact ⟨habove, hloSeen, hloX, hhiX⟩
    · rw [compared_of_above ha h] at habove hhiX hloX
      exact ⟨habove.trans ha, hhiX, hloX⟩
  · intro y hon hdue
    refine ⟨_, exec_qxoffMinExpiry_of_due hs hn hon hdue, ?_, rfl, rfl⟩
    rw [keep_batten, pinSync_pins hn, pinHeld_of_expired hdue]
  · rw [exec_pfcRepeat_of_due hs hp hr hat hdue, sendFc_setPort]
    rfl

end Sys2Proof.Proofs
end

section
/-!
PROOFS. The memory controller's state (chapter 13): what each update of it leaves, the error log and poison (R662 to R668), and
that no requester's reaction to poison (R666) touches the controller.
-/

namespace Sys2Proof.Proofs

open Sys2Proof Sys2Proof.Machine Sys2Proof.Laws

/-! ## Subchannels, ranks and counters after an update -/

/-- A counter of a channel. -/
def chanCtr (s : State) (ch : Nat) (c : Ctr) : Nat := ctr (Tab.getD s.mem.ctrs ch []) c

section
variable (s t : State) (ch b r : Nat)

@[simp] theorem setMem_mem (m : MemPart) : (setMem s m).mem = m := rfl

@[simp] theorem getSub_keep : getSub (keep s t) ch b = getSub t ch b := rfl

@[simp] theorem getRank_keep : getRank (keep s t) ch r = getRank t ch r := rfl

@[simp] theorem getSub_setSub_same (x : SubCh) : getSub (setSub s ch b x) ch b = x := by simp [getSub, setSub]

@[simp] theorem getRank_setRank_same (k : RankSt) : getRank (setRank s ch r k) ch r = k := by simp [getRank, setRank]

theorem getRank_setRank_other {q : Nat} (h : r ≠ q) (k : RankSt) : getRank (setRank s ch r k) ch q = getRank s ch q := by
  rw [getRank, setRank, setMem_mem, tab_getD_set_other _ _ _ (by omega)]
  rfl

@[simp] theorem bumpMem_poisoned (c : Ctr) : (bumpMem s ch c).mem.poisoned = s.mem.poisoned := rfl

theorem chanCtr_bumpMem_same (c : Ctr) : chanCtr (bumpMem s ch c) ch c = (chanCtr s ch c + 1) % 2 ^ 64 := by
  simp [chanCtr, bumpMem, ctr_bump]

theorem chanCtr_bumpMem_other {c d : Ctr} (h : c ≠ d) (ch' : Nat) : chanCtr (bumpMem s ch' c) ch d = chanCtr s ch d := by
  by_cases hch : ch' = ch
  · simp [chanCtr, bumpMem, hch, ctr_bump, h]
  · simp [chanCtr, bumpMem, tab_getD_set_other _ _ _ hch]

end

theorem getSub_of_mem {s t : State} (h : t.mem.subs = s.mem.subs) (ch b : Nat) : getSub t ch b = getSub s ch b := by
  simp only [getSub, h]

theorem getRank_of_mem {s t : State} (h : t.mem = s.mem) (ch r : Nat) : getRank t ch r = getRank s ch r := by
  simp only [getRank, h]

theorem chanCtr_of_mem {s t : State} (h : t.mem = s.mem) (ch : Nat) (c : Ctr) : chanCtr t ch c = chanCtr s ch c := by
  simp only [chanCtr, h]

/-! ## The error log (R667) -/

section
variable (e : MemErr) (s : State)

theorem take_findIdx_append_drop {α : Type} (p : α → Bool) (l : List α) :
    l.take (l.findIdx p) ++ l.drop (l.findIdx p + 1) = l.eraseP p := by
  induction l with
  | nil => rfl
  | cons a l ih => cases ha : p a <;> simp [List.findIdx_cons, ha, ih]

/-- The log with the entry in the place of the oldest corrected one. -/
def logReplaced : List MemErr := s.mem.log.eraseP MemErr.corrected ++ [e]

/-- What logging can do: the entry is added, it is lost, or it replaces a corrected one. -/
theorem logAdd_cases :
    (s.mem.log.length < 512 ∧ logAdd e s = setMem s { s.mem with log := s.mem.log ++ [e] }) ∨
    (512 ≤ s.mem.log.length ∧ (e.corrected = true ∨ ∀ x ∈ s.mem.log, x.corrected = false) ∧
      logAdd e s = bumpMem s e.ch .logLost) ∨
    (512 ≤ s.mem.log.length ∧ (∃ x ∈ s.mem.log, x.corrected = true) ∧
      logAdd e s = setMem s { s.mem with log := logReplaced e s }) := by
  unfold logAdd
  dsimp only
  split
  · next hlt => exact .inl ⟨hlt, rfl⟩
  · next hfull =>
    split
    · next hlost => exact .inr (.inl ⟨Nat.not_lt.1 hfull, by simpa using hlost, rfl⟩)
    · next hroom => 
      have hc : ∃ x ∈ s.mem.log, x.corrected = true := by simpa using (by simpa using hroom : e.corrected = false ∧ _).2
      exact .inr (.inr ⟨Nat.not_lt.1 hfull, hc, by rw [take_findIdx_append_drop]; rfl⟩)

/-- Logging changes the log and the channel's LOG_LOST, nothing else. -/
theorem logAdd_frame : ∃ log ctrs, logAdd e s = setMem s { s.mem with log := log, ctrs := ctrs } := by
  obtain ⟨-, h⟩ | ⟨-, -, h⟩ | ⟨-, -, h⟩ := logAdd_cases e s
  · exact ⟨_, s.mem.ctrs, h⟩
  · exact ⟨s.mem.log, _, h⟩
  · exact ⟨_, s.mem.ctrs, h⟩

@[simp] theorem logAdd_subs : (logAdd e s).mem.subs = s.mem.subs := by
  obtain ⟨log, ctrs, h⟩ := logAdd_frame e s
  rw [h, setMem_mem]

@[simp] theorem logAdd_ce : (logAdd e s).mem.ce = s.mem.ce := by
  obtain ⟨log, ctrs, h⟩ := logAdd_frame e s
  rw [h, setMem_mem]

@[simp] theorem logAdd_poisoned : (logAdd e s).mem.poisoned = s.mem.poisoned := by
  obtain ⟨log, ctrs, h⟩ := logAdd_frame e s
  rw [h, setMem_mem]

theorem chanCtr_logAdd {c : Ctr} (hc : .logLost ≠ c) (ch : Nat) : chanCtr (logAdd e s) ch c = chanCtr s ch c := by
  obtain ⟨-, h⟩ | ⟨-, -, h⟩ | ⟨-, -, h⟩ := logAdd_cases e s
  · rw [h]
    rfl
  · rw [h, chanCtr_bumpMem_other _ _ hc]
  · rw [h]
    rfl

theorem logReplaced_length (hc : ∃ x ∈ s.mem.log, x.corrected = true) : (logReplaced e s).length = s.mem.log.length := by
  obtain ⟨x, hx, hcx⟩ := hc
  have hpos : 0 < s.mem.log.length := List.length_pos_of_mem hx
  rw [logReplaced, List.length_append, List.length_eraseP_of_mem hx hcx, List.length_singleton]
  omega

/-- The entry replaced is a corrected one. -/
theorem mem_logReplaced {x : MemErr} (hx : x ∈ s.mem.log) (hu : x.corrected = false) : x ∈ logReplaced e s :=
  List.mem_append_left _ ((List.mem_eraseP_of_neg (by simp [hu])).2 hx)

/-- The bound of the log, and what it never loses (R667). -/
theorem logAdd_log (hlen : s.mem.log.length ≤ 512) :
    (logAdd e s).mem.log.length ≤ 512 ∧ (∀ x ∈ s.mem.log, x.corrected = false → x ∈ (logAdd e s).mem.log) ∧
      (e.corrected = false → (∃ x ∈ s.mem.log, x.corrected = true) → e ∈ (logAdd e s).mem.log) ∧
      (s.mem.log.length < 512 → (logAdd e s).mem.log = s.mem.log ++ [e]) := by
  obtain ⟨hlt, h⟩ | ⟨hfull, hlost, h⟩ | ⟨hfull, hc, h⟩ := logAdd_cases e s <;> rw [h]
  · exact ⟨by simpa using hlt, fun x hx _ => List.mem_append_left _ hx, fun _ _ => by simp, fun _ => rfl⟩
  · refine ⟨hlen, fun x hx _ => hx, fun he ⟨x, hx, hcx⟩ => ?_, fun hlt => absurd hlt (Nat.not_lt.2 hfull)⟩
    rcases hlost with he' | hnone
    · exact absurd (he.symm.trans he') (by decide)
    · exact absurd ((hnone x hx).symm.trans hcx) (by decide)
  · exact ⟨(logReplaced_length e s hc).trans_le hlen, fun x hx hu => mem_logReplaced e s hx hu, fun _ _ => by simp [logReplaced],
      fun hlt => absurd hlt (Nat.not_lt.2 hfull)⟩

end

/-! ## Poisoned lines (R665) -/

section
variable (s : State)

theorem mem_setPoison_true (a l : Nat) : l ∈ (setPoison a true s).mem.poisoned ↔ l = a / 64 ∨ l ∈ s.mem.poisoned := by
  by_cases h : l = a / 64 <;> simp [setPoison, h]

theorem mem_setPoison_false (a l : Nat) : l ∈ (setPoison a false s).mem.poisoned ↔ l ∈ s.mem.poisoned ∧ l ≠ a / 64 := by
  simp [setPoison]

@[simp] theorem setPoison_subs (a : Nat) (bad : Bool) : (setPoison a bad s).mem.subs = s.mem.subs := rfl

variable (r : DramReq)

@[simp] theorem writeLine_subs : (writeLine r s).mem.subs = s.mem.subs := by
  unfold writeLine
  refine ite_elim (P := fun t : State => t.mem.subs = _) ?_ (ite_elim (P := fun t : State => t.mem.subs = _) rfl rfl)
  simp

/-- A write that carries poison. -/
theorem mem_writeLine_of_poison (h : r.poison = true) (l : Nat) :
    l ∈ (writeLine r s).mem.poisoned ↔ l = r.dpa / 64 ∨ l ∈ s.mem.poisoned := by
  simp [writeLine, h, mem_setPoison_true]

/-- A write of a whole line. -/
theorem mem_writeLine_of_whole (h : r.poison = false) (hw : 64 ≤ r.bytes) (l : Nat) :
    l ∈ (writeLine r s).mem.poisoned ↔ l ∈ s.mem.poisoned ∧ l ≠ r.dpa / 64 := by
  simp [writeLine, h, hw, mem_setPoison_false]

/-- A write of a part of a line. -/
theorem writeLine_of_part (h : r.poison = false) (hw : ¬64 ≤ r.bytes) : writeLine r s = s := by
  simp [writeLine, h, hw]

/-- A write touches the poison of its own line alone. -/
theorem mem_writeLine_other {l : Nat} (hl : l ≠ r.dpa / 64) :
    l ∈ (writeLine r s).mem.poisoned ↔ l ∈ s.mem.poisoned := by
  by_cases hp : r.poison = true
  · simp [mem_writeLine_of_poison s r hp, hl]
  · rw [Bool.not_eq_true] at hp
    by_cases hw : 64 ≤ r.bytes
    · simp [mem_writeLine_of_whole s r hp hw, hl]
    · rw [writeLine_of_part s r hp hw]

end

/-! ## What leaves the controller: detections, events, objects at fault, queues -/

theorem mem_ite {c : Prop} [Decidable c] {a b : State} {m : MemPart} (ha : a.mem = m) (hb : b.mem = m) :
    (if c then a else b).mem = m :=
  ite_elim (P := fun t : State => t.mem = m) ha hb

section
variable (s : State)

@[simp] theorem detect_mem (mech inst obj detail : Nat) (persist crit : Bool) :
    (detect mech inst obj detail persist crit s).mem = s.mem := by
  obtain ⟨recs, lost, fns, ctrs, h⟩ := detect_frame mech inst obj detail persist crit s
  rw [h]

@[simp] theorem conditionEnd_mem (mech inst obj : Nat) : (conditionEnd mech inst obj s).mem = s.mem := rfl

@[simp] theorem memError_mem (e : MemErr) : (memError e s).mem = s.mem := by
  unfold memError
  dsimp only
  split
  · exact (foldl_unchanged (π := State.mem) (fun _ _ => emit_mem ..) _ _).trans (emit_mem ..)
  · exact emit_mem ..

@[simp] theorem audioFault_mem (l mech inst which seq : Nat) : (audioFault l mech inst which seq s).mem = s.mem := by
  simp [audioFault]

theorem pickFree_mem (tag : Nat) (l : List Nat) : (pickFree tag l s).2.mem = s.mem := by
  unfold pickFree
  split <;> rfl

variable {s}

theorem place_mem {k : Nat} {old : List Resv} {a : Ask} {t : State} (h : place k old a s = .ok t) : t.mem = s.mem := by
  unfold place at h
  dsimp only at h
  split at h
  · cases h
  · cases h
    exact pickFree_mem s _ _

theorem placeAll_mem {k : Nat} {old : List Resv} {l : List Ask} {t : State} (h : placeAll k old l s = .ok t) :
    t.mem = s.mem := by
  induction l generalizing s with
  | nil =>
    cases h
    rfl
  | cons a l ih =>
    unfold placeAll at h
    split at h
    · cases h
    · next s1 h1 => exact (ih h).trans (place_mem h1)

theorem replace_mem {k : Nat} {asks : Except Shut (List Ask)} {t : State} (h : replace k asks s = .ok t) : t.mem = s.mem := by
  unfold replace replaceWith at h
  cases asks with
  | error e => cases h
  | ok l => exact placeAll_mem (s := clearResv k s) h

variable (s)

theorem resettle_mem (c : Nat) : (resettle c s).mem = s.mem := by
  unfold resettle resettleWith
  split
  · next t ht =>
    change t.mem = s.mem
    exact replace_mem ht
  · rfl

theorem syncRungs_mem (y : Nat) : (syncRungs y s).mem = s.mem := by
  unfold syncRungs
  exact foldl_unchanged (π := State.mem) (fun _ _ => updObj_mem ..) _ s

theorem syncResv_mem : (syncResv s).mem = s.mem := by
  unfold syncResv
  exact foldl_unchanged (π := State.mem) (fun _ _ => mem_ite rfl (setQ_mem ..)) _ s

@[simp] theorem faultObject_mem (k : Nat) : (faultObject k s).mem = s.mem := by
  unfold faultObject
  split
  · rfl
  · exact mem_ite ((syncResv_mem _).trans (mem_ite (resettle_mem ..) (mem_ite (syncRungs_mem ..) rfl))) rfl

theorem sendFc_mem (p mask quanta : Nat) : (sendFc p mask quanta s).mem = s.mem := rfl

theorem fcSync_mem (p : Nat) : (fcSync p s).mem = s.mem := by
  unfold fcSync
  refine foldl_unchanged (π := State.mem) (fun s r => ?_) _ s
  dsimp only
  exact mem_ite (sendFc_mem ..) (mem_ite (sendFc_mem ..) rfl)

theorem groupReport_mem (g : Nat) : (groupReport g s).mem = s.mem := by
  unfold groupReport
  exact mem_ite (mem_ite (emit_mem ..) rfl) rfl

theorem groupCheck_mem (g : Nat) : (groupCheck g s).mem = s.mem := by
  unfold groupCheck
  refine mem_ite ((fcSync_mem ..).trans ?_) ?_ <;>
  exact mem_ite (groupReport_mem ..) (mem_ite (groupReport_mem ..) rfl)

theorem qStore_mem (q : Nat) : (qStore q s).mem = s.mem := by
  unfold qStore
  exact mem_ite rfl (mem_ite ((setQ_mem ..).trans (mem_ite rfl rfl)) rfl)

theorem qChanged_mem (q : Nat) : (qChanged q s).mem = s.mem := by
  unfold qChanged
  split
  · exact groupCheck_mem ..
  · rfl

@[simp] theorem qPoisonPage_mem (q : Nat) : (qPoisonPage q s).mem = s.mem :=
  (qChanged_mem ..).trans (qStore_mem ..)

/-- A requester's reaction to poison (R666) leaves the controller. -/
@[simp] theorem poisonTo_mem (req who : Nat) : (poisonTo req who s).mem = s.mem := by
  unfold poisonTo
  split
  · exact mem_ite (audioFault_mem ..) rfl
  · rfl
  · exact qPoisonPage_mem ..
  · split
    · exact mem_ite (faultObject_mem ..) rfl
    · rfl
  · rfl

/-- An uncorrectable error is for the controller one entry in its log. -/
theorem uncorrectable_mem (e : MemErr) (who : Nat) : (uncorrectable e who s).mem = (logAdd e s).mem := by
  simp [uncorrectable]

/-- The subchannels, and the corrections counted by unit. -/
def unitCounts : Tab SubCh × Tab Nat := (s.mem.subs, s.mem.ce)

/-- A corrected error counts on its unit (R662). -/
theorem unitCounts_correctedAt (e : MemErr) : unitCounts (correctedAt e s) =
    (s.mem.subs, Tab.set s.mem.ce (unitKey e) (Tab.getD s.mem.ce (unitKey e) 0 + 1)) := by
  unfold correctedAt
  extract_lets k s1 n w base m1 s2 m2 s3
  have hcount : unitCounts s2 = (s.mem.subs, Tab.set s.mem.ce k (Tab.getD s.mem.ce k 0 + 1)) := rfl
  have hevent : unitCounts s3 = unitCounts s2 :=
    ite_elim (P := fun t => unitCounts t = unitCounts s2) (by rw [unitCounts, emit_mem]; rfl) rfl
  have hlog : ∀ l, unitCounts (logAdd e (setMem s3 { s3.mem with ceLog := l })) = unitCounts s3 := fun l => by
    simp [unitCounts]
  rw [← hcount, ← hevent]
  split
  · exact ite_elim (P := fun t => unitCounts t = unitCounts s3) rfl (hlog _)
  · exact hlog _

end

end Sys2Proof.Proofs
end

section
/-!
PROOFS. The events of the memory controller (chapter 13): the request that issues (R647 to R649), its answer (R662 to R665),
refresh, idle ranks and training (R653, R654, R659, R660), the scrub (R663), and the statement on all of them.
-/

namespace Sys2Proof.Proofs

open Sys2Proof Sys2Proof.Machine Sys2Proof.Laws

/-! ## What is so of both subchannels, or of both ranks -/

theorem any_pair_iff (f : Nat → Bool) : [0, 1].any f = true ↔ ∃ b, b < 2 ∧ f b = true := by
  simp [show ([0, 1] : List Nat) = List.range 2 from rfl]

theorem all_pair_iff (f : Nat → Bool) : [0, 1].all f = true ↔ ∀ b, b < 2 → f b = true := by
  simp [show ([0, 1] : List Nat) = List.range 2 from rfl]

/-! ## The request that issues (R648) -/

/-- R648 picks the first candidate of least order. -/
theorem issueNext_eq_argmin (s : State) (x : SubCh) : issueNext s x = (candidatesOf x).argmin (issueKey s x) := by
  unfold issueNext List.argmin
  congr 1
  funext b r
  cases b <;> rfl

theorem mem_reqs_of_candidate {x : SubCh} {r : DramReq} (h : r ∈ candidatesOf x) : r ∈ x.reqs := by
  obtain ⟨n, -, hn⟩ := List.mem_filterMap.1 h
  exact List.mem_of_getElem? hn

/-- A request that may not touch its extent reaches no queue (R669). -/
theorem arrive_subs_of_isolated {s : State} {n : DramIn} {p : Nat} (hn : n.part = some p) (hp : extentPart s n.dpa ≠ some p)
    (ch b : Nat) : (arrive ch b n s).mem.subs = s.mem.subs := by
  have hiso : (n.part.isSome && extentPart s n.dpa != n.part) = true := by simp [hn, hp]
  unfold arrive
  dsimp only
  split
  · rfl
  · rw [if_pos hiso]
    exact ite_elim (P := fun t : State => t.mem.subs = s.mem.subs) rfl (by simp)

/-- A subchannel once its request `r` has issued. -/
def issued (s : State) (x : SubCh) (r : DramReq) : SubCh := { x with
  reqs := x.reqs.erase r, flight := if r.write then x.flight else x.flight ++ [r]
  openR := Tab.set x.openR r.bank r.row
  runs := Tab.set x.runs r.bank (if Tab.get x.openR r.bank == some r.row then Tab.getD x.runs r.bank 0 + 1 else 1)
  lastBg := r.bg, win := s.time.ticks / tUs
  spill := (if x.win = s.time.ticks / tUs then x.spill else 0) + (if r.cls = 1 then r.bytes else 0) }

section
variable {s : State} (hs : halted s = false) {ch b : Nat} (hch : ch < 8) (hb : b < 2)
include hs hch hb

theorem exec_dramRequestIssue_of_none (h : issueNext s (getSub s ch b) = none) :
    exec (.dramRequestIssue ch b []) s = .next s := by
  change execDramRequestIssue ch b [] s = _
  rw [execDramRequestIssue, onPart_run (by simp [hch, hb]) hs]
  simp only [List.foldl_nil, h, keep_self]

theorem exec_dramRequestIssue_of_read {r : DramReq} (h : issueNext s (getSub s ch b) = some r) (hr : r.write = false) :
    exec (.dramRequestIssue ch b []) s = .next (keep s (setSub s ch b (issued s (getSub s ch b) r))) := by
  change execDramRequestIssue ch b [] s = _
  rw [execDramRequestIssue, onPart_run (by simp [hch, hb]) hs]
  simp only [List.foldl_nil, h]
  exact congrArg (fun t => Host.Outcome.next (keep s t)) (if_neg (by simp [hr]))

theorem exec_dramRequestIssue_of_write {r : DramReq} (h : issueNext s (getSub s ch b) = some r) (hr : r.write = true) :
    exec (.dramRequestIssue ch b []) s = .next (keep s (writeLine r (setSub s ch b (issued s (getSub s ch b) r)))) := by
  change execDramRequestIssue ch b [] s = _
  rw [execDramRequestIssue, onPart_run (by simp [hch, hb]) hs]
  simp only [List.foldl_nil, h]
  exact congrArg (fun t => Host.Outcome.next (keep s t)) (if_pos hr)

/-! ## The answer of a read (R662, R664) -/

section
variable {sym syn who : Nat} {r : DramReq} {l : List DramReq} (hf : (getSub s ch b).flight = r :: l)
include hf

theorem exec_dramReadResponse_of_clean (hp : r.dpa / 64 ∉ s.mem.poisoned) :
    exec (.dramReadResponse ch b 0 sym syn who) s = .next (keep s (setSub s ch b { getSub s ch b with flight := l })) := by
  change execDramReadResponse ch b 0 sym syn who s = _
  rw [execDramReadResponse, onPart_run (by simp [hch, hb]) hs]
  simp [hf, hp]

theorem exec_dramReadResponse_of_corrected (hp : r.dpa / 64 ∉ s.mem.poisoned) :
    exec (.dramReadResponse ch b 1 sym syn who) s = .next (keep s
      (correctedAt (errAt s 1 (sym % 16) r.unit r.dpa syn) (setSub s ch b { getSub s ch b with flight := l }))) := by
  change execDramReadResponse ch b 1 sym syn who s = _
  rw [execDramReadResponse, onPart_run (by simp [hch, hb]) hs]
  simp [hf, hp]

theorem exec_dramReadResponse_of_uncorrectable :
    exec (.dramReadResponse ch b 2 sym syn who) s = .next (keep s (uncorrectable (errAt s 2 15 r.unit r.dpa syn) who
      (bumpMem (setSub s ch b { getSub s ch b with flight := l }) ch .dramUe))) := by
  change execDramReadResponse ch b 2 sym syn who s = _
  rw [execDramReadResponse, onPart_run (by simp [hch, hb]) hs]
  simp [hf]

end

/-! ## The response time-out (R664) -/

theorem exec_dramCommandTimeout_of_late {who : Nat} {r : DramReq}
    (h : (getSub s ch b).flight.find? (fun r => decide (r.at_ + 1600 ≤ s.time.ticks)) = some r) :
    exec (.dramCommandTimeout ch b who) s = .next (keep s (uncorrectable (errAt s 5 15 r.unit r.dpa 0) who
      (bumpMem (setSub s ch b { getSub s ch b with flight := (getSub s ch b).flight.erase r }) ch .dramTimeout))) := by
  change execDramCommandTimeout ch b who s = _
  rw [execDramCommandTimeout, onPart_run (by simp [hch, hb]) hs]
  simp only [show 2 * tUs = 1600 from rfl, h]

theorem exec_dramCommandTimeout_of_timely {who : Nat}
    (h : ∀ r ∈ (getSub s ch b).flight ++ (getSub s ch b).reqs, s.time.ticks < r.at_ + 1600) :
    exec (.dramCommandTimeout ch b who) s = .next s := by
  have hfind : ∀ l : List DramReq, (∀ r ∈ l, s.time.ticks < r.at_ + 1600) →
      l.find? (fun r => decide (r.at_ + 1600 ≤ s.time.ticks)) = none := fun l hl => by simpa using hl
  have hflight := hfind _ fun r hr => h r (List.mem_append_left _ hr)
  have hreqs := hfind _ fun r hr => h r (List.mem_append_right _ hr)
  change execDramCommandTimeout ch b who s = _
  rw [execDramCommandTimeout, onPart_run (by simp [hch, hb]) hs]
  simp only [show 2 * tUs = 1600 from rfl, hflight, hreqs, keep_self]

end

/-- A read answered as uncorrectable, or not at all: it leaves the flight, and the channel counts it (R664). -/
theorem uncorrectable_answer (s : State) (ch b who : Nat) (x : SubCh) (e : MemErr) {c : Ctr} (hc : .logLost ≠ c) :
    getSub (uncorrectable e who (bumpMem (setSub s ch b x) ch c)) ch b = x ∧
      chanCtr (uncorrectable e who (bumpMem (setSub s ch b x) ch c)) ch c = (chanCtr s ch c + 1) % 2 ^ 64 := by
  have hmem := uncorrectable_mem (bumpMem (setSub s ch b x) ch c) e who
  constructor
  · rw [getSub_of_mem ((congrArg MemPart.subs hmem).trans (logAdd_subs ..))]
    exact getSub_setSub_same s ch b x
  · rw [chanCtr_of_mem hmem, chanCtr_logAdd _ _ hc, chanCtr_bumpMem_same]
    rfl

/-- NOC_TIMEOUT of the packet engine (requester 3): its port drops the packet (R666, R752). -/
theorem exec_nocTimeout_of_packet_engine {s : State} (hs : halted s = false) (who n : Nat) :
    exec (.nocTimeout 3 who n) s = .next (keep s (bumpPort (detect 0x08 n 0 0 false false s) (who % 8) .poisonDrop)) := by
  change execNocTimeout 3 who n s = _
  rw [execNocTimeout, live_run hs]
  simp [poisonObj, poisonTo]

/-! ## Refresh and the temperature of a rank (R653) -/

/-- Fixed requests wait on a rank. -/
def FixedWaits (s : State) (ch rank : Nat) : Prop := ∃ b, b < 2 ∧ ∃ r ∈ (getSub s ch b).reqs, r.rank = rank ∧ r.cls = 0

/-- The timers that wait take effect (R652). -/
def timersTaken (s : State) : State := setMem s { s.mem with prm := s.mem.prmNew.getD s.mem.prm, prmNew := none }

section
variable {s : State} (hs : halted s = false) {ch rank : Nat} (hch : ch < 8) (hr : rank < 2)
include hs hch hr

theorem exec_dramRefresh_of_early
    (h : ¬(getRank s ch rank).lastRef + refi (getRank s ch rank) * ((getRank s ch rank).postp + 1) ≤ s.time.ticks) :
    exec (.dramRefresh ch rank) s = .next s := by
  change execDramRefresh ch rank s = _
  rw [execDramRefresh, onPart_run (by simp [hch, hr]) hs]
  simp only [if_neg h, keep_self]

section
variable (h : (getRank s ch rank).lastRef + refi (getRank s ch rank) * ((getRank s ch rank).postp + 1) ≤ s.time.ticks)
include h

theorem exec_dramRefresh_of_postponed (hw : FixedWaits s ch rank) (hp : (getRank s ch rank).postp < 4) :
    exec (.dramRefresh ch rank) s = .next (keep s (setRank (timersTaken s) ch rank
      { getRank s ch rank with postp := (getRank s ch rank).postp + 1 })) := by
  have hwaits : (([0, 1].any fun b => (getSub s ch b).reqs.any fun r => r.rank == rank && r.cls == 0)
      && decide ((getRank s ch rank).postp < 4)) = true :=
    Bool.and_eq_true_iff.2 ⟨(any_pair_iff _).2 (by simpa [FixedWaits] using hw), decide_eq_true hp⟩
  change execDramRefresh ch rank s = _
  rw [execDramRefresh, onPart_run (by simp [hch, hr]) hs]
  simp only [if_pos h, hwaits, if_true]
  rfl

theorem exec_dramRefresh_of_done (hw : ¬(FixedWaits s ch rank ∧ (getRank s ch rank).postp < 4)) :
    ∃ x y, exec (.dramRefresh ch rank) s = .next (keep s (setRank (setSub (setSub (timersTaken s) ch 0 x) ch 1 y) ch rank
      { getRank s ch rank with lastRef := s.time.ticks, postp := 0 })) := by
  have hwaits : (([0, 1].any fun b => (getSub s ch b).reqs.any fun r => r.rank == rank && r.cls == 0)
      && decide ((getRank s ch rank).postp < 4)) = false :=
    Bool.eq_false_iff.2 fun hc => hw
      ⟨by simpa [FixedWaits] using (any_pair_iff _).1 (Bool.and_eq_true_iff.1 hc).1,
        by simpa using (Bool.and_eq_true_iff.1 hc).2⟩
  refine ⟨closeRows (timersTaken s) rank (getSub (timersTaken s) ch 0),
    closeRows (timersTaken s) rank (getSub (timersTaken s) ch 1), ?_⟩
  change execDramRefresh ch rank s = _
  rw [execDramRefresh, onPart_run (by simp [hch, hr]) hs]
  simp only [if_pos h, hwaits, Bool.false_eq_true, if_false]
  rfl

end

/-- A poll changes nothing of the controller but what it read of its rank. -/
theorem exec_dramTempPoll_mem (temp : Nat) (hot bad : Bool) : ∃ t, exec (.dramTempPoll ch rank temp hot bad) s = .next t ∧
    t.mem = (setRank s ch rank { getRank s ch rank with temp := temp % 256, hot := hot, tooHot := bad }).mem := by
  change ∃ t, execDramTempPoll ch rank temp hot bad s = _ ∧ _
  rw [execDramTempPoll, onPart_run (by simp [hch, hr]) hs]
  exact ⟨_, rfl, mem_ite (by simp) (mem_ite (by simp) rfl)⟩

/-! ## Retraining (R660) -/

/-- What a sweep's end makes of lane `n` of the rank, measured as `pts`: its new point, or MEM_MARGIN. -/
def laneSwept (ch rank : Nat) (pts : List (Int × Nat × Nat)) (s : State) (n : Nat) : State :=
  match pts[n]? with
  | none => s
  | some (d, v, w) =>
    if w < 16 then emit .owner 0x0A3 0 (toLe 1 ch ++ toLe 1 rank ++ toLe 1 (n % 10) ++ toLe 1 w) s
    else setMem s { s.mem with
      lanes := Tab.set s.mem.lanes (ch * 64 + n / 10 * 32 + rank * 16 + n % 10) { delay := d, vref := v, width := w } }

omit hs hch hr in
theorem getRank_laneSwept (pts : List (Int × Nat × Nat)) (s : State) (n : Nat) :
    getRank (laneSwept ch rank pts s n) ch rank = getRank s ch rank := by
  unfold laneSwept
  split
  · rfl
  · exact ite_elim (P := fun t => getRank t ch rank = getRank s ch rank) (getRank_of_mem (emit_mem ..) ..) rfl

section
variable (hdue : (getRank s ch rank).sweep ≠ none ∨
    (0 < mprm s 4 ∧ (getRank s ch rank).trained + mprm s 4 * 3600 * tS ≤ s.time.ticks))
  (hafter : ∃ r, r < 2 ∧ (getRank s ch r).lastRef = s.time.ticks)
include hdue hafter

/-- A slice that is due, right after a refresh of the channel. -/
theorem exec_retrainSlice_of_due (pts : List (Int × Nat × Nat)) : exec (.retrainSlice ch rank pts) s = .next (keep s
    (if pts.isEmpty then setRank s ch rank { getRank s ch rank with sweep := some ((getRank s ch rank).sweep.getD 0 + 1) }
    else (List.range pts.length).foldl (laneSwept ch rank pts)
      (setRank s ch rank { getRank s ch rank with sweep := none, trained := s.time.ticks }))) := by
  have hd : ((getRank s ch rank).sweep.isSome
      || decide (0 < mprm s 4 ∧ (getRank s ch rank).trained + mprm s 4 * 3600 * tS ≤ s.time.ticks)) = true := by
    simpa [Option.isSome_iff_ne_none] using hdue
  have ha := (any_pair_iff fun r => (getRank s ch r).lastRef == s.time.ticks).2 (by simpa using hafter)
  change execRetrainSlice ch rank pts s = _
  rw [execRetrainSlice, onPart_run (by simp [hch, hr]) hs]
  simp only [hd, ha, Bool.and_self, Bool.not_true, Bool.false_eq_true, if_false]
  rfl

theorem exec_retrainSlice_of_end (p : Int × Nat × Nat) (ps : List (Int × Nat × Nat)) :
    ∃ t, exec (.retrainSlice ch rank (p :: ps)) s = .next t ∧
      getRank t ch rank = { getRank s ch rank with sweep := none, trained := s.time.ticks } := by
  refine ⟨_, exec_retrainSlice_of_due hs hch hr hdue hafter (p :: ps), ?_⟩
  rw [getRank_keep, if_neg (by simp),
    foldl_unchanged (π := fun t => getRank t ch rank) (getRank_laneSwept (p :: ps)), getRank_setRank_same]

end

/-! ## Idle ranks (R654) -/

theorem exec_powerDownEntry_of_idle (hp : (getRank s ch rank).power = 0) (hidle : 0 < mprm s 1)
    (hlast : (getRank s ch rank).lastReq + nsTicks (mprm s 1) ≤ s.time.ticks)
    (hnone : ∀ b, b < 2 → ∀ r ∈ (getSub s ch b).reqs, r.rank ≠ rank) :
    exec (.powerDownEntry ch rank) s = .next (keep s (setRank s ch rank { getRank s ch rank with power := 1 })) := by
  have hall := (all_pair_iff fun b => (getSub s ch b).reqs.all fun r => r.rank != rank).2 (by simpa using hnone)
  change execPowerDownEntry ch rank s = _
  rw [execPowerDownEntry, onPart_run (by simp [hch, hr]) hs]
  dsimp only
  rw [guarded_true (by simp only [hp, hidle, hlast, hall]; rfl)]

end

/-- A rank enters self-refresh. -/
def asleep (ch : Nat) (s : State) (r : Nat) : State := setRank s ch r { getRank s ch r with power := 2 }

theorem getRank_foldl_asleep (ch : Nat) (rs : List Nat) (s : State) (r : Nat) : getRank (rs.foldl (asleep ch) s) ch r =
    if r ∈ rs then { getRank s ch r with power := 2 } else getRank s ch r := by
  induction rs generalizing s with
  | nil => rfl
  | cons q rs ih =>
    rw [List.foldl_cons, ih]
    by_cases hq : q = r
    · subst hq
      simp [asleep]
    · simp [asleep, getRank_setRank_other _ _ _ hq, Ne.symm hq]

theorem exec_selfRefreshEntry_of_idle {s : State} (hs : halted s = false) {ch : Nat} (hch : ch < 8) (hidle : 0 < mprm s 2)
    (hbuf : holdsBuffers s = false)
    (hlast : ∀ r, r < nRanks s → (getRank s ch r).lastReq + nsTicks (mprm s 2) ≤ s.time.ticks)
    (hnone : ∀ b, b < 2 → (getSub s ch b).reqs = []) :
    exec (.selfRefreshEntry ch) s = .next (keep s ((List.range (nRanks s)).foldl (asleep ch) s)) := by
  have hall := (all_pair_iff fun b => (getSub s ch b).reqs.isEmpty).2 (by simpa using hnone)
  have hranks : (((List.range (nRanks s)).map fun r => getRank s ch r).all fun k =>
      decide (k.lastReq + nsTicks (mprm s 2) ≤ s.time.ticks)) = true := by simpa using hlast
  change execSelfRefreshEntry ch s = _
  rw [execSelfRefreshEntry, onPart_run (decide_eq_true hch) hs]
  dsimp only
  rw [guarded_true (by simp only [hidle, hbuf, hall, hranks]; rfl)]
  rfl

/-! ## Drift (R659), the scrub (R663) and extents (R670) -/

theorem exec_dqsDriftCheck_lane {s : State} (hs : halted s = false) {ch lane : Nat} (hch : ch < 8) (hl : lane < 64) (d : Int) :
    ∃ t, exec (.dqsDriftCheck ch lane d) s = .next t ∧ Tab.get t.mem.lanes (ch * 64 + lane) = some
      (if d ≤ -4 ∨ 4 ≤ d then
        { Tab.getD s.mem.lanes (ch * 64 + lane) {} with
          delay := (Tab.getD s.mem.lanes (ch * 64 + lane) {}).delay + d, drift := 0 }
      else { Tab.getD s.mem.lanes (ch * 64 + lane) {} with drift := d }) := by
  have hdrift : 4 ≤ d.natAbs ↔ d ≤ -4 ∨ 4 ≤ d := by omega
  change ∃ t, execDqsDriftCheck ch lane d s = _ ∧ _
  rw [execDqsDriftCheck, onPart_run (by simp [hch, hl]) hs]
  refine ⟨_, rfl, ?_⟩
  simp only [hdrift, keep_mem]
  split
  · simp [bumpMem]
  · simp

/-- The scrub after the line at `scrubPos`: the next line, or the first one of a new round. -/
def scrubMoved (s : State) : State :=
  setMem s { s.mem with
    scrubPos := if decide (dramBytes s ≤ s.mem.scrubPos + 64) then 0 else s.mem.scrubPos + 64
    scrubAt := if decide (dramBytes s ≤ s.mem.scrubPos + 64) then s.mem.scrubAt + mprm s 3 * 3600 * tS else s.mem.scrubAt }

section
variable {s : State} (hs : halted s = false) {sym syn : Nat} (hspan : 0 < mprm s 3)
  (hdue : s.mem.scrubAt + s.mem.scrubPos / 64 * (mprm s 3 * 3600 * tS) / (dramBytes s / 64) ≤ s.time.ticks)
include hs hspan hdue

theorem exec_patrolScrub_of_due (res : Nat) : exec (.patrolScrub res sym syn) s = .next (keep s
    (if res = 1 then correctedAt (errAt s 1 (sym % 16) 7 s.mem.scrubPos syn) (scrubMoved s)
    else if res = 2 ∨ s.mem.poisoned.contains (s.mem.scrubPos / 64) = true then
      uncorrectable (errAt s 2 15 7 s.mem.scrubPos syn) 0
        (bumpMem (setPoison s.mem.scrubPos true (scrubMoved s)) (errAt s 1 0 7 s.mem.scrubPos 0).ch .dramUe)
    else scrubMoved s)) := by
  have hpos : 0 < mprm s 3 * 3600 * tS := Nat.mul_pos (Nat.mul_pos hspan (by decide)) (by decide)
  change execPatrolScrub res sym syn s = _
  rw [execPatrolScrub, live_run hs]
  rw [guarded_true (Bool.and_eq_true_iff.2 ⟨decide_eq_true hpos, decide_eq_true hdue⟩)]
  rfl

theorem exec_patrolScrub_of_clean (hp : s.mem.scrubPos / 64 ∉ s.mem.poisoned) (hend : s.mem.scrubPos + 64 < dramBytes s) :
    exec (.patrolScrub 0 sym syn) s =
      .next (keep s { s with mem := { s.mem with scrubPos := s.mem.scrubPos + 64 } }) := by
  rw [exec_patrolScrub_of_due hs hspan hdue, if_neg (by decide), if_neg (by simpa using hp), scrubMoved,
    decide_eq_false (Nat.not_le.2 hend)]
  rfl

theorem exec_patrolScrub_of_uncorrectable :
    ∃ t, exec (.patrolScrub 2 sym syn) s = .next t ∧ s.mem.scrubPos / 64 ∈ t.mem.poisoned := by
  refine ⟨_, exec_patrolScrub_of_due hs hspan hdue 2, ?_⟩
  rw [if_neg (by decide), if_pos (.inl rfl), keep_mem, uncorrectable_mem, logAdd_poisoned,
    bumpMem_poisoned]
  exact (mem_setPoison_true ..).2 (.inl rfl)

end

theorem exec_extentZeroingComplete_of_zeroing {s : State} (hs : halted s = false) {e : Nat} {x : Extent}
    (hx : Tab.get s.mem.extents e = some x) (hz : x.zeroing = true) : exec (.extentZeroingComplete e) s =
      .next (keep s { s with mem := { s.mem with extents := Tab.del s.mem.extents e } }) := by
  change execExtentZeroingComplete e s = _
  rw [execExtentZeroingComplete, live_run hs]
  simp only [hx, hz, if_true]
  rfl

/-! ## The statement -/

/-- Settles O45: the pick of R648 is a least candidate, an uncorrectable answer is for the controller one log entry, and every
event is due by its hypotheses. -/
theorem memoryEvents : Obligations.MemoryEvents := by
  unfold Obligations.MemoryEvents
  intro s hs
  refine ⟨fun ch b hch hb => ?_, exec_nocTimeout_of_packet_engine hs, fun ch rank hch hr => ?_,
    fun ch lane d hch hl => exec_dqsDriftCheck_lane hs hch hl d,
    fun sym syn hspan hdue => ⟨exec_patrolScrub_of_clean hs hspan hdue, exec_patrolScrub_of_uncorrectable hs hspan hdue⟩,
    fun e x hx hz => exec_extentZeroingComplete_of_zeroing hs hx hz, fun e hlen => logAdd_log e s hlen⟩
  · intro x count
    refine ⟨fun n p hn hp => getSub_of_mem (arrive_subs_of_isolated hn hp ch b) ch b,
      exec_dramRequestIssue_of_none hs hch hb, fun r hnext => ?_, fun sym syn who r l hf => ⟨fun hp => ?_, ?_⟩,
      fun who => ⟨fun r hlate => ?_, exec_dramCommandTimeout_of_timely hs hch hb⟩⟩
    · have hmin : r ∈ (candidatesOf x).argmin (issueKey s x) := (issueNext_eq_argmin s x).symm.trans hnext
      refine ⟨mem_reqs_of_candidate (List.argmin_mem hmin), fun q hq => List.le_of_mem_argmin hq hmin, ?_⟩
      cases hw : r.write with
      | false =>
        refine ⟨_, exec_dramRequestIssue_of_read hs hch hb hnext hw, ?_⟩
        rw [getSub_keep, getSub_setSub_same]
        exact ⟨rfl, tab_get_set_same .., fun _ => ⟨if_neg (by simp [hw]), rfl⟩, fun h => absurd h (by decide)⟩
      | true =>
        refine ⟨_, exec_dramRequestIssue_of_write hs hch hb hnext hw, ?_⟩
        rw [getSub_keep, getSub_of_mem (writeLine_subs ..), getSub_setSub_same, keep_mem]
        exact ⟨rfl, tab_get_set_same .., fun h => absurd h (by decide), fun _ => ⟨if_pos hw,
          fun hp => (mem_writeLine_of_poison _ _ hp _).2 (.inl rfl),
          fun hp hwhole hin => ((mem_writeLine_of_whole _ _ hp hwhole _).1 hin).2 rfl,
          fun l hl => mem_writeLine_other _ _ hl⟩⟩
    · refine ⟨exec_dramReadResponse_of_clean hs hch hb hf hp, _, exec_dramReadResponse_of_corrected hs hch hb hf hp, ?_⟩
      obtain ⟨hsubs, hce⟩ := Prod.mk.inj (unitCounts_correctedAt (setSub s ch b { x with flight := l })
        (errAt s 1 (sym % 16) r.unit r.dpa syn))
      rw [getSub_keep, getSub_of_mem hsubs, getSub_setSub_same, keep_mem, hce]
      exact ⟨rfl, tab_getD_set_same ..⟩
    · obtain ⟨hsub, hctr⟩ := uncorrectable_answer s ch b who { x with flight := l } (errAt s 2 15 r.unit r.dpa syn)
        (c := .dramUe) (by decide)
      exact ⟨_, exec_dramReadResponse_of_uncorrectable hs hch hb hf, congrArg SubCh.flight hsub, hctr⟩
    · obtain ⟨hsub, hctr⟩ := uncorrectable_answer s ch b who { x with flight := x.flight.erase r } (errAt s 5 15 r.unit r.dpa 0)
        (c := .dramTimeout) (by decide)
      exact ⟨_, exec_dramCommandTimeout_of_late hs hch hb hlate, congrArg SubCh.flight hsub, hctr⟩
  · intro k waits due
    refine ⟨exec_dramRefresh_of_early hs hch hr, fun hdue => ?_, fun temp hot bad => ?_,
      fun hsweep hafter => ⟨exec_retrainSlice_of_due hs hch hr hsweep hafter [],
        exec_retrainSlice_of_end hs hch hr hsweep hafter⟩,
      exec_powerDownEntry_of_idle hs hch hr, fun hidle hbuf hlast hnone => ?_⟩
    · by_cases hw : waits ∧ k.postp < 4
      · exact ⟨_, exec_dramRefresh_of_postponed hs hch hr hdue hw.1 hw.2, rfl, rfl,
          fun _ _ => getRank_setRank_same .., fun h => absurd hw fun hw => h.elim (· hw.1) (Nat.not_le.2 hw.2)⟩
      · obtain ⟨x, y, hexec⟩ := exec_dramRefresh_of_done hs hch hr hdue hw
        exact ⟨_, hexec, rfl, rfl, fun h hp => absurd ⟨h, hp⟩ hw, fun _ => getRank_setRank_same ..⟩
    · obtain ⟨t, hexec, hmem⟩ := exec_dramTempPoll_mem hs hch hr temp hot bad
      exact ⟨t, hexec, (getRank_of_mem hmem ch rank).trans (getRank_setRank_same ..)⟩
    · refine ⟨_, exec_selfRefreshEntry_of_idle hs hch hidle hbuf hlast hnone, fun r hlt => ?_⟩
      rw [getRank_keep, getRank_foldl_asleep, if_pos (List.mem_range.2 hlt)]

end Sys2Proof.Proofs
end

section
/-!
PROOFS. The memory commands (Tables 15-6 and 15-19): interleave sets, keys, timers, status and the log (R644, R645, R652, R668,
R672, R673), and the extents that `fitMem` leaves a partition (R669, R670).
-/

namespace Sys2Proof.Proofs

open Sys2Proof Sys2Proof.Machine Sys2Proof.Laws

/-! ## The bodies of the commands -/

theorem eraseDups_of_nodup {α : Type} [BEq α] [LawfulBEq α] {l : List α} (h : l.Nodup) : l.eraseDups = l := by
  induction l with
  | nil => rfl
  | cons a l ih =>
    obtain ⟨ha, hl⟩ := List.nodup_cons.1 h
    have hself : (l.filter fun b => !b == a) = l :=
      List.filter_eq_self.2 fun b hb => by simpa using ne_of_mem_of_not_mem hb ha
    rw [List.eraseDups_cons, hself, ih hl]

section
variable {s : State} {F : Nat} {p d : Bytes}

section
variable {ks : List (MemSet × Bool)} {chs : List Nat} (hks : ks = setItems p 4 (le p 0 1))
  (hchs : chs = ks.flatMap fun k => (List.range k.1.n).map (· + k.1.first))
  (hok : ∀ k ∈ ks, k.2 = true ∧ memSetOk s.mem.channels k.1 = true) (hn : chs.Nodup) (hlen : chs.length = s.mem.channels)
include hks hchs hok hn hlen

/-- The sets name every channel once: what is left to check is whether the DRAM is in use (R645). -/
theorem bodyMemSets_of_sets : bodyMemSets F p d s =
    if s.batten.pool = false ∧ ∀ e ∈ s.mem.extents, e.2.owner = none then
      .ok [] 0 { s with mem := { s.mem with sets := ks.map (·.1) } }
    else .no .busy [] := by
  subst hks hchs
  have hres : ((setItems p 4 (le p 0 1)).all (·.2)) = true := by simpa using fun a b h => (hok (a, b) h).1
  have hform : ((setItems p 4 (le p 0 1)).all fun k => memSetOk s.mem.channels k.1) = true := by
    simpa using fun a b h => (hok (a, b) h).2
  simp only [bodyMemSets, hres, hform, eraseDups_of_nodup hn, hlen]
  split
  · next hfree =>
    rw [checked_ok (by simpa using hfree)]
    rfl
  · next hused =>
    have hbusy : (!s.batten.pool && !s.mem.extents.any fun e => e.2.owner.isSome) = false :=
      Bool.eq_false_iff.2 fun h => hused (by simpa using h)
    simp [hbusy, checked, lowest]

end

section
variable {n : Nat} {x : Machine.Partition} (hn : resolvePart s (le p 0 4) = some n)
include hn

theorem bodyMemKeyInstall_of_idle (hx : Tab.get s.obj.parts n = some x) (he : extentsOf s n = []) :
    bodyMemKeyInstall F p d s = .ok [] 0 { s with obj := { s.obj with
      parts := Tab.set s.obj.parts n { x with xts := some ((p.drop 8).take 64) } } } := by
  simp [bodyMemKeyInstall, hn, he, checked, Tab.upd, hx]

theorem bodyMemKeyInstall_of_used (he : extentsOf s n ≠ []) : bodyMemKeyInstall F p d s = .no .busy [] := by
  simp [bodyMemKeyInstall, hn, List.isEmpty_eq_false_iff.2 he, checked, lowest]

end

theorem bodyMemTimers_of_valid {es : List Entry} (hes : es = entries p 8 (le p 6 2))
    (hent : lowest (entryChecks es fun k => fTable k == 0x0F) = none)
    (hgap : ∀ e ∈ es, (e.key = fk 0x0F 1 0 → e.val = 0 ∨ 32 ≤ e.val) ∧
      (e.key = fk 0x0F 2 0 → e.val = 0 ∨ 1000000 ≤ e.val)) :
    bodyMemTimers F p d s = .ok [] 0 { s with mem := { s.mem with
      prmNew := some (applyEntries (s.mem.prmNew.getD s.mem.prm) es) } } := by
  subst hes
  have hall : ((entries p 8 (le p 6 2)).all fun e => (e.key != fk 0x0F 1 0 || e.val == 0 || decide (32 ≤ e.val))
      && (e.key != fk 0x0F 2 0 || e.val == 0 || decide (1000000 ≤ e.val))) = true := by
    simpa [imp_iff_not_or, or_assoc] using hgap
  simp only [bodyMemTimers, hall]
  rw [checked_of_lowest ((lowest_append ..).2 ⟨hent, rfl⟩)]
  rfl

theorem bodyMemStatus_of_window
    (hwin : inWindow (getFn s F) (le p 0 8) ((List.range s.mem.channels).flatMap (chanStatus s)).length true = true) :
    bodyMemStatus F p d s = .ok (toLe 4 ((List.range s.mem.channels).flatMap (chanStatus s)).length) 0
      (updFn s F fun f => { f with lastWr := some (le p 0 8, (List.range s.mem.channels).flatMap (chanStatus s)) }) :=
  if_pos hwin

end

/-- What another than the owner function sees of an entry holds no address (R668). -/
theorem hidden_of_logSeen {s : State} {F : Nat} (ho : s.host.owner ≠ F) {e : Bytes} (he : e ∈ logSeen s F) :
    (e.drop 4).take 16 = zeros 16 := by
  rw [logSeen, if_neg (by simpa [isOwner] using ho)] at he
  obtain ⟨x, -, rfl⟩ := List.mem_map.1 he
  simp only [MemErr.bytes, if_true, List.append_assoc]
  rw [List.drop_left' (toLe_length ..), zeros, List.take_left' List.length_replicate]

/-! ## The extents of a partition (R669, R670) -/

/-- The partition that holds extent `e`. -/
def ownerOf (s : State) (e : Nat) : Option Nat := (Tab.get s.mem.extents e).bind (·.owner)

/-- `t` is `s` with other extents, those of every partition but `p` as they were. -/
structure ExtentsMoved (p : Nat) (s t : State) : Prop where
  obj    : t.obj = s.obj
  vid    : t.vid = s.vid
  others : ∀ e q, q ≠ p → (ownerOf t e = some q ↔ ownerOf s e = some q)

theorem ExtentsMoved.refl (p : Nat) (s : State) : ExtentsMoved p s s := ⟨rfl, rfl, fun _ _ _ => .rfl⟩

theorem ExtentsMoved.trans {p : Nat} {s t u : State} (h : ExtentsMoved p s t) (h' : ExtentsMoved p t u) : ExtentsMoved p s u :=
  ⟨h'.obj.trans h.obj, h'.vid.trans h.vid, fun e q hq => (h'.others e q hq).trans (h.others e q hq)⟩

/-- Writes one extent. -/
def putExtent (e : Nat) (x : Extent) (s : State) : State := setMem s { s.mem with extents := Tab.set s.mem.extents e x }

section
variable {s : State} {p e : Nat}

theorem ExtentsMoved.of_put {x : Extent} (hs : ∀ q, q ≠ p → ownerOf s e ≠ some q) (hx : ∀ q, q ≠ p → x.owner ≠ some q) :
    ExtentsMoved p s (putExtent e x s) := by
  refine ⟨rfl, rfl, fun a q hq => ?_⟩
  by_cases ha : e = a
  · subst ha
    have hnew : ownerOf (putExtent e x s) e = x.owner := by simp [ownerOf, putExtent]
    rw [hnew]
    exact iff_of_false (hx q hq) (hs q hq)
  · simp [ownerOf, putExtent, tab_get_set_other _ _ ha]

theorem mem_of_tab_get {α : Type} {t : Tab α} {k : Nat} {v : α} (h : Tab.get t k = some v) : (k, v) ∈ t := by
  induction t with
  | nil => cases h
  | cons a t ih =>
    obtain ⟨j, w⟩ := a
    rw [Tab.get] at h
    split at h
    · next hj =>
      cases h
      simp [hj]
    · exact List.mem_cons_of_mem _ (ih h)

theorem mem_extentsOf_of_get {x : Extent} (h : Tab.get s.mem.extents e = some x) (ho : x.owner = some p)
    (hz : x.zeroing = false) : e ∈ extentsOf s p :=
  List.mem_map.2 ⟨(e, x), List.mem_filter.2 ⟨mem_of_tab_get h, by simp [ho, hz]⟩, rfl⟩

section
variable (hr : (Tab.keys s.mem.extents).Pairwise (· < ·))
include hr

theorem extents_nodup : (Tab.keys s.mem.extents).Nodup := hr.imp Nat.ne_of_lt

theorem mem_extentsOf : e ∈ extentsOf s p ↔ ∃ x, Tab.get s.mem.extents e = some x ∧ x.owner = some p ∧ x.zeroing = false := by
  refine ⟨fun h => ?_, fun ⟨x, hx, ho, hz⟩ => mem_extentsOf_of_get hx ho hz⟩
  obtain ⟨⟨k, x⟩, hx, rfl⟩ := List.mem_map.1 h
  obtain ⟨hmem, hx⟩ := List.mem_filter.1 hx
  obtain ⟨ho, hz⟩ : x.owner = some p ∧ x.zeroing = false := by simpa using hx
  exact ⟨x, tab_get_of_mem (extents_nodup hr) hmem, ho, hz⟩

theorem extentsOf_nodup : (extentsOf s p).Nodup := (extents_nodup hr).sublist (List.filter_sublist.map _)

theorem ownerOf_of_mem (h : e ∈ extentsOf s p) : ownerOf s e = some p := by
  obtain ⟨x, hx, ho, -⟩ := (mem_extentsOf hr).1 h
  rw [ownerOf, hx, Option.bind_some, ho]

theorem putExtent_rising (x : Extent) : (Tab.keys (putExtent e x s).mem.extents).Pairwise (· < ·) := tab_set_rising _ e x hr

/-- A free extent taken is one more for its partition. -/
theorem extentsOf_taken_length (hfree : e ∉ Tab.keys s.mem.extents) :
    (extentsOf (putExtent e { owner := some p, zeroing := false } s) p).length = (extentsOf s p).length + 1 := by
  have hnot : e ∉ extentsOf s p := fun h => by
    obtain ⟨x, hx, -⟩ := (mem_extentsOf hr).1 h
    exact absurd hx (by rw [(tab_get_none _ _).2 hfree]; simp)
  have hperm : (extentsOf (putExtent e { owner := some p, zeroing := false } s) p).Perm (e :: extentsOf s p) := by
    refine (List.perm_ext_iff_of_nodup (extentsOf_nodup (putExtent_rising hr _))
      (List.nodup_cons.2 ⟨hnot, extentsOf_nodup hr⟩)).2 fun a => ?_
    rw [mem_extentsOf (putExtent_rising hr _), List.mem_cons, mem_extentsOf hr, putExtent, setMem_mem]
    by_cases ha : e = a
    · subst ha
      simp
    · simp [tab_get_set_other _ _ ha, Ne.symm ha]
  exact hperm.length_eq

/-- Growth takes exactly the extents asked for, all of them free. -/
theorem takeExtentsOf_moved {most : State → Nat} {n : Nat} {t : State} (h : takeExtentsOf most p n s = some t) :
    (extentsOf t p).length = (extentsOf s p).length + n ∧ ExtentsMoved p s t := by
  induction n generalizing s with
  | zero =>
    cases h
    exact ⟨rfl, .refl p _⟩
  | succ n ih =>
    unfold takeExtentsOf at h
    split at h
    · cases h
    · next e he =>
      obtain ⟨-, -, hfree, -⟩ := lowestFree_spec he
      obtain ⟨hlen, hmoved⟩ := ih (putExtent_rising hr _) h
      have hnone : ownerOf s e = none := by rw [ownerOf, (tab_get_none _ _).2 hfree, Option.bind_none]
      refine ⟨by rw [hlen, extentsOf_taken_length hr hfree]; omega, .trans (.of_put ?_ ?_) hmoved⟩
      · simp [hnone]
      · exact fun q hq => by simpa using Ne.symm hq

end

/-- An extent given back is zeroed first (R670). -/
def zeroed (s : State) (e : Nat) : State := putExtent e { owner := none, zeroing := true } s

theorem dropExtents_eq (es : List Nat) (s : State) : dropExtents es s = es.foldl zeroed s := rfl

theorem get_dropExtents_other {es : List Nat} (h : e ∉ es) (s : State) :
    Tab.get (dropExtents es s).mem.extents e = Tab.get s.mem.extents e := by
  rw [dropExtents_eq]
  induction es generalizing s with
  | nil => rfl
  | cons a es ih =>
    obtain ⟨ha, hes⟩ := not_or.1 (mt List.mem_cons.2 h)
    rw [List.foldl_cons, ih hes]
    exact tab_get_set_other _ _ (Ne.symm ha)

theorem dropExtents_moved {es : List Nat} (h : ∀ e ∈ es, ∀ q, q ≠ p → ownerOf s e ≠ some q) :
    ExtentsMoved p s (dropExtents es s) := by
  rw [dropExtents_eq]
  induction es generalizing s with
  | nil => exact .refl p s
  | cons a es ih =>
    have hone : ExtentsMoved p s (zeroed s a) := .of_put (h a List.mem_cons_self) (by simp)
    refine hone.trans (ih fun e he q hq => ?_)
    rw [Ne, hone.others e q hq]
    exact h e (List.mem_cons_of_mem _ he) q hq

/-- What is not given back stays. -/
theorem kept_le_dropExtents (hr : (Tab.keys s.mem.extents).Pairwise (· < ·)) {n : Nat} (hn : n ≤ (extentsOf s p).length) :
    n ≤ (extentsOf (dropExtents ((extentsOf s p).drop n) s) p).length := by
  have hnd : (extentsOf s p).Nodup := extentsOf_nodup hr
  have hsub : (extentsOf s p).take n ⊆ extentsOf (dropExtents ((extentsOf s p).drop n) s) p := fun e he => by
    obtain ⟨x, hx, ho, hz⟩ := (mem_extentsOf hr).1 (List.mem_of_mem_take he)
    exact mem_extentsOf_of_get ((get_dropExtents_other (List.disjoint_take_drop hnd le_rfl he) s).trans hx) ho hz
  calc n = ((extentsOf s p).take n).length := by simp [hn]
    _ ≤ _ := (List.subperm_of_subset (hnd.sublist (List.take_sublist ..)) hsub).length_le

/-- What `fitMem` can do: give extents back, or take as many more as the partition needs, within its quota. -/
theorem fitMem_cases {t : State} (h : fitMem p s = some t) :
    (ceilDiv (memUse s p) 2097152 ≤ (extentsOf s p).length ∧
      t = dropExtents ((extentsOf s p).drop (ceilDiv (memUse s p) 2097152)) s) ∨
    ((extentsOf s p).length < ceilDiv (memUse s p) 2097152 ∧ ceilDiv (memUse s p) 2097152 * 2097152 ≤ quota s p 6 0 ∧
      takeExtents p (ceilDiv (memUse s p) 2097152 - (extentsOf s p).length) s = some t) := by
  unfold fitMem at h
  dsimp only at h
  split at h
  · next hle => exact .inl ⟨hle, (Option.some.inj h).symm⟩
  · next hlt =>
    split at h
    · cases h
    · split at h
      · cases h
      · next hquota =>
        refine .inr ⟨Nat.not_le.1 hlt, ?_, h⟩
        have hfits := (not_or.1 (by simpa only [Bool.or_eq_true] using hquota)).2
        exact (Nat.le_add_right _ _).trans (by simpa using hfits)

end

/-! ## The statement -/

/-- Settles O46: each command is its body served, each body's checks are the hypotheses, and `fitMem` either keeps the extents
that cover the use or takes as many free ones as it lacks. -/
theorem memoryCommands : Obligations.MemoryCommands := by
  unfold Obligations.MemoryCommands
  refine ⟨fun s F src p => ⟨?_, fun n x hu hn hx => ⟨fun he => ?_, fun he => ?_⟩, ?_, ?_, fun hu => ⟨?_, ?_⟩, fun hu => ?_⟩,
    fun s t p h hr => ?_⟩
  · intro ks chs hu hok hn hlen hpool
    have hb := bodyMemSets_of_sets (F := F) (d := []) rfl rfl hok hn hlen
    refine ⟨fun hfree => serve_ok hu (hb.trans (if_pos ⟨hpool, hfree⟩)), fun e he hused => ?_⟩
    exact serve_no hu (hb.trans (if_neg fun hfree => hused (hfree.2 e he)))
  · exact serve_ok hu (bodyMemKeyInstall_of_idle hn hx he)
  · exact serve_no hu (bodyMemKeyInstall_of_used hn he)
  · intro es hu hent hgap
    exact serve_ok hu (bodyMemTimers_of_valid rfl hent hgap)
  · intro d hu hwin
    exact serve_ok hu (bodyMemStatus_of_window hwin)
  · exact serve_ok hu rfl
  · exact fun ho e he => hidden_of_logSeen ho he
  · exact serve_ok hu rfl
  · have hcover : memUse s p ≤ ceilDiv (memUse s p) 2097152 * 2097152 := le_ceilDiv_mul (by decide)
    obtain ⟨hle, rfl⟩ | ⟨hlt, hquota, htake⟩ := fitMem_cases h
    · obtain ⟨hobj, hvid, hothers⟩ := dropExtents_moved (p := p) (s := s)
        (es := (extentsOf s p).drop (ceilDiv (memUse s p) 2097152)) fun e he q hq => by
          rw [ownerOf_of_mem hr (List.mem_of_mem_drop he)]
          simpa using Ne.symm hq
      have hkept := kept_le_dropExtents hr hle
      exact ⟨by omega, hobj, hvid, fun hlt => by omega, hothers⟩
    · rw [takeExtents_eq] at htake
      obtain ⟨hlen, hobj, hvid, hothers⟩ := takeExtentsOf_moved hr htake
      exact ⟨by omega, hobj, hvid, fun _ => by omega, hothers⟩

end Sys2Proof.Proofs
end

section
/-!
PROOFS. Mailboxes: the handshake of doorbell, acknowledge, command area and service time-out (R691 to R694, R825), and what a
completion writes (R690, R695, R746).
-/

namespace Sys2Proof.Proofs

open Sys2Proof Sys2Proof.Machine Sys2Proof.Laws

/-! ## Functions -/

@[simp] theorem getFn_keep (s t : State) (F : Nat) : getFn (keep s t) F = getFn t F := rfl

@[simp] theorem getMb_keep (s t : State) (F : Nat) (m : Mb) : getMb (keep s t) F m = getMb t F m := rfl

@[simp] theorem getFn_updFn_same (s : State) (F : Nat) (g : Func → Func) : getFn (updFn s F g) F = g (getFn s F) :=
  getFn_setFn_same ..

theorem getFn_updFn_other (s : State) {F G : Nat} (g : Func → Func) (h : G ≠ F) : getFn (updFn s F g) G = getFn s G :=
  getFn_setFn_other s _ h.symm

/-- An event for one function is delivered to it alone. -/
theorem getFn_emit_other (typ handle : Nat) (pay : Bytes) (s : State) {F G : Nat} (h : G ≠ F) :
    getFn (emit (.fn F) typ handle pay s) G = getFn s G := by
  obtain ⟨f, hf⟩ := deliver_frame { typ := typ, handle := handle, mt := now s, payload := padTo 16 pay } F s
  change getFn (deliver _ F s) G = getFn s G
  rw [hf, getFn_setFn_other s f h.symm]

/-! ## The handshake -/

section
variable {s : State} {F : Nat} {m : Mb} (hs : halted s = false) (hF : F < 256)

/-- The mailbox after a doorbell that is taken (R691): the command area's header and payload are latched. -/
def latched (s : State) (seq : Nat) (b : Mbox) : Mbox :=
  let h := Mem.read 0 b.area 0 8
  { b with
    state := .pending, seq := seq % 65536, result := 0, since := s.time.ticks, op := le h 0 2, hdrSeq := le h 2 2
    len := le h 4 2, flags := le h 6 2, pay := Mem.read 0 b.area 8 (min (le h 4 2) 2040) }

theorem doorbell_of_refused {seq : Nat} (h : (getMb s F m).state ≠ .ready ∨ seq % 65536 = (getMb s F m).seq) :
    doorbell F m seq s = refuse F m s := by
  rcases h with h | h <;> simp [doorbell, h]

/-- While firmware serves, the device is in none of the states in which R692 refuses a doorbell. -/
theorem doorbell_of_serving {seq : Nat} (hv : serving s = true) (hst : (getMb s F m).state = .ready)
    (hseq : seq % 65536 ≠ (getMb s F m).seq) :
    doorbell F m seq s = match r693 s F m (latched s seq (getMb s F m)) with
      | some st => completeMb F m st [] (setMb s F m (latched s seq (getMb s F m)))
      | none => setMb s F m (latched s seq (getMb s F m)) := by
  have hdev : s.host.dev = .ready ∨ s.host.dev = .recovery := by simpa [serving] using hv
  rcases hdev with hdev | hdev <;> simp [doorbell, hdev, hst, hseq, hv] <;> rfl

theorem ackActivation_of_other {b : Mbox} (h : b.op ≠ 0x0F04 ∨ s.boot.actReset = none) : ackActivation F b s = s := by
  rcases h with h | h <;> simp [ackActivation, h]

theorem ackActivation_of_owner {b : Mbox} (hop : b.op = 0x0F04) (hres : b.result = 0) (ho : s.host.owner = F)
    (hact : s.boot.actReset.isSome = true) :
    ackActivation F b s = { s with boot := { s.boot with actReset := some s.time.ticks } } := by
  simp [ackActivation, hop, hres, isOwner, ho, hact]

section
include hs hF

theorem exec_doorbellWrite_run (seq : Nat) : exec (.doorbellWrite F m seq) s = .next (keep s (doorbell F m seq s)) :=
  onPart_run (decide_eq_true hF) hs

theorem exec_ackWrite_of_done {seq : Nat} (hst : (getMb s F m).state = .done) (hseq : seq % 65536 = (getMb s F m).seq) :
    exec (.ackWrite F m seq) s = .next (keep s (ackActivation F (getMb s F m)
      (setMb s F m { getMb s F m with state := .ready, result := 0 }))) := by
  change execAckWrite F m seq s = _
  rw [execAckWrite, onPart_run (decide_eq_true hF) hs]
  simp [hst, hseq, guarded]

theorem exec_ackWrite_of_ignored {seq : Nat} (h : (getMb s F m).state ≠ .done ∨ seq % 65536 ≠ (getMb s F m).seq) :
    exec (.ackWrite F m seq) s = .next s := by
  change execAckWrite F m seq s = _
  rw [execAckWrite, onPart_run (decide_eq_true hF) hs]
  dsimp only
  rw [guarded_false, keep_self]
  rcases h with h | h
  · simp [h]
  · simp [h.symm]

theorem exec_commandAreaWrite_run {off : Nat} {data : Bytes} (hlen : off + data.length ≤ 2048) :
    exec (.commandAreaWrite F m off data) s = .next (keep s
      (if (getMb s F m).state == .pending then refuse F m s
       else setMb s F m { getMb s F m with area := Mem.write 0 (getMb s F m).area off data })) := by
  change execCommandAreaWrite F m off data s = _
  rw [execCommandAreaWrite, onPart_run (by simp [hF, hlen]) hs]

theorem exec_mailboxServiceTimeout_of_due (hv : serving s = true) (hst : (getMb s F m).state = .pending)
    (hdue : (getMb s F m).since + serviceMs m (getMb s F m) * tMs ≤ s.time.ticks) :
    exec (.mailboxServiceTimeout F m) s =
      .next (keep s (completeMb F m .timeout [] (if m = .admin then dropFlash F s else s))) := by
  change execMailboxServiceTimeout F m s = _
  rw [execMailboxServiceTimeout, onPart_run (decide_eq_true hF) hs]
  dsimp only
  rw [guarded_true (by simp [hv, hst, hdue])]

end
end

/-- Settles O47: each clause is one case of the doorbell, the acknowledge, the write or the time-out. -/
theorem mailboxHandshake : Obligations.MailboxHandshake := by
  unfold Obligations.MailboxHandshake
  intro s F m hF hs
  refine ⟨fun seq hv hst hseq => ⟨fun hr => ?_, fun st hr => ?_⟩, fun seq h => ?_, fun seq hst hseq h => ?_,
    fun seq hst hseq hop hres ho hact => ?_, fun seq h => exec_ackWrite_of_ignored hs hF h, fun off data hlen hst => ?_,
    fun off data hlen hst => ?_, fun hv hst hdue => exec_mailboxServiceTimeout_of_due hs hF hv hst hdue⟩
  · replace hr : r693 s F m (latched s seq (getMb s F m)) = none := hr
    rw [exec_doorbellWrite_run hs hF, doorbell_of_serving hv hst hseq, hr]
    rfl
  · replace hr : r693 s F m (latched s seq (getMb s F m)) = some st := hr
    rw [exec_doorbellWrite_run hs hF, doorbell_of_serving hv hst hseq, hr]
    rfl
  · rw [exec_doorbellWrite_run hs hF, doorbell_of_refused h]
    rfl
  · rw [exec_ackWrite_of_done hs hF hst hseq, ackActivation_of_other (s := setMb s F m _) h]
  · refine ⟨_, exec_ackWrite_of_done hs hF hst hseq, ?_⟩
    rw [ackActivation_of_owner (s := setMb s F m _) hop hres ho hact]
    exact ⟨rfl, getMb_setMb_same s F m _⟩
  · rw [exec_commandAreaWrite_run hs hF hlen, if_neg (by simpa using hst)]
  · rw [exec_commandAreaWrite_run hs hF hlen, if_pos (by simpa using hst)]
    rfl

/-! ## Completion -/

section
variable (s : State) (F : Nat) (m : Mb) (st : Status) (out : Bytes)

/-- The mailbox after its command completes (R691): DONE, with the header and the result in the result area. -/
def completed (st : Status) (out : Bytes) (b : Mbox) : Mbox := { b with
  state := .done, result := st.code, pay := []
  area := if b.op = 0x0506 then [] else b.area
  res := Mem.write 0 [] 0 (toLe 2 b.op ++ toLe 2 b.seq ++ toLe 2 out.length ++ toLe 2 st.code ++ out.take 2040) }

/-- The state in which the result stands and no event is written yet. -/
def resultWritten : State :=
  setMb { s with host := { s.host with replay := s.host.replay.filter fun e => e ≠ (F, m) } } F m
    (completed st out (getMb s F m))

theorem completeMb_eq : completeMb F m st out s =
    if bitOf (getMb s F m).flags 0 then
      emit (.fn F) 0x001 0 (toLe 2 (if m = .admin then 0 else 1) ++ toLe 2 (getMb s F m).seq ++ toLe 2 st.code
        ++ toLe 2 (getMb s F m).op) (resultWritten s F m st out)
    else resultWritten s F m st out := rfl

theorem getMb_completeMb : getMb (completeMb F m st out s) F m = completed st out (getMb s F m) := by
  have hset : getMb (resultWritten s F m st out) F m = completed st out (getMb s F m) := getMb_setMb_same ..
  rw [completeMb_eq]
  split
  · rw [getMb_of_calls (emit_calls ..), hset]
  · exact hset

theorem getFn_completeMb_other {G : Nat} (h : G ≠ F) : getFn (completeMb F m st out s) G = getFn s G := by
  have hset : getFn (resultWritten s F m st out) G = getFn s G := getFn_updFn_other _ _ h
  rw [completeMb_eq]
  split
  · rw [getFn_emit_other _ _ _ _ h, hset]
  · exact hset

/-- Without EVENT_ON_DONE a completion changes nothing of its function but the mailbox. -/
theorem getFn_completeMb_of_silent (h : bitOf (getMb s F m).flags 0 = false) :
    getFn (completeMb F m st out s) F = (getFn s F).setMbox m (completed st out (getMb s F m)) := by
  rw [completeMb_eq, if_neg (by simp [h])]
  exact getFn_updFn_same ..

end

theorem read_result {st : Status} {out : Bytes} (b : Mbox) (h : out.length ≤ 2040) :
    Mem.read 0 (completed st out b).res 0 (8 + out.length) =
      toLe 2 b.op ++ toLe 2 b.seq ++ toLe 2 out.length ++ toLe 2 st.code ++ out := by
  have hlen : (toLe 2 b.op ++ toLe 2 b.seq ++ toLe 2 out.length ++ toLe 2 st.code ++ out).length = 8 + out.length := by
    simp [toLe_length]
    omega
  rw [completed, List.take_of_length_le h, ← hlen]
  exact mem_read_write 0 _ _ _

/-- Settles O48: what the completed mailbox holds, and the frame of a completion. -/
theorem completionWritesTheMailbox : Obligations.CompletionWritesTheMailbox := by
  unfold Obligations.CompletionWritesTheMailbox
  intro s F m st out hlen
  dsimp only
  rw [getMb_completeMb]
  refine ⟨rfl, rfl, rfl, rfl, rfl, read_result _ hlen, fun G hG => getFn_completeMb_other s F m st out hG, ?_, fun h => ?_⟩
  · obtain ⟨fns, h⟩ := completeMb_frame F m st out s
    rw [h]
  · rw [getFn_completeMb_of_silent s F m st out h]
    cases m <;> exact ⟨rfl, rfl⟩

end Sys2Proof.Proofs
end

section
/-!
PROOFS. Single bits of a number: set, cleared, and cleared by a mask (R12, R689); and the registers of BAR0 and configuration
space (R678, R679, R688, R689, R796).
-/

namespace Sys2Proof.Proofs

open Sys2Proof Sys2Proof.Machine Sys2Proof.Laws

/-- Adding a bit that is clear touches no other: below it nothing changes, and no carry goes above it. -/
theorem bitOf_add_two_pow_other {w i j : Nat} (h : bitOf w i = false) (hij : i ≠ j) : bitOf (w + 2 ^ i) j = bitOf w j := by
  have heven : w / 2 ^ i % 2 ≠ 1 := by simpa [bitOf] using h
  simp only [bitOf]
  rcases Nat.lt_or_gt_of_ne hij with hlt | hgt
  · obtain ⟨k, rfl⟩ : ∃ k, j = i + 1 + k := ⟨j - (i + 1), by omega⟩
    have hsplit : ∀ x, x / 2 ^ (i + 1 + k) = x / 2 ^ i / 2 / 2 ^ k := fun x => by
      rw [pow_add, pow_succ, ← Nat.div_div_eq_div_mul, ← Nat.div_div_eq_div_mul]
    have hcarry : (w / 2 ^ i + 1) / 2 = w / 2 ^ i / 2 := by omega
    rw [hsplit, hsplit, Nat.add_div_right w (Nat.two_pow_pos i), hcarry]
  · obtain ⟨k, rfl⟩ : ∃ k, i = j + (k + 1) := ⟨i - (j + 1), by omega⟩
    rw [pow_add, Nat.add_mul_div_left _ _ (Nat.two_pow_pos j), pow_succ, Nat.add_mul_mod_self_right]

theorem two_pow_le_of_bitOf {v i : Nat} (h : bitOf v i = true) : 2 ^ i ≤ v := by
  by_contra hlt
  simp [bitOf, Nat.div_eq_of_lt (Nat.lt_of_not_le hlt)] at h

theorem bitOf_sub_two_pow {v i : Nat} (h : bitOf v i = true) : bitOf (v - 2 ^ i) i = false := by
  have hodd : v / 2 ^ i % 2 = 1 := by simpa [bitOf] using h
  have hdiv : (v - 2 ^ i) / 2 ^ i = v / 2 ^ i - 1 := by simpa using Nat.sub_mul_div v (2 ^ i) 1
  simp only [bitOf, hdiv, beq_eq_false_iff_ne]
  omega

theorem bitOf_setBit (v i j : Nat) : bitOf (setBit v i) j = (bitOf v j || decide (i = j)) := by
  unfold setBit
  by_cases hij : i = j
  · subst hij
    split
    · next h => simp [h]
    · next h => simp [bitOf_add_two_pow (Bool.eq_false_iff.2 h)]
  · split
    · simp [hij]
    · next h => simp [hij, bitOf_add_two_pow_other (Bool.eq_false_iff.2 h) hij]

theorem bitOf_clrBit (v i j : Nat) : bitOf (clrBit v i) j = (bitOf v j && decide (i ≠ j)) := by
  unfold clrBit
  split
  · next h =>
    have hclear := bitOf_sub_two_pow h
    by_cases hij : i = j
    · subst hij
      simp [hclear]
    · simpa [hij, Nat.sub_add_cancel (two_pow_le_of_bitOf h)] using (bitOf_add_two_pow_other hclear hij).symm
  · next h =>
    by_cases hij : i = j
    · subst hij
      simpa using h
    · simp [hij]

/-- Writing 1 to the bits of a list clears those and no other (R12). -/
theorem bitOf_clearBits (w : Nat) (l : List Nat) (v j : Nat) :
    bitOf (l.foldl (fun x i => if bitOf w i then clrBit x i else x) v) j = (bitOf v j && !(decide (j ∈ l) && bitOf w j)) := by
  induction l generalizing v with
  | nil => simp
  | cons i l ih =>
    have hstep : bitOf (if bitOf w i then clrBit v i else v) j = (bitOf v j && !(decide (j = i) && bitOf w j)) := by
      by_cases hij : j = i
      · subst hij
        split
        · next h => simp [bitOf_clrBit, h]
        · next h => simp [h]
      · split
        · simp [bitOf_clrBit, hij, Ne.symm hij]
        · simp [hij]
    rw [List.foldl_cons, ih, hstep]
    cases bitOf v j <;> cases bitOf w j <;> simp

/-! ## BAR0 and configuration space -/

section
variable {s : State} {F : Nat}

section
variable (hs : halted s = false) (hF : F < 256)
include hs hF

theorem exec_hostIfaceWrite_run (v : Nat) :
    exec (.hostIfaceWrite F v) s = .next (keep s (updFn s F fun g => { g with iface := v % 2 ^ 32 })) := by
  change execHostIfaceWrite F v s = _
  exact onPart_run (decide_eq_true hF) hs

theorem exec_funcStatusClear_run (v : Nat) :
    exec (.funcStatusClear F v) s = .next (keep s (updFn s F fun g =>
      { g with status := (List.range 7).foldl (fun x i => if bitOf v i then clrBit x i else x) g.status })) := by
  change execFuncStatusClear F v s = _
  exact onPart_run (decide_eq_true hF) hs

theorem exec_registerWrite_of_mask {data : Bytes} (hlen : data.length = 4) :
    exec (.registerWrite F 0x30 data) s = .next (keep s (updFn s F fun g => { g with mask := le data 0 4 % 128 })) := by
  change execRegisterWrite F 0x30 data s = _
  rw [execRegisterWrite, onPart_run (by simp [hF]) hs]
  simp [hlen]

theorem exec_registerWrite_of_ignored {off : Nat} (data : Bytes) (hoff : off < 65536) (h30 : off ≠ 0x30)
    (hout : off < 0x8000 ∨ 0x8000 + 16 * 134 ≤ off) :
    exec (.registerWrite F off data) s = .next (keep s (updFn s F id)) := by
  have htab : ¬(0x8000 ≤ off ∧ off < 0x8000 + 16 * 134) := by omega
  change execRegisterWrite F off data s = _
  rw [execRegisterWrite, onPart_run (by simp [hF, hoff]) hs]
  simp only [h30, htab, if_false, ite_self]
  rfl

end

/-- One pending vector, now unmasked, sends one message. -/
theorem sendPending_of_single {f : Func} {v : Nat} (hen : f.msixEn = true) (hp : f.pba = [v]) (hm : v ∈ f.unmasked) :
    sendPending f = { f with pba := [], sent := Tab.set f.sent v (Tab.getD f.sent v 0 + 1) } := by
  simp [sendPending, hen, hp, hm]

/-- A running device whose port left reset long enough ago tells what it is (R678, R796). -/
theorem exec_configRequest_of_ready {at_ : Nat} (hs : halted s = false) (hF : F < nFuncs s)
    (hp : s.host.perst[F / 64]? = some (false, at_)) (hat : at_ ≤ s.time.ticks) :
    exec (.configRequest F .deviceId) s =
      .next { s with host := { s.host with cfg := .data (if F % 64 = 0 then 0x4096 else 0x4097) } } ∧
    exec (.configRequest F .classCode) s = .next { s with host := { s.host with cfg := .data 0x048000 } } := by
  have hporst : s.boot.porstLow = false := by
    simp only [halted, Bool.or_eq_false_iff] at hs
    exact hs.1.1
  have hready : ¬(false || s.boot.porstLow || decide (s.time.ticks < at_)) = true := by simp [hporst, hat]
  constructor
  · change execConfigRequest F .deviceId s = _
    simp only [execConfigRequest, onAon, hF, decide_true, if_true, hp, Option.getD_some, if_neg hready]
    rfl
  · change execConfigRequest F .classCode s = _
    simp only [execConfigRequest, onAon, hF, decide_true, if_true, hp, Option.getD_some, if_neg hready]
    rfl

end

/-- Settles O49: each clause is the one register or answer that the command concerns. -/
theorem registersAndConfigurationSpace : Obligations.RegistersAndConfigurationSpace := by
  unfold Obligations.RegistersAndConfigurationSpace
  intro s F hF hs
  refine ⟨exec_hostIfaceWrite_run hs hF, fun v => ⟨_, exec_funcStatusClear_run hs hF v, fun i hi => ?_, ?_,
    fun G hG => (getFn_keep ..).trans (getFn_updFn_other s _ hG)⟩, fun data hlen => exec_registerWrite_of_mask hs hF hlen,
    fun off data hoff h30 hout => exec_registerWrite_of_ignored hs hF data hoff h30 hout,
    fun v hv hen hp hm => ?_, fun at_ hF' hp hat => exec_configRequest_of_ready hs hF' hp hat⟩
  · rw [getFn_keep, getFn_updFn_same]
    simp [bitOf_clearBits, hi]
  · rw [getFn_keep, getFn_updFn_same]
  · change execMsixUnmask F v s = _
    rw [execMsixUnmask, onPart_run (by simp [hF, hv]) hs, updFn, updFn]
    simp only [hm, List.contains_eq_mem, decide_false, Bool.false_eq_true, if_false]
    rw [sendPending_of_single (f := { getFn s F with unmasked := v :: (getFn s F).unmasked }) hen hp (List.mem_cons_self ..)]

end Sys2Proof.Proofs
end

section
/-!
PROOFS. Rings and event queues: index writes, HEAD_WB, the coalescing time-out and the backlog (R701 to R705, R709 to R715).
-/

namespace Sys2Proof.Proofs

open Sys2Proof Sys2Proof.Machine Sys2Proof.Laws

/-! ## What the delivery of events keeps of a function -/

/-- The function `g` is `f` after some deliveries: its rings are the same and no bit of FUNC_STATUS is lost. -/
structure Delivered (f g : Func) : Prop where
  rings : g.rings = f.rings
  status : ∀ i, bitOf f.status i = true → bitOf g.status i = true

theorem Delivered.refl (f : Func) : Delivered f f := ⟨rfl, fun _ h => h⟩

theorem Delivered.trans {f g h : Func} (h1 : Delivered f g) (h2 : Delivered g h) : Delivered f h :=
  ⟨h2.rings.trans h1.rings, fun i hi => h2.status i (h1.status i hi)⟩

theorem Delivered.of_eq {f g : Func} (hr : g.rings = f.rings) (hs : g.status = f.status) : Delivered f g :=
  ⟨hr, fun _ h => hs ▸ h⟩

theorem Delivered.signalVec {f g : Func} (h : Delivered f g) (v : Nat) : Delivered f (signalVec g v) := by
  unfold Machine.signalVec
  split <;> exact h.trans (.of_eq rfl rfl)

theorem setStatus_status (f : Func) (n : Nat) : (setStatus f n).status = setBit f.status n := by
  simp only [setStatus, signalVec]
  split
  · rfl
  · split <;> rfl

theorem setStatus_rings (f : Func) (n : Nat) : (setStatus f n).rings = f.rings := by
  simp only [setStatus, signalVec]
  split
  · rfl
  · split <;> rfl

theorem Delivered.setStatus {f g : Func} (h : Delivered f g) (n : Nat) : Delivered f (setStatus g n) :=
  h.trans ⟨setStatus_rings g n, fun i hi => by simp [setStatus_status, bitOf_setBit, hi]⟩

theorem eqWrite_delivered (tick : Nat) (f : Func) (qi : Nat) (q : EvQueue) (r : EvRec) :
    Delivered f (eqWrite tick f qi q r) := by
  simp only [eqWrite]
  split
  · refine Delivered.signalVec ?_ _
    exact .of_eq rfl rfl
  · exact .of_eq rfl rfl

theorem eqLost_delivered (tick mt : Nat) (f : Func) (qi : Nat) : Delivered f (eqLost tick mt f qi) := by
  unfold eqLost
  split
  · split
    · exact .trans (eqWrite_delivered tick f qi _ _) (.of_eq rfl rfl)
    · exact .refl f
  · exact .refl f

theorem eqPut_delivered (tick mt : Nat) (f : Func) (qi : Nat) (r : EvRec) : Delivered f (eqPut tick mt f qi r) := by
  unfold eqPut
  split
  · exact .of_eq rfl rfl
  · have hlost := eqLost_delivered tick mt f qi
    generalize eqLost tick mt f qi = f1 at hlost ⊢
    refine hlost.trans ?_
    dsimp only
    split
    · exact .refl f1
    · split
      · exact eqWrite_delivered tick f1 qi _ r
      · split
        · exact .of_eq rfl rfl
        · refine Delivered.setStatus ?_ 2
          exact .of_eq rfl rfl

/-- An event for one function. -/
theorem emit_delivered (typ handle : Nat) (pay : Bytes) (s : State) (F : Nat) :
    Delivered (getFn s F) (getFn (emit (.fn F) typ handle pay s) F) := by
  change Delivered (getFn s F) (getFn (deliver _ F s) F)
  unfold deliver
  dsimp only
  split <;> rw [getFn_setFn_same]
  · exact .of_eq rfl rfl
  · exact eqPut_delivered ..

/-! ## Rings -/

section
variable {s : State} {F k : Nat} {r : Ring}

/-- A ring put in ERROR stays so while the event is written (R701). -/
theorem getFn_ringError (cause tailW : Nat) (hr : Tab.get (getFn s F).rings k = some r) :
    Tab.get (getFn (ringError F k cause tailW s) F).rings k = some { r with state := .error } ∧
      bitOf (getFn (ringError F k cause tailW s) F).status 3 = true := by
  have hdel : Delivered (setStatus { getFn s F with rings := Tab.set (getFn s F).rings k { r with state := .error } } 3)
      (getFn (ringError F k cause tailW s) F) := by
    rw [← getFn_updFn_same s F fun f => setStatus { f with rings := Tab.set f.rings k { r with state := .error } } 3,
      ringError, hr]
    exact emit_delivered ..
  refine ⟨?_, hdel.status 3 ?_⟩
  · rw [hdel.rings, setStatus_rings, tab_get_set_same]
  · simp [setStatus_status, bitOf_setBit]

variable (hs : halted s = false) (hF : F < 256) (hk : k < 64) (hr : Tab.get (getFn s F).rings k = some r)
include hs hF hk hr

theorem exec_ringTailWrite_run (v : Nat) : exec (.ringTailWrite F k v) s = .next (keep s
    (if r.state ≠ .running then s
     else if r.size < wrap 32 ((v : Int) - r.head) then ringError F k 0 (v % 2 ^ 32) s
     else updFn s F fun g => { g with rings := Tab.set g.rings k { r with tail := v % 2 ^ 32 } })) := by
  change execRingTailWrite F k v s = _
  rw [execRingTailWrite, onPart_run (by simp [hF, hk]) hs, hr]

theorem exec_headWriteback_of_due (hd : r.wbDue.isSome = true) : exec (.headWriteback F k) s = .next (keep s (updFn s F fun g =>
    { g with rings := Tab.set g.rings k { r with wbDue := none }, lastWr := some (r.headWb, toLe 4 r.head ++ zeros 4) })) := by
  change execHeadWriteback F k s = _
  rw [execHeadWriteback, onPart_run (by simp [hF, hk]) hs, hr]
  dsimp only
  rw [guarded_true hd]

end

/-! ## Event queues -/

section
variable {s : State} {F q : Nat} {e : EvQueue} (hs : halted s = false) (hF : F < 256)
include hs hF

section
variable (hq : q < 64) (he : Tab.get (getFn s F).queues q = some e)
include hq he

theorem exec_eqHeadWrite_run (v : Nat) : exec (.eqHeadWrite F q v) s = .next (keep s
    (if wrap 32 ((e.tail : Int) - v) ≤ e.size then
      updFn s F fun g => { g with queues := Tab.set g.queues q { e with head := v % 2 ^ 32 } }
     else bumpFn s F .eqHeadErr)) := by
  change execEqHeadWrite F q v s = _
  rw [execEqHeadWrite, onPart_run (by simp [hF, hq]) hs, he]

theorem exec_coalesceTimeout_of_due (hu : 0 < e.u) (ht : e.t0 + e.time * tUs ≤ s.time.ticks) :
    exec (.coalesceTimeout F q) s = .next (keep s (updFn s F fun g =>
      signalVec { g with queues := Tab.set g.queues q { e with u := 0 } } e.vector)) := by
  change execCoalesceTimeout F q s = _
  rw [execCoalesceTimeout, onPart_run (by simp [hF, hq]) hs, he]
  dsimp only
  rw [guarded_true (by simp [hu, ht])]

end

end

section
variable {tick mt : Nat} {f : Func} {q : Nat} {e : EvQueue} {r : EvRec}

theorem eqLost_of_no_loss (q : Nat) (h : f.pendLoss = []) : eqLost tick mt f q = f := by
  unfold eqLost
  split
  · simp [h, Tab.getD]
  · rfl

theorem signalVec_queues (f : Func) (v : Nat) : (signalVec f v).queues = f.queues := by
  unfold signalVec
  split <;> rfl

/-- What a record written into a queue with room leaves (R709, R715). -/
theorem eqWrite_queue (tick : Nat) (f : Func) (q : Nat) (e : EvQueue) (r : EvRec) :
    ∃ e', Tab.get (eqWrite tick f q e r).queues q = some e' ∧ e'.tail = (e.tail + 1) % 2 ^ 32 ∧
      Tab.get e'.slots (e.tail % e.size) = some (r, (e.tail / e.size) % 2 == 0) := by
  simp only [eqWrite]
  split
  · rw [signalVec_queues]
    exact ⟨_, tab_get_set_same .., rfl, tab_get_set_same ..⟩
  · exact ⟨_, tab_get_set_same .., rfl, tab_get_set_same ..⟩

/-- One backlogged record enters its queue, which has room for it (R714). -/
theorem eqDrain_of_single (hl : f.pendLoss = []) (he : Tab.get f.queues q = some e) (hroom : eqRoom e = true) :
    eqDrain tick mt f [] [(q, r)] = { eqWrite tick f q e r with backlog := [] } := by
  simp [eqDrain, eqLost_of_no_loss q hl, he, hroom, hl, Tab.has]

end

/-- A function without pending losses drains its backlog alone. -/
theorem exec_eventBacklogDrain_of_no_loss {s : State} {F : Nat} (hs : halted s = false) (hF : F < 256)
    (hl : (getFn s F).pendLoss = [])  :
    exec (.eventBacklogDrain F) s = .next (keep s (setFn s F
      (eqDrain s.time.ticks (now s) (getFn s F) [] (getFn s F).backlog))) := by
  have hlost : (Tab.keys (getFn s F).queues).foldl (fun g q => eqLost s.time.ticks (now s) g q) (getFn s F) = getFn s F :=
    List.foldl_fixed' (eqLost_of_no_loss · hl) _
  change execEventBacklogDrain F s = _
  rw [execEventBacklogDrain, onPart_run (decide_eq_true hF) hs]
  dsimp only
  rw [hlost]

/-- Settles O50: each index write is one case of its comparison, and a backlog of one record is one write into its queue. -/
theorem ringAndQueueIndices : Obligations.RingAndQueueIndices := by
  unfold Obligations.RingAndQueueIndices
  refine ⟨fun s F hF hs => ⟨fun k r v hk hr => ⟨fun hst hin => ?_, fun hst hout => ?_, fun hst => ?_, fun hd => ?_⟩,
    fun q e v hq he => ⟨fun hin => ?_, fun hout => ?_, fun hu ht => ?_⟩, fun hb hl => ?_⟩,
    fun s F q e r hF hs hb hl he hroom => ?_⟩
  · rw [exec_ringTailWrite_run hs hF hk hr, if_neg (not_not.2 hst), if_neg (Nat.not_lt.2 hin)]
  · rw [exec_ringTailWrite_run hs hF hk hr, if_neg (not_not.2 hst), if_pos hout]
    exact ⟨_, rfl, getFn_ringError 0 (v % 2 ^ 32) hr⟩
  · rw [exec_ringTailWrite_run hs hF hk hr, if_pos hst]
  · exact exec_headWriteback_of_due hs hF hk hr hd
  · rw [exec_eqHeadWrite_run hs hF hq he, if_pos hin]
  · rw [exec_eqHeadWrite_run hs hF hq he, if_neg (Nat.not_le.2 hout)]
  · exact exec_coalesceTimeout_of_due hs hF hq he hu ht
  · refine ⟨_, exec_eventBacklogDrain_of_no_loss hs hF hl, ?_⟩
    rw [getFn_keep, getFn_setFn_same, hb, eqDrain, ← hb]
  · obtain ⟨e', hget, htail, hslot⟩ := eqWrite_queue s.time.ticks (getFn s F) q e r
    refine ⟨_, e', exec_eventBacklogDrain_of_no_loss hs hF hl, ?_⟩
    rw [getFn_keep, getFn_setFn_same, hb, eqDrain_of_single hl he hroom]
    exact ⟨rfl, hget, htail, hslot⟩

end Sys2Proof.Proofs
end

section
/-!
PROOFS. Fences: creation, writes, increments, FENCE_SIGNAL and deletion (R27, R724, R725).
-/

namespace Sys2Proof.Proofs

open Sys2Proof Sys2Proof.Machine Sys2Proof.Laws

/-! ## Writes to a fence -/

section
variable {s : State} {F i : Nat} {data : Bytes} (hs : halted s = false) (hF : F < 256) (hi : i < 256)
include hs hF hi

section
variable (h : data.length ≠ 8 ∨ Tab.get (getFn s F).fences i = none)
include h

theorem exec_fenceWrite_of_bad : exec (.fenceWrite F i data) s = .next (keep s (bumpFn s F .fenceBadWrite)) := by
  change execFenceWrite F i data s = _
  rw [execFenceWrite, onPart_run (by simp [hF, hi]) hs]
  cases hv : Tab.get (getFn s F).fences i with
  | none => rfl
  | some v => simp [h.resolve_right (by simp [hv])]

theorem exec_fenceAddWrite_of_bad : exec (.fenceAddWrite F i data) s = .next (keep s (bumpFn s F .fenceBadWrite)) := by
  change execFenceAddWrite F i data s = _
  rw [execFenceAddWrite, onPart_run (by simp [hF, hi]) hs]
  cases hv : Tab.get (getFn s F).fences i with
  | none => rfl
  | some v => simp [h.resolve_right (by simp [hv])]

end

section
variable {v : Nat} (hv : Tab.get (getFn s F).fences i = some v) (hlen : data.length = 8)
include hv hlen

theorem exec_fenceWrite_of_fence : exec (.fenceWrite F i data) s = .next (keep s
    (if le data 0 8 < v then bumpFn s F .fenceBackward
     else updFn s F fun g => { g with fences := Tab.set g.fences i (le data 0 8) })) := by
  change execFenceWrite F i data s = _
  rw [execFenceWrite, onPart_run (by simp [hF, hi]) hs]
  simp [hv, hlen]

theorem exec_fenceAddWrite_of_fence : exec (.fenceAddWrite F i data) s = .next (keep s (updFn s F fun g =>
    { g with fences := Tab.set g.fences i (min (2 ^ 64 - 1) (v + le data 0 8)) })) := by
  change execFenceAddWrite F i data s = _
  rw [execFenceAddWrite, onPart_run (by simp [hF, hi]) hs]
  simp [hv, hlen]

end
end

/-! ## Fence commands -/

section
variable {s : State} {F i : Nat} {p d : Bytes}

theorem bodyFenceCreate_of_free (hp : (getFn s F).part.isSome = true)
    (hi : lowestFree (Tab.keys (getFn s F).fences) 0 256 = some i) {g h : Nat}
    (hg : g = nextGen (Tab.get (getFn s F).fgens i)) (hh : h = mkHandle 9 g (256 * F + i)) :
    bodyFenceCreate F p d s = .ok (toLe 4 h ++ zeros 4) h
      (updFn s F fun f => { f with fences := Tab.set f.fences i (le p 0 8), fgens := Tab.set f.fgens i g }) := by
  subst hh hg
  simp only [bodyFenceCreate, hi, hp, Option.isSome_some, Option.getD_some]
  rfl

section
variable {h G v : Nat} (ht : hType h = 9) (hidx : hIdx h = 256 * G + i) (hi : i < 256)
  (hgen : Tab.getD (getFn s G).fgens i 0 = hGen h) (hv : Tab.get (getFn s G).fences i = some v)
include ht hidx hi hgen hv

/-- The value of the fence that a handle in force names (R724). -/
theorem fenceValue_of_named : fenceValue s h = some v := by
  have hG : hIdx h / 256 = G := by omega
  have hI : hIdx h % 256 = i := by omega
  rw [fenceValue, hG, hI, if_pos ⟨ht, hgen⟩, hv]

theorem resolveFence_of_named : resolveFence s h = some (G, i) := by
  have hG : hIdx h / 256 = G := by omega
  have hI : hIdx h % 256 = i := by omega
  rw [resolveFence, fenceValue_of_named ht hidx hi hgen hv, hG, hI, Option.map_some]

end

section
variable {G v : Nat} (ht : hType (le p 0 4) = 9) (hidx : hIdx (le p 0 4) = 256 * G + i) (hi : i < 256)
  (hgen : Tab.getD (getFn s G).fgens i 0 = hGen (le p 0 4)) (hv : Tab.get (getFn s G).fences i = some v)
include ht hidx hi hgen hv

theorem bodyFenceSignal_of_seen {pt : Nat} (hpt : (getFn s G).part = some pt) (hsees : sees s F pt = true) :
    bodyFenceSignal F p d s = .ok [] 0 (if le p 8 8 < v then bumpFn s G .fenceBackward
      else updFn s G fun f => { f with fences := Tab.set f.fences i (le p 8 8) }) := by
  simp [bodyFenceSignal, resolveFence_of_named ht hidx hi hgen hv, fenceValue_of_named ht hidx hi hgen hv, hpt, hsees,
    checked]

theorem bodyFenceDelete_of_unnamed (hG : G = F) (hn : fenceNamed s (le p 0 4) = false) : bodyFenceDelete F p d s =
    .ok [] 0 (updFn s F fun f => { f with fences := Tab.del f.fences i }) := by
  simp [bodyFenceDelete, resolveFence_of_named ht hidx hi hgen hv, hG, hn, checked]

end
end

/-- Settles O51: a write below the value only counts, and any other leaves the greater of the two. -/
theorem fencesNeverDecrease : Obligations.FencesNeverDecrease := by
  unfold Obligations.FencesNeverDecrease
  intro s F hF hs
  refine ⟨fun src p i hu hp hi => serve_ok hu (bodyFenceCreate_of_free hp hi rfl rfl),
    fun i v data hi hv hlen => ⟨fun h => ?_, fun h => ?_, exec_fenceAddWrite_of_fence hs hF hi hv hlen⟩,
    fun i data hi h => ⟨exec_fenceWrite_of_bad hs hF hi h, exec_fenceAddWrite_of_bad hs hF hi h⟩,
    fun src p G i v pt hu ht hidx hi hgen hv hpt hsees => ?_, fun src p i hu ht hidx hi hgen hhas hn => ?_⟩
  · rw [exec_fenceWrite_of_fence hs hF hi hv hlen, if_neg (Nat.not_lt.2 h), Nat.max_eq_right h]
  · rw [exec_fenceWrite_of_fence hs hF hi hv hlen, if_pos h]
  · refine (serve_ok hu (bodyFenceSignal_of_seen ht hidx hi hgen hv hpt hsees)).trans ?_
    split
    · rfl
    · next h => rw [Nat.max_eq_right (Nat.le_of_not_lt h)]
  · obtain ⟨v, hv⟩ := Option.isSome_iff_exists.1 hhas
    exact serve_ok hu (bodyFenceDelete_of_unnamed ht hidx hi hgen hv rfl hn)

end Sys2Proof.Proofs
end

section
/-!
PROOFS. The resets of functions and host ports, and the expiry of an owner transfer (R676, R681, R682, R691).
-/

namespace Sys2Proof.Proofs

open Sys2Proof Sys2Proof.Machine Sys2Proof.Laws

theorem mbox_resetFunc (f : Func) (m : Mb) : (resetFunc f).mbox m = resetMb (f.mbox m) := by
  cases m <;> rfl

theorem exec_functionLevelReset_run {s : State} {F : Nat} (hs : halted s = false) (hF : F < 256) :
    exec (.functionLevelReset F) s = .next (keep s (updFn s F resetFunc)) := by
  change execFunctionLevelReset F s = _
  exact onPart_run (decide_eq_true hF) hs

/-- PERST_N of a port that the host port mode uses moves, whether or not the device is halted (R676, R796). -/
theorem exec_hostPortReset_of_used {s : State} {p : Nat} (low : Bool) (hp : p < 4) (hn : 64 * p < nFuncs s) :
    exec (.hostPortReset p low) s = .next (keep s { s with host := { s.host with
      perst := setAt s.host.perst p (low, s.time.ticks + 100 * tMs)
      fns := if low then s.host.fns.map fun e => if e.1 / 64 = p then (e.1, resetFunc e.2) else e else s.host.fns } }) := by
  change execHostPortReset p low s = _
  rw [execHostPortReset, onAon, if_pos (decide_eq_true hp), guarded_true (decide_eq_true hn)]
  cases low <;> rfl

theorem exec_ownerTransferExpiry_of_due {s : State} {G at_ : Nat} (hs : halted s = false) (ht : s.host.transfer = some (G, at_))
    (hd : at_ + 10 * tS ≤ s.time.ticks) :
    exec .ownerTransferExpiry s = .next (keep s { s with host := { s.host with transfer := none } }) := by
  change execOwnerTransferExpiry s = _
  rw [execOwnerTransferExpiry, live_run hs]
  simp [ht, hd]

/-- Settles O54: a reset changes the records of its functions alone, and each record as `resetFunc` says. -/
theorem functionAndPortResets : Obligations.FunctionAndPortResets := by
  unfold Obligations.FunctionAndPortResets
  intro s hs
  refine ⟨fun F hF => ⟨_, exec_functionLevelReset_run hs hF, fun G hG => ?_, ?_, rfl⟩,
    fun p hp hn => ⟨exec_hostPortReset_of_used true hp hn, exec_hostPortReset_of_used false hp hn⟩,
    fun G at_ ht hd => exec_ownerTransferExpiry_of_due hs ht hd⟩
  · rw [getFn_keep, getFn_updFn_other s _ hG]
  · rw [getFn_keep, getFn_updFn_same]
    refine ⟨rfl, rfl, rfl, rfl, rfl, rfl, rfl, rfl, rfl, rfl, rfl, rfl, rfl, fun m => ?_⟩
    rw [mbox_resetFunc]
    exact ⟨rfl, rfl, rfl, fun h => by simp [resetMb, h]⟩

end Sys2Proof.Proofs
end

section
/-!
PROOFS. The identity and transport commands of Table 15-4: rings, event queues, routes, DMA windows and IDENTIFY (R698, R704,
R707, R711, R726, R737, R850).
-/

namespace Sys2Proof.Proofs

open Sys2Proof Sys2Proof.Machine Sys2Proof.Laws

/-! ## Numbers in byte strings (R10) -/

theorem fromLe_toLe (n v : Nat) : fromLe (toLe n v) = v % 256 ^ n := by
  induction n generalizing v with
  | zero => simp [toLe, fromLe, Nat.mod_one]
  | succ n ih =>
    have hbyte : (BitVec.ofNat 8 v).toNat = v % 256 := BitVec.toNat_ofNat ..
    rw [toLe, fromLe, ih, hbyte, pow_succ', Nat.mod_mul]

theorem le_append_left {a b : Bytes} {o n : Nat} (h : o + n ≤ a.length) : le (a ++ b) o n = le a o n := by
  rw [le, le, List.drop_append_of_le_length (by omega), List.take_append_of_le_length (by simp; omega)]

theorem le_append_right {a b : Bytes} {o n : Nat} (h : a.length ≤ o) : le (a ++ b) o n = le b (o - a.length) n := by
  rw [le, le, List.drop_append, List.drop_eq_nil_of_le h, List.nil_append]

theorem le_toLe (n v : Nat) : le (toLe n v) 0 n = v % 256 ^ n := by
  rw [le, List.drop_zero, List.take_of_length_le (by rw [toLe_length]), fromLe_toLe]

/-! ## Rings and event queues -/

section
variable {s : State} {F : Nat} {p d : Bytes}

theorem bodyRingCreate_of_checked (hk : le p 0 1 < 64) (he : le p 1 1 < 64) (hlo : 64 ≤ le p 4 4) (hhi : le p 4 4 ≤ 65536)
    (hpow : 2 ^ Nat.log2 (le p 4 4) = le p 4 4) (hbase : le p 8 8 % 64 = 0) (hwb : le p 16 8 % 8 = 0)
    (hnew : Tab.has (getFn s F).rings (le p 0 1) = false)
    (hwin : inWindow (getFn s F) (le p 8 8) (64 * le p 4 4) false = true)
    (hwbWin : le p 16 8 = 0 ∨ inWindow (getFn s F) (le p 16 8) 8 true = true) :
    bodyRingCreate F p d s = .ok [] 0 (updFn s F fun f => { f with
      rings := Tab.set f.rings (le p 0 1) { base := le p 8 8, size := le p 4 4, eq := le p 1 1, headWb := le p 16 8 } }) := by
  have hdma : (le p 16 8 ≠ 0 && !(inWindow (getFn s F) (le p 16 8) 8 true)) = false := by
    rcases hwbWin with h | h <;> simp [h]
  simp only [bodyRingCreate]
  rw [checked_ok (by simp [hk, he, hlo, hhi, hpow, hbase, hwb, hnew])]
  simp only [hwin, hdma]
  rfl

theorem bodyRingRestart_of_stopped {r : Ring} (hr : Tab.get (getFn s F).rings (le p 0 1) = some r) (hst : r.state ≠ .running)
    (htail : wrap 32 ((le p 4 4 : Int) - r.head) ≤ r.size) :
    bodyRingRestart F p d s = .ok [] 0 (updFn s F fun f => { f with
      rings := Tab.set f.rings (le p 0 1) { r with tail := le p 4 4, fetch := r.head, state := .running } }) := by
  simp only [bodyRingRestart, hr]
  rw [checked_ok (by simp [hst, htail])]
  rfl

theorem bodyRingDelete_of_present (hr : Tab.has (getFn s F).rings (le p 0 1) = true) : bodyRingDelete F p d s =
    .ok [] 0 (updFn s F fun f => { f with rings := Tab.del f.rings (le p 0 1) }) := by
  simp only [bodyRingDelete]
  rw [checked_ok (by simp [hr])]
  rfl

theorem bodyEqCreate_of_checked (hk : le p 0 1 < 64) (hlo : 64 ≤ le p 4 4) (hhi : le p 4 4 ≤ 65536)
    (hpow : 2 ^ Nat.log2 (le p 4 4) = le p 4 4) (hbase : le p 8 8 % 32 = 0) (hvec : vecOk F (le p 2 2) = true)
    (hcount : 1 ≤ le p 16 2) (hnew : Tab.has (getFn s F).queues (le p 0 1) = false)
    (hwin : inWindow (getFn s F) (le p 8 8) (32 * le p 4 4) true = true) :
    bodyEqCreate F p d s = .ok [] 0 (updFn s F fun f => { f with
      queues := Tab.set f.queues (le p 0 1)
        { base := le p 8 8, size := le p 4 4, vector := le p 2 2, count := le p 16 2, time := le p 18 2 }
      q0 := f.q0 || le p 0 1 == 0 }) := by
  simp only [bodyEqCreate]
  rw [checked_ok (by simp [hk, hlo, hhi, hpow, hbase, hvec, hcount, hnew])]
  simp only [hwin]
  rfl

theorem bodyEqDelete_of_unnamed (hq : Tab.has (getFn s F).queues (le p 0 1) = true)
    (hring : ∀ e ∈ (getFn s F).rings, e.2.eq ≠ le p 0 1)
    (hstamp : ¬(timeOwner s = some F ∧ fld s.time.prm (fk 0x0B 8 0) = (le p 0 1 : Int))) :
    bodyEqDelete F p d s = .ok [] 0 (updFn s F fun f => { f with
      queues := Tab.del f.queues (le p 0 1), pendLoss := Tab.del f.pendLoss (le p 0 1)
      backlog := f.backlog.filter fun e => e.1 ≠ le p 0 1
      ctrs := bump f.ctrs .evtUnrouted (f.backlog.filter fun e => e.1 = le p 0 1).length }) := by
  have hnone : ((getFn s F).rings.any fun e => e.2.eq = le p 0 1) = false := by simpa using fun a b h => hring (a, b) h
  have hown : (timeOwner s == some F && fld s.time.prm (fk 0x0B 8 0) == (le p 0 1 : Int)) = false := by
    simpa only [Bool.and_eq_false_iff, beq_eq_false_iff_ne, not_and_or] using hstamp
  simp only [bodyEqDelete]
  rw [checked_ok (by simp [hq, hnone, hown])]
  rfl

theorem bodyEventRoute_of_checked (hclean : routeClean p (le p 0 2) = true)
    (hq : ∀ e ∈ routeItems p 4 (le p 0 2), e.2 < 64 ∨ e.2 = 255) :
    bodyEventRoute F p d s = .ok [] 0 (updFn s F fun f => { f with
      route := (routeItems p 4 (le p 0 2)).foldl (fun t e => Tab.set t e.1 e.2) f.route
      ownerAll := bitOf (le p 2 1) 0 }) := by
  have hall : ((routeItems p 4 (le p 0 2)).all fun e => decide (e.2 < 64) || e.2 == 255) = true := by
    simpa using fun a b h => hq (a, b) h
  simp only [bodyEventRoute]
  rw [checked_ok (by simp [hclean, hall])]

/-! ## DMA windows and IDENTIFY -/

theorem bodyDmaWindowAdd_of_checked {i : Nat} (hbase : le p 0 8 % 4096 = 0) (hlen : le p 8 8 % 4096 = 0) (hpos : 0 < le p 8 8)
    (hend : le p 0 8 + le p 8 8 ≤ 2 ^ 64) (hlo : 1 ≤ le p 16 1) (hhi : le p 16 1 ≤ 3)
    (hi : lowestFree (Tab.keys (getFn s F).wins) 0 64 = some i) :
    bodyDmaWindowAdd F p d s = .ok (toLe 1 i ++ zeros 7) 0 (updFn s F fun f => { f with
      wins := Tab.set f.wins i
        { base := le p 0 8, len := le p 8 8, read := bitOf (le p 16 1) 0, write := bitOf (le p 16 1) 1 } }) := by
  simp only [bodyDmaWindowAdd, hi, Option.getD_some]
  rw [checked_ok (by simp [hbase, hlen, hpos, hlo, hhi]; omega)]
  rfl

theorem bodyDmaWindowRemove_of_unused {w : Window} (hw : Tab.get (getFn s F).wins (le p 0 1) = some w)
    (hu : windowUsed (getFn s F) w = false) : bodyDmaWindowRemove F p d s =
    .ok [] 0 (updFn s F fun f => { f with wins := Tab.del f.wins (le p 0 1) }) := by
  simp only [bodyDmaWindowRemove, hw]
  rw [checked_ok (by simp [hu])]
  rfl

/-- What IDENTIFY answers: each field of Table 15-5 at its offset. -/
theorem bodyIdentify_fields : ∃ out, bodyIdentify F p d s = .ok out 0 s ∧ out.length = 48 ∧
    le out 0 8 = identWord s F % 2 ^ 64 ∧ le out 9 1 = s.host.mode % 256 ∧ le out 10 1 = s.eth.mode % 256 ∧
    le out 11 1 = s.mem.channels % 256 ∧ le out 12 4 = s.host.version % 2 ^ 32 ∧
    le out 40 2 = s.mem.rate % 65536 ∧ le out 42 1 = s.boot.booted % 256 ∧ le out 43 1 = s.boot.mismatch % 256 := by
  refine ⟨_, rfl, by simp [toLe_length, zeros], ?_⟩
  simp [le_append_left, le_append_right, le_toLe, toLe_length, ethMode]

end

/-- Settles O52: each command is its body served, and each body's checks are the hypotheses. -/
theorem ringQueueAndWindowCommands : Obligations.RingQueueAndWindowCommands := by
  unfold Obligations.RingQueueAndWindowCommands
  refine ⟨fun s F src p => ⟨fun hu => serve_ok hu rfl, fun hu hk he hlo hhi hpow hbase hwb hnew hwin hwbWin => ?_,
    fun r hu hr hst htail => serve_ok hu (bodyRingRestart_of_stopped hr hst htail),
    fun hu hr => serve_ok hu (bodyRingDelete_of_present hr),
    fun hu hk hlo hhi hpow hbase hvec hcount hnew hwin => ?_,
    fun hu hq hring hstamp => serve_ok hu (bodyEqDelete_of_unnamed hq hring hstamp),
    fun hu hclean hq => serve_ok hu (bodyEventRoute_of_checked hclean hq)⟩,
    fun s F src p => ⟨fun i hu hbase hlen hpos hend hlo hhi hi => ?_,
      fun w hu hw hused => serve_ok hu (bodyDmaWindowRemove_of_unused hw hused), fun hu => ?_⟩⟩
  · exact serve_ok hu (bodyRingCreate_of_checked hk he hlo hhi hpow hbase hwb hnew hwin hwbWin)
  · exact serve_ok hu (bodyEqCreate_of_checked hk hlo hhi hpow hbase hvec hcount hnew hwin)
  · exact serve_ok hu (bodyDmaWindowAdd_of_checked hbase hlen hpos hend hlo hhi hi)
  · obtain ⟨out, hb, hout⟩ := bodyIdentify_fields (s := s) (F := F) (p := p) (d := [])
    exact ⟨out, serve_ok hu hb, hout⟩

end Sys2Proof.Proofs
end

section
/-!
PROOFS. Host rings: index writes, the fetch of transmit descriptors, creation and removal (R716 to R719, R850).
-/

namespace Sys2Proof.Proofs

open Sys2Proof Sys2Proof.Machine Sys2Proof.Laws

/-! ## Index writes -/

section
variable {s : State} {F kind : Nat} {r : HostRing} (hr : Tab.get (getFn s F).hrings kind = some r)
include hr

theorem consumerWrite_of_ring (v : Nat) : consumerWrite F kind v s =
    if wrap 32 ((r.tail : Int) - v) ≤ r.slots then
      updFn s F fun f => { f with hrings := Tab.set f.hrings kind { r with head := v % 2 ^ 32 } }
    else bumpFn s F .hostRingIndexErr := by
  rw [consumerWrite, hr]

theorem producerWrite_of_ring (v : Nat) : producerWrite F kind v s =
    if wrap 32 ((v : Int) - r.head) ≤ r.slots then
      updFn s F fun f => { f with hrings := Tab.set f.hrings kind { r with tail := v % 2 ^ 32 } }
    else bumpFn s F .hostRingIndexErr := by
  rw [producerWrite, hr]

end

/-! ## Fetches -/

section
variable {s : State} {F : Nat} {r : HostRing} {desc : Bytes} (frame : Bytes) (hs : halted s = false) (hF : F < 256)
  (hpost : 0 < r.posted) {n p : Nat} (hn : n = le desc 8 2) (hp : p = le desc 10 1) (hport : p < 8)
  (hlen : txLenOk s p n frame = true) (hwin : inWindow (getFn s F) (le desc 0 8) n false = true)
include hs hF hpost hn hp hport hlen hwin

/-- A descriptor that asks for no stamp and passes the checks of R718. -/
theorem exec_hostTxFetch_of_checked {pt : Nat} (hr : Tab.get (getFn s F).hrings 1 = some r) (hpt : r.part = some pt)
    (hroom : qFull s (qHtx pt) (max 64 (n + 4)) = false) (hstamp : bitOf (le desc 11 1) 0 = false)
    (hquota : bitOf (quota s pt 8 0) (8 * p) = true) :
    exec (.hostTxFetch F desc frame) s = .next (keep s (qPush (qHtx pt)
      { pkt := hostFrame .host p n none frame, tick := s.time.ticks } false (headStep F 1 s))) := by
  subst hn hp
  have hgo : ¬(r.posted = 0 ∨ qFull s (qHtx pt) (max 64 (le desc 8 2 + 4)) = true) := by simp [hroom]; omega
  have hdrop : (decide (8 ≤ le desc 10 1) || !(txLenOk s (le desc 10 1) (le desc 8 2) frame)
      || !(bitOf (quota s pt 8 0) (8 * le desc 10 1))) = false := by simp [hlen, hquota, hport]
  change execHostTxFetch F desc frame s = _
  rw [execHostTxFetch, onPart_run (decide_eq_true hF) hs]
  simp only [hr, hpt, Option.getD_some, hgo, hdrop, hwin, hstamp, Bool.false_and, Bool.not_true, Bool.false_eq_true, if_false]

/-- A descriptor of the time owner that passes the checks of R719. -/
theorem exec_timeTransmitFetch_of_checked (hr : Tab.get (getFn s F).hrings 3 = some r) (hown : timeOwner s = some F)
    (hroom : qFull s qTtx (max 64 (n + 4)) = false) :
    exec (.timeTransmitFetch F desc frame) s = .next (keep s (qPush qTtx
      { pkt := hostFrame .ptp p n (if bitOf (le desc 11 1) 0 then some (le desc 12 2) else none) frame
        tick := s.time.ticks } false (headStep F 3 s))) := by
  subst hn hp
  have hgo : ¬(r.posted = 0 ∨ timeOwner s ≠ some F ∨ qFull s qTtx (max 64 (le desc 8 2 + 4)) = true) := by
    simp [hroom, hown]; omega
  have hdrop : (decide (8 ≤ le desc 10 1) || !(txLenOk s (le desc 10 1) (le desc 8 2) frame)) = false := by
    simp [hlen, hport]
  change execTimeTransmitFetch F desc frame s = _
  rw [execTimeTransmitFetch, onPart_run (decide_eq_true hF) hs]
  simp only [hr, hgo, hdrop, hwin, Bool.not_true, Bool.false_eq_true, if_false]

end

/-! ## Creation and removal -/

section
variable {s : State} {F : Nat} {p d : Bytes}

theorem bodyHostRingCreate_of_checked {pt : Nat} (hpt : (getFn s F).part = some pt) (hk : le p 0 1 < 2) (hc : le p 1 1 < 3)
    (hlo : 64 ≤ le p 4 4) (hhi : le p 4 4 ≤ 16384) (hpow : 2 ^ Nat.log2 (le p 4 4) = le p 4 4)
    (hnone : ∀ e ∈ s.host.fns, ∀ r, Tab.get e.2.hrings (le p 0 1) = some r → r.part ≠ some pt)
    (hnew : Tab.has (getFn s F).hrings (le p 0 1) = false)
    (hwin : inWindow (getFn s F) (le p 8 8) (le p 4 4 * (if le p 0 1 = 1 then 32 else slotBytesOf (le p 1 1))) (le p 0 1 == 0)
      = true) :
    bodyHostRingCreate F p d s = .ok [] 0 (updFn s F fun f => { f with
      hrings := Tab.set f.hrings (le p 0 1)
        { base := le p 8 8, slots := le p 4 4, slotBytes := slotBytesOf (le p 1 1), part := some pt } }) := by
  have htaken : hringTaken s F (le p 0 1) = false := by
    rw [hringTaken, if_pos hk, List.any_eq_false, hpt]
    intro e he
    split
    · next r hr => simpa using hnone e he r hr
    · simp
  have hkinds : (le p 0 1 = 1 ∨ le p 0 1 = 3) ↔ le p 0 1 = 1 := by omega
  have hwrites : (decide (le p 0 1 = 0) || decide (le p 0 1 = 2)) = (le p 0 1 == 0) := by
    rw [decide_eq_false (show ¬le p 0 1 = 2 by omega), Bool.or_false]
    rfl
  simp only [bodyHostRingCreate]
  rw [checked_ok (by simp [hpt, hk, hc, hlo, hhi, hpow, htaken, hnew]; omega)]
  simp only [hkinds, hwrites, hwin, ← hpt]
  rfl

theorem bodyHostRingDelete_of_present (hr : Tab.has (getFn s F).hrings (le p 0 1) = true) : bodyHostRingDelete F p d s =
    .ok [] 0 (updFn s F fun f => { f with hrings := Tab.del f.hrings (le p 0 1) }) := by
  simp only [bodyHostRingDelete]
  rw [checked_ok (by simp [hr])]
  rfl

end

/-- Settles O53: each index register is a consumer or a producer of its ring, and each fetch or command passes its checks. -/
theorem hostRings : Obligations.HostRings := by
  unfold Obligations.HostRings
  intro s F hF hs
  refine ⟨fun v kind r c hc hr => ?_, fun v kind r c hc hr => ?_,
    fun desc frame r pt hr hpt hpost hroom hstamp hport hlen hquota hwin => ?_,
    fun desc frame r hr hown hpost hroom hport hlen hwin => ?_,
    fun src p pt hu hpt hk hc hlo hhi hpow hnone hnew hwin => ?_,
    fun src p hu hr => serve_ok hu (bodyHostRingDelete_of_present hr)⟩
  · rw [← consumerWrite_of_ring hr]
    simp only [List.mem_cons, Prod.mk.injEq, List.not_mem_nil, or_false] at hc
    obtain ⟨rfl, rfl⟩ | ⟨rfl, rfl⟩ := hc <;> exact onPart_run (decide_eq_true hF) hs
  · rw [← producerWrite_of_ring hr]
    simp only [List.mem_cons, Prod.mk.injEq, List.not_mem_nil, or_false] at hc
    obtain ⟨rfl, rfl⟩ | ⟨rfl, rfl⟩ := hc <;> exact onPart_run (decide_eq_true hF) hs
  · exact exec_hostTxFetch_of_checked frame hs hF hpost rfl rfl hport hlen hwin hr hpt hroom hstamp hquota
  · exact exec_timeTransmitFetch_of_checked frame hs hF hpost rfl rfl hport hlen hwin hr hown hroom
  · exact serve_ok hu (bodyHostRingCreate_of_checked hpt hk hc hlo hhi hpow hnone hnew hwin)

end Sys2Proof.Proofs
end

section
/-!
PROOFS. The whole block: every command but the three that concern the flash and PORST_N is `onPart` or `onAon` of the part it
names, and `keep` then holds the queue, PORST_N and the flash (R820); a halted device stands still (R790, R794, R848).
-/

namespace Sys2Proof.Proofs

open Sys2Proof Sys2Proof.Machine Sys2Proof.Laws

/-! ## Every command runs on its part

The arms of `exec` are calls of a few shared operations; each of these is `onPart` (or `onAon`) of the part it names. -/

theorem serve_onPart (op : Nat) (src : Src) (d : Bytes) (body : Body) (s : State) :
    ∃ f, serve op src d body s = onPart src.wf s f := by
  cases src <;> exact ⟨_, rfl⟩

theorem onPart_onPart (ok : Bool) (s : State) (f : State → State) : ∃ g, onPart ok s f = onPart ok s g := ⟨f, rfl⟩

theorem live_onPart (s : State) (f : State → State) : ∃ g, live s f = onPart true s g := ⟨f, rfl⟩

theorem slotStep_onPart (c : Nat) (isOp : Nat → Nat → Bool) (f : Nat → Core → State → Except Nat Core × State)
    (fin : State → State) (s : State) : ∃ g, slotStep c isOp f fin s = onPart (decide (c < 192)) s g := ⟨_, rfl⟩

theorem arith_onPart (c o : Nat) (f : Nat → Core → Core) (s : State) :
    ∃ g, arith c o f s = onPart (decide (c < 192)) s g := by
  unfold arith
  exact slotStep_onPart _ _ _ _ _

theorem ctl_onPart (c o : Nat) (f : Nat → Core → Core) (s : State) :
    ∃ g, ctl c o f s = onPart (decide (c < 192)) s g := by
  unfold ctl
  exact slotStep_onPart _ _ _ _ _

theorem load_onPart (c o : Nat) (ue : Bool) (f : Nat → Core → State → Core × State) (s : State) :
    ∃ g, load c o ue f s = onPart (decide (c < 192)) s g := by
  unfold load
  exact slotStep_onPart _ _ _ _ _

/-- Whether a function has the vector (R679), said as a bound. -/
theorem vecOk_eq (F v : Nat) : vecOk F v = decide (v < if F % 64 = 0 then 134 else 6) := by
  unfold vecOk
  split <;> rfl

theorem execMsixUnmask_onPart (F v : Nat) (s : State) : ∃ g, execMsixUnmask F v s =
    onPart (decide (F < 256) && decide (v < if F % 64 = 0 then 134 else 6)) s g := by
  rw [← vecOk_eq]
  exact onPart_onPart _ _ _

/-- The commands on the domains that may stand still: the served ones, the slots of the DSP cores, and the events of a part. -/
theorem exec_onPart {c : Instr} (hc : alwaysOn c = false) (s : State) :
    ∃ f, exec c s = onPart (c.wf (nFuncs s)) s f := by
  unfold exec
  cases c with
  | nop | identify | ringCreate | ringDelete | ringRestart | eqCreate | eqDelete | eventRoute | hostRingCreate
  | hostRingDelete | dmaWindowAdd | dmaWindowRemove | partitionCreate | partitionModify | partitionDelete
  | partitionRead | functionAssign | ownerTransfer | ownerAccept | memSets | memKeyInstall | memTimers | spillConfig
  | kernelCores | timeGet | timeConfig | timeSet | timeAdjFreq | timeAdjPhase | portTimeCorr | ppsConfig
  | utcOffsetSet | portConfig | portRead | portSlots | audioClock | aes3Read | aes3OutStatus | kerfPortConfig
  | gateListSet | gateListRead | qxoffConfig | displayConfig | displayEdid | macFilterAdd | macFilterRemove
  | addressAdd | addressRemove | dscpTableSet | conferenceCreate | conferenceModify | conferenceActivate
  | conferenceHold | conferenceDelete | conferenceRead | legCreate | legModify | legActivate | legHold | legDelete
  | legRead | streamCreate | streamModify | streamActivate | streamHold | streamDelete | streamRead | layoutCreate
  | layoutModify | layoutActivate | layoutHold | layoutDelete | layoutRead | layerCreate | layerModify
  | layerActivate | layerHold | layerDelete | layerRead | rungCreate | rungModify | rungActivate | rungHold
  | rungDelete | rungRead | keyInstall | governorConfig | governorRead | decoderRead | policerConfig | coefLoad
  | coefUnload | layerFlip | rungRefresh | rungKey | surfaceCreate | surfaceDelete | surfaceInfo | surfaceWrite
  | surfaceRead | fenceCreate | fenceDelete | fenceSignal | audioRead | mixRead | hrtfLoad | hrtfUnload | playClip
  | clipStop | dtmfSend | planeStop | planeLoad | planeStart | planeRead | kernelLoad | kernelUnload | kernelRead
  | kernelResume | statsRead | queueRead | queueConfig | queueFlush | qgroupSet | qgroupConfig | qgroupRead
  | qgroupClear | histConfig | histRead | battenAudit | memStatus | memLogRead | memLogClear | auditRead | healthRead
  | faultAck | fwInfo | fwUpdateBegin | fwUpdateData | fwUpdateCommit | fwActivate | debugChallenge | debugUnlock =>
    exact serve_onPart _ _ _ _ _
  | add | sub | addi | neg | abs | min | max | and | or | xor | shli | shri | shle | mul | mac | msu | clra | lda
  | adda | ext | norm | expb | cmp | sel | mov | pack | rdsr | wrsr | maxi | mini | rds | movi =>
    exact arith_onPart _ _ _ _
  | br | brc | call | ret | rep | repr | setp | addp | setm | setcb | movp | movd | dmaq | dmawait | srchi | rdcyc =>
    exact ctl_onPart _ _ _ _
  | ld | ld2 | ldw => exact load_onPart _ _ _ _ _
  | slotNop | st | stw | kret => exact slotStep_onPart _ _ _ _ _
  | strokeBoundary | increaseEvaluation | conservationAudit | displayVsync | ppsOutEdge | ppsInStamp | holdoverEntry
  | holdoverSteer | firmwareServoUpdate | hpdRise | hpdFall | displayTrainingDone | nocTimeout | patrolScrub
  | extentZeroingComplete | ownerTransferExpiry | debugChallengeExpiry | activationReset | holdupSample | storeRetry
  | bootStore | firmwareHeartbeat | clampHeartbeat | benchWatchdogExpiry | fwRestarted | sequencerAloneExpiry
  | deviceWatchdogExpiry | deviceRecovered | firmwareTaskTimeout | avsReadbackCheck | clampLockstepMismatch
  | marginPlanRun | dailyHistoryStore | pmbusTelemetryPoll | mclkAligned => exact live_onPart _ _
  | probeEnd | probeUnresolvedTimeout | feedbackStalled | switchWaitExpiry | refreshLimitExpiry | refreshRetry
  | rtcpReportSend | ccfbFeedbackSend | mixPeriodBoundary | jbDepthAdapt | audioFrontJob | rankingJob | mixJob
  | backJob | backJobAbandon | tagMissingTimeout | aes67PacketSend | dtmfEndTimeout | frameInstant | readinessCheck
  | compositionStart | bandHandoff | compositionComplete | enginePick | decoderCredit | decodeFrameComplete
  | syncWaitRefresh | videoHoldExpiry | encodePictureComplete | engineWatchdogExpiry | engineResetEnd
  | gateEntryChange | gateCycleBoundary | gateListActive | refLost | ethFrameReceive | previousKeyErase
  | exceptionDelivery | flowControlFrameReceive | pauseHoldExpiry | linkUp | linkDown | pacerRelease
  | hostLimiterRelease | classPick | txStampDelivery | heldPushRetry | rxHoldExpiry | pfcRepeat | spillMoveComplete
  | queueFlushApply | qgroupEventWindow | qxoffMinExpiry | audioFrameEdge | aes3CsBlock | aes3NonaudioEnd
  | portClockLoss | portHoldFrame | portRateMeasure | planeRampEnd | dramRequestIssue | dramReadResponse
  | dramCommandTimeout | dramRefresh | dramTempPoll | dqsDriftCheck | retrainSlice | powerDownEntry
  | selfRefreshEntry | doorbellWrite | ackWrite | commandAreaWrite | mailboxServiceTimeout | hostIfaceWrite
  | funcStatusClear | registerWrite | ringTailWrite | ringEntryExecute | headWriteback | eqHeadWrite
  | eventBacklogDrain | coalesceTimeout | fenceWrite | fenceAddWrite | excHeadWrite | htxTailWrite | texHeadWrite
  | ttxTailWrite | hostTxFetch | timeTransmitFetch | functionLevelReset | dspWatchdogExpiry | kernelOverrun
  | kernelDmaComplete | coreInterrupt | firmwarePtpMessage => exact onPart_onPart _ _ _
  | msixUnmask => exact execMsixUnmask_onPart _ _ _
  | phcTick | flashOperationComplete | powerFail | powerRestore | porstFall | porstRise | clockMonitorFault
  | voltageMonitorFault | monitorFaultEnd | junctionSensorSample | hostPortReset | configRequest | page | state
  | ident | faults | bootLog | temps | smbusAlertResponse | jtagAccess => cases hc

/-- The commands that meet the flash itself: the end of an operation, and PORST_N, which may cut one short (R794) or show what
the board has programmed. -/
def meetsFlash : Instr → Bool
  | .flashOperationComplete _ | .porstFall | .porstRise _ => true
  | _ => false

theorem meetsFlash_eq_false {c : Instr} (hend : ∀ got, c ≠ .flashOperationComplete got) (hfall : c ≠ .porstFall)
    (hrise : ∀ env, c ≠ .porstRise env) : meetsFlash c = false := by
  cases c with
  | flashOperationComplete got => exact absurd rfl (hend got)
  | porstFall => exact absurd rfl hfall
  | porstRise env => exact absurd rfl (hrise env)
  | _ => rfl

theorem onAon_onAon (ok : Bool) (s : State) (f : State → State) : ∃ g, onAon ok s f = onAon ok s g := ⟨f, rfl⟩

theorem smbAnswer_onAon (f : State → State × Option Bytes) (s : State) : ∃ g, smbAnswer f s = onAon true s g := ⟨_, rfl⟩

theorem smbBlock_onAon (f : State → Bytes) (s : State) : ∃ g, smbBlock f s = onAon true s g := by
  unfold smbBlock
  exact smbAnswer_onAon _ _

/-- The commands on the always-on parts and the pins, but for those that meet the flash. -/
theorem exec_onAon {c : Instr} (hc : alwaysOn c = true) (hm : meetsFlash c = false) (s : State) :
    ∃ f, exec c s = onAon (c.wf (nFuncs s)) s f := by
  unfold exec
  cases c with
  | flashOperationComplete | porstFall | porstRise => cases hm
  | phcTick | powerFail | powerRestore | clockMonitorFault | voltageMonitorFault | monitorFaultEnd | junctionSensorSample
  | hostPortReset | configRequest | smbusAlertResponse | jtagAccess => exact onAon_onAon _ _ _
  | page => exact smbAnswer_onAon _ _
  | state | ident | faults | bootLog | temps => exact smbBlock_onAon _ _
  | _ => cases hc

/-- A command that does not meet the flash answers a state with the queue, PORST_N and the flash as before, or faults. -/
theorem exec_keep {c : Instr} (hm : meetsFlash c = false) (s : State) :
    ∃ u, exec c s = if c.wf (nFuncs s) then .next (keep s u) else .fault .noSuchPart := by
  cases hc : alwaysOn c with
  | false =>
    obtain ⟨f, hf⟩ := exec_onPart hc s
    refine ⟨if halted s then s else f s, ?_⟩
    rw [hf, onPart]
    cases halted s <;> rfl
  | true =>
    obtain ⟨f, hf⟩ := exec_onAon hc hm s
    exact ⟨f s, hf⟩

theorem next_eq_keep {c : Instr} {s t : State} (hm : meetsFlash c = false) (h : exec c s = .next t) : ∃ u, t = keep s u := by
  obtain ⟨u, hu⟩ := exec_keep hm s
  rw [hu] at h
  split at h
  · exact ⟨u, (Host.Outcome.next.inj h).symm⟩
  · cases h

/-- What a command that meets the flash may leave of the state `s`: no change, a reset (R794), the end of an operation (R820), or
the start-up on what the board has programmed (R797). -/
inductive FlashStep (s : State) : State → Prop where
  | idle : FlashStep s s
  | fall : FlashStep s (coldState s)
  | complete (o : FlashOp) (got : Option Bytes) (u : State) (ho : s.boot.flashOp = some o) :
      FlashStep s (keep (setBoot s { s.boot with flashOp := none, flash := flashEffect o got s.boot.flash }) u)
  | rise (env : BootEnv) (u : State) :
      FlashStep s (keep (setBoot (boardFlash env.flash s)
        { (boardFlash env.flash s).boot with porstLow := false, straps := env.straps }) u)

theorem exec_of_meetsFlash {c : Instr} (hm : meetsFlash c = true) (s : State) : ∃ t, exec c s = .next t ∧ FlashStep s t := by
  cases c with
  | flashOperationComplete got =>
    change ∃ t, execFlashOperationComplete got s = .next t ∧ _
    unfold execFlashOperationComplete
    split
    · exact ⟨s, rfl, .idle⟩
    · next o ho => exact ⟨_, rfl, .complete o got _ ho⟩
  | porstFall => exact ⟨_, rfl, .fall⟩
  | porstRise env =>
    change ∃ t, execPorstRise env s = .next t ∧ _
    unfold execPorstRise
    split
    · exact ⟨_, rfl, .rise env _⟩
    · exact ⟨s, rfl, .idle⟩
  | _ => cases hm

theorem flashStep_of_next {c : Instr} {s t : State} (hm : meetsFlash c = true) (h : exec c s = .next t) : FlashStep s t := by
  obtain ⟨u, hu, hstep⟩ := exec_of_meetsFlash hm s
  rw [h] at hu
  cases hu
  exact hstep

theorem FlashStep.pending {s t : State} (h : FlashStep s t) : t.pending = s.pending := by
  cases h <;> rfl

/-- Settles O1: both are the two cases of `step`. -/
theorem stepRunsTheFrontCommand : Obligations.StepRunsTheFrontCommand := by
  unfold Obligations.StepRunsTheFrontCommand
  refine ⟨fun s c rest => rfl, fun s hs => ?_⟩
  rw [step, hs]

/-- Settles O2: what a command does is `keep` of some state when its part exists, and the three that meet the flash always
answer. -/
theorem everyCommandRunsAndKeepsTheQueue : Obligations.EveryCommandRunsAndKeepsTheQueue := by
  unfold Obligations.EveryCommandRunsAndKeepsTheQueue
  intro c s
  cases hm : meetsFlash c with
  | true =>
    obtain ⟨t, ht, hstep⟩ := exec_of_meetsFlash hm s
    exact ⟨fun _ => ⟨t, ht⟩, .inl ⟨t, ht, hstep.pending⟩⟩
  | false =>
    obtain ⟨u, hu⟩ := exec_keep hm s
    cases hw : c.wf (nFuncs s) with
    | true =>
      rw [hw, if_pos rfl] at hu
      exact ⟨fun _ => ⟨_, hu⟩, .inl ⟨_, hu, keep_pending s u⟩⟩
    | false =>
      rw [hw] at hu
      exact ⟨nofun, .inr hu⟩

/-- Settles O3: such a command is `onPart`, which answers a halted state itself. -/
theorem haltedDeviceStandsStill : Obligations.HaltedDeviceStandsStill := by
  unfold Obligations.HaltedDeviceStandsStill
  intro c s t hs hc h
  obtain ⟨f, hf⟩ := exec_onPart hc s
  rw [hf, onPart, if_pos hs] at h
  split at h
  · exact (Host.Outcome.next.inj h).symm
  · cases h

/-- Settles O7: such a command answers `keep`, which holds the flash. -/
theorem onlyFlashOperationsChangeTheFlash : Obligations.OnlyFlashOperationsChangeTheFlash := by
  unfold Obligations.OnlyFlashOperationsChangeTheFlash
  intro c s t hend hfall hrise h
  obtain ⟨u, rfl⟩ := next_eq_keep (meetsFlash_eq_false hend hfall hrise) h
  exact keep_flash s u

end Sys2Proof.Proofs
end

section
/-!
PROOFS. The canonical form of the flash (R794, R820): a flash operation, a reset that cuts one short and the board's programming
write and clear ranges, which keep it.
-/

namespace Sys2Proof.Proofs

open Sys2Proof Sys2Proof.Machine Sys2Proof.Laws

theorem flashEffect_wf {m : Mem} (hm : Mem.wf erased m = true) (o : FlashOp) (got : Option Bytes) :
    Mem.wf erased (flashEffect o got m) = true := by
  have asked : ∀ n, Mem.wf erased (if o.code = 1 then Mem.write erased m o.addr o.data else Mem.clear m o.addr n) = true := by
    intro n
    split
    · exact mem_wf_write erased hm _ _
    · exact mem_wf_clear erased hm _ _
  cases got with
  | none => exact asked _
  | some b => exact mem_wf_write erased (mem_wf_clear erased (asked _) _ _) _ _

theorem coldState_flash_wf {s : State} (hs : Mem.wf erased s.boot.flash = true) :
    Mem.wf erased (coldState s).boot.flash = true := by
  simp only [coldState]
  split
  · exact hs
  · exact mem_wf_write erased (mem_wf_clear erased hs _ _) _ _

theorem boardFlash_flash_wf {s : State} (hs : Mem.wf erased s.boot.flash = true) (segs : List (Nat × Bytes)) :
    Mem.wf erased (boardFlash segs s).boot.flash = true := by
  change Mem.wf erased (segs.foldl (fun m e => Mem.write erased m e.1 e.2) s.boot.flash) = true
  exact List.foldlRecOn (motive := fun m => Mem.wf erased m = true) segs _ hs fun _ hm e _ => mem_wf_write erased hm e.1 e.2

theorem FlashStep.flash_wf {s t : State} (h : FlashStep s t) (hs : Mem.wf erased s.boot.flash = true) :
    Mem.wf erased t.boot.flash = true := by
  cases h with
  | idle => exact hs
  | fall => exact coldState_flash_wf hs
  | complete o got u ho => exact flashEffect_wf hs o got
  | rise env u => exact boardFlash_flash_wf hs env.flash

/-- Settles O6: a command either keeps the flash or is one of the three whose ranges keep the form. -/
theorem everyStepKeepsTheFlashCanonical : Obligations.EveryStepKeepsTheFlashCanonical := by
  unfold Obligations.EveryStepKeepsTheFlashCanonical
  intro s t hs h
  unfold step at h
  split at h
  · cases h
    exact hs
  · next c rest _ =>
    cases hm : meetsFlash c with
    | true => exact (flashStep_of_next hm h).flash_wf hs
    | false =>
      obtain ⟨u, rfl⟩ := next_eq_keep hm h
      exact hs

end Sys2Proof.Proofs
end

section
/-!
PROOFS. The device in reset (R794, R795, R797): what an always-on command still answers there, and that every step keeps the
device as it is in reset until PORST_N rises.
-/

namespace Sys2Proof.Proofs

open Sys2Proof Sys2Proof.Machine Sys2Proof.Laws

/-! ## What a device in reset holds, and what may change in it -/

section
variable {s : State}

theorem asInReset_porstLow (hs : asInReset s) : s.boot.porstLow = true := by
  rw [hs]
  rfl

theorem asInReset_halted (hs : asInReset s) : halted s = true := by
  rw [halted, asInReset_porstLow hs]
  rfl

/-- What may change in reset: the counter of free values, the queue, the levels of the PERST_N balls and the latest answers. -/
theorem asInReset_latest (hs : asInReset s) (queue : List Instr := s.pending) (free : Nat := s.free)
    (levels : List (Bool × Nat) := s.host.perst) (cfg : CfgAns := s.host.cfg) (smb : Option Bytes := s.boot.smb)
    (ara : Option Nat := s.boot.ara) (jtag : Option Nat := s.boot.jtag) :
    asInReset { s with
      pending := queue, free := free
      host := { s.host with perst := levels, cfg := cfg }
      boot := { s.boot with smb := smb, ara := ara, jtag := jtag } } := by
  have h := congrArg (fun u : State => { u with
    pending := queue, free := free
    host := { u.host with perst := levels, cfg := cfg }
    boot := { u.boot with smb := smb, ara := ara, jtag := jtag } }) hs
  exact h

/-- No function is listed in reset, so a reset of a port's functions changes none. -/
theorem asInReset_mapFns (hs : asInReset s) (g : Nat × Func → Nat × Func) :
    asInReset { s with host := { s.host with fns := s.host.fns.map g } } := by
  have h := congrArg (fun u : State => { u with host := { u.host with fns := u.host.fns.map g } }) hs
  exact h

theorem asInReset_keep {u : State} (hs : asInReset s) (hu : asInReset u) : asInReset (keep s u) := by
  rw [keep, asInReset_porstLow hs]
  have h := congrArg (fun v : State => { v with
    pending := s.pending, boot := { v.boot with porstLow := true, flash := s.boot.flash } }) hu
  exact h

theorem asInReset_coldState : asInReset (coldState s) := rfl

end

/-! ## The commands that still run in reset -/

section
variable {s t : State}

theorem onAon_asInReset {ok : Bool} {f : State → State} (hs : asInReset s) (hf : asInReset (f s))
    (h : onAon ok s f = .next t) : asInReset t := by
  unfold onAon at h
  split at h
  · cases h
    exact asInReset_keep hs hf
  · cases h

/-- A command whose condition fails in reset does nothing there. -/
theorem onAon_idle_asInReset {ok : Bool} {c : State → Bool} {f : State → State} (hs : asInReset s) (hc : c s = false)
    (h : (onAon ok s fun s => guarded (c s) s f) = .next t) : asInReset t :=
  onAon_asInReset hs (by rwa [guarded_false hc]) h

/-- The SMBus slave answers NACK (R845). -/
theorem smbAnswer_asInReset {f : State → State × Option Bytes} (hs : asInReset s) (h : smbAnswer f s = .next t) :
    asInReset t := by
  refine onAon_asInReset hs ?_ h
  rw [asInReset_porstLow hs]
  exact asInReset_latest hs (smb := none)

theorem smbBlock_asInReset {f : State → Bytes} (hs : asInReset s) (h : smbBlock f s = .next t) : asInReset t := by
  unfold smbBlock at h
  exact smbAnswer_asInReset hs h

theorem execHostPortReset_asInReset {p : Nat} {low : Bool} (hs : asInReset s) (h : execHostPortReset p low s = .next t) :
    asInReset t := by
  refine onAon_asInReset hs ?_ h
  have hlevel := asInReset_latest hs (levels := setAt s.host.perst p (low, s.time.ticks + 100 * tMs))
  unfold guarded
  split
  · split
    · exact asInReset_mapFns hlevel _
    · exact hlevel
  · exact hs

theorem execConfigRequest_asInReset {f : Nat} {c : CfgOp} (hs : asInReset s) (h : execConfigRequest f c s = .next t) :
    asInReset t := by
  refine onAon_asInReset hs ?_ h
  rw [if_pos (by simp [asInReset_porstLow hs])]
  exact asInReset_latest hs (cfg := .retry)

theorem execJtagAccess_asInReset {op : Nat} (hs : asInReset s) (h : execJtagAccess op s = .next t) : asInReset t := by
  refine onAon_asInReset hs ?_ h
  have answers : ∀ n a, asInReset (setBoot { s with free := n } { s.boot with jtag := a }) := fun n a =>
    asInReset_latest hs (free := n) (jtag := a)
  split
  · exact answers _ _
  · split
    · exact answers _ _
    · split
      · exact answers _ _
      · exact answers _ _

theorem alwaysOn_asInReset {c : Instr} (hs : asInReset s) (hc : alwaysOn c = true) (hm : meetsFlash c = false)
    (h : exec c s = .next t) : asInReset t := by
  unfold exec at h
  cases c with
  | flashOperationComplete | porstFall | porstRise => cases hm
  | phcTick | powerFail | clockMonitorFault | voltageMonitorFault | monitorFaultEnd | junctionSensorSample =>
    exact onAon_idle_asInReset hs (by simp [asInReset_porstLow hs]) h
  | powerRestore => exact onAon_idle_asInReset hs (by rw [hs]; rfl) h
  | hostPortReset => exact execHostPortReset_asInReset hs h
  | configRequest => exact execConfigRequest_asInReset hs h
  | page => exact smbAnswer_asInReset hs h
  | state | ident | faults | bootLog | temps => exact smbBlock_asInReset hs h
  | smbusAlertResponse => exact onAon_asInReset hs (asInReset_latest hs (ara := _)) h
  | jtagAccess => exact execJtagAccess_asInReset hs h
  | _ => cases hc

/-- In reset no flash operation runs, so only PORST_N meets the flash there: falling it leaves the device as in reset, rising it
lets it go. -/
theorem FlashStep.heldInReset (h : FlashStep s t) (hs : HeldInReset s) : HeldInReset t := by
  cases h with
  | idle => exact hs
  | fall => exact fun _ => asInReset_coldState
  | complete o got u ho =>
    intro hlow
    rw [hs hlow] at ho
    cases ho
  | rise env u => exact nofun

theorem exec_heldInReset {c : Instr} (hs : HeldInReset s) (h : exec c s = .next t) : HeldInReset t := by
  cases hm : meetsFlash c with
  | true => exact (flashStep_of_next hm h).heldInReset hs
  | false =>
    intro hlow
    have hin : asInReset s := by
      obtain ⟨u, rfl⟩ := next_eq_keep hm h
      exact hs hlow
    cases hc : alwaysOn c with
    | true => exact alwaysOn_asInReset hin hc hm h
    | false => rwa [haltedDeviceStandsStill c s t (asInReset_halted hin) hc h]

end

/-- Settles O5: every value stands in `State.reset`. -/
theorem resetIsHeldInReset : Obligations.ResetIsHeldInReset := by
  unfold Obligations.ResetIsHeldInReset
  exact ⟨fun _ => rfl, rfl, rfl, rfl, rfl⟩

/-- Settles O4: halted but for the always-on commands, which in reset change no more than their latest answers. -/
theorem everyStepKeepsTheDeviceInReset : Obligations.EveryStepKeepsTheDeviceInReset := by
  unfold Obligations.EveryStepKeepsTheDeviceInReset
  intro s t hs h
  unfold step at h
  split at h
  · cases h
    exact hs
  · next c rest _ =>
    exact exec_heldInReset (s := { s with pending := rest }) (fun hlow => asInReset_latest (hs hlow) (queue := rest)) h

end Sys2Proof.Proofs
end
